-- ==== Sys2Proof/Word.lean ====
section
/-! DEFINITION. The word types, and finite maps held as sorted association lists. -/

namespace Sys2Proof

/-- A scalar register's contents (04_task_state.md R69). -/
abbrev Word := BitVec 64
/-- One byte of memory. -/
abbrev Byte := BitVec 8
/-- A vector register's contents (R69). -/
abbrev Vec := BitVec 512

/-- A sparse table by number: pairs in rising order of the number. -/
abbrev FMap (α : Type) := List (Nat × α)

/-- The entry of number `k`, if the table lists one. -/
def FMap.find {α : Type} : FMap α → Nat → Option α
  | [], _ => none
  | (a, x) :: t, k => if k = a then some x else FMap.find t k

/-- The entry of number `k`, or a stated default. -/
def FMap.getD {α : Type} (m : FMap α) (k : Nat) (d : α) : α := (FMap.find m k).getD d

/-- The table with entry `k` set to `x`. -/
def FMap.set {α : Type} : FMap α → Nat → α → FMap α
  | [], k, x => [(k, x)]
  | (a, y) :: t, k, x =>
    if k = a then (k, x) :: t else if k < a then (k, x) :: (a, y) :: t else (a, y) :: FMap.set t k x

/-- The table without entry `k`. -/
def FMap.del {α : Type} : FMap α → Nat → FMap α
  | [], _ => []
  | (a, y) :: t, k => if k = a then FMap.del t k else (a, y) :: FMap.del t k

/-- Numbers 0 to `n - 1` for which `p` holds. -/
def upTo (n : Nat) (p : Nat → Bool) : List Nat := (List.range n).filter p

end Sys2Proof
end

