-- ==== Sys2Proof/Syntax.lean ====
section
/-! DEFINITION. The instructions and device events of spec/opcode_table.json: one constructor per row. Fields are those of the encoding, high to low; an event names its agent and message. -/

namespace Sys2Proof

/-- The opcode table's rows: 225 encoded instructions, then 146 device events. -/
inductive Instr where
  /-- `NOP` (R22). -/
  | nop
  /-- `HALT` (R102). -/
  | halt
  /-- `HALTR` (R103). -/
  | haltr (b : BitVec 5) (a : BitVec 5)
  /-- `BRK` (R104). -/
  | brk (c : BitVec 15)
  /-- `SYS` (R105). -/
  | sys (s : BitVec 5) (a : BitVec 5) (d : BitVec 5)
  /-- `PFX` (R35). -/
  | pfx (r : BitVec 2) (s : BitVec 3) (y : BitVec 1) (x : BitVec 1) (g : BitVec 4) (k : BitVec 3) (b : BitVec 5) (a : BitVec 5)
  /-- `BR` (R96). -/
  | br (o : BitVec 24)
  /-- `BRL` (R96). -/
  | brl (o : BitVec 24)
  /-- `JR` (R97). -/
  | jr (a : BitVec 5)
  /-- `JRL` (R97). -/
  | jrl (a : BitVec 5) (d : BitVec 5)
  /-- `BCC` (R98). -/
  | bcc (o : BitVec 11) (c : BitVec 3) (b : BitVec 5) (a : BitVec 5)
  /-- `BMASK` (R99). -/
  | bmask (o : BitVec 11) (c : BitVec 3) (b : BitVec 5) (a : BitVec 5)
  /-- `LOOP` (R100). -/
  | loop (i : BitVec 19) (c : BitVec 5)
  /-- `LD` (R111). -/
  | ld (o : BitVec 9) (s : BitVec 3) (m : BitVec 2) (b : BitVec 5) (d : BitVec 5)
  /-- `ST` (R111). -/
  | st (o : BitVec 9) (s : BitVec 3) (m : BitVec 2) (b : BitVec 5) (d : BitVec 5)
  /-- `VLD` (R128). -/
  | vld (o : BitVec 9) (s : BitVec 3) (m : BitVec 2) (b : BitVec 5) (d : BitVec 5)
  /-- `VST` (R128). -/
  | vst (o : BitVec 9) (s : BitVec 3) (m : BitVec 2) (b : BitVec 5) (d : BitVec 5)
  /-- `VGATHER` (R130). -/
  | vgather (g : BitVec 3) (s : BitVec 2) (m : BitVec 2) (x : BitVec 1) (b : BitVec 5) (a : BitVec 5) (d : BitVec 5)
  /-- `VSCATTER` (R130). -/
  | vscatter (g : BitVec 3) (s : BitVec 2) (m : BitVec 2) (x : BitVec 1) (b : BitVec 5) (a : BitVec 5) (d : BitVec 5)
  /-- `PREF` (R149). -/
  | pref (o : BitVec 9) (m : BitVec 2) (b : BitVec 5)
  /-- `PREFH` (R149). -/
  | prefh (o : BitVec 9) (b : BitVec 5)
  /-- `CLEAN` (R149). -/
  | clean (o : BitVec 9) (b : BitVec 5)
  /-- `INV` (R149). -/
  | inv (o : BitVec 9) (b : BitVec 5)
  /-- `LDA` (R147). -/
  | lda (o : BitVec 6) (s : BitVec 3) (z : BitVec 2) (m : BitVec 2) (b : BitVec 5) (d : BitVec 5)
  /-- `STREL` (R147). -/
  | strel (o : BitVec 6) (s : BitVec 3) (z : BitVec 2) (m : BitVec 2) (b : BitVec 5) (d : BitVec 5)
  /-- `FENCE` (R148). -/
  | fence (r : BitVec 1) (a : BitVec 1) (s : BitVec 3)
  /-- `AMO_SWAP` (R152). -/
  | amoSwap (m : BitVec 2) (w : BitVec 2) (b : BitVec 5) (a : BitVec 5) (d : BitVec 5)
  /-- `AMO_CAS` (R152). -/
  | amoCas (m : BitVec 2) (w : BitVec 2) (b : BitVec 5) (a : BitVec 5) (d : BitVec 5)
  /-- `AMO_ADD` (R152). -/
  | amoAdd (m : BitVec 2) (w : BitVec 2) (b : BitVec 5) (a : BitVec 5) (d : BitVec 5)
  /-- `AMO_AND` (R152). -/
  | amoAnd (m : BitVec 2) (w : BitVec 2) (b : BitVec 5) (a : BitVec 5) (d : BitVec 5)
  /-- `AMO_OR` (R152). -/
  | amoOr (m : BitVec 2) (w : BitVec 2) (b : BitVec 5) (a : BitVec 5) (d : BitVec 5)
  /-- `AMO_XOR` (R152). -/
  | amoXor (m : BitVec 2) (w : BitVec 2) (b : BitVec 5) (a : BitVec 5) (d : BitVec 5)
  /-- `AMO_MIN_S` (R152). -/
  | amoMinS (m : BitVec 2) (w : BitVec 2) (b : BitVec 5) (a : BitVec 5) (d : BitVec 5)
  /-- `AMO_MAX_S` (R152). -/
  | amoMaxS (m : BitVec 2) (w : BitVec 2) (b : BitVec 5) (a : BitVec 5) (d : BitVec 5)
  /-- `AMO_MIN_Z` (R152). -/
  | amoMinZ (m : BitVec 2) (w : BitVec 2) (b : BitVec 5) (a : BitVec 5) (d : BitVec 5)
  /-- `AMO_MAX_Z` (R152). -/
  | amoMaxZ (m : BitVec 2) (w : BitVec 2) (b : BitVec 5) (a : BitVec 5) (d : BitVec 5)
  /-- `AMO_FADD` (R153). -/
  | amoFadd (m : BitVec 2) (w : BitVec 2) (b : BitVec 5) (a : BitVec 5) (d : BitVec 5)
  /-- `AMO_FMIN` (R153). -/
  | amoFmin (m : BitVec 2) (w : BitVec 2) (b : BitVec 5) (a : BitVec 5) (d : BitVec 5)
  /-- `AMO_FMAX` (R153). -/
  | amoFmax (m : BitVec 2) (w : BitVec 2) (b : BitVec 5) (a : BitVec 5) (d : BitVec 5)
  /-- `AMO_XADD` (R152). -/
  | amoXadd (m : BitVec 2) (w : BitVec 2) (b : BitVec 5) (a : BitVec 5) (d : BitVec 5)
  /-- `AMO_XADDV` (R152). -/
  | amoXaddv (w : BitVec 2) (b : BitVec 5) (a : BitVec 5) (d : BitVec 5)
  /-- `AMO_DEP` (R154). -/
  | amoDep (b : BitVec 5) (a : BitVec 5) (d : BitVec 5)
  /-- `AMO_FLAGS` (R153). -/
  | amoFlags (m : BitVec 2) (a : BitVec 5) (d : BitVec 5)
  /-- `CSRRW` (R106). -/
  | csrrw (s : BitVec 5) (c : BitVec 12) (d : BitVec 5)
  /-- `CSRRS` (R106). -/
  | csrrs (s : BitVec 5) (c : BitVec 12) (d : BitVec 5)
  /-- `CSRRC` (R106). -/
  | csrrc (s : BitVec 5) (c : BitVec 12) (d : BitVec 5)
  /-- `MBTAKE` (R108). -/
  | mbtake (b : BitVec 5) (a : BitVec 5) (d : BitVec 5)
  /-- `MBCLR` (R108). -/
  | mbclr (a : BitVec 5)
  /-- `RECV` (R223). -/
  | recv (q : BitVec 4) (d : BitVec 5)
  /-- `RPEEK` (R223). -/
  | rpeek (q : BitVec 4) (d : BitVec 5)
  /-- `RACK` (R223). -/
  | rack (q : BitVec 4)
  /-- `QSTAT` (R224). -/
  | qstat (q : BitVec 4) (s : BitVec 5) (d : BitVec 5)
  /-- `EMIT` (R226). -/
  | emit (b : BitVec 5) (a : BitVec 5) (d : BitVec 5)
  /-- `EMITL` (R226). -/
  | emitl (b : BitVec 5) (a : BitVec 5) (d : BitVec 5)
  /-- `TIDE` (R228). -/
  | tide (a : BitVec 5)
  /-- `TSREAD` (R229). -/
  | tsread (s : BitVec 5) (a : BitVec 5) (d : BitVec 5)
  /-- `TSINH` (R230). -/
  | tsinh (a : BitVec 5) (d : BitVec 5)
  /-- `TFLUSH` (R246). -/
  | tflush (s : BitVec 3) (d : BitVec 5)
  /-- `TGET` (R246). -/
  | tget (b : BitVec 5) (a : BitVec 5) (d : BitVec 5)
  /-- `TREL` (R247). -/
  | trel (a : BitVec 5) (d : BitVec 5)
  /-- `TSTAT` (R248). -/
  | tstat (s : BitVec 3) (b : BitVec 5) (d : BitVec 5)
  /-- `TSTAT_HANDLE` (R248). -/
  | tstatHandle (a : BitVec 5) (d : BitVec 5)
  /-- `MXQ` (R269). -/
  | mxq (a : BitVec 5) (d : BitVec 5)
  /-- `MXPOLL` (R270). -/
  | mxpoll (a : BitVec 5) (d : BitVec 5)
  /-- `MXWAIT` (R270). -/
  | mxwait (a : BitVec 5) (d : BitVec 5)
  /-- `MXCAN` (R271). -/
  | mxcan (a : BitVec 5) (d : BitVec 5)
  /-- `EBQ` (R353). -/
  | ebq (a : BitVec 5) (d : BitVec 5)
  /-- `EBWAIT` (R354). -/
  | ebwait (a : BitVec 5) (d : BitVec 5)
  /-- `EBWAIT_NW` (R354). -/
  | ebwaitNw (a : BitVec 5) (d : BitVec 5)
  /-- `CBLD` (R283). -/
  | cbld (m : BitVec 2) (k : BitVec 3) (b : BitVec 5) (a : BitVec 5) (d : BitVec 5)
  /-- `CBLDA` (R284). -/
  | cblda (m : BitVec 2) (k : BitVec 3) (b : BitVec 5) (a : BitVec 5) (d : BitVec 5)
  /-- `CBSWAP` (R285). -/
  | cbswap (k : BitVec 3) (d : BitVec 5)
  /-- `CBINV` (R286). -/
  | cbinv (k : BitVec 3)
  /-- `CBRD` (R287). -/
  | cbrd (k : BitVec 3) (b : BitVec 5) (d : BitVec 5)
  /-- `CBSTAT` (R288). -/
  | cbstat (k : BitVec 3) (d : BitVec 5)
  /-- `SPAWN` (R192). -/
  | spawn (p : BitVec 6) (b : BitVec 5) (a : BitVec 5) (d : BitVec 5)
  /-- `SPAWNR` (R192). -/
  | spawnr (p : BitVec 6) (b : BitVec 5) (a : BitVec 5) (d : BitVec 5)
  /-- `AMSG` (R193). -/
  | amsg (b : BitVec 5) (a : BitVec 5) (d : BitVec 5)
  /-- `MIGRATE` (R194). -/
  | migrate (a : BitVec 5) (d : BitVec 5)
  /-- `LAUNCH` (R195). -/
  | launch (p : BitVec 6) (b : BitVec 5) (a : BitVec 5) (d : BitVec 5)
  /-- `JOIN` (R197). -/
  | join (b : BitVec 5) (a : BitVec 5)
  /-- `JDONE` (R197). -/
  | jdone (a : BitVec 5)
  /-- `JWAIT` (R197). -/
  | jwait (a : BitVec 5) (d : BitVec 5)
  /-- `GANG` (R308). -/
  | gang (k : BitVec 2) (d : BitVec 5)
  /-- `SPLIT` (R312). -/
  | split
  /-- `PAIRCHK` (R318). -/
  | pairchk (n : BitVec 2) (a : BitVec 5)
  /-- `BARW` (R328). -/
  | barw (o : BitVec 2) (c : BitVec 2) (n : BitVec 1) (d : BitVec 5)
  /-- `BARA` (R328). -/
  | bara (o : BitVec 2) (c : BitVec 2) (n : BitVec 1) (d : BitVec 5)
  /-- `BART` (R330). -/
  | bart (o : BitVec 2) (c : BitVec 2) (a : BitVec 5) (d : BitVec 5)
  /-- `WAITQ` (R333). -/
  | waitq (b : BitVec 5) (a : BitVec 5) (d : BitVec 5)
  /-- `WAKE` (R333). -/
  | wake (b : BitVec 5) (a : BitVec 5) (d : BitVec 5)
  /-- `RAISE` (R380). -/
  | raise (a : BitVec 5)
  /-- `TINSP` (R381). -/
  | tinsp (b : BitVec 5) (a : BitVec 5) (d : BitVec 5)
  /-- `TINSP_W` (R381). -/
  | tinspW (b : BitVec 5) (a : BitVec 5) (s : BitVec 5)
  /-- `TRESUME` (R382). -/
  | tresume (b : BitVec 5) (a : BitVec 5) (d : BitVec 5)
  /-- `TKILL` (R383). -/
  | tkill (a : BitVec 5) (d : BitVec 5)
  /-- `ADD` (R84). -/
  | add (t : BitVec 5) (b : BitVec 5) (a : BitVec 5) (d : BitVec 5)
  /-- `SUB` (R84). -/
  | sub (t : BitVec 5) (b : BitVec 5) (a : BitVec 5) (d : BitVec 5)
  /-- `AND` (R84). -/
  | and (t : BitVec 5) (b : BitVec 5) (a : BitVec 5) (d : BitVec 5)
  /-- `OR` (R84). -/
  | or (t : BitVec 5) (b : BitVec 5) (a : BitVec 5) (d : BitVec 5)
  /-- `XOR` (R84). -/
  | xor (t : BitVec 5) (b : BitVec 5) (a : BitVec 5) (d : BitVec 5)
  /-- `SLL` (R84). -/
  | sll (t : BitVec 5) (b : BitVec 5) (a : BitVec 5) (d : BitVec 5)
  /-- `SRL` (R84). -/
  | srl (t : BitVec 5) (b : BitVec 5) (a : BitVec 5) (d : BitVec 5)
  /-- `SRA` (R84). -/
  | sra (t : BitVec 5) (b : BitVec 5) (a : BitVec 5) (d : BitVec 5)
  /-- `SLT` (R84). -/
  | slt (t : BitVec 5) (b : BitVec 5) (a : BitVec 5) (d : BitVec 5)
  /-- `MIN` (R84). -/
  | min (t : BitVec 5) (b : BitVec 5) (a : BitVec 5) (d : BitVec 5)
  /-- `MAX` (R84). -/
  | max (t : BitVec 5) (b : BitVec 5) (a : BitVec 5) (d : BitVec 5)
  /-- `ADDS` (R84). -/
  | adds (t : BitVec 5) (b : BitVec 5) (a : BitVec 5) (d : BitVec 5)
  /-- `SUBS` (R84). -/
  | subs (t : BitVec 5) (b : BitVec 5) (a : BitVec 5) (d : BitVec 5)
  /-- `CLZ` (R84). -/
  | clz (t : BitVec 5) (a : BitVec 5) (d : BitVec 5)
  /-- `CTZ` (R84). -/
  | ctz (t : BitVec 5) (a : BitVec 5) (d : BitVec 5)
  /-- `POPC` (R84). -/
  | popc (t : BitVec 5) (a : BitVec 5) (d : BitVec 5)
  /-- `ADDI` (R85). -/
  | addi (i : BitVec 14) (a : BitVec 5) (d : BitVec 5)
  /-- `ANDI` (R85). -/
  | andi (i : BitVec 14) (a : BitVec 5) (d : BitVec 5)
  /-- `ORI` (R85). -/
  | ori (i : BitVec 14) (a : BitVec 5) (d : BitVec 5)
  /-- `XORI` (R85). -/
  | xori (i : BitVec 14) (a : BitVec 5) (d : BitVec 5)
  /-- `SLTI` (R86). -/
  | slti (i : BitVec 13) (a : BitVec 5) (d : BitVec 5)
  /-- `SLTIZ` (R86). -/
  | sltiz (i : BitVec 13) (a : BitVec 5) (d : BitVec 5)
  /-- `SLLI` (R87). -/
  | slli (s : BitVec 6) (a : BitVec 5) (d : BitVec 5)
  /-- `SRLI` (R87). -/
  | srli (s : BitVec 6) (a : BitVec 5) (d : BitVec 5)
  /-- `SRAI` (R87). -/
  | srai (s : BitVec 6) (a : BitVec 5) (d : BitVec 5)
  /-- `RORI` (R87). -/
  | rori (s : BitVec 6) (a : BitVec 5) (d : BitVec 5)
  /-- `LUI` (R88). -/
  | lui (i : BitVec 14) (a : BitVec 5) (d : BitVec 5)
  /-- `ADDPC` (R89). -/
  | addpc (i : BitVec 14) (d : BitVec 5)
  /-- `EXT` (R90). -/
  | ext (x : BitVec 1) (l : BitVec 6) (p : BitVec 6) (a : BitVec 5) (d : BitVec 5)
  /-- `INS` (R90). -/
  | ins (l : BitVec 6) (p : BitVec 6) (a : BitVec 5) (d : BitVec 5)
  /-- `MUL` (R91). -/
  | mul (t : BitVec 5) (b : BitVec 5) (a : BitVec 5) (d : BitVec 5)
  /-- `MULH` (R91). -/
  | mulh (t : BitVec 5) (b : BitVec 5) (a : BitVec 5) (d : BitVec 5)
  /-- `DIV` (R91). -/
  | div (t : BitVec 5) (b : BitVec 5) (a : BitVec 5) (d : BitVec 5)
  /-- `REM` (R91). -/
  | rem (t : BitVec 5) (b : BitVec 5) (a : BitVec 5) (d : BitVec 5)
  /-- `MULS` (R91). -/
  | muls (t : BitVec 5) (b : BitVec 5) (a : BitVec 5) (d : BitVec 5)
  /-- `FADD` (R92). -/
  | fadd (t : BitVec 5) (b : BitVec 5) (a : BitVec 5) (d : BitVec 5)
  /-- `FSUB` (R92). -/
  | fsub (t : BitVec 5) (b : BitVec 5) (a : BitVec 5) (d : BitVec 5)
  /-- `FMUL` (R92). -/
  | fmul (t : BitVec 5) (b : BitVec 5) (a : BitVec 5) (d : BitVec 5)
  /-- `FDIV` (R92). -/
  | fdiv (t : BitVec 5) (b : BitVec 5) (a : BitVec 5) (d : BitVec 5)
  /-- `FSQRT` (R92). -/
  | fsqrt (t : BitVec 5) (a : BitVec 5) (d : BitVec 5)
  /-- `FMIN` (R92). -/
  | fmin (t : BitVec 5) (b : BitVec 5) (a : BitVec 5) (d : BitVec 5)
  /-- `FMAX` (R92). -/
  | fmax (t : BitVec 5) (b : BitVec 5) (a : BitVec 5) (d : BitVec 5)
  /-- `FEQ` (R92). -/
  | feq (t : BitVec 5) (b : BitVec 5) (a : BitVec 5) (d : BitVec 5)
  /-- `FLT` (R92). -/
  | flt (t : BitVec 5) (b : BitVec 5) (a : BitVec 5) (d : BitVec 5)
  /-- `FLE` (R92). -/
  | fle (t : BitVec 5) (b : BitVec 5) (a : BitVec 5) (d : BitVec 5)
  /-- `FCVT` (R93). -/
  | fcvt (s : BitVec 5) (t : BitVec 5) (a : BitVec 5) (d : BitVec 5)
  /-- `FCLASS` (R94). -/
  | fclass (t : BitVec 5) (a : BitVec 5) (d : BitVec 5)
  /-- `FSGNJ` (R92). -/
  | fsgnj (t : BitVec 5) (b : BitVec 5) (a : BitVec 5) (d : BitVec 5)
  /-- `FSGNJN` (R92). -/
  | fsgnjn (t : BitVec 5) (b : BitVec 5) (a : BitVec 5) (d : BitVec 5)
  /-- `FSGNJX` (R92). -/
  | fsgnjx (t : BitVec 5) (b : BitVec 5) (a : BitVec 5) (d : BitVec 5)
  /-- `FMA` (R95). -/
  | fma (c : BitVec 5) (b : BitVec 5) (a : BitVec 5) (d : BitVec 5)
  /-- `FNMA` (R95). -/
  | fnma (c : BitVec 5) (b : BitVec 5) (a : BitVec 5) (d : BitVec 5)
  /-- `VADD` (R118). -/
  | vadd (t : BitVec 5) (b : BitVec 5) (a : BitVec 5) (d : BitVec 5)
  /-- `VSUB` (R118). -/
  | vsub (t : BitVec 5) (b : BitVec 5) (a : BitVec 5) (d : BitVec 5)
  /-- `VMUL` (R118). -/
  | vmul (t : BitVec 5) (b : BitVec 5) (a : BitVec 5) (d : BitVec 5)
  /-- `VMULH` (R118). -/
  | vmulh (t : BitVec 5) (b : BitVec 5) (a : BitVec 5) (d : BitVec 5)
  /-- `VMIN` (R118). -/
  | vmin (t : BitVec 5) (b : BitVec 5) (a : BitVec 5) (d : BitVec 5)
  /-- `VMAX` (R118). -/
  | vmax (t : BitVec 5) (b : BitVec 5) (a : BitVec 5) (d : BitVec 5)
  /-- `VADDS` (R118). -/
  | vadds (t : BitVec 5) (b : BitVec 5) (a : BitVec 5) (d : BitVec 5)
  /-- `VSUBS` (R118). -/
  | vsubs (t : BitVec 5) (b : BitVec 5) (a : BitVec 5) (d : BitVec 5)
  /-- `VMULS` (R118). -/
  | vmuls (t : BitVec 5) (b : BitVec 5) (a : BitVec 5) (d : BitVec 5)
  /-- `VABSD` (R118). -/
  | vabsd (t : BitVec 5) (b : BitVec 5) (a : BitVec 5) (d : BitVec 5)
  /-- `VAVG` (R118). -/
  | vavg (t : BitVec 5) (b : BitVec 5) (a : BitVec 5) (d : BitVec 5)
  /-- `VABS` (R118). -/
  | vabs (t : BitVec 5) (a : BitVec 5) (d : BitVec 5)
  /-- `VFADD` (R119). -/
  | vfadd (t : BitVec 5) (b : BitVec 5) (a : BitVec 5) (d : BitVec 5)
  /-- `VFSUB` (R119). -/
  | vfsub (t : BitVec 5) (b : BitVec 5) (a : BitVec 5) (d : BitVec 5)
  /-- `VFMUL` (R119). -/
  | vfmul (t : BitVec 5) (b : BitVec 5) (a : BitVec 5) (d : BitVec 5)
  /-- `VFDIV` (R119). -/
  | vfdiv (t : BitVec 5) (b : BitVec 5) (a : BitVec 5) (d : BitVec 5)
  /-- `VFSQRT` (R119). -/
  | vfsqrt (t : BitVec 5) (a : BitVec 5) (d : BitVec 5)
  /-- `VFMIN` (R119). -/
  | vfmin (t : BitVec 5) (b : BitVec 5) (a : BitVec 5) (d : BitVec 5)
  /-- `VFMAX` (R119). -/
  | vfmax (t : BitVec 5) (b : BitVec 5) (a : BitVec 5) (d : BitVec 5)
  /-- `VFSGNJ` (R119). -/
  | vfsgnj (t : BitVec 5) (b : BitVec 5) (a : BitVec 5) (d : BitVec 5)
  /-- `VFSGNJN` (R119). -/
  | vfsgnjn (t : BitVec 5) (b : BitVec 5) (a : BitVec 5) (d : BitVec 5)
  /-- `VFSGNJX` (R119). -/
  | vfsgnjx (t : BitVec 5) (b : BitVec 5) (a : BitVec 5) (d : BitVec 5)
  /-- `VFMA` (R120). -/
  | vfma (m : BitVec 3) (c : BitVec 5) (b : BitVec 5) (a : BitVec 5) (d : BitVec 5)
  /-- `VFNMA` (R120). -/
  | vfnma (m : BitVec 3) (c : BitVec 5) (b : BitVec 5) (a : BitVec 5) (d : BitVec 5)
  /-- `VAND` (R121). -/
  | vand (t : BitVec 5) (b : BitVec 5) (a : BitVec 5) (d : BitVec 5)
  /-- `VOR` (R121). -/
  | vor (t : BitVec 5) (b : BitVec 5) (a : BitVec 5) (d : BitVec 5)
  /-- `VXOR` (R121). -/
  | vxor (t : BitVec 5) (b : BitVec 5) (a : BitVec 5) (d : BitVec 5)
  /-- `VANDN` (R121). -/
  | vandn (t : BitVec 5) (b : BitVec 5) (a : BitVec 5) (d : BitVec 5)
  /-- `VSLL` (R121). -/
  | vsll (t : BitVec 5) (b : BitVec 5) (a : BitVec 5) (d : BitVec 5)
  /-- `VSRL` (R121). -/
  | vsrl (t : BitVec 5) (b : BitVec 5) (a : BitVec 5) (d : BitVec 5)
  /-- `VSRA` (R121). -/
  | vsra (t : BitVec 5) (b : BitVec 5) (a : BitVec 5) (d : BitVec 5)
  /-- `VROR` (R121). -/
  | vror (t : BitVec 5) (b : BitVec 5) (a : BitVec 5) (d : BitVec 5)
  /-- `VCEQ` (R122). -/
  | vceq (t : BitVec 5) (b : BitVec 5) (a : BitVec 5) (d : BitVec 5)
  /-- `VCNE` (R122). -/
  | vcne (t : BitVec 5) (b : BitVec 5) (a : BitVec 5) (d : BitVec 5)
  /-- `VCLT` (R122). -/
  | vclt (t : BitVec 5) (b : BitVec 5) (a : BitVec 5) (d : BitVec 5)
  /-- `VCLE` (R122). -/
  | vcle (t : BitVec 5) (b : BitVec 5) (a : BitVec 5) (d : BitVec 5)
  /-- `VCTST` (R122). -/
  | vctst (t : BitVec 5) (b : BitVec 5) (a : BitVec 5) (d : BitVec 5)
  /-- `VSEL` (R122). -/
  | vsel (s : BitVec 3) (t : BitVec 5) (b : BitVec 5) (a : BitVec 5) (d : BitVec 5)
  /-- `VCVT` (R123). -/
  | vcvt (x : BitVec 1) (p : BitVec 3) (s : BitVec 5) (t : BitVec 5) (a : BitVec 5) (d : BitVec 5)
  /-- `VPERM` (R125). -/
  | vperm (t : BitVec 5) (b : BitVec 5) (a : BitVec 5) (d : BitVec 5)
  /-- `VSLIDEUP` (R125). -/
  | vslideup (t : BitVec 5) (b : BitVec 5) (a : BitVec 5) (d : BitVec 5)
  /-- `VSLIDEDN` (R125). -/
  | vslidedn (t : BitVec 5) (b : BitVec 5) (a : BitVec 5) (d : BitVec 5)
  /-- `VBCAST` (R125). -/
  | vbcast (t : BitVec 5) (b : BitVec 5) (d : BitVec 5)
  /-- `VBCASTL` (R125). -/
  | vbcastl (t : BitVec 5) (b : BitVec 5) (a : BitVec 5) (d : BitVec 5)
  /-- `VEXT` (R125). -/
  | vext (t : BitVec 5) (b : BitVec 5) (a : BitVec 5) (d : BitVec 5)
  /-- `VINS` (R125). -/
  | vins (t : BitVec 5) (b : BitVec 5) (a : BitVec 5) (d : BitVec 5)
  /-- `VZIPL` (R125). -/
  | vzipl (t : BitVec 5) (b : BitVec 5) (a : BitVec 5) (d : BitVec 5)
  /-- `VZIPH` (R125). -/
  | vziph (t : BitVec 5) (b : BitVec 5) (a : BitVec 5) (d : BitVec 5)
  /-- `VUZPE` (R125). -/
  | vuzpe (t : BitVec 5) (b : BitVec 5) (a : BitVec 5) (d : BitVec 5)
  /-- `VUZPO` (R125). -/
  | vuzpo (t : BitVec 5) (b : BitVec 5) (a : BitVec 5) (d : BitVec 5)
  /-- `VREDSUM` (R126). -/
  | vredsum (t : BitVec 5) (b : BitVec 5) (a : BitVec 5) (d : BitVec 5)
  /-- `VREDMIN` (R126). -/
  | vredmin (t : BitVec 5) (b : BitVec 5) (a : BitVec 5) (d : BitVec 5)
  /-- `VREDMAX` (R126). -/
  | vredmax (t : BitVec 5) (b : BitVec 5) (a : BitVec 5) (d : BitVec 5)
  /-- `VDOT` (R126). -/
  | vdot (t : BitVec 5) (b : BitVec 5) (a : BitVec 5) (d : BitVec 5)
  /-- `VSCAN` (R126). -/
  | vscan (t : BitVec 5) (b : BitVec 5) (a : BitVec 5) (d : BitVec 5)
  /-- `VSCANMIN` (R126). -/
  | vscanmin (t : BitVec 5) (b : BitVec 5) (a : BitVec 5) (d : BitVec 5)
  /-- `VSCANMAX` (R126). -/
  | vscanmax (t : BitVec 5) (b : BitVec 5) (a : BitVec 5) (d : BitVec 5)
  /-- `VMXSC` (R124). -/
  | vmxsc (j : BitVec 2) (s : BitVec 5) (e : BitVec 5) (a : BitVec 5) (d : BitVec 5)
  /-- `MAND` (R127). -/
  | mand (b : BitVec 5) (a : BitVec 5) (d : BitVec 5)
  /-- `MOR` (R127). -/
  | mor (b : BitVec 5) (a : BitVec 5) (d : BitVec 5)
  /-- `MXOR` (R127). -/
  | mxor (b : BitVec 5) (a : BitVec 5) (d : BitVec 5)
  /-- `MANDN` (R127). -/
  | mandn (b : BitVec 5) (a : BitVec 5) (d : BitVec 5)
  /-- `MNOT` (R127). -/
  | mnot (a : BitVec 5) (d : BitVec 5)
  /-- `MPOPC` (R127). -/
  | mpopc (a : BitVec 5) (d : BitVec 5)
  /-- `MFIRST` (R127). -/
  | mfirst (a : BitVec 5) (d : BitVec 5)
  /-- `MFROMG` (R127). -/
  | mfromg (a : BitVec 5) (d : BitVec 5)
  /-- `MTOG` (R127). -/
  | mtog (a : BitVec 5) (d : BitVec 5)
  /-- `MLANES` (R127). -/
  | mlanes (t : BitVec 5) (d : BitVec 5)
  /-- `GORI2` (R294). -/
  | gori2 (f : BitVec 1) (g : BitVec 3) (a : BitVec 5) (d : BitVec 5)
  /-- `GORI3` (R294). -/
  | gori3 (f : BitVec 1) (g : BitVec 3) (a : BitVec 5) (d : BitVec 5)
  /-- `GINC` (R294). -/
  | ginc (f : BitVec 1) (g : BitVec 3) (a : BitVec 5) (d : BitVec 5)
  /-- `GINS` (R294). -/
  | gins (f : BitVec 1) (g : BitVec 3) (a : BitVec 5) (d : BitVec 5)
  /-- `GSEG` (R294). -/
  | gseg (f : BitVec 1) (g : BitVec 3) (a : BitVec 5) (d : BitVec 5)
  /-- `XCLR` (R304). -/
  | xclr (t : BitVec 5) (a : BitVec 5)
  /-- `XADD` (R304). -/
  | xadd (t : BitVec 5) (b : BitVec 5) (a : BitVec 5) (m : BitVec 5)
  /-- `XRND` (R304). -/
  | xrnd (a : BitVec 5) (d : BitVec 5)
  /-- `CBX` (R131). -/
  | cbx (s : BitVec 4) (k : BitVec 5) (n : BitVec 5) (a : BitVec 5) (d : BitVec 5)
  /-- `TASK_BUDGET` (R182). -/
  | taskBudget (core : Nat) (slot : Nat)
  /-- `GLOBAL_LOAD_RETURN` (R82). -/
  | globalLoadReturn (core : Nat) (slot : Nat) (idx : Nat)
  /-- `COVE_ACCESS_ARRIVE` (R137). -/
  | coveAccessArrive (msg : Nat)
  /-- `WRITEBACK_ACK` (R141). -/
  | writebackAck (core : Nat) (idx : Nat)
  /-- `ATOMIC_PERFORM` (R143). -/
  | atomicPerform (msg : Nat)
  /-- `ATOMIC_REPLY` (R155). -/
  | atomicReply (msg : Nat)
  /-- `SYS_HEARTBEAT` (R391). -/
  | sysHeartbeat (msg : Nat)
  /-- `SYS_TRACE` (R105). -/
  | sysTrace (msg : Nat)
  /-- `SYS_REPLY` (R105). -/
  | sysReply (msg : Nat)
  /-- `STEAL_PROBE` (R188). -/
  | stealProbe (msg : Nat)
  /-- `STEAL_REPLY` (R188). -/
  | stealReply (msg : Nat)
  /-- `STEAL_RETRY` (R188). -/
  | stealRetry (core : Nat) (slot : Nat)
  /-- `SPAWNR_ARRIVE` (R192). -/
  | spawnrArrive (msg : Nat)
  /-- `SPAWNR_REPLY` (R192). -/
  | spawnrReply (msg : Nat)
  /-- `AMSG_ARRIVE` (R193). -/
  | amsgArrive (msg : Nat)
  /-- `AMSG_REPLY` (R193). -/
  | amsgReply (msg : Nat)
  /-- `MIGRATE_ARRIVE` (R194). -/
  | migrateArrive (msg : Nat)
  /-- `JDONE_PERFORM` (R197). -/
  | jdonePerform (msg : Nat)
  /-- `RECORD_ARRIVE` (R206). -/
  | recordArrive (msg : Nat)
  /-- `RECORD_RESEND` (R207). -/
  | recordResend (core : Nat) (q : Nat)
  /-- `RECORD_RESEND_RETRY` (R207). -/
  | recordResendRetry (idx : Nat)
  /-- `OVERFLOW_RECORD` (R207). -/
  | overflowRecord (core : Nat) (q : Nat)
  /-- `EMIT_ACCEPT` (R226). -/
  | emitAccept (msg : Nat)
  /-- `EMIT_TIMEOUT` (R226). -/
  | emitTimeout (core : Nat) (slot : Nat)
  /-- `SENSOR_HEARTBEAT` (R212). -/
  | sensorHeartbeat (stream : Nat)
  /-- `TIDEMARK_UPDATE_ARRIVE` (R215). -/
  | tidemarkUpdateArrive (msg : Nat)
  /-- `WINDOW_TIMEOUT` (R217). -/
  | windowTimeout (core : Nat) (q : Nat)
  /-- `WCLOSE_WRITE` (R219). -/
  | wcloseWrite (core : Nat) (q : Nat)
  /-- `TIMER_EXPIRY` (R365). -/
  | timerExpiry (idx : Nat)
  /-- `BW_RECORD_ARRIVE` (R235). -/
  | bwRecordArrive (msg : Nat)
  /-- `BW_RECORD_STEP` (R237). -/
  | bwRecordStep (cove : Nat)
  /-- `BW_TIDEMARK_STEP` (R236). -/
  | bwTidemarkStep (cove : Nat)
  /-- `BW_FLUSH_STEP` (R246). -/
  | bwFlushStep (cove : Nat)
  /-- `BW_RELEASE_STEP` (R242). -/
  | bwReleaseStep (cove : Nat)
  /-- `BW_AGE_SEAL` (R239). -/
  | bwAgeSeal (cove : Nat) (tile : Nat)
  /-- `BW_WINDOW_TIMEOUT` (R236). -/
  | bwWindowTimeout (cove : Nat) (stream : Nat)
  /-- `BW_TILE_DISPATCH` (R243). -/
  | bwTileDispatch (cove : Nat) (stream : Nat)
  /-- `BW_JOB_SUBMIT` (R244). -/
  | bwJobSubmit (cove : Nat) (stream : Nat)
  /-- `MXE_ACCEPT` (R261). -/
  | mxeAccept (msg : Nat)
  /-- `JOB_BANK_SAMPLE` (R276). -/
  | jobBankSample (msg : Nat)
  /-- `MXE_ADMIT` (R262). -/
  | mxeAdmit (cove : Nat) (job : Nat)
  /-- `MXE_OPERAND_ARRIVE` (R264). -/
  | mxeOperandArrive (cove : Nat) (job : Nat)
  /-- `MXE_SLOT_BOUNDARY` (R264). -/
  | mxeSlotBoundary (cove : Nat)
  /-- `MXE_DRAIN_END` (R258). -/
  | mxeDrainEnd (cove : Nat) (job : Nat)
  /-- `MXE_JOB_DONE` (R267). -/
  | mxeJobDone (cove : Nat) (job : Nat)
  /-- `MXE_CANCEL` (R271). -/
  | mxeCancel (msg : Nat)
  /-- `CB_LOAD_START` (R283). -/
  | cbLoadStart (core : Nat) (slot : Nat)
  /-- `CB_LOAD_DONE` (R283). -/
  | cbLoadDone (core : Nat) (bank : Nat)
  /-- `BANK_CLAIM_PASS` (R279). -/
  | bankClaimPass (core : Nat) (bank : Nat)
  /-- `BANK_SAVE` (R280). -/
  | bankSave (core : Nat) (bank : Nat)
  /-- `BANK_RESTORE` (R280). -/
  | bankRestore (core : Nat) (bank : Nat)
  /-- `CBFETCH` (R284). -/
  | cbfetch (cove : Nat) (job : Nat)
  /-- `PAIR_COMPARE` (R315). -/
  | pairCompare (core : Nat) (slot : Nat)
  /-- `PAIR_COMPARE_TIMEOUT` (R315). -/
  | pairCompareTimeout (core : Nat) (slot : Nat)
  /-- `BARRIER_COMPLETE` (R325). -/
  | barrierComplete (key : Nat)
  /-- `BARRIER_RELEASE_ARRIVE` (R326). -/
  | barrierReleaseArrive (core : Nat) (key : Nat)
  /-- `BARRIER_TIMEOUT` (R329). -/
  | barrierTimeout (core : Nat) (slot : Nat)
  /-- `WAITQ_AT_OWNER` (R333). -/
  | waitqAtOwner (msg : Nat)
  /-- `WAKE_AT_OWNER` (R333). -/
  | wakeAtOwner (msg : Nat)
  /-- `WAITER_WOKEN` (R334). -/
  | waiterWoken (msg : Nat)
  /-- `PAGE_WALK_DONE` (R340). -/
  | pageWalkDone (cove : Nat) (idx : Nat)
  /-- `TLB_INVALIDATE` (R342). -/
  | tlbInvalidate (cove : Nat) (idx : Nat)
  /-- `LOCAL_PAGE_FILL_DONE` (R345). -/
  | localPageFillDone (core : Nat) (frame : Nat)
  /-- `LOCAL_PAGE_SPILL_DONE` (R345). -/
  | localPageSpillDone (core : Nat) (frame : Nat)
  /-- `EBB_FOOTPRINT` (R185). -/
  | ebbFootprint (core : Nat) (item : Nat)
  /-- `EBB_COPY` (R349). -/
  | ebbCopy (cove : Nat) (job : Nat)
  /-- `EBB_FILL` (R350). -/
  | ebbFill (cove : Nat) (job : Nat)
  /-- `EBB_SPILL` (R350). -/
  | ebbSpill (cove : Nat) (job : Nat)
  /-- `EBB_JOB_DONE` (R351). -/
  | ebbJobDone (cove : Nat) (job : Nat)
  /-- `GOVERNOR_PERIOD` (R168). -/
  | governorPeriod
  /-- `QUOTA_EXHAUSTED` (R169). -/
  | quotaExhausted (ctx : Nat)
  /-- `ENRG_DELIVERY` (R169). -/
  | enrgDelivery (core : Nat) (ctx : Nat)
  /-- `DVFS_STEP_DONE` (R171). -/
  | dvfsStepDone (die : Nat)
  /-- `THERMAL_SAMPLE` (R400). -/
  | thermalSample (t0 : List Nat) (t1 : List Nat)
  /-- `CONTEXT_LOAD_DONE` (R161). -/
  | contextLoadDone (ctx : Nat)
  /-- `CONTEXT_DRAIN_DONE` (R161). -/
  | contextDrainDone (ctx : Nat)
  /-- `CONTEXT_SCRUB_DONE` (R161). -/
  | contextScrubDone (ctx : Nat)
  /-- `BOUNDARY_COMMIT` (R73). -/
  | boundaryCommit (core : Nat)
  /-- `BOUNDARY_COMMIT_DONE` (R73). -/
  | boundaryCommitDone (core : Nat)
  /-- `REGION_COMMIT` (R156). -/
  | regionCommit (core : Nat)
  /-- `REGION_SWITCH` (R156). -/
  | regionSwitch
  /-- `REGISTER_WRITE` (R3). -/
  | registerWrite (reg : Nat) (value : BitVec 64)
  /-- `LINK_ENABLE` (R356). -/
  | linkEnable (link : Nat)
  /-- `LINK_TRAINING_DONE` (R356). -/
  | linkTrainingDone (link : Nat) (lost : Nat)
  /-- `LINK_TRAINING_TIMEOUT` (R356). -/
  | linkTrainingTimeout (link : Nat)
  /-- `LINK_LANE_LOST` (R356). -/
  | linkLaneLost (link : Nat)
  /-- `LINK_DISABLE` (R356). -/
  | linkDisable (link : Nat)
  /-- `UCIE_REPLAY` (R357). -/
  | ucieReplay (link : Nat)
  /-- `UCIE_REROUTE` (R358). -/
  | ucieReroute (link : Nat)
  /-- `RHOASH_RECORD_ARRIVE` (R361). -/
  | rhoashRecordArrive (msg : Nat)
  /-- `SDIO_LAUNCH` (R364). -/
  | sdioLaunch
  /-- `SDIO_WRITE` (R364). -/
  | sdioWrite
  /-- `SDIO_READ` (R364). -/
  | sdioRead
  /-- `SDIO_TRACE_READ` (R364). -/
  | sdioTraceRead
  /-- `QUERY_DEVICE` (R366). -/
  | queryDevice
  /-- `QUERY_CONTEXTS` (R366). -/
  | queryContexts
  /-- `QUERY_LINKS` (R366). -/
  | queryLinks
  /-- `QUERY_STREAM` (R366). -/
  | queryStream
  /-- `QUERY_COVE` (R366). -/
  | queryCove
  /-- `SDIO_ATTEST` (R399). -/
  | sdioAttest
  /-- `FW_CREATE_CONTEXT` (R160). -/
  | fwCreateContext
  /-- `FW_DRAIN_CONTEXT` (R163). -/
  | fwDrainContext
  /-- `FW_RESUME_CONTEXT` (R161). -/
  | fwResumeContext
  /-- `FW_MAP` (R365). -/
  | fwMap
  /-- `FW_UNMAP` (R365). -/
  | fwUnmap
  /-- `FW_PARK_CORE` (R321). -/
  | fwParkCore
  /-- `FW_UNPARK_CORE` (R321). -/
  | fwUnparkCore
  /-- `FW_RETIRE_SOURCE` (R211). -/
  | fwRetireSource
  /-- `FW_REVIVE_SOURCE` (R211). -/
  | fwReviveSource
  /-- `FW_CONFIGURE_STREAM` (R371). -/
  | fwConfigureStream
  /-- `FW_SET_TIMER` (R365). -/
  | fwSetTimer
  /-- `FW_LOAD_KERNEL` (R174). -/
  | fwLoadKernel
  /-- `RECOVERY_STAGE_WRITE` (R398). -/
  | recoveryStageWrite
  /-- `RECOVERY_COMMIT` (R398). -/
  | recoveryCommit
  /-- `RECOVERY_QUERY` (R398). -/
  | recoveryQuery
  /-- `CSI2_FRAME_START` (R368). -/
  | csi2FrameStart (stream : Nat)
  /-- `CSI2_PACKET` (R368). -/
  | csi2Packet (port : Nat) (vc : Nat) (dtype : Nat) (words : List (BitVec 64))
  /-- `DECODER_WATCHDOG` (R370). -/
  | decoderWatchdog (stream : Nat) (received : Nat)
  /-- `TAXEL_SCAN` (R369). -/
  | taxelScan (stream : Nat)
  /-- `TAXEL_FRAME_DONE` (R369). -/
  | taxelFrameDone (stream : Nat) (values : List (BitVec 16))
  /-- `HFRZ_GO` (R393). -/
  | hfrzGo
  /-- `HREL_GO` (R393). -/
  | hrelGo
  /-- `FREEZE_RELEASE` (R379). -/
  | freezeRelease
  /-- `HICMD_READ` (R394). -/
  | hicmdRead
  /-- `HICMD_WRITE` (R394). -/
  | hicmdWrite
  /-- `HELOG_POP` (R389). -/
  | helogPop
  /-- `HWDOG_RELOAD` (R388). -/
  | hwdogReload (value : BitVec 32)
  /-- `HTIME_READ` (R388). -/
  | htimeRead
  /-- `HFWMB_POST` (R388). -/
  | hfwmbPost (req : BitVec 32)
  /-- `ERROR_REPORT` (R389). -/
  | errorReport (idx : Nat)
  /-- `HEARTBEAT_MISS` (R391). -/
  | heartbeatMiss (ctx : Nat)
  /-- `LOCKSTEP_MISMATCH` (R387). -/
  | lockstepMismatch
  /-- `CLOCK_FAULT` (R387). -/
  | clockFault
  /-- `WATCHDOG_FAULT` (R387). -/
  | watchdogFault
  /-- `FRZ_N_ASSERT` (R392). -/
  | frzNAssert
  /-- `FRZ_N_DEASSERT` (R392). -/
  | frzNDeassert
  /-- `POWER_ON_RESET` (R397). -/
  | powerOnReset
  /-- `WARM_RESET` (R401). -/
  | warmReset
  /-- `RESERVED_ENCODING` (R30). -/
  | reservedEncoding (w : BitVec 32) (tail : Bool)
  /-- `FETCH_PAGE_TRAP` (R336). -/
  | fetchPageTrap (va : BitVec 64) (status : BitVec 6)
  /-- `WINDOW_END_CLOSE` (R217). -/
  | windowEndClose (core : Nat) (q : Nat)
  /-- `BW_WINDOW_END_CLOSE` (R236). -/
  | bwWindowEndClose (cove : Nat) (stream : Nat)
  /-- `PREDICATE_COMPLETE` (R300). -/
  | predicateComplete (core : Nat) (slot : Nat)
  /-- `TGET_COPY_DONE` (R249). -/
  | tgetCopyDone (core : Nat) (slot : Nat)
  /-- `TRAP_TARGET_ARRIVE` (R384). -/
  | trapTargetArrive (msg : Nat)
  /-- `RHOASH_FRAME_REPLAY` (R362). -/
  | rhoashFrameReplay (link : Nat)
  deriving DecidableEq, Repr

/-- Whether the row is a device event, which has no encoding. -/
def Instr.isEvent : Instr → Bool
  | .nop .. => false
  | .halt .. => false
  | .haltr .. => false
  | .brk .. => false
  | .sys .. => false
  | .pfx .. => false
  | .br .. => false
  | .brl .. => false
  | .jr .. => false
  | .jrl .. => false
  | .bcc .. => false
  | .bmask .. => false
  | .loop .. => false
  | .ld .. => false
  | .st .. => false
  | .vld .. => false
  | .vst .. => false
  | .vgather .. => false
  | .vscatter .. => false
  | .pref .. => false
  | .prefh .. => false
  | .clean .. => false
  | .inv .. => false
  | .lda .. => false
  | .strel .. => false
  | .fence .. => false
  | .amoSwap .. => false
  | .amoCas .. => false
  | .amoAdd .. => false
  | .amoAnd .. => false
  | .amoOr .. => false
  | .amoXor .. => false
  | .amoMinS .. => false
  | .amoMaxS .. => false
  | .amoMinZ .. => false
  | .amoMaxZ .. => false
  | .amoFadd .. => false
  | .amoFmin .. => false
  | .amoFmax .. => false
  | .amoXadd .. => false
  | .amoXaddv .. => false
  | .amoDep .. => false
  | .amoFlags .. => false
  | .csrrw .. => false
  | .csrrs .. => false
  | .csrrc .. => false
  | .mbtake .. => false
  | .mbclr .. => false
  | .recv .. => false
  | .rpeek .. => false
  | .rack .. => false
  | .qstat .. => false
  | .emit .. => false
  | .emitl .. => false
  | .tide .. => false
  | .tsread .. => false
  | .tsinh .. => false
  | .tflush .. => false
  | .tget .. => false
  | .trel .. => false
  | .tstat .. => false
  | .tstatHandle .. => false
  | .mxq .. => false
  | .mxpoll .. => false
  | .mxwait .. => false
  | .mxcan .. => false
  | .ebq .. => false
  | .ebwait .. => false
  | .ebwaitNw .. => false
  | .cbld .. => false
  | .cblda .. => false
  | .cbswap .. => false
  | .cbinv .. => false
  | .cbrd .. => false
  | .cbstat .. => false
  | .spawn .. => false
  | .spawnr .. => false
  | .amsg .. => false
  | .migrate .. => false
  | .launch .. => false
  | .join .. => false
  | .jdone .. => false
  | .jwait .. => false
  | .gang .. => false
  | .split .. => false
  | .pairchk .. => false
  | .barw .. => false
  | .bara .. => false
  | .bart .. => false
  | .waitq .. => false
  | .wake .. => false
  | .raise .. => false
  | .tinsp .. => false
  | .tinspW .. => false
  | .tresume .. => false
  | .tkill .. => false
  | .add .. => false
  | .sub .. => false
  | .and .. => false
  | .or .. => false
  | .xor .. => false
  | .sll .. => false
  | .srl .. => false
  | .sra .. => false
  | .slt .. => false
  | .min .. => false
  | .max .. => false
  | .adds .. => false
  | .subs .. => false
  | .clz .. => false
  | .ctz .. => false
  | .popc .. => false
  | .addi .. => false
  | .andi .. => false
  | .ori .. => false
  | .xori .. => false
  | .slti .. => false
  | .sltiz .. => false
  | .slli .. => false
  | .srli .. => false
  | .srai .. => false
  | .rori .. => false
  | .lui .. => false
  | .addpc .. => false
  | .ext .. => false
  | .ins .. => false
  | .mul .. => false
  | .mulh .. => false
  | .div .. => false
  | .rem .. => false
  | .muls .. => false
  | .fadd .. => false
  | .fsub .. => false
  | .fmul .. => false
  | .fdiv .. => false
  | .fsqrt .. => false
  | .fmin .. => false
  | .fmax .. => false
  | .feq .. => false
  | .flt .. => false
  | .fle .. => false
  | .fcvt .. => false
  | .fclass .. => false
  | .fsgnj .. => false
  | .fsgnjn .. => false
  | .fsgnjx .. => false
  | .fma .. => false
  | .fnma .. => false
  | .vadd .. => false
  | .vsub .. => false
  | .vmul .. => false
  | .vmulh .. => false
  | .vmin .. => false
  | .vmax .. => false
  | .vadds .. => false
  | .vsubs .. => false
  | .vmuls .. => false
  | .vabsd .. => false
  | .vavg .. => false
  | .vabs .. => false
  | .vfadd .. => false
  | .vfsub .. => false
  | .vfmul .. => false
  | .vfdiv .. => false
  | .vfsqrt .. => false
  | .vfmin .. => false
  | .vfmax .. => false
  | .vfsgnj .. => false
  | .vfsgnjn .. => false
  | .vfsgnjx .. => false
  | .vfma .. => false
  | .vfnma .. => false
  | .vand .. => false
  | .vor .. => false
  | .vxor .. => false
  | .vandn .. => false
  | .vsll .. => false
  | .vsrl .. => false
  | .vsra .. => false
  | .vror .. => false
  | .vceq .. => false
  | .vcne .. => false
  | .vclt .. => false
  | .vcle .. => false
  | .vctst .. => false
  | .vsel .. => false
  | .vcvt .. => false
  | .vperm .. => false
  | .vslideup .. => false
  | .vslidedn .. => false
  | .vbcast .. => false
  | .vbcastl .. => false
  | .vext .. => false
  | .vins .. => false
  | .vzipl .. => false
  | .vziph .. => false
  | .vuzpe .. => false
  | .vuzpo .. => false
  | .vredsum .. => false
  | .vredmin .. => false
  | .vredmax .. => false
  | .vdot .. => false
  | .vscan .. => false
  | .vscanmin .. => false
  | .vscanmax .. => false
  | .vmxsc .. => false
  | .mand .. => false
  | .mor .. => false
  | .mxor .. => false
  | .mandn .. => false
  | .mnot .. => false
  | .mpopc .. => false
  | .mfirst .. => false
  | .mfromg .. => false
  | .mtog .. => false
  | .mlanes .. => false
  | .gori2 .. => false
  | .gori3 .. => false
  | .ginc .. => false
  | .gins .. => false
  | .gseg .. => false
  | .xclr .. => false
  | .xadd .. => false
  | .xrnd .. => false
  | .cbx .. => false
  | .taskBudget .. => true
  | .globalLoadReturn .. => true
  | .coveAccessArrive .. => true
  | .writebackAck .. => true
  | .atomicPerform .. => true
  | .atomicReply .. => true
  | .sysHeartbeat .. => true
  | .sysTrace .. => true
  | .sysReply .. => true
  | .stealProbe .. => true
  | .stealReply .. => true
  | .stealRetry .. => true
  | .spawnrArrive .. => true
  | .spawnrReply .. => true
  | .amsgArrive .. => true
  | .amsgReply .. => true
  | .migrateArrive .. => true
  | .jdonePerform .. => true
  | .recordArrive .. => true
  | .recordResend .. => true
  | .recordResendRetry .. => true
  | .overflowRecord .. => true
  | .emitAccept .. => true
  | .emitTimeout .. => true
  | .sensorHeartbeat .. => true
  | .tidemarkUpdateArrive .. => true
  | .windowTimeout .. => true
  | .wcloseWrite .. => true
  | .timerExpiry .. => true
  | .bwRecordArrive .. => true
  | .bwRecordStep .. => true
  | .bwTidemarkStep .. => true
  | .bwFlushStep .. => true
  | .bwReleaseStep .. => true
  | .bwAgeSeal .. => true
  | .bwWindowTimeout .. => true
  | .bwTileDispatch .. => true
  | .bwJobSubmit .. => true
  | .mxeAccept .. => true
  | .jobBankSample .. => true
  | .mxeAdmit .. => true
  | .mxeOperandArrive .. => true
  | .mxeSlotBoundary .. => true
  | .mxeDrainEnd .. => true
  | .mxeJobDone .. => true
  | .mxeCancel .. => true
  | .cbLoadStart .. => true
  | .cbLoadDone .. => true
  | .bankClaimPass .. => true
  | .bankSave .. => true
  | .bankRestore .. => true
  | .cbfetch .. => true
  | .pairCompare .. => true
  | .pairCompareTimeout .. => true
  | .barrierComplete .. => true
  | .barrierReleaseArrive .. => true
  | .barrierTimeout .. => true
  | .waitqAtOwner .. => true
  | .wakeAtOwner .. => true
  | .waiterWoken .. => true
  | .pageWalkDone .. => true
  | .tlbInvalidate .. => true
  | .localPageFillDone .. => true
  | .localPageSpillDone .. => true
  | .ebbFootprint .. => true
  | .ebbCopy .. => true
  | .ebbFill .. => true
  | .ebbSpill .. => true
  | .ebbJobDone .. => true
  | .governorPeriod .. => true
  | .quotaExhausted .. => true
  | .enrgDelivery .. => true
  | .dvfsStepDone .. => true
  | .thermalSample .. => true
  | .contextLoadDone .. => true
  | .contextDrainDone .. => true
  | .contextScrubDone .. => true
  | .boundaryCommit .. => true
  | .boundaryCommitDone .. => true
  | .regionCommit .. => true
  | .regionSwitch .. => true
  | .registerWrite .. => true
  | .linkEnable .. => true
  | .linkTrainingDone .. => true
  | .linkTrainingTimeout .. => true
  | .linkLaneLost .. => true
  | .linkDisable .. => true
  | .ucieReplay .. => true
  | .ucieReroute .. => true
  | .rhoashRecordArrive .. => true
  | .sdioLaunch .. => true
  | .sdioWrite .. => true
  | .sdioRead .. => true
  | .sdioTraceRead .. => true
  | .queryDevice .. => true
  | .queryContexts .. => true
  | .queryLinks .. => true
  | .queryStream .. => true
  | .queryCove .. => true
  | .sdioAttest .. => true
  | .fwCreateContext .. => true
  | .fwDrainContext .. => true
  | .fwResumeContext .. => true
  | .fwMap .. => true
  | .fwUnmap .. => true
  | .fwParkCore .. => true
  | .fwUnparkCore .. => true
  | .fwRetireSource .. => true
  | .fwReviveSource .. => true
  | .fwConfigureStream .. => true
  | .fwSetTimer .. => true
  | .fwLoadKernel .. => true
  | .recoveryStageWrite .. => true
  | .recoveryCommit .. => true
  | .recoveryQuery .. => true
  | .csi2FrameStart .. => true
  | .csi2Packet .. => true
  | .decoderWatchdog .. => true
  | .taxelScan .. => true
  | .taxelFrameDone .. => true
  | .hfrzGo .. => true
  | .hrelGo .. => true
  | .freezeRelease .. => true
  | .hicmdRead .. => true
  | .hicmdWrite .. => true
  | .helogPop .. => true
  | .hwdogReload .. => true
  | .htimeRead .. => true
  | .hfwmbPost .. => true
  | .errorReport .. => true
  | .heartbeatMiss .. => true
  | .lockstepMismatch .. => true
  | .clockFault .. => true
  | .watchdogFault .. => true
  | .frzNAssert .. => true
  | .frzNDeassert .. => true
  | .powerOnReset .. => true
  | .warmReset .. => true
  | .reservedEncoding .. => true
  | .fetchPageTrap .. => true
  | .windowEndClose .. => true
  | .bwWindowEndClose .. => true
  | .predicateComplete .. => true
  | .tgetCopyDone .. => true
  | .trapTargetArrive .. => true
  | .rhoashFrameReplay .. => true

end Sys2Proof
end

