-- ==== Sys2Proof/WellFormed.lean ====
section
/-! DEFINITION. Reserved field values (02_instruction_word.md R30, and each instruction's own list). -/

namespace Sys2Proof

/-- Width in bits of a type code of Table 2.12. -/
def typeBits (t : Nat) : Nat :=
  match t with
  | 0 | 4 => 8 | 1 | 5 => 16 | 2 | 6 => 32 | 3 | 7 => 64
  | 8 => 4 | 9 | 10 => 6 | 11 | 12 => 8 | 13 | 14 => 16 | 15 => 32 | 16 => 64 | 17 => 8
  | 18 => 2 | 19 => 4 | 20 => 8 | 21 => 12 | 22 => 16 | _ => 64

/-- Lanes of a vector operand (Table 6.1). -/
def lanes (t : Nat) : Nat := if typeBits t = 6 then 64 else 512 / typeBits t

/-- Index types of `PFX`, or 31 for none (R34). -/
def pfxType (a : BitVec 5) : Prop := (18 ≤ a.toNat ∧ a.toNat ≤ 22) ∨ a = 31
/-- Types that `FCVT` names (R93). -/
def cvtType (a : BitVec 5) : Prop := a.toNat < 8 ∨ (13 ≤ a.toNat ∧ a.toNat ≤ 16)
/-- `r` of R123. -/
def cvtRatio (s t : Nat) : Nat := max (lanes s) (lanes t) / min (lanes s) (lanes t)

/-- No field holds a reserved value. An event is never decoded, so nothing is asked of it. -/
def Instr.WellFormed : Instr → Prop
  | .nop .. => True
  | .halt .. => True
  | .haltr .. => True
  | .brk .. => True
  | .sys s _ _ => s.toNat < 2
  | .pfx _ _ _ _ _ _ b a => pfxType a ∧ pfxType b
  | .br .. => True
  | .brl .. => True
  | .jr .. => True
  | .jrl .. => True
  | .bcc .. => True
  | .bmask _ c b a => a.toNat < 8 ∧ b.toNat < 8 ∧ c ≠ 4 ∧ c ≠ 5
  | .loop .. => True
  | .ld _ s m b d => m ≠ 3 ∧ ¬ (s = 7 ∧ d = b)
  | .st _ _ m _ _ => m ≠ 3
  | .vld _ _ m _ _ => m ≠ 3
  | .vst _ s m _ _ => m ≠ 3 ∧ s.toNat < 4
  | .vgather _ _ m _ _ _ _ => m ≠ 3
  | .vscatter _ _ m _ _ _ _ => m ≠ 3
  | .pref _ m _ => m = 0 ∨ m = 2
  | .prefh .. => True
  | .clean .. => True
  | .inv .. => True
  | .lda _ s _ m _ _ => m ≠ 3 ∧ s.toNat < 5
  | .strel _ s _ m _ _ => m ≠ 3 ∧ s.toNat < 5
  | .fence r a s => s.toNat < 5 ∧ ¬ (r = 0 ∧ a = 0)
  | .amoSwap m w _ _ _ => m ≠ 3 ∧ 2 ≤ w.toNat
  | .amoCas m w _ _ _ => m ≠ 3 ∧ 2 ≤ w.toNat
  | .amoAdd m w _ _ _ => m ≠ 3 ∧ 2 ≤ w.toNat
  | .amoAnd m w _ _ _ => m ≠ 3 ∧ 2 ≤ w.toNat
  | .amoOr m w _ _ _ => m ≠ 3 ∧ 2 ≤ w.toNat
  | .amoXor m w _ _ _ => m ≠ 3 ∧ 2 ≤ w.toNat
  | .amoMinS m w _ _ _ => m ≠ 3 ∧ 2 ≤ w.toNat
  | .amoMaxS m w _ _ _ => m ≠ 3 ∧ 2 ≤ w.toNat
  | .amoMinZ m w _ _ _ => m ≠ 3 ∧ 2 ≤ w.toNat
  | .amoMaxZ m w _ _ _ => m ≠ 3 ∧ 2 ≤ w.toNat
  | .amoFadd m w _ _ _ => m.toNat < 2 ∧ 2 ≤ w.toNat
  | .amoFmin m w _ _ _ => m.toNat < 2 ∧ 2 ≤ w.toNat
  | .amoFmax m w _ _ _ => m.toNat < 2 ∧ 2 ≤ w.toNat
  | .amoXadd m w _ _ _ => m.toNat < 2 ∧ w.toNat < 3
  | .amoXaddv w _ _ _ => w.toNat < 3
  | .amoDep .. => True
  | .amoFlags m _ _ => m.toNat < 2
  | .csrrw .. => True
  | .csrrs .. => True
  | .csrrc .. => True
  | .mbtake _ a _ => a.toNat < 4
  | .mbclr a => a.toNat < 4
  | .recv .. => True
  | .rpeek .. => True
  | .rack .. => True
  | .qstat _ s _ => s.toNat ≤ 2
  | .emit .. => True
  | .emitl .. => True
  | .tide .. => True
  | .tsread s a _ => ¬ (s = 0 ∧ a ≠ 0)
  | .tsinh .. => True
  | .tflush .. => True
  | .tget .. => True
  | .trel .. => True
  | .tstat _ b _ => b < 3
  | .tstatHandle .. => True
  | .mxq .. => True
  | .mxpoll .. => True
  | .mxwait .. => True
  | .mxcan .. => True
  | .ebq .. => True
  | .ebwait .. => True
  | .ebwaitNw .. => True
  | .cbld m _ _ _ _ => m ≠ 3
  | .cblda m _ _ _ _ => m ≠ 3
  | .cbswap .. => True
  | .cbinv .. => True
  | .cbrd .. => True
  | .cbstat .. => True
  | .spawn p _ _ _ => p.toNat < 48 ∨ p = 63
  | .spawnr p _ _ _ => p.toNat < 48 ∨ p = 63
  | .amsg .. => True
  | .migrate .. => True
  | .launch p _ _ _ => p.toNat < 48 ∨ p = 63
  | .join .. => True
  | .jdone .. => True
  | .jwait .. => True
  | .gang k _ => k ≠ 0
  | .split .. => True
  | .pairchk n a => n ≠ 3 ∧ ¬ (n = 2 ∧ 8 ≤ a.toNat)
  | .barw .. => True
  | .bara .. => True
  | .bart .. => True
  | .waitq .. => True
  | .wake .. => True
  | .raise .. => True
  | .tinsp .. => True
  | .tinspW .. => True
  | .tresume .. => True
  | .tkill .. => True
  | .add t _ _ _ => t.toNat < 8
  | .sub t _ _ _ => t.toNat < 8
  | .and t _ _ _ => t.toNat < 8
  | .or t _ _ _ => t.toNat < 8
  | .xor t _ _ _ => t.toNat < 8
  | .sll t _ _ _ => t.toNat < 8
  | .srl t _ _ _ => t.toNat < 8
  | .sra t _ _ _ => t.toNat < 8
  | .slt t _ _ _ => t.toNat < 8
  | .min t _ _ _ => t.toNat < 8
  | .max t _ _ _ => t.toNat < 8
  | .adds t _ _ _ => t.toNat < 8
  | .subs t _ _ _ => t.toNat < 8
  | .clz t _ _ => t.toNat < 8
  | .ctz t _ _ => t.toNat < 8
  | .popc t _ _ => t.toNat < 8
  | .addi .. => True
  | .andi .. => True
  | .ori .. => True
  | .xori .. => True
  | .slti .. => True
  | .sltiz .. => True
  | .slli .. => True
  | .srli .. => True
  | .srai .. => True
  | .rori .. => True
  | .lui .. => True
  | .addpc .. => True
  | .ext _ l p _ _ => p.toNat + l.toNat + 1 ≤ 64
  | .ins l p _ _ => p.toNat + l.toNat + 1 ≤ 64
  | .mul t _ _ _ => t.toNat < 8
  | .mulh t _ _ _ => t.toNat < 8
  | .div t _ _ _ => t.toNat < 8
  | .rem t _ _ _ => t.toNat < 8
  | .muls t _ _ _ => t.toNat < 8
  | .fadd t _ _ _ => 13 ≤ t.toNat ∧ t.toNat ≤ 16
  | .fsub t _ _ _ => 13 ≤ t.toNat ∧ t.toNat ≤ 16
  | .fmul t _ _ _ => 13 ≤ t.toNat ∧ t.toNat ≤ 16
  | .fdiv t _ _ _ => 13 ≤ t.toNat ∧ t.toNat ≤ 16
  | .fsqrt t _ _ => 13 ≤ t.toNat ∧ t.toNat ≤ 16
  | .fmin t _ _ _ => 13 ≤ t.toNat ∧ t.toNat ≤ 16
  | .fmax t _ _ _ => 13 ≤ t.toNat ∧ t.toNat ≤ 16
  | .feq t _ _ _ => 13 ≤ t.toNat ∧ t.toNat ≤ 16
  | .flt t _ _ _ => 13 ≤ t.toNat ∧ t.toNat ≤ 16
  | .fle t _ _ _ => 13 ≤ t.toNat ∧ t.toNat ≤ 16
  | .fcvt s t _ _ => cvtType s ∧ cvtType t ∧ ¬ (s.toNat < 8 ∧ t.toNat < 8)
  | .fclass t _ _ => 13 ≤ t.toNat ∧ t.toNat ≤ 16
  | .fsgnj t _ _ _ => 13 ≤ t.toNat ∧ t.toNat ≤ 16
  | .fsgnjn t _ _ _ => 13 ≤ t.toNat ∧ t.toNat ≤ 16
  | .fsgnjx t _ _ _ => 13 ≤ t.toNat ∧ t.toNat ≤ 16
  | .fma .. => True
  | .fnma .. => True
  | .vadd t _ _ _ => t.toNat < 8
  | .vsub t _ _ _ => t.toNat < 8
  | .vmul t _ _ _ => t.toNat < 8
  | .vmulh t _ _ _ => t.toNat < 8
  | .vmin t _ _ _ => t.toNat < 8
  | .vmax t _ _ _ => t.toNat < 8
  | .vadds t _ _ _ => t.toNat < 8
  | .vsubs t _ _ _ => t.toNat < 8
  | .vmuls t _ _ _ => t.toNat < 8
  | .vabsd t _ _ _ => t.toNat < 8
  | .vavg t _ _ _ => t.toNat < 8
  | .vabs t _ _ => t.toNat < 8
  | .vfadd t _ _ _ => 13 ≤ t.toNat ∧ t.toNat ≤ 16
  | .vfsub t _ _ _ => 13 ≤ t.toNat ∧ t.toNat ≤ 16
  | .vfmul t _ _ _ => 13 ≤ t.toNat ∧ t.toNat ≤ 16
  | .vfdiv t _ _ _ => 13 ≤ t.toNat ∧ t.toNat ≤ 16
  | .vfsqrt t _ _ => 13 ≤ t.toNat ∧ t.toNat ≤ 16
  | .vfmin t _ _ _ => 13 ≤ t.toNat ∧ t.toNat ≤ 16
  | .vfmax t _ _ _ => 13 ≤ t.toNat ∧ t.toNat ≤ 16
  | .vfsgnj t _ _ _ => 13 ≤ t.toNat ∧ t.toNat ≤ 16
  | .vfsgnjn t _ _ _ => 13 ≤ t.toNat ∧ t.toNat ≤ 16
  | .vfsgnjx t _ _ _ => 13 ≤ t.toNat ∧ t.toNat ≤ 16
  | .vfma .. => True
  | .vfnma .. => True
  | .vand t _ _ _ => t.toNat < 8 ∨ (13 ≤ t.toNat ∧ t.toNat ≤ 16)
  | .vor t _ _ _ => t.toNat < 8 ∨ (13 ≤ t.toNat ∧ t.toNat ≤ 16)
  | .vxor t _ _ _ => t.toNat < 8 ∨ (13 ≤ t.toNat ∧ t.toNat ≤ 16)
  | .vandn t _ _ _ => t.toNat < 8 ∨ (13 ≤ t.toNat ∧ t.toNat ≤ 16)
  | .vsll t _ _ _ => t.toNat < 8
  | .vsrl t _ _ _ => t.toNat < 8
  | .vsra t _ _ _ => t.toNat < 8
  | .vror t _ _ _ => t.toNat < 8
  | .vceq t _ _ d => (t.toNat < 8 ∨ (13 ≤ t.toNat ∧ t.toNat ≤ 16)) ∧ d.toNat < 8
  | .vcne t _ _ d => (t.toNat < 8 ∨ (13 ≤ t.toNat ∧ t.toNat ≤ 16)) ∧ d.toNat < 8
  | .vclt t _ _ d => (t.toNat < 8 ∨ (13 ≤ t.toNat ∧ t.toNat ≤ 16)) ∧ d.toNat < 8
  | .vcle t _ _ d => (t.toNat < 8 ∨ (13 ≤ t.toNat ∧ t.toNat ≤ 16)) ∧ d.toNat < 8
  | .vctst t _ _ d => t.toNat < 8 ∧ d.toNat < 8
  | .vsel _ t _ _ _ => t.toNat < 8 ∨ (13 ≤ t.toNat ∧ t.toNat ≤ 16)
  | .vcvt _ p s t _ _ => s.toNat < 17 ∧ t.toNat < 17 ∧ cvtRatio s.toNat t.toNat ≤ 8 ∧ p.toNat < cvtRatio s.toNat t.toNat
  | .vperm t _ _ _ => t.toNat < 8 ∨ (13 ≤ t.toNat ∧ t.toNat ≤ 16)
  | .vslideup t _ _ _ => t.toNat < 8 ∨ (13 ≤ t.toNat ∧ t.toNat ≤ 16)
  | .vslidedn t _ _ _ => t.toNat < 8 ∨ (13 ≤ t.toNat ∧ t.toNat ≤ 16)
  | .vbcast t _ _ => t.toNat < 8 ∨ (13 ≤ t.toNat ∧ t.toNat ≤ 16)
  | .vbcastl t _ _ _ => t.toNat < 8 ∨ (13 ≤ t.toNat ∧ t.toNat ≤ 16)
  | .vext t _ _ _ => t.toNat < 8 ∨ (13 ≤ t.toNat ∧ t.toNat ≤ 16)
  | .vins t _ _ _ => t.toNat < 8 ∨ (13 ≤ t.toNat ∧ t.toNat ≤ 16)
  | .vzipl t _ _ _ => t.toNat < 8 ∨ (13 ≤ t.toNat ∧ t.toNat ≤ 16)
  | .vziph t _ _ _ => t.toNat < 8 ∨ (13 ≤ t.toNat ∧ t.toNat ≤ 16)
  | .vuzpe t _ _ _ => t.toNat < 8 ∨ (13 ≤ t.toNat ∧ t.toNat ≤ 16)
  | .vuzpo t _ _ _ => t.toNat < 8 ∨ (13 ≤ t.toNat ∧ t.toNat ≤ 16)
  | .vredsum t b _ _ => (t.toNat < 8 ∨ (13 ≤ t.toNat ∧ t.toNat ≤ 16)) ∧ b.toNat < 8
  | .vredmin t b _ _ => (t.toNat < 8 ∨ (13 ≤ t.toNat ∧ t.toNat ≤ 16)) ∧ b.toNat < 8
  | .vredmax t b _ _ => (t.toNat < 8 ∨ (13 ≤ t.toNat ∧ t.toNat ≤ 16)) ∧ b.toNat < 8
  | .vdot t _ _ _ => t.toNat < 8 ∨ (13 ≤ t.toNat ∧ t.toNat ≤ 16)
  | .vscan t b _ _ => (t.toNat < 8 ∨ (13 ≤ t.toNat ∧ t.toNat ≤ 16)) ∧ b.toNat < 8
  | .vscanmin t b _ _ => (t.toNat < 8 ∨ (13 ≤ t.toNat ∧ t.toNat ≤ 16)) ∧ b.toNat < 8
  | .vscanmax t b _ _ => (t.toNat < 8 ∨ (13 ≤ t.toNat ∧ t.toNat ≤ 16)) ∧ b.toNat < 8
  | .vmxsc _ s e _ _ => 13 ≤ s.toNat ∧ s.toNat ≤ 15 ∧ 8 ≤ e.toNat ∧ e.toNat ≤ 12
  | .mand b a d => d.toNat < 8 ∧ a.toNat < 8 ∧ b.toNat < 8
  | .mor b a d => d.toNat < 8 ∧ a.toNat < 8 ∧ b.toNat < 8
  | .mxor b a d => d.toNat < 8 ∧ a.toNat < 8 ∧ b.toNat < 8
  | .mandn b a d => d.toNat < 8 ∧ a.toNat < 8 ∧ b.toNat < 8
  | .mnot a d => d.toNat < 8 ∧ a.toNat < 8
  | .mpopc a _ => a.toNat < 8
  | .mfirst a _ => a.toNat < 8
  | .mfromg _ d => d.toNat < 8
  | .mtog a _ => a.toNat < 8
  | .mlanes t d => (t.toNat < 8 ∨ (13 ≤ t.toNat ∧ t.toNat ≤ 16)) ∧ d.toNat < 8
  | .gori2 _ _ _ d => 1 ≤ d.toNat ∧ d.toNat ≤ 5
  | .gori3 _ _ _ d => 1 ≤ d.toNat ∧ d.toNat ≤ 5
  | .ginc _ _ _ d => 1 ≤ d.toNat ∧ d.toNat ≤ 5
  | .gins _ _ _ d => 1 ≤ d.toNat ∧ d.toNat ≤ 5
  | .gseg _ _ _ d => 1 ≤ d.toNat ∧ d.toNat ≤ 5
  | .xclr t _ => 13 ≤ t.toNat ∧ t.toNat ≤ 15
  | .xadd t _ _ m => 13 ≤ t.toNat ∧ t.toNat ≤ 15 ∧ m.toNat < 8
  | .xrnd .. => True
  | .cbx _ k n _ _ => 18 ≤ k.toNat ∧ k.toNat ≤ 22 ∧ n.toNat < 8
  | .taskBudget .. => True
  | .globalLoadReturn .. => True
  | .coveAccessArrive .. => True
  | .writebackAck .. => True
  | .atomicPerform .. => True
  | .atomicReply .. => True
  | .sysHeartbeat .. => True
  | .sysTrace .. => True
  | .sysReply .. => True
  | .stealProbe .. => True
  | .stealReply .. => True
  | .stealRetry .. => True
  | .spawnrArrive .. => True
  | .spawnrReply .. => True
  | .amsgArrive .. => True
  | .amsgReply .. => True
  | .migrateArrive .. => True
  | .jdonePerform .. => True
  | .recordArrive .. => True
  | .recordResend .. => True
  | .recordResendRetry .. => True
  | .overflowRecord .. => True
  | .emitAccept .. => True
  | .emitTimeout .. => True
  | .sensorHeartbeat .. => True
  | .tidemarkUpdateArrive .. => True
  | .windowTimeout .. => True
  | .wcloseWrite .. => True
  | .timerExpiry .. => True
  | .bwRecordArrive .. => True
  | .bwRecordStep .. => True
  | .bwTidemarkStep .. => True
  | .bwFlushStep .. => True
  | .bwReleaseStep .. => True
  | .bwAgeSeal .. => True
  | .bwWindowTimeout .. => True
  | .bwTileDispatch .. => True
  | .bwJobSubmit .. => True
  | .mxeAccept .. => True
  | .jobBankSample .. => True
  | .mxeAdmit .. => True
  | .mxeOperandArrive .. => True
  | .mxeSlotBoundary .. => True
  | .mxeDrainEnd .. => True
  | .mxeJobDone .. => True
  | .mxeCancel .. => True
  | .cbLoadStart .. => True
  | .cbLoadDone .. => True
  | .bankClaimPass .. => True
  | .bankSave .. => True
  | .bankRestore .. => True
  | .cbfetch .. => True
  | .pairCompare .. => True
  | .pairCompareTimeout .. => True
  | .barrierComplete .. => True
  | .barrierReleaseArrive .. => True
  | .barrierTimeout .. => True
  | .waitqAtOwner .. => True
  | .wakeAtOwner .. => True
  | .waiterWoken .. => True
  | .pageWalkDone .. => True
  | .tlbInvalidate .. => True
  | .localPageFillDone .. => True
  | .localPageSpillDone .. => True
  | .ebbFootprint .. => True
  | .ebbCopy .. => True
  | .ebbFill .. => True
  | .ebbSpill .. => True
  | .ebbJobDone .. => True
  | .governorPeriod .. => True
  | .quotaExhausted .. => True
  | .enrgDelivery .. => True
  | .dvfsStepDone .. => True
  | .thermalSample .. => True
  | .contextLoadDone .. => True
  | .contextDrainDone .. => True
  | .contextScrubDone .. => True
  | .boundaryCommit .. => True
  | .boundaryCommitDone .. => True
  | .regionCommit .. => True
  | .regionSwitch .. => True
  | .registerWrite .. => True
  | .linkEnable .. => True
  | .linkTrainingDone .. => True
  | .linkTrainingTimeout .. => True
  | .linkLaneLost .. => True
  | .linkDisable .. => True
  | .ucieReplay .. => True
  | .ucieReroute .. => True
  | .rhoashRecordArrive .. => True
  | .sdioLaunch .. => True
  | .sdioWrite .. => True
  | .sdioRead .. => True
  | .sdioTraceRead .. => True
  | .queryDevice .. => True
  | .queryContexts .. => True
  | .queryLinks .. => True
  | .queryStream .. => True
  | .queryCove .. => True
  | .sdioAttest .. => True
  | .fwCreateContext .. => True
  | .fwDrainContext .. => True
  | .fwResumeContext .. => True
  | .fwMap .. => True
  | .fwUnmap .. => True
  | .fwParkCore .. => True
  | .fwUnparkCore .. => True
  | .fwRetireSource .. => True
  | .fwReviveSource .. => True
  | .fwConfigureStream .. => True
  | .fwSetTimer .. => True
  | .fwLoadKernel .. => True
  | .recoveryStageWrite .. => True
  | .recoveryCommit .. => True
  | .recoveryQuery .. => True
  | .csi2FrameStart .. => True
  | .csi2Packet .. => True
  | .decoderWatchdog .. => True
  | .taxelScan .. => True
  | .taxelFrameDone .. => True
  | .hfrzGo .. => True
  | .hrelGo .. => True
  | .freezeRelease .. => True
  | .hicmdRead .. => True
  | .hicmdWrite .. => True
  | .helogPop .. => True
  | .hwdogReload .. => True
  | .htimeRead .. => True
  | .hfwmbPost .. => True
  | .errorReport .. => True
  | .heartbeatMiss .. => True
  | .lockstepMismatch .. => True
  | .clockFault .. => True
  | .watchdogFault .. => True
  | .frzNAssert .. => True
  | .frzNDeassert .. => True
  | .powerOnReset .. => True
  | .warmReset .. => True
  | .reservedEncoding .. => True
  | .fetchPageTrap .. => True
  | .windowEndClose .. => True
  | .bwWindowEndClose .. => True
  | .predicateComplete .. => True
  | .tgetCopyDone .. => True
  | .trapTargetArrive .. => True
  | .rhoashFrameReplay .. => True

/-- The check as a Boolean. -/
def Instr.wellFormed (i : Instr) : Bool :=
  match i with
  | .nop .. => true
  | .halt .. => true
  | .haltr .. => true
  | .brk .. => true
  | .sys s _ _ => decide (s.toNat < 2)
  | .pfx _ _ _ _ _ _ b a => decide (((18 ≤ a.toNat ∧ a.toNat ≤ 22) ∨ a = 31) ∧ ((18 ≤ b.toNat ∧ b.toNat ≤ 22) ∨ b = 31))
  | .br .. => true
  | .brl .. => true
  | .jr .. => true
  | .jrl .. => true
  | .bcc .. => true
  | .bmask _ c b a => decide (a.toNat < 8 ∧ b.toNat < 8 ∧ c ≠ 4 ∧ c ≠ 5)
  | .loop .. => true
  | .ld _ s m b d => decide (m ≠ 3 ∧ ¬ (s = 7 ∧ d = b))
  | .st _ _ m _ _ => decide (m ≠ 3)
  | .vld _ _ m _ _ => decide (m ≠ 3)
  | .vst _ s m _ _ => decide (m ≠ 3 ∧ s.toNat < 4)
  | .vgather _ _ m _ _ _ _ => decide (m ≠ 3)
  | .vscatter _ _ m _ _ _ _ => decide (m ≠ 3)
  | .pref _ m _ => decide (m = 0 ∨ m = 2)
  | .prefh .. => true
  | .clean .. => true
  | .inv .. => true
  | .lda _ s _ m _ _ => decide (m ≠ 3 ∧ s.toNat < 5)
  | .strel _ s _ m _ _ => decide (m ≠ 3 ∧ s.toNat < 5)
  | .fence r a s => decide (s.toNat < 5 ∧ ¬ (r = 0 ∧ a = 0))
  | .amoSwap m w _ _ _ => decide (m ≠ 3 ∧ 2 ≤ w.toNat)
  | .amoCas m w _ _ _ => decide (m ≠ 3 ∧ 2 ≤ w.toNat)
  | .amoAdd m w _ _ _ => decide (m ≠ 3 ∧ 2 ≤ w.toNat)
  | .amoAnd m w _ _ _ => decide (m ≠ 3 ∧ 2 ≤ w.toNat)
  | .amoOr m w _ _ _ => decide (m ≠ 3 ∧ 2 ≤ w.toNat)
  | .amoXor m w _ _ _ => decide (m ≠ 3 ∧ 2 ≤ w.toNat)
  | .amoMinS m w _ _ _ => decide (m ≠ 3 ∧ 2 ≤ w.toNat)
  | .amoMaxS m w _ _ _ => decide (m ≠ 3 ∧ 2 ≤ w.toNat)
  | .amoMinZ m w _ _ _ => decide (m ≠ 3 ∧ 2 ≤ w.toNat)
  | .amoMaxZ m w _ _ _ => decide (m ≠ 3 ∧ 2 ≤ w.toNat)
  | .amoFadd m w _ _ _ => decide (m.toNat < 2 ∧ 2 ≤ w.toNat)
  | .amoFmin m w _ _ _ => decide (m.toNat < 2 ∧ 2 ≤ w.toNat)
  | .amoFmax m w _ _ _ => decide (m.toNat < 2 ∧ 2 ≤ w.toNat)
  | .amoXadd m w _ _ _ => decide (m.toNat < 2 ∧ w.toNat < 3)
  | .amoXaddv w _ _ _ => decide (w.toNat < 3)
  | .amoDep .. => true
  | .amoFlags m _ _ => decide (m.toNat < 2)
  | .csrrw .. => true
  | .csrrs .. => true
  | .csrrc .. => true
  | .mbtake _ a _ => decide (a.toNat < 4)
  | .mbclr a => decide (a.toNat < 4)
  | .recv .. => true
  | .rpeek .. => true
  | .rack .. => true
  | .qstat _ s _ => decide (s.toNat ≤ 2)
  | .emit .. => true
  | .emitl .. => true
  | .tide .. => true
  | .tsread s a _ => decide (¬ (s = 0 ∧ a ≠ 0))
  | .tsinh .. => true
  | .tflush .. => true
  | .tget .. => true
  | .trel .. => true
  | .tstat _ b _ => decide (b < 3)
  | .tstatHandle .. => true
  | .mxq .. => true
  | .mxpoll .. => true
  | .mxwait .. => true
  | .mxcan .. => true
  | .ebq .. => true
  | .ebwait .. => true
  | .ebwaitNw .. => true
  | .cbld m _ _ _ _ => decide (m ≠ 3)
  | .cblda m _ _ _ _ => decide (m ≠ 3)
  | .cbswap .. => true
  | .cbinv .. => true
  | .cbrd .. => true
  | .cbstat .. => true
  | .spawn p _ _ _ => decide (p.toNat < 48 ∨ p = 63)
  | .spawnr p _ _ _ => decide (p.toNat < 48 ∨ p = 63)
  | .amsg .. => true
  | .migrate .. => true
  | .launch p _ _ _ => decide (p.toNat < 48 ∨ p = 63)
  | .join .. => true
  | .jdone .. => true
  | .jwait .. => true
  | .gang k _ => decide (k ≠ 0)
  | .split .. => true
  | .pairchk n a => decide (n ≠ 3 ∧ ¬ (n = 2 ∧ 8 ≤ a.toNat))
  | .barw .. => true
  | .bara .. => true
  | .bart .. => true
  | .waitq .. => true
  | .wake .. => true
  | .raise .. => true
  | .tinsp .. => true
  | .tinspW .. => true
  | .tresume .. => true
  | .tkill .. => true
  | .add t _ _ _ => decide (t.toNat < 8)
  | .sub t _ _ _ => decide (t.toNat < 8)
  | .and t _ _ _ => decide (t.toNat < 8)
  | .or t _ _ _ => decide (t.toNat < 8)
  | .xor t _ _ _ => decide (t.toNat < 8)
  | .sll t _ _ _ => decide (t.toNat < 8)
  | .srl t _ _ _ => decide (t.toNat < 8)
  | .sra t _ _ _ => decide (t.toNat < 8)
  | .slt t _ _ _ => decide (t.toNat < 8)
  | .min t _ _ _ => decide (t.toNat < 8)
  | .max t _ _ _ => decide (t.toNat < 8)
  | .adds t _ _ _ => decide (t.toNat < 8)
  | .subs t _ _ _ => decide (t.toNat < 8)
  | .clz t _ _ => decide (t.toNat < 8)
  | .ctz t _ _ => decide (t.toNat < 8)
  | .popc t _ _ => decide (t.toNat < 8)
  | .addi .. => true
  | .andi .. => true
  | .ori .. => true
  | .xori .. => true
  | .slti .. => true
  | .sltiz .. => true
  | .slli .. => true
  | .srli .. => true
  | .srai .. => true
  | .rori .. => true
  | .lui .. => true
  | .addpc .. => true
  | .ext _ l p _ _ => decide (p.toNat + l.toNat + 1 ≤ 64)
  | .ins l p _ _ => decide (p.toNat + l.toNat + 1 ≤ 64)
  | .mul t _ _ _ => decide (t.toNat < 8)
  | .mulh t _ _ _ => decide (t.toNat < 8)
  | .div t _ _ _ => decide (t.toNat < 8)
  | .rem t _ _ _ => decide (t.toNat < 8)
  | .muls t _ _ _ => decide (t.toNat < 8)
  | .fadd t _ _ _ => decide (13 ≤ t.toNat ∧ t.toNat ≤ 16)
  | .fsub t _ _ _ => decide (13 ≤ t.toNat ∧ t.toNat ≤ 16)
  | .fmul t _ _ _ => decide (13 ≤ t.toNat ∧ t.toNat ≤ 16)
  | .fdiv t _ _ _ => decide (13 ≤ t.toNat ∧ t.toNat ≤ 16)
  | .fsqrt t _ _ => decide (13 ≤ t.toNat ∧ t.toNat ≤ 16)
  | .fmin t _ _ _ => decide (13 ≤ t.toNat ∧ t.toNat ≤ 16)
  | .fmax t _ _ _ => decide (13 ≤ t.toNat ∧ t.toNat ≤ 16)
  | .feq t _ _ _ => decide (13 ≤ t.toNat ∧ t.toNat ≤ 16)
  | .flt t _ _ _ => decide (13 ≤ t.toNat ∧ t.toNat ≤ 16)
  | .fle t _ _ _ => decide (13 ≤ t.toNat ∧ t.toNat ≤ 16)
  | .fcvt s t _ _ => decide ((s.toNat < 8 ∨ (13 ≤ s.toNat ∧ s.toNat ≤ 16)) ∧ (t.toNat < 8 ∨ (13 ≤ t.toNat ∧ t.toNat ≤ 16)) ∧ ¬ (s.toNat < 8 ∧ t.toNat < 8))
  | .fclass t _ _ => decide (13 ≤ t.toNat ∧ t.toNat ≤ 16)
  | .fsgnj t _ _ _ => decide (13 ≤ t.toNat ∧ t.toNat ≤ 16)
  | .fsgnjn t _ _ _ => decide (13 ≤ t.toNat ∧ t.toNat ≤ 16)
  | .fsgnjx t _ _ _ => decide (13 ≤ t.toNat ∧ t.toNat ≤ 16)
  | .fma .. => true
  | .fnma .. => true
  | .vadd t _ _ _ => decide (t.toNat < 8)
  | .vsub t _ _ _ => decide (t.toNat < 8)
  | .vmul t _ _ _ => decide (t.toNat < 8)
  | .vmulh t _ _ _ => decide (t.toNat < 8)
  | .vmin t _ _ _ => decide (t.toNat < 8)
  | .vmax t _ _ _ => decide (t.toNat < 8)
  | .vadds t _ _ _ => decide (t.toNat < 8)
  | .vsubs t _ _ _ => decide (t.toNat < 8)
  | .vmuls t _ _ _ => decide (t.toNat < 8)
  | .vabsd t _ _ _ => decide (t.toNat < 8)
  | .vavg t _ _ _ => decide (t.toNat < 8)
  | .vabs t _ _ => decide (t.toNat < 8)
  | .vfadd t _ _ _ => decide (13 ≤ t.toNat ∧ t.toNat ≤ 16)
  | .vfsub t _ _ _ => decide (13 ≤ t.toNat ∧ t.toNat ≤ 16)
  | .vfmul t _ _ _ => decide (13 ≤ t.toNat ∧ t.toNat ≤ 16)
  | .vfdiv t _ _ _ => decide (13 ≤ t.toNat ∧ t.toNat ≤ 16)
  | .vfsqrt t _ _ => decide (13 ≤ t.toNat ∧ t.toNat ≤ 16)
  | .vfmin t _ _ _ => decide (13 ≤ t.toNat ∧ t.toNat ≤ 16)
  | .vfmax t _ _ _ => decide (13 ≤ t.toNat ∧ t.toNat ≤ 16)
  | .vfsgnj t _ _ _ => decide (13 ≤ t.toNat ∧ t.toNat ≤ 16)
  | .vfsgnjn t _ _ _ => decide (13 ≤ t.toNat ∧ t.toNat ≤ 16)
  | .vfsgnjx t _ _ _ => decide (13 ≤ t.toNat ∧ t.toNat ≤ 16)
  | .vfma .. => true
  | .vfnma .. => true
  | .vand t _ _ _ => decide (t.toNat < 8 ∨ (13 ≤ t.toNat ∧ t.toNat ≤ 16))
  | .vor t _ _ _ => decide (t.toNat < 8 ∨ (13 ≤ t.toNat ∧ t.toNat ≤ 16))
  | .vxor t _ _ _ => decide (t.toNat < 8 ∨ (13 ≤ t.toNat ∧ t.toNat ≤ 16))
  | .vandn t _ _ _ => decide (t.toNat < 8 ∨ (13 ≤ t.toNat ∧ t.toNat ≤ 16))
  | .vsll t _ _ _ => decide (t.toNat < 8)
  | .vsrl t _ _ _ => decide (t.toNat < 8)
  | .vsra t _ _ _ => decide (t.toNat < 8)
  | .vror t _ _ _ => decide (t.toNat < 8)
  | .vceq t _ _ d => decide ((t.toNat < 8 ∨ (13 ≤ t.toNat ∧ t.toNat ≤ 16)) ∧ d.toNat < 8)
  | .vcne t _ _ d => decide ((t.toNat < 8 ∨ (13 ≤ t.toNat ∧ t.toNat ≤ 16)) ∧ d.toNat < 8)
  | .vclt t _ _ d => decide ((t.toNat < 8 ∨ (13 ≤ t.toNat ∧ t.toNat ≤ 16)) ∧ d.toNat < 8)
  | .vcle t _ _ d => decide ((t.toNat < 8 ∨ (13 ≤ t.toNat ∧ t.toNat ≤ 16)) ∧ d.toNat < 8)
  | .vctst t _ _ d => decide (t.toNat < 8 ∧ d.toNat < 8)
  | .vsel _ t _ _ _ => decide (t.toNat < 8 ∨ (13 ≤ t.toNat ∧ t.toNat ≤ 16))
  | .vcvt _ p s t _ _ => decide (s.toNat < 17 ∧ t.toNat < 17 ∧ cvtRatio s.toNat t.toNat ≤ 8 ∧ p.toNat < cvtRatio s.toNat t.toNat)
  | .vperm t _ _ _ => decide (t.toNat < 8 ∨ (13 ≤ t.toNat ∧ t.toNat ≤ 16))
  | .vslideup t _ _ _ => decide (t.toNat < 8 ∨ (13 ≤ t.toNat ∧ t.toNat ≤ 16))
  | .vslidedn t _ _ _ => decide (t.toNat < 8 ∨ (13 ≤ t.toNat ∧ t.toNat ≤ 16))
  | .vbcast t _ _ => decide (t.toNat < 8 ∨ (13 ≤ t.toNat ∧ t.toNat ≤ 16))
  | .vbcastl t _ _ _ => decide (t.toNat < 8 ∨ (13 ≤ t.toNat ∧ t.toNat ≤ 16))
  | .vext t _ _ _ => decide (t.toNat < 8 ∨ (13 ≤ t.toNat ∧ t.toNat ≤ 16))
  | .vins t _ _ _ => decide (t.toNat < 8 ∨ (13 ≤ t.toNat ∧ t.toNat ≤ 16))
  | .vzipl t _ _ _ => decide (t.toNat < 8 ∨ (13 ≤ t.toNat ∧ t.toNat ≤ 16))
  | .vziph t _ _ _ => decide (t.toNat < 8 ∨ (13 ≤ t.toNat ∧ t.toNat ≤ 16))
  | .vuzpe t _ _ _ => decide (t.toNat < 8 ∨ (13 ≤ t.toNat ∧ t.toNat ≤ 16))
  | .vuzpo t _ _ _ => decide (t.toNat < 8 ∨ (13 ≤ t.toNat ∧ t.toNat ≤ 16))
  | .vredsum t b _ _ => decide ((t.toNat < 8 ∨ (13 ≤ t.toNat ∧ t.toNat ≤ 16)) ∧ b.toNat < 8)
  | .vredmin t b _ _ => decide ((t.toNat < 8 ∨ (13 ≤ t.toNat ∧ t.toNat ≤ 16)) ∧ b.toNat < 8)
  | .vredmax t b _ _ => decide ((t.toNat < 8 ∨ (13 ≤ t.toNat ∧ t.toNat ≤ 16)) ∧ b.toNat < 8)
  | .vdot t _ _ _ => decide (t.toNat < 8 ∨ (13 ≤ t.toNat ∧ t.toNat ≤ 16))
  | .vscan t b _ _ => decide ((t.toNat < 8 ∨ (13 ≤ t.toNat ∧ t.toNat ≤ 16)) ∧ b.toNat < 8)
  | .vscanmin t b _ _ => decide ((t.toNat < 8 ∨ (13 ≤ t.toNat ∧ t.toNat ≤ 16)) ∧ b.toNat < 8)
  | .vscanmax t b _ _ => decide ((t.toNat < 8 ∨ (13 ≤ t.toNat ∧ t.toNat ≤ 16)) ∧ b.toNat < 8)
  | .vmxsc _ s e _ _ => decide (13 ≤ s.toNat ∧ s.toNat ≤ 15 ∧ 8 ≤ e.toNat ∧ e.toNat ≤ 12)
  | .mand b a d => decide (d.toNat < 8 ∧ a.toNat < 8 ∧ b.toNat < 8)
  | .mor b a d => decide (d.toNat < 8 ∧ a.toNat < 8 ∧ b.toNat < 8)
  | .mxor b a d => decide (d.toNat < 8 ∧ a.toNat < 8 ∧ b.toNat < 8)
  | .mandn b a d => decide (d.toNat < 8 ∧ a.toNat < 8 ∧ b.toNat < 8)
  | .mnot a d => decide (d.toNat < 8 ∧ a.toNat < 8)
  | .mpopc a _ => decide (a.toNat < 8)
  | .mfirst a _ => decide (a.toNat < 8)
  | .mfromg _ d => decide (d.toNat < 8)
  | .mtog a _ => decide (a.toNat < 8)
  | .mlanes t d => decide ((t.toNat < 8 ∨ (13 ≤ t.toNat ∧ t.toNat ≤ 16)) ∧ d.toNat < 8)
  | .gori2 _ _ _ d => decide (1 ≤ d.toNat ∧ d.toNat ≤ 5)
  | .gori3 _ _ _ d => decide (1 ≤ d.toNat ∧ d.toNat ≤ 5)
  | .ginc _ _ _ d => decide (1 ≤ d.toNat ∧ d.toNat ≤ 5)
  | .gins _ _ _ d => decide (1 ≤ d.toNat ∧ d.toNat ≤ 5)
  | .gseg _ _ _ d => decide (1 ≤ d.toNat ∧ d.toNat ≤ 5)
  | .xclr t _ => decide (13 ≤ t.toNat ∧ t.toNat ≤ 15)
  | .xadd t _ _ m => decide (13 ≤ t.toNat ∧ t.toNat ≤ 15 ∧ m.toNat < 8)
  | .xrnd .. => true
  | .cbx _ k n _ _ => decide (18 ≤ k.toNat ∧ k.toNat ≤ 22 ∧ n.toNat < 8)
  | .taskBudget .. => true
  | .globalLoadReturn .. => true
  | .coveAccessArrive .. => true
  | .writebackAck .. => true
  | .atomicPerform .. => true
  | .atomicReply .. => true
  | .sysHeartbeat .. => true
  | .sysTrace .. => true
  | .sysReply .. => true
  | .stealProbe .. => true
  | .stealReply .. => true
  | .stealRetry .. => true
  | .spawnrArrive .. => true
  | .spawnrReply .. => true
  | .amsgArrive .. => true
  | .amsgReply .. => true
  | .migrateArrive .. => true
  | .jdonePerform .. => true
  | .recordArrive .. => true
  | .recordResend .. => true
  | .recordResendRetry .. => true
  | .overflowRecord .. => true
  | .emitAccept .. => true
  | .emitTimeout .. => true
  | .sensorHeartbeat .. => true
  | .tidemarkUpdateArrive .. => true
  | .windowTimeout .. => true
  | .wcloseWrite .. => true
  | .timerExpiry .. => true
  | .bwRecordArrive .. => true
  | .bwRecordStep .. => true
  | .bwTidemarkStep .. => true
  | .bwFlushStep .. => true
  | .bwReleaseStep .. => true
  | .bwAgeSeal .. => true
  | .bwWindowTimeout .. => true
  | .bwTileDispatch .. => true
  | .bwJobSubmit .. => true
  | .mxeAccept .. => true
  | .jobBankSample .. => true
  | .mxeAdmit .. => true
  | .mxeOperandArrive .. => true
  | .mxeSlotBoundary .. => true
  | .mxeDrainEnd .. => true
  | .mxeJobDone .. => true
  | .mxeCancel .. => true
  | .cbLoadStart .. => true
  | .cbLoadDone .. => true
  | .bankClaimPass .. => true
  | .bankSave .. => true
  | .bankRestore .. => true
  | .cbfetch .. => true
  | .pairCompare .. => true
  | .pairCompareTimeout .. => true
  | .barrierComplete .. => true
  | .barrierReleaseArrive .. => true
  | .barrierTimeout .. => true
  | .waitqAtOwner .. => true
  | .wakeAtOwner .. => true
  | .waiterWoken .. => true
  | .pageWalkDone .. => true
  | .tlbInvalidate .. => true
  | .localPageFillDone .. => true
  | .localPageSpillDone .. => true
  | .ebbFootprint .. => true
  | .ebbCopy .. => true
  | .ebbFill .. => true
  | .ebbSpill .. => true
  | .ebbJobDone .. => true
  | .governorPeriod .. => true
  | .quotaExhausted .. => true
  | .enrgDelivery .. => true
  | .dvfsStepDone .. => true
  | .thermalSample .. => true
  | .contextLoadDone .. => true
  | .contextDrainDone .. => true
  | .contextScrubDone .. => true
  | .boundaryCommit .. => true
  | .boundaryCommitDone .. => true
  | .regionCommit .. => true
  | .regionSwitch .. => true
  | .registerWrite .. => true
  | .linkEnable .. => true
  | .linkTrainingDone .. => true
  | .linkTrainingTimeout .. => true
  | .linkLaneLost .. => true
  | .linkDisable .. => true
  | .ucieReplay .. => true
  | .ucieReroute .. => true
  | .rhoashRecordArrive .. => true
  | .sdioLaunch .. => true
  | .sdioWrite .. => true
  | .sdioRead .. => true
  | .sdioTraceRead .. => true
  | .queryDevice .. => true
  | .queryContexts .. => true
  | .queryLinks .. => true
  | .queryStream .. => true
  | .queryCove .. => true
  | .sdioAttest .. => true
  | .fwCreateContext .. => true
  | .fwDrainContext .. => true
  | .fwResumeContext .. => true
  | .fwMap .. => true
  | .fwUnmap .. => true
  | .fwParkCore .. => true
  | .fwUnparkCore .. => true
  | .fwRetireSource .. => true
  | .fwReviveSource .. => true
  | .fwConfigureStream .. => true
  | .fwSetTimer .. => true
  | .fwLoadKernel .. => true
  | .recoveryStageWrite .. => true
  | .recoveryCommit .. => true
  | .recoveryQuery .. => true
  | .csi2FrameStart .. => true
  | .csi2Packet .. => true
  | .decoderWatchdog .. => true
  | .taxelScan .. => true
  | .taxelFrameDone .. => true
  | .hfrzGo .. => true
  | .hrelGo .. => true
  | .freezeRelease .. => true
  | .hicmdRead .. => true
  | .hicmdWrite .. => true
  | .helogPop .. => true
  | .hwdogReload .. => true
  | .htimeRead .. => true
  | .hfwmbPost .. => true
  | .errorReport .. => true
  | .heartbeatMiss .. => true
  | .lockstepMismatch .. => true
  | .clockFault .. => true
  | .watchdogFault .. => true
  | .frzNAssert .. => true
  | .frzNDeassert .. => true
  | .powerOnReset .. => true
  | .warmReset .. => true
  | .reservedEncoding .. => true
  | .fetchPageTrap .. => true
  | .windowEndClose .. => true
  | .bwWindowEndClose .. => true
  | .predicateComplete .. => true
  | .tgetCopyDone .. => true
  | .trapTargetArrive .. => true
  | .rhoashFrameReplay .. => true

end Sys2Proof
end

