-- ==== Sys2Proof/Decode.lean ====
section
/-! DEFINITION. Frames, the decoder (total on any bytes, rejecting by name) and the encoder, from 02_instruction_word.md and each chapter's encoding tables. -/

namespace Sys2Proof

/-- Bits [lo + len - 1 : lo] of the number `n`. -/
def bits (n lo len : Nat) : Nat := n / 2 ^ lo % 2 ^ len
/-- A field of the word `n`. -/
def fld (n lo len : Nat) : BitVec len := BitVec.ofNat len (n / 2 ^ lo)

/-- C-class major 0x00. `NOP` is a lone word: its fields under a pair head's frame encode nothing (R22; DESIGN CHOICE,
log 79). -/
def decC00 (n : Nat) : Option Instr :=
  if bits n 1 1 = 0 ∧ bits n 8 24 = 0 then some (.nop)
  else if bits n 8 24 = 32768 then some (.halt)
  else if bits n 8 5 = 0 ∧ bits n 23 9 = 2 then some (.haltr (fld n 18 5) (fld n 13 5))
  else if bits n 23 9 = 3 then some (.brk (fld n 8 15))
  else if bits n 23 9 = 4 then some (.sys (fld n 18 5) (fld n 13 5) (fld n 8 5))
  else none

/-- C-class major 0x01. -/
def decC01 (n : Nat) : Option Instr :=
  if bits n 1 1 = 0 then some (.pfx (fld n 30 2) (fld n 27 3) (fld n 26 1) (fld n 25 1) (fld n 21 4) (fld n 18 3) (fld n 13 5) (fld n 8 5))
  else none

/-- C-class major 0x02. -/
def decC02 (n : Nat) : Option Instr :=
  some (.br (fld n 8 24))

/-- C-class major 0x03. -/
def decC03 (n : Nat) : Option Instr :=
  some (.brl (fld n 8 24))

/-- C-class major 0x04. -/
def decC04 (n : Nat) : Option Instr :=
  if bits n 8 5 = 0 ∧ bits n 18 14 = 0 then some (.jr (fld n 13 5))
  else if bits n 18 14 = 32 then some (.jrl (fld n 13 5) (fld n 8 5))
  else none

/-- C-class major 0x05. -/
def decC05 (n : Nat) : Option Instr :=
  some (.bcc (fld n 21 11) (fld n 18 3) (fld n 13 5) (fld n 8 5))

/-- C-class major 0x06. -/
def decC06 (n : Nat) : Option Instr :=
  some (.bmask (fld n 21 11) (fld n 18 3) (fld n 13 5) (fld n 8 5))

/-- C-class major 0x07. -/
def decC07 (n : Nat) : Option Instr :=
  some (.loop (fld n 13 19) (fld n 8 5))

/-- C-class major 0x08. -/
def decC08 (n : Nat) : Option Instr :=
  some (.ld (fld n 23 9) (fld n 20 3) (fld n 18 2) (fld n 13 5) (fld n 8 5))

/-- C-class major 0x09. -/
def decC09 (n : Nat) : Option Instr :=
  some (.st (fld n 23 9) (fld n 20 3) (fld n 18 2) (fld n 13 5) (fld n 8 5))

/-- C-class major 0x0A. -/
def decC0A (n : Nat) : Option Instr :=
  some (.vld (fld n 23 9) (fld n 20 3) (fld n 18 2) (fld n 13 5) (fld n 8 5))

/-- C-class major 0x0B. -/
def decC0B (n : Nat) : Option Instr :=
  some (.vst (fld n 23 9) (fld n 20 3) (fld n 18 2) (fld n 13 5) (fld n 8 5))

/-- C-class major 0x0C. -/
def decC0C (n : Nat) : Option Instr :=
  if bits n 31 1 = 0 then some (.vgather (fld n 28 3) (fld n 26 2) (fld n 24 2) (fld n 23 1) (fld n 18 5) (fld n 13 5) (fld n 8 5))
  else if bits n 31 1 = 1 then some (.vscatter (fld n 28 3) (fld n 26 2) (fld n 24 2) (fld n 23 1) (fld n 18 5) (fld n 13 5) (fld n 8 5))
  else none

/-- C-class major 0x0D. -/
def decC0D (n : Nat) : Option Instr :=
  if bits n 8 5 = 0 ∧ bits n 18 5 = 6 then some (.prefh (fld n 23 9) (fld n 13 5))
  else if bits n 8 5 = 0 ∧ bits n 18 5 = 10 then some (.clean (fld n 23 9) (fld n 13 5))
  else if bits n 8 5 = 0 ∧ bits n 18 5 = 14 then some (.inv (fld n 23 9) (fld n 13 5))
  else if bits n 8 5 = 0 ∧ bits n 20 3 = 0 then some (.pref (fld n 23 9) (fld n 18 2) (fld n 13 5))
  else none

/-- C-class major 0x0E. -/
def decC0E (n : Nat) : Option Instr :=
  if bits n 22 1 = 0 then some (.lda (fld n 26 6) (fld n 23 3) (fld n 20 2) (fld n 18 2) (fld n 13 5) (fld n 8 5))
  else if bits n 22 1 = 1 then some (.strel (fld n 26 6) (fld n 23 3) (fld n 20 2) (fld n 18 2) (fld n 13 5) (fld n 8 5))
  else none

/-- C-class major 0x0F. -/
def decC0F (n : Nat) : Option Instr :=
  if bits n 8 15 = 0 ∧ bits n 28 4 = 0 then some (.fence (fld n 27 1) (fld n 26 1) (fld n 23 3))
  else none

/-- C-class major 0x10. -/
def decC10 (n : Nat) : Option Instr :=
  if bits n 18 7 = 0 ∧ bits n 27 5 = 16 then some (.amoFlags (fld n 25 2) (fld n 13 5) (fld n 8 5))
  else if bits n 23 9 = 243 then some (.amoDep (fld n 18 5) (fld n 13 5) (fld n 8 5))
  else if bits n 25 7 = 56 then some (.amoXaddv (fld n 23 2) (fld n 18 5) (fld n 13 5) (fld n 8 5))
  else if bits n 27 5 = 0 then some (.amoSwap (fld n 25 2) (fld n 23 2) (fld n 18 5) (fld n 13 5) (fld n 8 5))
  else if bits n 27 5 = 1 then some (.amoCas (fld n 25 2) (fld n 23 2) (fld n 18 5) (fld n 13 5) (fld n 8 5))
  else if bits n 27 5 = 2 then some (.amoAdd (fld n 25 2) (fld n 23 2) (fld n 18 5) (fld n 13 5) (fld n 8 5))
  else if bits n 27 5 = 3 then some (.amoAnd (fld n 25 2) (fld n 23 2) (fld n 18 5) (fld n 13 5) (fld n 8 5))
  else if bits n 27 5 = 4 then some (.amoOr (fld n 25 2) (fld n 23 2) (fld n 18 5) (fld n 13 5) (fld n 8 5))
  else if bits n 27 5 = 5 then some (.amoXor (fld n 25 2) (fld n 23 2) (fld n 18 5) (fld n 13 5) (fld n 8 5))
  else if bits n 27 5 = 6 then some (.amoMinS (fld n 25 2) (fld n 23 2) (fld n 18 5) (fld n 13 5) (fld n 8 5))
  else if bits n 27 5 = 7 then some (.amoMaxS (fld n 25 2) (fld n 23 2) (fld n 18 5) (fld n 13 5) (fld n 8 5))
  else if bits n 27 5 = 8 then some (.amoMinZ (fld n 25 2) (fld n 23 2) (fld n 18 5) (fld n 13 5) (fld n 8 5))
  else if bits n 27 5 = 9 then some (.amoMaxZ (fld n 25 2) (fld n 23 2) (fld n 18 5) (fld n 13 5) (fld n 8 5))
  else if bits n 27 5 = 10 then some (.amoFadd (fld n 25 2) (fld n 23 2) (fld n 18 5) (fld n 13 5) (fld n 8 5))
  else if bits n 27 5 = 11 then some (.amoFmin (fld n 25 2) (fld n 23 2) (fld n 18 5) (fld n 13 5) (fld n 8 5))
  else if bits n 27 5 = 12 then some (.amoFmax (fld n 25 2) (fld n 23 2) (fld n 18 5) (fld n 13 5) (fld n 8 5))
  else if bits n 27 5 = 13 then some (.amoXadd (fld n 25 2) (fld n 23 2) (fld n 18 5) (fld n 13 5) (fld n 8 5))
  else none

/-- C-class major 0x11. -/
def decC11 (n : Nat) : Option Instr :=
  if bits n 25 2 = 0 then some (.csrrw (fld n 27 5) (fld n 13 12) (fld n 8 5))
  else if bits n 25 2 = 1 then some (.csrrs (fld n 27 5) (fld n 13 12) (fld n 8 5))
  else if bits n 25 2 = 2 then some (.csrrc (fld n 27 5) (fld n 13 12) (fld n 8 5))
  else none

/-- C-class major 0x12. -/
def decC12 (n : Nat) : Option Instr :=
  if bits n 8 5 = 0 ∧ bits n 18 14 = 32 then some (.mbclr (fld n 13 5))
  else if bits n 23 9 = 0 then some (.mbtake (fld n 18 5) (fld n 13 5) (fld n 8 5))
  else none

/-- C-class major 0x14. -/
def decC14 (n : Nat) : Option Instr :=
  if bits n 8 15 = 0 ∧ bits n 27 5 = 2 then some (.rack (fld n 23 4))
  else if bits n 13 10 = 0 ∧ bits n 27 5 = 0 then some (.recv (fld n 23 4) (fld n 8 5))
  else if bits n 13 10 = 0 ∧ bits n 27 5 = 1 then some (.rpeek (fld n 23 4) (fld n 8 5))
  else if bits n 13 5 = 0 ∧ bits n 27 5 = 3 then some (.qstat (fld n 23 4) (fld n 18 5) (fld n 8 5))
  else none

/-- C-class major 0x15. -/
def decC15 (n : Nat) : Option Instr :=
  if bits n 8 5 = 0 ∧ bits n 18 14 = 1024 then some (.tide (fld n 13 5))
  else if bits n 18 14 = 2048 then some (.tsinh (fld n 13 5) (fld n 8 5))
  else if bits n 23 9 = 0 then some (.emit (fld n 18 5) (fld n 13 5) (fld n 8 5))
  else if bits n 23 9 = 16 then some (.emitl (fld n 18 5) (fld n 13 5) (fld n 8 5))
  else if bits n 23 9 = 48 then some (.tsread (fld n 18 5) (fld n 13 5) (fld n 8 5))
  else none

/-- C-class major 0x16. -/
def decC16 (n : Nat) : Option Instr :=
  if bits n 13 10 = 0 ∧ bits n 26 6 = 0 then some (.tflush (fld n 23 3) (fld n 8 5))
  else if bits n 18 14 = 1024 then some (.trel (fld n 13 5) (fld n 8 5))
  else if bits n 18 14 = 1539 then some (.tstatHandle (fld n 13 5) (fld n 8 5))
  else if bits n 13 5 = 0 ∧ bits n 26 6 = 6 then some (.tstat (fld n 23 3) (fld n 18 5) (fld n 8 5))
  else if bits n 23 9 = 16 then some (.tget (fld n 18 5) (fld n 13 5) (fld n 8 5))
  else none

/-- C-class major 0x17. -/
def decC17 (n : Nat) : Option Instr :=
  if bits n 18 14 = 0 then some (.mxq (fld n 13 5) (fld n 8 5))
  else if bits n 18 14 = 512 then some (.mxpoll (fld n 13 5) (fld n 8 5))
  else if bits n 18 14 = 1024 then some (.mxwait (fld n 13 5) (fld n 8 5))
  else if bits n 18 14 = 1536 then some (.mxcan (fld n 13 5) (fld n 8 5))
  else none

/-- C-class major 0x18. -/
def decC18 (n : Nat) : Option Instr :=
  if bits n 18 14 = 0 then some (.ebq (fld n 13 5) (fld n 8 5))
  else if bits n 18 14 = 512 then some (.ebwait (fld n 13 5) (fld n 8 5))
  else if bits n 18 14 = 768 then some (.ebwaitNw (fld n 13 5) (fld n 8 5))
  else none

/-- C-class major 0x19. -/
def decC19 (n : Nat) : Option Instr :=
  if bits n 8 15 = 0 ∧ bits n 26 6 = 12 then some (.cbinv (fld n 23 3))
  else if bits n 13 10 = 0 ∧ bits n 26 6 = 8 then some (.cbswap (fld n 23 3) (fld n 8 5))
  else if bits n 13 10 = 0 ∧ bits n 26 6 = 20 then some (.cbstat (fld n 23 3) (fld n 8 5))
  else if bits n 13 5 = 0 ∧ bits n 26 6 = 16 then some (.cbrd (fld n 23 3) (fld n 18 5) (fld n 8 5))
  else if bits n 28 4 = 0 then some (.cbld (fld n 26 2) (fld n 23 3) (fld n 18 5) (fld n 13 5) (fld n 8 5))
  else if bits n 28 4 = 1 then some (.cblda (fld n 26 2) (fld n 23 3) (fld n 18 5) (fld n 13 5) (fld n 8 5))
  else none

/-- C-class major 0x1A. -/
def decC1A (n : Nat) : Option Instr :=
  if bits n 18 14 = 6144 then some (.migrate (fld n 13 5) (fld n 8 5))
  else if bits n 23 9 = 128 then some (.amsg (fld n 18 5) (fld n 13 5) (fld n 8 5))
  else if bits n 29 3 = 0 then some (.spawn (fld n 23 6) (fld n 18 5) (fld n 13 5) (fld n 8 5))
  else if bits n 29 3 = 1 then some (.spawnr (fld n 23 6) (fld n 18 5) (fld n 13 5) (fld n 8 5))
  else if bits n 29 3 = 4 then some (.launch (fld n 23 6) (fld n 18 5) (fld n 13 5) (fld n 8 5))
  else none

/-- C-class major 0x1B. -/
def decC1B (n : Nat) : Option Instr :=
  if bits n 8 5 = 0 ∧ bits n 18 14 = 32 then some (.jdone (fld n 13 5))
  else if bits n 8 5 = 0 ∧ bits n 23 9 = 0 then some (.join (fld n 18 5) (fld n 13 5))
  else if bits n 18 14 = 64 then some (.jwait (fld n 13 5) (fld n 8 5))
  else none

/-- C-class major 0x1C. -/
def decC1C (n : Nat) : Option Instr :=
  if bits n 1 1 = 0 ∧ bits n 8 24 = 2097152 then some (.split)
  else if bits n 1 1 = 0 ∧ bits n 13 10 = 0 ∧ bits n 25 7 = 0 then some (.gang (fld n 23 2) (fld n 8 5))
  else if bits n 8 5 = 0 ∧ bits n 18 5 = 0 ∧ bits n 25 7 = 32 then some (.pairchk (fld n 23 2) (fld n 13 5))
  else none

/-- C-class major 0x1D. -/
def decC1D (n : Nat) : Option Instr :=
  if bits n 13 10 = 0 ∧ bits n 24 1 = 0 ∧ bits n 29 3 = 0 then some (.barw (fld n 27 2) (fld n 25 2) (fld n 23 1) (fld n 8 5))
  else if bits n 13 10 = 0 ∧ bits n 24 1 = 0 ∧ bits n 29 3 = 1 then some (.bara (fld n 27 2) (fld n 25 2) (fld n 23 1) (fld n 8 5))
  else if bits n 18 7 = 0 ∧ bits n 29 3 = 2 then some (.bart (fld n 27 2) (fld n 25 2) (fld n 13 5) (fld n 8 5))
  else none

/-- C-class major 0x1E. -/
def decC1E (n : Nat) : Option Instr :=
  if bits n 23 9 = 0 then some (.waitq (fld n 18 5) (fld n 13 5) (fld n 8 5))
  else if bits n 23 9 = 1 then some (.wake (fld n 18 5) (fld n 13 5) (fld n 8 5))
  else none

/-- C-class major 0x1F. -/
def decC1F (n : Nat) : Option Instr :=
  if bits n 8 5 = 0 ∧ bits n 18 14 = 0 then some (.raise (fld n 13 5))
  else if bits n 18 14 = 6144 then some (.tkill (fld n 13 5) (fld n 8 5))
  else if bits n 23 9 = 64 then some (.tinsp (fld n 18 5) (fld n 13 5) (fld n 8 5))
  else if bits n 23 9 = 96 then some (.tinspW (fld n 18 5) (fld n 13 5) (fld n 8 5))
  else if bits n 23 9 = 128 then some (.tresume (fld n 18 5) (fld n 13 5) (fld n 8 5))
  else none

/-- A-class major 0x00. -/
def decA00 (n : Nat) : Option Instr :=
  if bits n 18 5 = 0 ∧ bits n 28 4 = 13 then some (.clz (fld n 23 5) (fld n 13 5) (fld n 8 5))
  else if bits n 18 5 = 0 ∧ bits n 28 4 = 14 then some (.ctz (fld n 23 5) (fld n 13 5) (fld n 8 5))
  else if bits n 18 5 = 0 ∧ bits n 28 4 = 15 then some (.popc (fld n 23 5) (fld n 13 5) (fld n 8 5))
  else if bits n 28 4 = 0 then some (.add (fld n 23 5) (fld n 18 5) (fld n 13 5) (fld n 8 5))
  else if bits n 28 4 = 1 then some (.sub (fld n 23 5) (fld n 18 5) (fld n 13 5) (fld n 8 5))
  else if bits n 28 4 = 2 then some (.and (fld n 23 5) (fld n 18 5) (fld n 13 5) (fld n 8 5))
  else if bits n 28 4 = 3 then some (.or (fld n 23 5) (fld n 18 5) (fld n 13 5) (fld n 8 5))
  else if bits n 28 4 = 4 then some (.xor (fld n 23 5) (fld n 18 5) (fld n 13 5) (fld n 8 5))
  else if bits n 28 4 = 5 then some (.sll (fld n 23 5) (fld n 18 5) (fld n 13 5) (fld n 8 5))
  else if bits n 28 4 = 6 then some (.srl (fld n 23 5) (fld n 18 5) (fld n 13 5) (fld n 8 5))
  else if bits n 28 4 = 7 then some (.sra (fld n 23 5) (fld n 18 5) (fld n 13 5) (fld n 8 5))
  else if bits n 28 4 = 8 then some (.slt (fld n 23 5) (fld n 18 5) (fld n 13 5) (fld n 8 5))
  else if bits n 28 4 = 9 then some (.min (fld n 23 5) (fld n 18 5) (fld n 13 5) (fld n 8 5))
  else if bits n 28 4 = 10 then some (.max (fld n 23 5) (fld n 18 5) (fld n 13 5) (fld n 8 5))
  else if bits n 28 4 = 11 then some (.adds (fld n 23 5) (fld n 18 5) (fld n 13 5) (fld n 8 5))
  else if bits n 28 4 = 12 then some (.subs (fld n 23 5) (fld n 18 5) (fld n 13 5) (fld n 8 5))
  else none

/-- A-class major 0x01. -/
def decA01 (n : Nat) : Option Instr :=
  some (.addi (fld n 18 14) (fld n 13 5) (fld n 8 5))

/-- A-class major 0x02. -/
def decA02 (n : Nat) : Option Instr :=
  some (.andi (fld n 18 14) (fld n 13 5) (fld n 8 5))

/-- A-class major 0x03. -/
def decA03 (n : Nat) : Option Instr :=
  some (.ori (fld n 18 14) (fld n 13 5) (fld n 8 5))

/-- A-class major 0x04. -/
def decA04 (n : Nat) : Option Instr :=
  some (.xori (fld n 18 14) (fld n 13 5) (fld n 8 5))

/-- A-class major 0x05. -/
def decA05 (n : Nat) : Option Instr :=
  if bits n 31 1 = 0 then some (.slti (fld n 18 13) (fld n 13 5) (fld n 8 5))
  else if bits n 31 1 = 1 then some (.sltiz (fld n 18 13) (fld n 13 5) (fld n 8 5))
  else none

/-- A-class major 0x06. -/
def decA06 (n : Nat) : Option Instr :=
  if bits n 24 8 = 0 then some (.slli (fld n 18 6) (fld n 13 5) (fld n 8 5))
  else if bits n 24 8 = 64 then some (.srli (fld n 18 6) (fld n 13 5) (fld n 8 5))
  else if bits n 24 8 = 128 then some (.srai (fld n 18 6) (fld n 13 5) (fld n 8 5))
  else if bits n 24 8 = 192 then some (.rori (fld n 18 6) (fld n 13 5) (fld n 8 5))
  else none

/-- A-class major 0x07. -/
def decA07 (n : Nat) : Option Instr :=
  some (.lui (fld n 18 14) (fld n 13 5) (fld n 8 5))

/-- A-class major 0x08. -/
def decA08 (n : Nat) : Option Instr :=
  if bits n 13 5 = 0 then some (.addpc (fld n 18 14) (fld n 8 5))
  else none

/-- A-class major 0x09. -/
def decA09 (n : Nat) : Option Instr :=
  if bits n 30 2 = 2 then some (.ins (fld n 24 6) (fld n 18 6) (fld n 13 5) (fld n 8 5))
  else if bits n 31 1 = 0 then some (.ext (fld n 30 1) (fld n 24 6) (fld n 18 6) (fld n 13 5) (fld n 8 5))
  else none

/-- A-class major 0x0A. -/
def decA0A (n : Nat) : Option Instr :=
  if bits n 28 4 = 0 then some (.mul (fld n 23 5) (fld n 18 5) (fld n 13 5) (fld n 8 5))
  else if bits n 28 4 = 1 then some (.mulh (fld n 23 5) (fld n 18 5) (fld n 13 5) (fld n 8 5))
  else if bits n 28 4 = 2 then some (.div (fld n 23 5) (fld n 18 5) (fld n 13 5) (fld n 8 5))
  else if bits n 28 4 = 3 then some (.rem (fld n 23 5) (fld n 18 5) (fld n 13 5) (fld n 8 5))
  else if bits n 28 4 = 4 then some (.muls (fld n 23 5) (fld n 18 5) (fld n 13 5) (fld n 8 5))
  else none

/-- A-class major 0x0B. -/
def decA0B (n : Nat) : Option Instr :=
  if bits n 18 5 = 0 ∧ bits n 28 4 = 4 then some (.fsqrt (fld n 23 5) (fld n 13 5) (fld n 8 5))
  else if bits n 18 5 = 0 ∧ bits n 28 4 = 11 then some (.fclass (fld n 23 5) (fld n 13 5) (fld n 8 5))
  else if bits n 28 4 = 0 then some (.fadd (fld n 23 5) (fld n 18 5) (fld n 13 5) (fld n 8 5))
  else if bits n 28 4 = 1 then some (.fsub (fld n 23 5) (fld n 18 5) (fld n 13 5) (fld n 8 5))
  else if bits n 28 4 = 2 then some (.fmul (fld n 23 5) (fld n 18 5) (fld n 13 5) (fld n 8 5))
  else if bits n 28 4 = 3 then some (.fdiv (fld n 23 5) (fld n 18 5) (fld n 13 5) (fld n 8 5))
  else if bits n 28 4 = 5 then some (.fmin (fld n 23 5) (fld n 18 5) (fld n 13 5) (fld n 8 5))
  else if bits n 28 4 = 6 then some (.fmax (fld n 23 5) (fld n 18 5) (fld n 13 5) (fld n 8 5))
  else if bits n 28 4 = 7 then some (.feq (fld n 23 5) (fld n 18 5) (fld n 13 5) (fld n 8 5))
  else if bits n 28 4 = 8 then some (.flt (fld n 23 5) (fld n 18 5) (fld n 13 5) (fld n 8 5))
  else if bits n 28 4 = 9 then some (.fle (fld n 23 5) (fld n 18 5) (fld n 13 5) (fld n 8 5))
  else if bits n 28 4 = 10 then some (.fcvt (fld n 23 5) (fld n 18 5) (fld n 13 5) (fld n 8 5))
  else if bits n 28 4 = 12 then some (.fsgnj (fld n 23 5) (fld n 18 5) (fld n 13 5) (fld n 8 5))
  else if bits n 28 4 = 13 then some (.fsgnjn (fld n 23 5) (fld n 18 5) (fld n 13 5) (fld n 8 5))
  else if bits n 28 4 = 14 then some (.fsgnjx (fld n 23 5) (fld n 18 5) (fld n 13 5) (fld n 8 5))
  else none

/-- A-class major 0x0C. -/
def decA0C (n : Nat) : Option Instr :=
  if bits n 28 4 = 0 then some (.fma (fld n 23 5) (fld n 18 5) (fld n 13 5) (fld n 8 5))
  else if bits n 28 4 = 8 then some (.fnma (fld n 23 5) (fld n 18 5) (fld n 13 5) (fld n 8 5))
  else none

/-- A-class major 0x10. -/
def decA10 (n : Nat) : Option Instr :=
  if bits n 18 5 = 0 ∧ bits n 28 4 = 11 then some (.vabs (fld n 23 5) (fld n 13 5) (fld n 8 5))
  else if bits n 28 4 = 0 then some (.vadd (fld n 23 5) (fld n 18 5) (fld n 13 5) (fld n 8 5))
  else if bits n 28 4 = 1 then some (.vsub (fld n 23 5) (fld n 18 5) (fld n 13 5) (fld n 8 5))
  else if bits n 28 4 = 2 then some (.vmul (fld n 23 5) (fld n 18 5) (fld n 13 5) (fld n 8 5))
  else if bits n 28 4 = 3 then some (.vmulh (fld n 23 5) (fld n 18 5) (fld n 13 5) (fld n 8 5))
  else if bits n 28 4 = 4 then some (.vmin (fld n 23 5) (fld n 18 5) (fld n 13 5) (fld n 8 5))
  else if bits n 28 4 = 5 then some (.vmax (fld n 23 5) (fld n 18 5) (fld n 13 5) (fld n 8 5))
  else if bits n 28 4 = 6 then some (.vadds (fld n 23 5) (fld n 18 5) (fld n 13 5) (fld n 8 5))
  else if bits n 28 4 = 7 then some (.vsubs (fld n 23 5) (fld n 18 5) (fld n 13 5) (fld n 8 5))
  else if bits n 28 4 = 8 then some (.vmuls (fld n 23 5) (fld n 18 5) (fld n 13 5) (fld n 8 5))
  else if bits n 28 4 = 9 then some (.vabsd (fld n 23 5) (fld n 18 5) (fld n 13 5) (fld n 8 5))
  else if bits n 28 4 = 10 then some (.vavg (fld n 23 5) (fld n 18 5) (fld n 13 5) (fld n 8 5))
  else none

/-- A-class major 0x11. -/
def decA11 (n : Nat) : Option Instr :=
  if bits n 18 5 = 0 ∧ bits n 28 4 = 4 then some (.vfsqrt (fld n 23 5) (fld n 13 5) (fld n 8 5))
  else if bits n 28 4 = 0 then some (.vfadd (fld n 23 5) (fld n 18 5) (fld n 13 5) (fld n 8 5))
  else if bits n 28 4 = 1 then some (.vfsub (fld n 23 5) (fld n 18 5) (fld n 13 5) (fld n 8 5))
  else if bits n 28 4 = 2 then some (.vfmul (fld n 23 5) (fld n 18 5) (fld n 13 5) (fld n 8 5))
  else if bits n 28 4 = 3 then some (.vfdiv (fld n 23 5) (fld n 18 5) (fld n 13 5) (fld n 8 5))
  else if bits n 28 4 = 5 then some (.vfmin (fld n 23 5) (fld n 18 5) (fld n 13 5) (fld n 8 5))
  else if bits n 28 4 = 6 then some (.vfmax (fld n 23 5) (fld n 18 5) (fld n 13 5) (fld n 8 5))
  else if bits n 28 4 = 7 then some (.vfsgnj (fld n 23 5) (fld n 18 5) (fld n 13 5) (fld n 8 5))
  else if bits n 28 4 = 8 then some (.vfsgnjn (fld n 23 5) (fld n 18 5) (fld n 13 5) (fld n 8 5))
  else if bits n 28 4 = 9 then some (.vfsgnjx (fld n 23 5) (fld n 18 5) (fld n 13 5) (fld n 8 5))
  else none

/-- A-class major 0x12. -/
def decA12 (n : Nat) : Option Instr :=
  if bits n 31 1 = 0 then some (.vfma (fld n 28 3) (fld n 23 5) (fld n 18 5) (fld n 13 5) (fld n 8 5))
  else if bits n 31 1 = 1 then some (.vfnma (fld n 28 3) (fld n 23 5) (fld n 18 5) (fld n 13 5) (fld n 8 5))
  else none

/-- A-class major 0x13. -/
def decA13 (n : Nat) : Option Instr :=
  if bits n 28 4 = 0 then some (.vand (fld n 23 5) (fld n 18 5) (fld n 13 5) (fld n 8 5))
  else if bits n 28 4 = 1 then some (.vor (fld n 23 5) (fld n 18 5) (fld n 13 5) (fld n 8 5))
  else if bits n 28 4 = 2 then some (.vxor (fld n 23 5) (fld n 18 5) (fld n 13 5) (fld n 8 5))
  else if bits n 28 4 = 3 then some (.vandn (fld n 23 5) (fld n 18 5) (fld n 13 5) (fld n 8 5))
  else if bits n 28 4 = 4 then some (.vsll (fld n 23 5) (fld n 18 5) (fld n 13 5) (fld n 8 5))
  else if bits n 28 4 = 5 then some (.vsrl (fld n 23 5) (fld n 18 5) (fld n 13 5) (fld n 8 5))
  else if bits n 28 4 = 6 then some (.vsra (fld n 23 5) (fld n 18 5) (fld n 13 5) (fld n 8 5))
  else if bits n 28 4 = 7 then some (.vror (fld n 23 5) (fld n 18 5) (fld n 13 5) (fld n 8 5))
  else none

/-- A-class major 0x14. -/
def decA14 (n : Nat) : Option Instr :=
  if bits n 28 4 = 0 then some (.vceq (fld n 23 5) (fld n 18 5) (fld n 13 5) (fld n 8 5))
  else if bits n 28 4 = 1 then some (.vcne (fld n 23 5) (fld n 18 5) (fld n 13 5) (fld n 8 5))
  else if bits n 28 4 = 2 then some (.vclt (fld n 23 5) (fld n 18 5) (fld n 13 5) (fld n 8 5))
  else if bits n 28 4 = 3 then some (.vcle (fld n 23 5) (fld n 18 5) (fld n 13 5) (fld n 8 5))
  else if bits n 28 4 = 4 then some (.vctst (fld n 23 5) (fld n 18 5) (fld n 13 5) (fld n 8 5))
  else if bits n 31 1 = 1 then some (.vsel (fld n 28 3) (fld n 23 5) (fld n 18 5) (fld n 13 5) (fld n 8 5))
  else none

/-- A-class major 0x15. -/
def decA15 (n : Nat) : Option Instr :=
  some (.vcvt (fld n 31 1) (fld n 28 3) (fld n 23 5) (fld n 18 5) (fld n 13 5) (fld n 8 5))

/-- A-class major 0x16. -/
def decA16 (n : Nat) : Option Instr :=
  if bits n 13 5 = 0 ∧ bits n 28 4 = 3 then some (.vbcast (fld n 23 5) (fld n 18 5) (fld n 8 5))
  else if bits n 28 4 = 0 then some (.vperm (fld n 23 5) (fld n 18 5) (fld n 13 5) (fld n 8 5))
  else if bits n 28 4 = 1 then some (.vslideup (fld n 23 5) (fld n 18 5) (fld n 13 5) (fld n 8 5))
  else if bits n 28 4 = 2 then some (.vslidedn (fld n 23 5) (fld n 18 5) (fld n 13 5) (fld n 8 5))
  else if bits n 28 4 = 4 then some (.vbcastl (fld n 23 5) (fld n 18 5) (fld n 13 5) (fld n 8 5))
  else if bits n 28 4 = 5 then some (.vext (fld n 23 5) (fld n 18 5) (fld n 13 5) (fld n 8 5))
  else if bits n 28 4 = 6 then some (.vins (fld n 23 5) (fld n 18 5) (fld n 13 5) (fld n 8 5))
  else if bits n 28 4 = 7 then some (.vzipl (fld n 23 5) (fld n 18 5) (fld n 13 5) (fld n 8 5))
  else if bits n 28 4 = 8 then some (.vziph (fld n 23 5) (fld n 18 5) (fld n 13 5) (fld n 8 5))
  else if bits n 28 4 = 9 then some (.vuzpe (fld n 23 5) (fld n 18 5) (fld n 13 5) (fld n 8 5))
  else if bits n 28 4 = 10 then some (.vuzpo (fld n 23 5) (fld n 18 5) (fld n 13 5) (fld n 8 5))
  else none

/-- A-class major 0x17. -/
def decA17 (n : Nat) : Option Instr :=
  if bits n 28 4 = 0 then some (.vredsum (fld n 23 5) (fld n 18 5) (fld n 13 5) (fld n 8 5))
  else if bits n 28 4 = 1 then some (.vredmin (fld n 23 5) (fld n 18 5) (fld n 13 5) (fld n 8 5))
  else if bits n 28 4 = 2 then some (.vredmax (fld n 23 5) (fld n 18 5) (fld n 13 5) (fld n 8 5))
  else if bits n 28 4 = 3 then some (.vdot (fld n 23 5) (fld n 18 5) (fld n 13 5) (fld n 8 5))
  else if bits n 28 4 = 4 then some (.vscan (fld n 23 5) (fld n 18 5) (fld n 13 5) (fld n 8 5))
  else if bits n 28 4 = 5 then some (.vscanmin (fld n 23 5) (fld n 18 5) (fld n 13 5) (fld n 8 5))
  else if bits n 28 4 = 6 then some (.vscanmax (fld n 23 5) (fld n 18 5) (fld n 13 5) (fld n 8 5))
  else if bits n 30 2 = 3 then some (.vmxsc (fld n 28 2) (fld n 23 5) (fld n 18 5) (fld n 13 5) (fld n 8 5))
  else none

/-- A-class major 0x18. -/
def decA18 (n : Nat) : Option Instr :=
  if bits n 18 14 = 4096 then some (.mnot (fld n 13 5) (fld n 8 5))
  else if bits n 18 14 = 5120 then some (.mpopc (fld n 13 5) (fld n 8 5))
  else if bits n 18 14 = 6144 then some (.mfirst (fld n 13 5) (fld n 8 5))
  else if bits n 18 14 = 7168 then some (.mfromg (fld n 13 5) (fld n 8 5))
  else if bits n 18 14 = 8192 then some (.mtog (fld n 13 5) (fld n 8 5))
  else if bits n 13 10 = 0 ∧ bits n 28 4 = 9 then some (.mlanes (fld n 23 5) (fld n 8 5))
  else if bits n 23 9 = 0 then some (.mand (fld n 18 5) (fld n 13 5) (fld n 8 5))
  else if bits n 23 9 = 32 then some (.mor (fld n 18 5) (fld n 13 5) (fld n 8 5))
  else if bits n 23 9 = 64 then some (.mxor (fld n 18 5) (fld n 13 5) (fld n 8 5))
  else if bits n 23 9 = 96 then some (.mandn (fld n 18 5) (fld n 13 5) (fld n 8 5))
  else none

/-- A-class major 0x19. -/
def decA19 (n : Nat) : Option Instr :=
  if bits n 1 1 = 0 ∧ bits n 18 7 = 0 ∧ bits n 29 3 = 0 then some (.gori2 (fld n 28 1) (fld n 25 3) (fld n 13 5) (fld n 8 5))
  else if bits n 1 1 = 0 ∧ bits n 18 7 = 0 ∧ bits n 29 3 = 1 then some (.gori3 (fld n 28 1) (fld n 25 3) (fld n 13 5) (fld n 8 5))
  else if bits n 1 1 = 0 ∧ bits n 18 7 = 0 ∧ bits n 29 3 = 2 then some (.ginc (fld n 28 1) (fld n 25 3) (fld n 13 5) (fld n 8 5))
  else if bits n 1 1 = 0 ∧ bits n 18 7 = 0 ∧ bits n 29 3 = 3 then some (.gins (fld n 28 1) (fld n 25 3) (fld n 13 5) (fld n 8 5))
  else if bits n 1 1 = 0 ∧ bits n 18 7 = 0 ∧ bits n 29 3 = 4 then some (.gseg (fld n 28 1) (fld n 25 3) (fld n 13 5) (fld n 8 5))
  else none

/-- A-class major 0x1A. -/
def decA1A (n : Nat) : Option Instr :=
  if bits n 1 1 = 0 ∧ bits n 8 5 = 0 ∧ bits n 18 5 = 0 ∧ bits n 28 4 = 0 then some (.xclr (fld n 23 5) (fld n 13 5))
  else if bits n 1 1 = 0 ∧ bits n 18 14 = 2528 then some (.xrnd (fld n 13 5) (fld n 8 5))
  else if bits n 1 1 = 0 ∧ bits n 28 4 = 1 then some (.xadd (fld n 23 5) (fld n 18 5) (fld n 13 5) (fld n 8 5))
  else none

/-- A-class major 0x1B. -/
def decA1B (n : Nat) : Option Instr :=
  some (.cbx (fld n 28 4) (fld n 23 5) (fld n 18 5) (fld n 13 5) (fld n 8 5))

/-- The row whose fixed bits the word has, whatever its role in a bundle (R28, R29). -/
def decodeRaw (n : Nat) : Option Instr :=
  if bits n 0 1 = 0 then
    match bits n 2 6 with
    | 0x00 => decC00 n
    | 0x01 => decC01 n
    | 0x02 => decC02 n
    | 0x03 => decC03 n
    | 0x04 => decC04 n
    | 0x05 => decC05 n
    | 0x06 => decC06 n
    | 0x07 => decC07 n
    | 0x08 => decC08 n
    | 0x09 => decC09 n
    | 0x0A => decC0A n
    | 0x0B => decC0B n
    | 0x0C => decC0C n
    | 0x0D => decC0D n
    | 0x0E => decC0E n
    | 0x0F => decC0F n
    | 0x10 => decC10 n
    | 0x11 => decC11 n
    | 0x12 => decC12 n
    | 0x14 => decC14 n
    | 0x15 => decC15 n
    | 0x16 => decC16 n
    | 0x17 => decC17 n
    | 0x18 => decC18 n
    | 0x19 => decC19 n
    | 0x1A => decC1A n
    | 0x1B => decC1B n
    | 0x1C => decC1C n
    | 0x1D => decC1D n
    | 0x1E => decC1E n
    | 0x1F => decC1F n
    | _ => none
  else
    match bits n 2 6 with
    | 0x00 => decA00 n
    | 0x01 => decA01 n
    | 0x02 => decA02 n
    | 0x03 => decA03 n
    | 0x04 => decA04 n
    | 0x05 => decA05 n
    | 0x06 => decA06 n
    | 0x07 => decA07 n
    | 0x08 => decA08 n
    | 0x09 => decA09 n
    | 0x0A => decA0A n
    | 0x0B => decA0B n
    | 0x0C => decA0C n
    | 0x10 => decA10 n
    | 0x11 => decA11 n
    | 0x12 => decA12 n
    | 0x13 => decA13 n
    | 0x14 => decA14 n
    | 0x15 => decA15 n
    | 0x16 => decA16 n
    | 0x17 => decA17 n
    | 0x18 => decA18 n
    | 0x19 => decA19 n
    | 0x1A => decA1A n
    | 0x1B => decA1B n
    | _ => none

/-- Why a word is no instruction. -/
inductive DecodeError where
  /-- fewer than four bytes -/
  | truncated
  /-- no row has the word's fixed bits (R27, R28, R29) -/
  | reservedEncoding
  /-- a field holds a value its description lists as reserved (R30) -/
  | reservedValue
  deriving DecidableEq, Repr

/-- A word's instruction, or the name of what is wrong. -/
def decode (w : BitVec 32) : Except DecodeError Instr :=
  match decodeRaw w.toNat with
  | none => .error .reservedEncoding
  | some i => if i.wellFormed then .ok i else .error .reservedValue

/-- A word's instruction, if it has one. -/
def decodeWord (w : BitVec 32) : Option Instr :=
  match decode w with
  | .ok i => some i
  | .error _ => none

/-- A little-endian number from bytes (R2). -/
def leNat : List Byte → Nat
  | [] => 0
  | b :: t => b.toNat + 256 * leNat t

/-- The `n` low bytes of a number, lowest first (R2). -/
def leBytes : Nat → Nat → List Byte
  | 0, _ => []
  | n + 1, x => BitVec.ofNat 8 x :: leBytes n (x / 256)

/-- The instruction at the head of a byte string, with the bytes after it. -/
def decodeBytes : List Byte → Except DecodeError (Instr × List Byte)
  | a :: b :: c :: d :: rest =>
    match decode (BitVec.ofNat 32 (leNat [a, b, c, d])) with
    | .ok i => .ok (i, rest)
    | .error e => .error e
  | _ => .error .truncated

/-- What the decoder reads from a table row's bits: one 32-bit word, stored as four bytes, lowest first. -/
def decodeTableWord (nbits w : Nat) : Option Instr :=
  match decodeBytes (leBytes 4 (w % 2 ^ nbits)) with
  | .ok (i, _) => some i
  | .error _ => none

/-- Whether the word is a C-class word (R19). -/
def isC (w : BitVec 32) : Bool := w.toNat % 2 == 0
/-- Whether the word is a pair head (R19). -/
def isHead (w : BitVec 32) : Bool := w.toNat % 4 == 2
/-- Whether the word is a pair tail (R19). -/
def isTail (w : BitVec 32) : Bool := w.toNat % 4 == 3
/-- The word's major opcode (R23). -/
def major (w : BitVec 32) : Nat := bits w.toNat 2 6

/-- The number `w` with the field value `x` placed from bit `lo` up. -/
def put (w x lo : Nat) : Nat := w + x * 2 ^ lo

/-- The number of an instruction's word, as a lone word (Tables 2.2 to 2.7 and each chapter's own); none for an event. -/
def encodeNat : Instr → Option Nat
  | .nop => some 0x0
  | .halt => some 0x800000
  | .haltr b a => some (put (put 0x1000000 b.toNat 18) a.toNat 13)
  | .brk c => some (put 0x1800000 c.toNat 8)
  | .sys s a d => some (put (put (put 0x2000000 s.toNat 18) a.toNat 13) d.toNat 8)
  | .pfx r s y x g k b a => some (put (put (put (put (put (put (put (put 0x4 r.toNat 30) s.toNat 27) y.toNat 26) x.toNat 25) g.toNat 21) k.toNat 18) b.toNat 13) a.toNat 8)
  | .br o => some (put 0x8 o.toNat 8)
  | .brl o => some (put 0xC o.toNat 8)
  | .jr a => some (put 0x10 a.toNat 13)
  | .jrl a d => some (put (put 0x800010 a.toNat 13) d.toNat 8)
  | .bcc o c b a => some (put (put (put (put 0x14 o.toNat 21) c.toNat 18) b.toNat 13) a.toNat 8)
  | .bmask o c b a => some (put (put (put (put 0x18 o.toNat 21) c.toNat 18) b.toNat 13) a.toNat 8)
  | .loop i c => some (put (put 0x1C i.toNat 13) c.toNat 8)
  | .ld o s m b d => some (put (put (put (put (put 0x20 o.toNat 23) s.toNat 20) m.toNat 18) b.toNat 13) d.toNat 8)
  | .st o s m b d => some (put (put (put (put (put 0x24 o.toNat 23) s.toNat 20) m.toNat 18) b.toNat 13) d.toNat 8)
  | .vld o s m b d => some (put (put (put (put (put 0x28 o.toNat 23) s.toNat 20) m.toNat 18) b.toNat 13) d.toNat 8)
  | .vst o s m b d => some (put (put (put (put (put 0x2C o.toNat 23) s.toNat 20) m.toNat 18) b.toNat 13) d.toNat 8)
  | .vgather g s m x b a d => some (put (put (put (put (put (put (put 0x30 g.toNat 28) s.toNat 26) m.toNat 24) x.toNat 23) b.toNat 18) a.toNat 13) d.toNat 8)
  | .vscatter g s m x b a d => some (put (put (put (put (put (put (put 0x80000030 g.toNat 28) s.toNat 26) m.toNat 24) x.toNat 23) b.toNat 18) a.toNat 13) d.toNat 8)
  | .pref o m b => some (put (put (put 0x34 o.toNat 23) m.toNat 18) b.toNat 13)
  | .prefh o b => some (put (put 0x180034 o.toNat 23) b.toNat 13)
  | .clean o b => some (put (put 0x280034 o.toNat 23) b.toNat 13)
  | .inv o b => some (put (put 0x380034 o.toNat 23) b.toNat 13)
  | .lda o s z m b d => some (put (put (put (put (put (put 0x38 o.toNat 26) s.toNat 23) z.toNat 20) m.toNat 18) b.toNat 13) d.toNat 8)
  | .strel o s z m b d => some (put (put (put (put (put (put 0x400038 o.toNat 26) s.toNat 23) z.toNat 20) m.toNat 18) b.toNat 13) d.toNat 8)
  | .fence r a s => some (put (put (put 0x3C r.toNat 27) a.toNat 26) s.toNat 23)
  | .amoSwap m w b a d => some (put (put (put (put (put 0x40 m.toNat 25) w.toNat 23) b.toNat 18) a.toNat 13) d.toNat 8)
  | .amoCas m w b a d => some (put (put (put (put (put 0x8000040 m.toNat 25) w.toNat 23) b.toNat 18) a.toNat 13) d.toNat 8)
  | .amoAdd m w b a d => some (put (put (put (put (put 0x10000040 m.toNat 25) w.toNat 23) b.toNat 18) a.toNat 13) d.toNat 8)
  | .amoAnd m w b a d => some (put (put (put (put (put 0x18000040 m.toNat 25) w.toNat 23) b.toNat 18) a.toNat 13) d.toNat 8)
  | .amoOr m w b a d => some (put (put (put (put (put 0x20000040 m.toNat 25) w.toNat 23) b.toNat 18) a.toNat 13) d.toNat 8)
  | .amoXor m w b a d => some (put (put (put (put (put 0x28000040 m.toNat 25) w.toNat 23) b.toNat 18) a.toNat 13) d.toNat 8)
  | .amoMinS m w b a d => some (put (put (put (put (put 0x30000040 m.toNat 25) w.toNat 23) b.toNat 18) a.toNat 13) d.toNat 8)
  | .amoMaxS m w b a d => some (put (put (put (put (put 0x38000040 m.toNat 25) w.toNat 23) b.toNat 18) a.toNat 13) d.toNat 8)
  | .amoMinZ m w b a d => some (put (put (put (put (put 0x40000040 m.toNat 25) w.toNat 23) b.toNat 18) a.toNat 13) d.toNat 8)
  | .amoMaxZ m w b a d => some (put (put (put (put (put 0x48000040 m.toNat 25) w.toNat 23) b.toNat 18) a.toNat 13) d.toNat 8)
  | .amoFadd m w b a d => some (put (put (put (put (put 0x50000040 m.toNat 25) w.toNat 23) b.toNat 18) a.toNat 13) d.toNat 8)
  | .amoFmin m w b a d => some (put (put (put (put (put 0x58000040 m.toNat 25) w.toNat 23) b.toNat 18) a.toNat 13) d.toNat 8)
  | .amoFmax m w b a d => some (put (put (put (put (put 0x60000040 m.toNat 25) w.toNat 23) b.toNat 18) a.toNat 13) d.toNat 8)
  | .amoXadd m w b a d => some (put (put (put (put (put 0x68000040 m.toNat 25) w.toNat 23) b.toNat 18) a.toNat 13) d.toNat 8)
  | .amoXaddv w b a d => some (put (put (put (put 0x70000040 w.toNat 23) b.toNat 18) a.toNat 13) d.toNat 8)
  | .amoDep b a d => some (put (put (put 0x79800040 b.toNat 18) a.toNat 13) d.toNat 8)
  | .amoFlags m a d => some (put (put (put 0x80000040 m.toNat 25) a.toNat 13) d.toNat 8)
  | .csrrw s c d => some (put (put (put 0x44 s.toNat 27) c.toNat 13) d.toNat 8)
  | .csrrs s c d => some (put (put (put 0x2000044 s.toNat 27) c.toNat 13) d.toNat 8)
  | .csrrc s c d => some (put (put (put 0x4000044 s.toNat 27) c.toNat 13) d.toNat 8)
  | .mbtake b a d => some (put (put (put 0x48 b.toNat 18) a.toNat 13) d.toNat 8)
  | .mbclr a => some (put 0x800048 a.toNat 13)
  | .recv q d => some (put (put 0x50 q.toNat 23) d.toNat 8)
  | .rpeek q d => some (put (put 0x8000050 q.toNat 23) d.toNat 8)
  | .rack q => some (put 0x10000050 q.toNat 23)
  | .qstat q s d => some (put (put (put 0x18000050 q.toNat 23) s.toNat 18) d.toNat 8)
  | .emit b a d => some (put (put (put 0x54 b.toNat 18) a.toNat 13) d.toNat 8)
  | .emitl b a d => some (put (put (put 0x8000054 b.toNat 18) a.toNat 13) d.toNat 8)
  | .tide a => some (put 0x10000054 a.toNat 13)
  | .tsread s a d => some (put (put (put 0x18000054 s.toNat 18) a.toNat 13) d.toNat 8)
  | .tsinh a d => some (put (put 0x20000054 a.toNat 13) d.toNat 8)
  | .tflush s d => some (put (put 0x58 s.toNat 23) d.toNat 8)
  | .tget b a d => some (put (put (put 0x8000058 b.toNat 18) a.toNat 13) d.toNat 8)
  | .trel a d => some (put (put 0x10000058 a.toNat 13) d.toNat 8)
  | .tstat s b d => some (put (put (put 0x18000058 s.toNat 23) b.toNat 18) d.toNat 8)
  | .tstatHandle a d => some (put (put 0x180C0058 a.toNat 13) d.toNat 8)
  | .mxq a d => some (put (put 0x5C a.toNat 13) d.toNat 8)
  | .mxpoll a d => some (put (put 0x800005C a.toNat 13) d.toNat 8)
  | .mxwait a d => some (put (put 0x1000005C a.toNat 13) d.toNat 8)
  | .mxcan a d => some (put (put 0x1800005C a.toNat 13) d.toNat 8)
  | .ebq a d => some (put (put 0x60 a.toNat 13) d.toNat 8)
  | .ebwait a d => some (put (put 0x8000060 a.toNat 13) d.toNat 8)
  | .ebwaitNw a d => some (put (put 0xC000060 a.toNat 13) d.toNat 8)
  | .cbld m k b a d => some (put (put (put (put (put 0x64 m.toNat 26) k.toNat 23) b.toNat 18) a.toNat 13) d.toNat 8)
  | .cblda m k b a d => some (put (put (put (put (put 0x10000064 m.toNat 26) k.toNat 23) b.toNat 18) a.toNat 13) d.toNat 8)
  | .cbswap k d => some (put (put 0x20000064 k.toNat 23) d.toNat 8)
  | .cbinv k => some (put 0x30000064 k.toNat 23)
  | .cbrd k b d => some (put (put (put 0x40000064 k.toNat 23) b.toNat 18) d.toNat 8)
  | .cbstat k d => some (put (put 0x50000064 k.toNat 23) d.toNat 8)
  | .spawn p b a d => some (put (put (put (put 0x68 p.toNat 23) b.toNat 18) a.toNat 13) d.toNat 8)
  | .spawnr p b a d => some (put (put (put (put 0x20000068 p.toNat 23) b.toNat 18) a.toNat 13) d.toNat 8)
  | .amsg b a d => some (put (put (put 0x40000068 b.toNat 18) a.toNat 13) d.toNat 8)
  | .migrate a d => some (put (put 0x60000068 a.toNat 13) d.toNat 8)
  | .launch p b a d => some (put (put (put (put 0x80000068 p.toNat 23) b.toNat 18) a.toNat 13) d.toNat 8)
  | .join b a => some (put (put 0x6C b.toNat 18) a.toNat 13)
  | .jdone a => some (put 0x80006C a.toNat 13)
  | .jwait a d => some (put (put 0x100006C a.toNat 13) d.toNat 8)
  | .gang k d => some (put (put 0x70 k.toNat 23) d.toNat 8)
  | .split => some 0x20000070
  | .pairchk n a => some (put (put 0x40000070 n.toNat 23) a.toNat 13)
  | .barw o c n d => some (put (put (put (put 0x74 o.toNat 27) c.toNat 25) n.toNat 23) d.toNat 8)
  | .bara o c n d => some (put (put (put (put 0x20000074 o.toNat 27) c.toNat 25) n.toNat 23) d.toNat 8)
  | .bart o c a d => some (put (put (put (put 0x40000074 o.toNat 27) c.toNat 25) a.toNat 13) d.toNat 8)
  | .waitq b a d => some (put (put (put 0x78 b.toNat 18) a.toNat 13) d.toNat 8)
  | .wake b a d => some (put (put (put 0x800078 b.toNat 18) a.toNat 13) d.toNat 8)
  | .raise a => some (put 0x7C a.toNat 13)
  | .tinsp b a d => some (put (put (put 0x2000007C b.toNat 18) a.toNat 13) d.toNat 8)
  | .tinspW b a s => some (put (put (put 0x3000007C b.toNat 18) a.toNat 13) s.toNat 8)
  | .tresume b a d => some (put (put (put 0x4000007C b.toNat 18) a.toNat 13) d.toNat 8)
  | .tkill a d => some (put (put 0x6000007C a.toNat 13) d.toNat 8)
  | .add t b a d => some (put (put (put (put 0x1 t.toNat 23) b.toNat 18) a.toNat 13) d.toNat 8)
  | .sub t b a d => some (put (put (put (put 0x10000001 t.toNat 23) b.toNat 18) a.toNat 13) d.toNat 8)
  | .and t b a d => some (put (put (put (put 0x20000001 t.toNat 23) b.toNat 18) a.toNat 13) d.toNat 8)
  | .or t b a d => some (put (put (put (put 0x30000001 t.toNat 23) b.toNat 18) a.toNat 13) d.toNat 8)
  | .xor t b a d => some (put (put (put (put 0x40000001 t.toNat 23) b.toNat 18) a.toNat 13) d.toNat 8)
  | .sll t b a d => some (put (put (put (put 0x50000001 t.toNat 23) b.toNat 18) a.toNat 13) d.toNat 8)
  | .srl t b a d => some (put (put (put (put 0x60000001 t.toNat 23) b.toNat 18) a.toNat 13) d.toNat 8)
  | .sra t b a d => some (put (put (put (put 0x70000001 t.toNat 23) b.toNat 18) a.toNat 13) d.toNat 8)
  | .slt t b a d => some (put (put (put (put 0x80000001 t.toNat 23) b.toNat 18) a.toNat 13) d.toNat 8)
  | .min t b a d => some (put (put (put (put 0x90000001 t.toNat 23) b.toNat 18) a.toNat 13) d.toNat 8)
  | .max t b a d => some (put (put (put (put 0xA0000001 t.toNat 23) b.toNat 18) a.toNat 13) d.toNat 8)
  | .adds t b a d => some (put (put (put (put 0xB0000001 t.toNat 23) b.toNat 18) a.toNat 13) d.toNat 8)
  | .subs t b a d => some (put (put (put (put 0xC0000001 t.toNat 23) b.toNat 18) a.toNat 13) d.toNat 8)
  | .clz t a d => some (put (put (put 0xD0000001 t.toNat 23) a.toNat 13) d.toNat 8)
  | .ctz t a d => some (put (put (put 0xE0000001 t.toNat 23) a.toNat 13) d.toNat 8)
  | .popc t a d => some (put (put (put 0xF0000001 t.toNat 23) a.toNat 13) d.toNat 8)
  | .addi i a d => some (put (put (put 0x5 i.toNat 18) a.toNat 13) d.toNat 8)
  | .andi i a d => some (put (put (put 0x9 i.toNat 18) a.toNat 13) d.toNat 8)
  | .ori i a d => some (put (put (put 0xD i.toNat 18) a.toNat 13) d.toNat 8)
  | .xori i a d => some (put (put (put 0x11 i.toNat 18) a.toNat 13) d.toNat 8)
  | .slti i a d => some (put (put (put 0x15 i.toNat 18) a.toNat 13) d.toNat 8)
  | .sltiz i a d => some (put (put (put 0x80000015 i.toNat 18) a.toNat 13) d.toNat 8)
  | .slli s a d => some (put (put (put 0x19 s.toNat 18) a.toNat 13) d.toNat 8)
  | .srli s a d => some (put (put (put 0x40000019 s.toNat 18) a.toNat 13) d.toNat 8)
  | .srai s a d => some (put (put (put 0x80000019 s.toNat 18) a.toNat 13) d.toNat 8)
  | .rori s a d => some (put (put (put 0xC0000019 s.toNat 18) a.toNat 13) d.toNat 8)
  | .lui i a d => some (put (put (put 0x1D i.toNat 18) a.toNat 13) d.toNat 8)
  | .addpc i d => some (put (put 0x21 i.toNat 18) d.toNat 8)
  | .ext x l p a d => some (put (put (put (put (put 0x25 x.toNat 30) l.toNat 24) p.toNat 18) a.toNat 13) d.toNat 8)
  | .ins l p a d => some (put (put (put (put 0x80000025 l.toNat 24) p.toNat 18) a.toNat 13) d.toNat 8)
  | .mul t b a d => some (put (put (put (put 0x29 t.toNat 23) b.toNat 18) a.toNat 13) d.toNat 8)
  | .mulh t b a d => some (put (put (put (put 0x10000029 t.toNat 23) b.toNat 18) a.toNat 13) d.toNat 8)
  | .div t b a d => some (put (put (put (put 0x20000029 t.toNat 23) b.toNat 18) a.toNat 13) d.toNat 8)
  | .rem t b a d => some (put (put (put (put 0x30000029 t.toNat 23) b.toNat 18) a.toNat 13) d.toNat 8)
  | .muls t b a d => some (put (put (put (put 0x40000029 t.toNat 23) b.toNat 18) a.toNat 13) d.toNat 8)
  | .fadd t b a d => some (put (put (put (put 0x2D t.toNat 23) b.toNat 18) a.toNat 13) d.toNat 8)
  | .fsub t b a d => some (put (put (put (put 0x1000002D t.toNat 23) b.toNat 18) a.toNat 13) d.toNat 8)
  | .fmul t b a d => some (put (put (put (put 0x2000002D t.toNat 23) b.toNat 18) a.toNat 13) d.toNat 8)
  | .fdiv t b a d => some (put (put (put (put 0x3000002D t.toNat 23) b.toNat 18) a.toNat 13) d.toNat 8)
  | .fsqrt t a d => some (put (put (put 0x4000002D t.toNat 23) a.toNat 13) d.toNat 8)
  | .fmin t b a d => some (put (put (put (put 0x5000002D t.toNat 23) b.toNat 18) a.toNat 13) d.toNat 8)
  | .fmax t b a d => some (put (put (put (put 0x6000002D t.toNat 23) b.toNat 18) a.toNat 13) d.toNat 8)
  | .feq t b a d => some (put (put (put (put 0x7000002D t.toNat 23) b.toNat 18) a.toNat 13) d.toNat 8)
  | .flt t b a d => some (put (put (put (put 0x8000002D t.toNat 23) b.toNat 18) a.toNat 13) d.toNat 8)
  | .fle t b a d => some (put (put (put (put 0x9000002D t.toNat 23) b.toNat 18) a.toNat 13) d.toNat 8)
  | .fcvt s t a d => some (put (put (put (put 0xA000002D s.toNat 23) t.toNat 18) a.toNat 13) d.toNat 8)
  | .fclass t a d => some (put (put (put 0xB000002D t.toNat 23) a.toNat 13) d.toNat 8)
  | .fsgnj t b a d => some (put (put (put (put 0xC000002D t.toNat 23) b.toNat 18) a.toNat 13) d.toNat 8)
  | .fsgnjn t b a d => some (put (put (put (put 0xD000002D t.toNat 23) b.toNat 18) a.toNat 13) d.toNat 8)
  | .fsgnjx t b a d => some (put (put (put (put 0xE000002D t.toNat 23) b.toNat 18) a.toNat 13) d.toNat 8)
  | .fma c b a d => some (put (put (put (put 0x31 c.toNat 23) b.toNat 18) a.toNat 13) d.toNat 8)
  | .fnma c b a d => some (put (put (put (put 0x80000031 c.toNat 23) b.toNat 18) a.toNat 13) d.toNat 8)
  | .vadd t b a d => some (put (put (put (put 0x41 t.toNat 23) b.toNat 18) a.toNat 13) d.toNat 8)
  | .vsub t b a d => some (put (put (put (put 0x10000041 t.toNat 23) b.toNat 18) a.toNat 13) d.toNat 8)
  | .vmul t b a d => some (put (put (put (put 0x20000041 t.toNat 23) b.toNat 18) a.toNat 13) d.toNat 8)
  | .vmulh t b a d => some (put (put (put (put 0x30000041 t.toNat 23) b.toNat 18) a.toNat 13) d.toNat 8)
  | .vmin t b a d => some (put (put (put (put 0x40000041 t.toNat 23) b.toNat 18) a.toNat 13) d.toNat 8)
  | .vmax t b a d => some (put (put (put (put 0x50000041 t.toNat 23) b.toNat 18) a.toNat 13) d.toNat 8)
  | .vadds t b a d => some (put (put (put (put 0x60000041 t.toNat 23) b.toNat 18) a.toNat 13) d.toNat 8)
  | .vsubs t b a d => some (put (put (put (put 0x70000041 t.toNat 23) b.toNat 18) a.toNat 13) d.toNat 8)
  | .vmuls t b a d => some (put (put (put (put 0x80000041 t.toNat 23) b.toNat 18) a.toNat 13) d.toNat 8)
  | .vabsd t b a d => some (put (put (put (put 0x90000041 t.toNat 23) b.toNat 18) a.toNat 13) d.toNat 8)
  | .vavg t b a d => some (put (put (put (put 0xA0000041 t.toNat 23) b.toNat 18) a.toNat 13) d.toNat 8)
  | .vabs t a d => some (put (put (put 0xB0000041 t.toNat 23) a.toNat 13) d.toNat 8)
  | .vfadd t b a d => some (put (put (put (put 0x45 t.toNat 23) b.toNat 18) a.toNat 13) d.toNat 8)
  | .vfsub t b a d => some (put (put (put (put 0x10000045 t.toNat 23) b.toNat 18) a.toNat 13) d.toNat 8)
  | .vfmul t b a d => some (put (put (put (put 0x20000045 t.toNat 23) b.toNat 18) a.toNat 13) d.toNat 8)
  | .vfdiv t b a d => some (put (put (put (put 0x30000045 t.toNat 23) b.toNat 18) a.toNat 13) d.toNat 8)
  | .vfsqrt t a d => some (put (put (put 0x40000045 t.toNat 23) a.toNat 13) d.toNat 8)
  | .vfmin t b a d => some (put (put (put (put 0x50000045 t.toNat 23) b.toNat 18) a.toNat 13) d.toNat 8)
  | .vfmax t b a d => some (put (put (put (put 0x60000045 t.toNat 23) b.toNat 18) a.toNat 13) d.toNat 8)
  | .vfsgnj t b a d => some (put (put (put (put 0x70000045 t.toNat 23) b.toNat 18) a.toNat 13) d.toNat 8)
  | .vfsgnjn t b a d => some (put (put (put (put 0x80000045 t.toNat 23) b.toNat 18) a.toNat 13) d.toNat 8)
  | .vfsgnjx t b a d => some (put (put (put (put 0x90000045 t.toNat 23) b.toNat 18) a.toNat 13) d.toNat 8)
  | .vfma m c b a d => some (put (put (put (put (put 0x49 m.toNat 28) c.toNat 23) b.toNat 18) a.toNat 13) d.toNat 8)
  | .vfnma m c b a d => some (put (put (put (put (put 0x80000049 m.toNat 28) c.toNat 23) b.toNat 18) a.toNat 13) d.toNat 8)
  | .vand t b a d => some (put (put (put (put 0x4D t.toNat 23) b.toNat 18) a.toNat 13) d.toNat 8)
  | .vor t b a d => some (put (put (put (put 0x1000004D t.toNat 23) b.toNat 18) a.toNat 13) d.toNat 8)
  | .vxor t b a d => some (put (put (put (put 0x2000004D t.toNat 23) b.toNat 18) a.toNat 13) d.toNat 8)
  | .vandn t b a d => some (put (put (put (put 0x3000004D t.toNat 23) b.toNat 18) a.toNat 13) d.toNat 8)
  | .vsll t b a d => some (put (put (put (put 0x4000004D t.toNat 23) b.toNat 18) a.toNat 13) d.toNat 8)
  | .vsrl t b a d => some (put (put (put (put 0x5000004D t.toNat 23) b.toNat 18) a.toNat 13) d.toNat 8)
  | .vsra t b a d => some (put (put (put (put 0x6000004D t.toNat 23) b.toNat 18) a.toNat 13) d.toNat 8)
  | .vror t b a d => some (put (put (put (put 0x7000004D t.toNat 23) b.toNat 18) a.toNat 13) d.toNat 8)
  | .vceq t b a d => some (put (put (put (put 0x51 t.toNat 23) b.toNat 18) a.toNat 13) d.toNat 8)
  | .vcne t b a d => some (put (put (put (put 0x10000051 t.toNat 23) b.toNat 18) a.toNat 13) d.toNat 8)
  | .vclt t b a d => some (put (put (put (put 0x20000051 t.toNat 23) b.toNat 18) a.toNat 13) d.toNat 8)
  | .vcle t b a d => some (put (put (put (put 0x30000051 t.toNat 23) b.toNat 18) a.toNat 13) d.toNat 8)
  | .vctst t b a d => some (put (put (put (put 0x40000051 t.toNat 23) b.toNat 18) a.toNat 13) d.toNat 8)
  | .vsel s t b a d => some (put (put (put (put (put 0x80000051 s.toNat 28) t.toNat 23) b.toNat 18) a.toNat 13) d.toNat 8)
  | .vcvt x p s t a d => some (put (put (put (put (put (put 0x55 x.toNat 31) p.toNat 28) s.toNat 23) t.toNat 18) a.toNat 13) d.toNat 8)
  | .vperm t b a d => some (put (put (put (put 0x59 t.toNat 23) b.toNat 18) a.toNat 13) d.toNat 8)
  | .vslideup t b a d => some (put (put (put (put 0x10000059 t.toNat 23) b.toNat 18) a.toNat 13) d.toNat 8)
  | .vslidedn t b a d => some (put (put (put (put 0x20000059 t.toNat 23) b.toNat 18) a.toNat 13) d.toNat 8)
  | .vbcast t b d => some (put (put (put 0x30000059 t.toNat 23) b.toNat 18) d.toNat 8)
  | .vbcastl t b a d => some (put (put (put (put 0x40000059 t.toNat 23) b.toNat 18) a.toNat 13) d.toNat 8)
  | .vext t b a d => some (put (put (put (put 0x50000059 t.toNat 23) b.toNat 18) a.toNat 13) d.toNat 8)
  | .vins t b a d => some (put (put (put (put 0x60000059 t.toNat 23) b.toNat 18) a.toNat 13) d.toNat 8)
  | .vzipl t b a d => some (put (put (put (put 0x70000059 t.toNat 23) b.toNat 18) a.toNat 13) d.toNat 8)
  | .vziph t b a d => some (put (put (put (put 0x80000059 t.toNat 23) b.toNat 18) a.toNat 13) d.toNat 8)
  | .vuzpe t b a d => some (put (put (put (put 0x90000059 t.toNat 23) b.toNat 18) a.toNat 13) d.toNat 8)
  | .vuzpo t b a d => some (put (put (put (put 0xA0000059 t.toNat 23) b.toNat 18) a.toNat 13) d.toNat 8)
  | .vredsum t b a d => some (put (put (put (put 0x5D t.toNat 23) b.toNat 18) a.toNat 13) d.toNat 8)
  | .vredmin t b a d => some (put (put (put (put 0x1000005D t.toNat 23) b.toNat 18) a.toNat 13) d.toNat 8)
  | .vredmax t b a d => some (put (put (put (put 0x2000005D t.toNat 23) b.toNat 18) a.toNat 13) d.toNat 8)
  | .vdot t b a d => some (put (put (put (put 0x3000005D t.toNat 23) b.toNat 18) a.toNat 13) d.toNat 8)
  | .vscan t b a d => some (put (put (put (put 0x4000005D t.toNat 23) b.toNat 18) a.toNat 13) d.toNat 8)
  | .vscanmin t b a d => some (put (put (put (put 0x5000005D t.toNat 23) b.toNat 18) a.toNat 13) d.toNat 8)
  | .vscanmax t b a d => some (put (put (put (put 0x6000005D t.toNat 23) b.toNat 18) a.toNat 13) d.toNat 8)
  | .vmxsc j s e a d => some (put (put (put (put (put 0xC000005D j.toNat 28) s.toNat 23) e.toNat 18) a.toNat 13) d.toNat 8)
  | .mand b a d => some (put (put (put 0x61 b.toNat 18) a.toNat 13) d.toNat 8)
  | .mor b a d => some (put (put (put 0x10000061 b.toNat 18) a.toNat 13) d.toNat 8)
  | .mxor b a d => some (put (put (put 0x20000061 b.toNat 18) a.toNat 13) d.toNat 8)
  | .mandn b a d => some (put (put (put 0x30000061 b.toNat 18) a.toNat 13) d.toNat 8)
  | .mnot a d => some (put (put 0x40000061 a.toNat 13) d.toNat 8)
  | .mpopc a d => some (put (put 0x50000061 a.toNat 13) d.toNat 8)
  | .mfirst a d => some (put (put 0x60000061 a.toNat 13) d.toNat 8)
  | .mfromg a d => some (put (put 0x70000061 a.toNat 13) d.toNat 8)
  | .mtog a d => some (put (put 0x80000061 a.toNat 13) d.toNat 8)
  | .mlanes t d => some (put (put 0x90000061 t.toNat 23) d.toNat 8)
  | .gori2 f g a d => some (put (put (put (put 0x65 f.toNat 28) g.toNat 25) a.toNat 13) d.toNat 8)
  | .gori3 f g a d => some (put (put (put (put 0x20000065 f.toNat 28) g.toNat 25) a.toNat 13) d.toNat 8)
  | .ginc f g a d => some (put (put (put (put 0x40000065 f.toNat 28) g.toNat 25) a.toNat 13) d.toNat 8)
  | .gins f g a d => some (put (put (put (put 0x60000065 f.toNat 28) g.toNat 25) a.toNat 13) d.toNat 8)
  | .gseg f g a d => some (put (put (put (put 0x80000065 f.toNat 28) g.toNat 25) a.toNat 13) d.toNat 8)
  | .xclr t a => some (put (put 0x69 t.toNat 23) a.toNat 13)
  | .xadd t b a m => some (put (put (put (put 0x10000069 t.toNat 23) b.toNat 18) a.toNat 13) m.toNat 8)
  | .xrnd a d => some (put (put 0x27800069 a.toNat 13) d.toNat 8)
  | .cbx s k n a d => some (put (put (put (put (put 0x6D s.toNat 28) k.toNat 23) n.toNat 18) a.toNat 13) d.toNat 8)
  | .taskBudget .. => none
  | .globalLoadReturn .. => none
  | .coveAccessArrive .. => none
  | .writebackAck .. => none
  | .atomicPerform .. => none
  | .atomicReply .. => none
  | .sysHeartbeat .. => none
  | .sysTrace .. => none
  | .sysReply .. => none
  | .stealProbe .. => none
  | .stealReply .. => none
  | .stealRetry .. => none
  | .spawnrArrive .. => none
  | .spawnrReply .. => none
  | .amsgArrive .. => none
  | .amsgReply .. => none
  | .migrateArrive .. => none
  | .jdonePerform .. => none
  | .recordArrive .. => none
  | .recordResend .. => none
  | .recordResendRetry .. => none
  | .overflowRecord .. => none
  | .emitAccept .. => none
  | .emitTimeout .. => none
  | .sensorHeartbeat .. => none
  | .tidemarkUpdateArrive .. => none
  | .windowTimeout .. => none
  | .wcloseWrite .. => none
  | .timerExpiry .. => none
  | .bwRecordArrive .. => none
  | .bwRecordStep .. => none
  | .bwTidemarkStep .. => none
  | .bwFlushStep .. => none
  | .bwReleaseStep .. => none
  | .bwAgeSeal .. => none
  | .bwWindowTimeout .. => none
  | .bwTileDispatch .. => none
  | .bwJobSubmit .. => none
  | .mxeAccept .. => none
  | .jobBankSample .. => none
  | .mxeAdmit .. => none
  | .mxeOperandArrive .. => none
  | .mxeSlotBoundary .. => none
  | .mxeDrainEnd .. => none
  | .mxeJobDone .. => none
  | .mxeCancel .. => none
  | .cbLoadStart .. => none
  | .cbLoadDone .. => none
  | .bankClaimPass .. => none
  | .bankSave .. => none
  | .bankRestore .. => none
  | .cbfetch .. => none
  | .pairCompare .. => none
  | .pairCompareTimeout .. => none
  | .barrierComplete .. => none
  | .barrierReleaseArrive .. => none
  | .barrierTimeout .. => none
  | .waitqAtOwner .. => none
  | .wakeAtOwner .. => none
  | .waiterWoken .. => none
  | .pageWalkDone .. => none
  | .tlbInvalidate .. => none
  | .localPageFillDone .. => none
  | .localPageSpillDone .. => none
  | .ebbFootprint .. => none
  | .ebbCopy .. => none
  | .ebbFill .. => none
  | .ebbSpill .. => none
  | .ebbJobDone .. => none
  | .governorPeriod .. => none
  | .quotaExhausted .. => none
  | .enrgDelivery .. => none
  | .dvfsStepDone .. => none
  | .thermalSample .. => none
  | .contextLoadDone .. => none
  | .contextDrainDone .. => none
  | .contextScrubDone .. => none
  | .boundaryCommit .. => none
  | .boundaryCommitDone .. => none
  | .regionCommit .. => none
  | .regionSwitch .. => none
  | .registerWrite .. => none
  | .linkEnable .. => none
  | .linkTrainingDone .. => none
  | .linkTrainingTimeout .. => none
  | .linkLaneLost .. => none
  | .linkDisable .. => none
  | .ucieReplay .. => none
  | .ucieReroute .. => none
  | .rhoashRecordArrive .. => none
  | .sdioLaunch .. => none
  | .sdioWrite .. => none
  | .sdioRead .. => none
  | .sdioTraceRead .. => none
  | .queryDevice .. => none
  | .queryContexts .. => none
  | .queryLinks .. => none
  | .queryStream .. => none
  | .queryCove .. => none
  | .sdioAttest .. => none
  | .fwCreateContext .. => none
  | .fwDrainContext .. => none
  | .fwResumeContext .. => none
  | .fwMap .. => none
  | .fwUnmap .. => none
  | .fwParkCore .. => none
  | .fwUnparkCore .. => none
  | .fwRetireSource .. => none
  | .fwReviveSource .. => none
  | .fwConfigureStream .. => none
  | .fwSetTimer .. => none
  | .fwLoadKernel .. => none
  | .recoveryStageWrite .. => none
  | .recoveryCommit .. => none
  | .recoveryQuery .. => none
  | .csi2FrameStart .. => none
  | .csi2Packet .. => none
  | .decoderWatchdog .. => none
  | .taxelScan .. => none
  | .taxelFrameDone .. => none
  | .hfrzGo .. => none
  | .hrelGo .. => none
  | .freezeRelease .. => none
  | .hicmdRead .. => none
  | .hicmdWrite .. => none
  | .helogPop .. => none
  | .hwdogReload .. => none
  | .htimeRead .. => none
  | .hfwmbPost .. => none
  | .errorReport .. => none
  | .heartbeatMiss .. => none
  | .lockstepMismatch .. => none
  | .clockFault .. => none
  | .watchdogFault .. => none
  | .frzNAssert .. => none
  | .frzNDeassert .. => none
  | .powerOnReset .. => none
  | .warmReset .. => none
  | .reservedEncoding .. => none
  | .fetchPageTrap .. => none
  | .windowEndClose .. => none
  | .bwWindowEndClose .. => none
  | .predicateComplete .. => none
  | .tgetCopyDone .. => none
  | .trapTargetArrive .. => none
  | .rhoashFrameReplay .. => none

/-- Whether an instruction's word may also stand in a pair (R22, R34, R292, R307). -/
def Instr.pairs : Instr → Bool
  | .nop .. => false
  | .pfx .. => false
  | .gang .. => false
  | .split .. => false
  | .gori2 .. => false
  | .gori3 .. => false
  | .ginc .. => false
  | .gins .. => false
  | .gseg .. => false
  | .xclr .. => false
  | .xadd .. => false
  | .xrnd .. => false
  | .taskBudget .. => false
  | .globalLoadReturn .. => false
  | .coveAccessArrive .. => false
  | .writebackAck .. => false
  | .atomicPerform .. => false
  | .atomicReply .. => false
  | .sysHeartbeat .. => false
  | .sysTrace .. => false
  | .sysReply .. => false
  | .stealProbe .. => false
  | .stealReply .. => false
  | .stealRetry .. => false
  | .spawnrArrive .. => false
  | .spawnrReply .. => false
  | .amsgArrive .. => false
  | .amsgReply .. => false
  | .migrateArrive .. => false
  | .jdonePerform .. => false
  | .recordArrive .. => false
  | .recordResend .. => false
  | .recordResendRetry .. => false
  | .overflowRecord .. => false
  | .emitAccept .. => false
  | .emitTimeout .. => false
  | .sensorHeartbeat .. => false
  | .tidemarkUpdateArrive .. => false
  | .windowTimeout .. => false
  | .wcloseWrite .. => false
  | .timerExpiry .. => false
  | .bwRecordArrive .. => false
  | .bwRecordStep .. => false
  | .bwTidemarkStep .. => false
  | .bwFlushStep .. => false
  | .bwReleaseStep .. => false
  | .bwAgeSeal .. => false
  | .bwWindowTimeout .. => false
  | .bwTileDispatch .. => false
  | .bwJobSubmit .. => false
  | .mxeAccept .. => false
  | .jobBankSample .. => false
  | .mxeAdmit .. => false
  | .mxeOperandArrive .. => false
  | .mxeSlotBoundary .. => false
  | .mxeDrainEnd .. => false
  | .mxeJobDone .. => false
  | .mxeCancel .. => false
  | .cbLoadStart .. => false
  | .cbLoadDone .. => false
  | .bankClaimPass .. => false
  | .bankSave .. => false
  | .bankRestore .. => false
  | .cbfetch .. => false
  | .pairCompare .. => false
  | .pairCompareTimeout .. => false
  | .barrierComplete .. => false
  | .barrierReleaseArrive .. => false
  | .barrierTimeout .. => false
  | .waitqAtOwner .. => false
  | .wakeAtOwner .. => false
  | .waiterWoken .. => false
  | .pageWalkDone .. => false
  | .tlbInvalidate .. => false
  | .localPageFillDone .. => false
  | .localPageSpillDone .. => false
  | .ebbFootprint .. => false
  | .ebbCopy .. => false
  | .ebbFill .. => false
  | .ebbSpill .. => false
  | .ebbJobDone .. => false
  | .governorPeriod .. => false
  | .quotaExhausted .. => false
  | .enrgDelivery .. => false
  | .dvfsStepDone .. => false
  | .thermalSample .. => false
  | .contextLoadDone .. => false
  | .contextDrainDone .. => false
  | .contextScrubDone .. => false
  | .boundaryCommit .. => false
  | .boundaryCommitDone .. => false
  | .regionCommit .. => false
  | .regionSwitch .. => false
  | .registerWrite .. => false
  | .linkEnable .. => false
  | .linkTrainingDone .. => false
  | .linkTrainingTimeout .. => false
  | .linkLaneLost .. => false
  | .linkDisable .. => false
  | .ucieReplay .. => false
  | .ucieReroute .. => false
  | .rhoashRecordArrive .. => false
  | .sdioLaunch .. => false
  | .sdioWrite .. => false
  | .sdioRead .. => false
  | .sdioTraceRead .. => false
  | .queryDevice .. => false
  | .queryContexts .. => false
  | .queryLinks .. => false
  | .queryStream .. => false
  | .queryCove .. => false
  | .sdioAttest .. => false
  | .fwCreateContext .. => false
  | .fwDrainContext .. => false
  | .fwResumeContext .. => false
  | .fwMap .. => false
  | .fwUnmap .. => false
  | .fwParkCore .. => false
  | .fwUnparkCore .. => false
  | .fwRetireSource .. => false
  | .fwReviveSource .. => false
  | .fwConfigureStream .. => false
  | .fwSetTimer .. => false
  | .fwLoadKernel .. => false
  | .recoveryStageWrite .. => false
  | .recoveryCommit .. => false
  | .recoveryQuery .. => false
  | .csi2FrameStart .. => false
  | .csi2Packet .. => false
  | .decoderWatchdog .. => false
  | .taxelScan .. => false
  | .taxelFrameDone .. => false
  | .hfrzGo .. => false
  | .hrelGo .. => false
  | .freezeRelease .. => false
  | .hicmdRead .. => false
  | .hicmdWrite .. => false
  | .helogPop .. => false
  | .hwdogReload .. => false
  | .htimeRead .. => false
  | .hfwmbPost .. => false
  | .errorReport .. => false
  | .heartbeatMiss .. => false
  | .lockstepMismatch .. => false
  | .clockFault .. => false
  | .watchdogFault .. => false
  | .frzNAssert .. => false
  | .frzNDeassert .. => false
  | .powerOnReset .. => false
  | .warmReset .. => false
  | .reservedEncoding .. => false
  | .fetchPageTrap .. => false
  | .windowEndClose .. => false
  | .bwWindowEndClose .. => false
  | .predicateComplete .. => false
  | .tgetCopyDone .. => false
  | .trapTargetArrive .. => false
  | .rhoashFrameReplay .. => false
  | _ => true

/-- The word of an instruction as a lone word. -/
def encode (i : Instr) : Option (BitVec 32) := (encodeNat i).map (BitVec.ofNat 32)
/-- The word of an instruction as the head or tail of a pair, where it may stand in one. -/
def encodePaired (i : Instr) : Option (BitVec 32) :=
  if i.pairs then (encodeNat i).map (fun n => BitVec.ofNat 32 (n + 2)) else none

end Sys2Proof
end

