-- ==== Sys2Proof/Machine/Flags.lean ====
section
/-! DEFINITION. Number formats, the one rounding function, conversions, flags and exact sums (03_numbers.md). -/

namespace Sys2Proof.Machine

/-- `FFLAGS` bits (Table 3.6). -/
abbrev Flags := BitVec 5
abbrev Flags.NV : Flags := 16
abbrev Flags.DZ : Flags := 8
abbrev Flags.OF : Flags := 4
abbrev Flags.UF : Flags := 2
abbrev Flags.NX : Flags := 1

/-- Special encodings of a format: IEEE infinities and NaNs, the one NaN of E4M3, or none (Table 3.2). -/
inductive Special where
  | ieee | one | none
  deriving DecidableEq, Repr

/-- A floating-point format (Table 3.1). -/
structure Fmt where
  e : Nat
  m : Nat
  bias : Nat
  sp : Special
  deriving DecidableEq, Repr

/-- The format of a type code from 8 to 16 (Table 2.12); f64 for any other. -/
def fmtOf (t : Nat) : Fmt :=
  match t with
  | 8 => ⟨2, 1, 1, .none⟩ | 9 => ⟨2, 3, 1, .none⟩ | 10 => ⟨3, 2, 3, .none⟩ | 11 => ⟨4, 3, 7, .one⟩
  | 12 => ⟨5, 2, 15, .ieee⟩ | 13 => ⟨8, 7, 127, .ieee⟩ | 14 => ⟨5, 10, 15, .ieee⟩ | 15 => ⟨8, 23, 127, .ieee⟩
  | _ => ⟨11, 52, 1023, .ieee⟩

/-- The sign's weight. -/
def Fmt.signBit (f : Fmt) : Nat := 2 ^ (f.e + f.m)
/-- Pattern of +infinity, in the formats that have one. -/
def Fmt.infPat (f : Fmt) : Nat := (2 ^ f.e - 1) * 2 ^ f.m
/-- Pattern of the largest finite value (Table 3.2). -/
def Fmt.maxPat (f : Fmt) : Nat :=
  match f.sp with
  | .ieee => f.infPat - 1
  | .one => 2 ^ (f.e + f.m) - 2
  | .none => 2 ^ (f.e + f.m) - 1
/-- The NaN that the device produces (Table 3.2). -/
def Fmt.nanPat (f : Fmt) : Nat :=
  match f.sp with
  | .ieee => if f.m = 2 then 0x7F else f.infPat + 2 ^ (f.m - 1)
  | _ => 0x7F

/-- A value: a NaN, an infinity, or `± m × 2^x` exactly. -/
inductive Fp where
  | nan (neg signalling : Bool)
  | inf (neg : Bool)
  | fin (neg : Bool) (m : Nat) (x : Int)
  deriving DecidableEq, Repr

/-- The value of an encoding (R46, R47). -/
def Fp.read (f : Fmt) (p : Nat) : Fp :=
  let neg := decide (p / f.signBit % 2 = 1)
  let ex := p / 2 ^ f.m % 2 ^ f.e
  let fr := p % 2 ^ f.m
  if f.sp = .ieee ∧ ex = 2 ^ f.e - 1 then
    if fr = 0 then .inf neg else .nan neg (decide (f.m ≠ 2 ∧ fr < 2 ^ (f.m - 1)))
  else if f.sp = .one ∧ p % f.signBit = 0x7F then .nan neg false
  else if ex = 0 then .fin neg fr (1 - (f.bias : Int) - f.m)
  else .fin neg (2 ^ f.m + fr) ((ex : Int) - f.bias - f.m)

def Fp.isNan : Fp → Bool
  | .nan .. => true
  | _ => false
def Fp.isSignalling : Fp → Bool
  | .nan _ s => s
  | _ => false
def Fp.neg? : Fp → Bool
  | .nan n _ => n
  | .inf n => n
  | .fin n _ _ => n
def Fp.isZero : Fp → Bool
  | .fin _ 0 _ => true
  | _ => false
def Fp.isInf : Fp → Bool
  | .inf _ => true
  | _ => false
/-- The value with its sign inverted. -/
def Fp.flip : Fp → Fp
  | .nan n s => .nan (!n) s
  | .inf n => .inf (!n)
  | .fin n m x => .fin (!n) m x

/-- What rounding a magnitude gives: the pattern without its sign, whether it passes the largest finite value,
inexactness, and tininess after rounding (R52, R53). -/
structure Rounded where
  pat : Nat
  ovf : Bool
  nx : Bool
  tiny : Bool
  deriving DecidableEq, Repr

/-- `lo` and the position within the spacing: `m` in units of `2^sh`, whether above lo, and the comparison of the
rest with half a unit. `st` says the exact value lies above `m` by less than one unit of `m`. -/
def roundUnits (neg : Bool) (m sh : Nat) (st : Bool) (rm : Nat) : Nat × Bool :=
  let lo := m / 2 ^ sh
  let r := m % 2 ^ sh
  let nx := st || r ≠ 0
  let half := 2 ^ sh
  let up : Bool :=
    if !nx then false
    else if rm = 0 then
      if 2 * r < half then false
      else if 2 * r > half ∨ st then true
      else lo % 2 = 1
    else if rm = 1 then false
    else if rm = 2 then !neg
    else neg
  (if up then lo + 1 else lo, nx)

/-- `round_fp` of R52 on `m × 2^x` (with sticky bit `st`), `m` not 0. -/
def roundMag (f : Fmt) (rm : Nat) (neg : Bool) (m : Nat) (x : Int) (st : Bool) : Rounded :=
  let top : Int := (Nat.log2 m : Int) + x
  let emin : Int := 1 - (f.bias : Int)
  let ex := max top emin
  let q := ex - f.m
  let (n, nx) :=
    if x ≥ q then (m * 2 ^ (x - q).toNat, st) else roundUnits neg m (q - x).toNat st rm
  let pat := ((ex + f.bias).toNat) * 2 ^ f.m + n - 2 ^ f.m
  let tiny :=
    if top ≥ emin then false
    else if top < emin - 1 then true
    else
      let qu := top - f.m
      let nu := if x ≥ qu then m * 2 ^ (x - qu).toNat else (roundUnits neg m (qu - x).toNat st rm).1
      decide (nu < 2 ^ (f.m + 1))
  ⟨pat, decide (pat > f.maxPat), nx, tiny⟩

/-- A rounded result's pattern and flags; overflow as IEEE 754 gives for the direction (R52). -/
def overflowPat (f : Fmt) (rm : Nat) (neg : Bool) : Nat :=
  let s := if neg then f.signBit else 0
  if rm = 0 ∨ (rm = 2 ∧ !neg) ∨ (rm = 3 ∧ neg) then s + f.infPat else s + f.maxPat

/-- Flags of a finite rounding without overflow. -/
def roundFlags (r : Rounded) : Flags :=
  (if r.nx then Flags.NX else 0) ||| (if r.nx && r.tiny then Flags.UF else 0)

/-- The pattern and flags of an exact finite result in an IEEE format (R52, R53). A zero keeps its sign. -/
def roundFin (f : Fmt) (rm : Nat) (neg : Bool) (m : Nat) (x : Int) (st : Bool) : Nat × Flags :=
  let s := if neg then f.signBit else 0
  if m = 0 then (s, 0)
  else
    let r := roundMag f rm neg m x st
    if r.ovf then (overflowPat f rm neg, Flags.OF ||| Flags.NX) else (s + r.pat, roundFlags r)

/-- A result in an IEEE format: arithmetic NaNs become the produced NaN (R55). -/
def Fp.toPat (f : Fmt) (rm : Nat) : Fp → Nat × Flags
  | .nan .. => (f.nanPat, 0)
  | .inf n => ((if n then f.signBit else 0) + f.infPat, 0)
  | .fin n m x => roundFin f rm n m x false

def snan (a : Fp) : Flags := if a.isSignalling then Flags.NV else 0
/-- A signed integer in units of `2^x`. -/
def signedAt (neg : Bool) (m : Nat) (x y : Int) : Int :=
  let v : Int := m * 2 ^ (x - y).toNat
  if neg then -v else v

/-- The exact sum; an exact zero of unlike signs is +0, or −0 under RDN (R52). -/
def Fp.addExact (rm : Nat) (a b : Fp) : Fp × Flags :=
  let fl := snan a ||| snan b
  match a, b with
  | .nan .., _ => (.nan false false, fl)
  | _, .nan .. => (.nan false false, fl)
  | .inf n, .inf k => if n = k then (.inf n, fl) else (.nan false false, fl ||| Flags.NV)
  | .inf n, _ => (.inf n, fl)
  | _, .inf n => (.inf n, fl)
  | .fin n m x, .fin k l y =>
    if m = 0 ∧ l = 0 then (.fin (if n = k then n else rm = 3) 0 0, fl)
    else
      let z := min x y
      let v := signedAt n m x z + signedAt k l y z
      if v = 0 then (.fin (rm = 3) 0 0, fl) else (.fin (decide (v < 0)) v.natAbs z, fl)

/-- The exact product (R52). -/
def Fp.mulExact (a b : Fp) : Fp × Flags :=
  let fl := snan a ||| snan b
  let n := a.neg? != b.neg?
  match a, b with
  | .nan .., _ => (.nan false false, fl)
  | _, .nan .. => (.nan false false, fl)
  | .inf _, b => if b.isZero then (.nan false false, fl ||| Flags.NV) else (.inf n, fl)
  | a, .inf _ => if a.isZero then (.nan false false, fl ||| Flags.NV) else (.inf n, fl)
  | .fin _ m x, .fin _ l y => (.fin n (m * l) (x + y), fl)

def fpFinish (f : Fmt) (rm : Nat) (r : Fp × Flags) : Nat × Flags :=
  let (p, fl) := r.1.toPat f rm
  (p, r.2 ||| fl)

/-- Sum in a format, rounded once. -/
def fpAdd (f : Fmt) (rm : Nat) (a b : Nat) : Nat × Flags :=
  fpFinish f rm (Fp.addExact rm (Fp.read f a) (Fp.read f b))
def fpSub (f : Fmt) (rm : Nat) (a b : Nat) : Nat × Flags :=
  fpFinish f rm (Fp.addExact rm (Fp.read f a) (Fp.read f b).flip)
def fpMul (f : Fmt) (rm : Nat) (a b : Nat) : Nat × Flags :=
  fpFinish f rm (Fp.mulExact (Fp.read f a) (Fp.read f b))
/-- Fused multiply-add with one rounding; 0 × ∞ sets `NV` even with a quiet NaN addend (R61, R95). -/
def fpFma (f : Fmt) (rm : Nat) (neg : Bool) (a b c : Nat) : Nat × Flags :=
  let (p, f1) := Fp.mulExact (Fp.read f a) (Fp.read f b)
  let p := if neg then p.flip else p
  let (r, f2) := Fp.addExact rm p (Fp.read f c)
  fpFinish f rm (r, f1 ||| f2)
/-- Quotient, rounded once; a finite nonzero value over zero gives an infinity and `DZ` (Table 5.4). -/
def fpDiv (f : Fmt) (rm : Nat) (a b : Nat) : Nat × Flags :=
  let x := Fp.read f a
  let y := Fp.read f b
  let fl := snan x ||| snan y
  let n := x.neg? != y.neg?
  let s := if n then f.signBit else 0
  match x, y with
  | .nan .., _ => (f.nanPat, fl)
  | _, .nan .. => (f.nanPat, fl)
  | .inf _, .inf _ => (f.nanPat, Flags.NV)
  | .inf _, _ => (s + f.infPat, 0)
  | _, .inf _ => (s, 0)
  | .fin _ m e, .fin _ l g =>
    if l = 0 then (if m = 0 then (f.nanPat, Flags.NV) else (s + f.infPat, Flags.DZ))
    else
      let k := 70 + Nat.log2 l
      let q := m * 2 ^ k / l
      roundFin f rm n q (e - g - k) (decide (m * 2 ^ k % l ≠ 0))
/-- Integer square root, by bits from `2^i` down. -/
def isqrt (n : Nat) : Nat → Nat → Nat
  | 0, r => if (r + 1) * (r + 1) ≤ n then r + 1 else r
  | i + 1, r => isqrt n i (if (r + 2 ^ (i + 1)) * (r + 2 ^ (i + 1)) ≤ n then r + 2 ^ (i + 1) else r)
/-- Square root, rounded once (Table 5.4). -/
def fpSqrt (f : Fmt) (rm : Nat) (a : Nat) : Nat × Flags :=
  match Fp.read f a with
  | .nan _ s => (f.nanPat, if s then Flags.NV else 0)
  | .inf true => (f.nanPat, Flags.NV)
  | .inf false => (f.infPat, 0)
  | .fin n m e =>
    if m = 0 then ((if n then f.signBit else 0), 0)
    else if n then (f.nanPat, Flags.NV)
    else
      let (m', e') := if e % 2 = 0 then (m, e) else (2 * m, e - 1)
      let v := m' * 2 ^ 160
      let r := isqrt v (Nat.log2 v / 2 + 1) 0
      roundFin f rm false r (e' / 2 - 80) (decide (r * r ≠ v))

/-- The order of two values that are no NaN. -/
def Fp.cmp (a b : Fp) : Ordering :=
  match a, b with
  | .inf n, .inf k => if n = k then .eq else if n then .lt else .gt
  | .inf n, _ => if n then .lt else .gt
  | _, .inf n => if n then .gt else .lt
  | .fin n m x, .fin k l y =>
    let z := min x y
    compare (signedAt n m x z) (signedAt k l y z)
  | _, _ => .eq
/-- Minimum or maximum of R56. -/
def fpMinMax (f : Fmt) (mx : Bool) (a b : Nat) : Nat × Flags :=
  let x := Fp.read f a
  let y := Fp.read f b
  if x.isNan || y.isNan then (f.nanPat, snan x ||| snan y)
  else
    let lt := match Fp.cmp x y with
      | .lt => true
      | .gt => false
      | .eq => x.neg? && !y.neg?
    (if lt != mx then a else b, 0)
/-- Equality; `NV` only for a signalling NaN (Table 5.4). -/
def fpEq (f : Fmt) (a b : Nat) : Bool × Flags :=
  let x := Fp.read f a
  let y := Fp.read f b
  if x.isNan || y.isNan then (false, snan x ||| snan y) else (Fp.cmp x y == .eq, 0)
/-- Below, or below or equal; `NV` for any NaN. -/
def fpLess (f : Fmt) (orEq : Bool) (a b : Nat) : Bool × Flags :=
  let x := Fp.read f a
  let y := Fp.read f b
  if x.isNan || y.isNan then (false, Flags.NV)
  else (match Fp.cmp x y with
    | .lt => true
    | .eq => orEq
    | .gt => false, 0)
/-- `FCLASS` (R94). -/
def fpClass (f : Fmt) (a : Nat) : Nat :=
  match Fp.read f a with
  | .nan _ s => if s then 2 ^ 8 else 2 ^ 9
  | .inf n => if n then 1 else 2 ^ 7
  | .fin n m _ =>
    if m = 0 then (if n then 2 ^ 3 else 2 ^ 4)
    else if m < 2 ^ f.m then (if n then 2 ^ 2 else 2 ^ 5)
    else (if n then 2 else 2 ^ 6)
/-- Sign copies: `k` 0 copies, 1 inverts, 2 takes the exclusive OR (Table 5.4). -/
def fpSign (f : Fmt) (k : Nat) (a b : Nat) : Nat :=
  let sa := a / f.signBit % 2
  let sb := b / f.signBit % 2
  let s := if k = 0 then sb else if k = 1 then 1 - sb else (sa + sb) % 2
  a % f.signBit + s * f.signBit

/-- The pattern of an infinity or NaN, or of overflow, under Table 3.4. `inf` says the value converted was an
infinity. -/
def convOver (f : Fmt) (rm : Nat) (sat neg : Bool) : Nat :=
  let s := if neg then f.signBit else 0
  match f.sp with
  | .none => s + f.maxPat
  | .one => if sat then s + f.maxPat
    else if rm = 0 ∨ (rm = 2 ∧ !neg) ∨ (rm = 3 ∧ neg) then s + f.nanPat else s + f.maxPat
  | .ieee => if sat ∧ f.m = 2 then s + f.maxPat else overflowPat f rm neg
/-- Conversion of a value into a format: Table 3.4, rounding once (R57). -/
def convert (f : Fmt) (rm : Nat) (sat : Bool) : Fp → Nat × Flags
  | .nan n sg =>
    let s := if n then f.signBit else 0
    match f.sp with
    | .none => (s + f.maxPat, Flags.NV)
    | _ => (s + f.nanPat, if sg then Flags.NV else 0)
  | .inf n =>
    let s := if n then f.signBit else 0
    match f.sp with
    | .none => (s + f.maxPat, Flags.NV)
    | .one => (s + (if sat then f.maxPat else f.nanPat), Flags.NV)
    | .ieee => if sat ∧ f.m = 2 then (s + f.maxPat, Flags.NV) else (s + f.infPat, 0)
  | .fin n m x =>
    let s := if n then f.signBit else 0
    if m = 0 then (s, 0)
    else
      let r := roundMag f rm n m x false
      if r.ovf then (convOver f rm sat n, Flags.OF ||| Flags.NX) else (s + r.pat, roundFlags r)
/-- Floating point to integer within [lo, hi] (R58). -/
def toIntRange (rm : Nat) (lo hi : Int) : Fp → Int × Flags
  | .nan .. => (0, Flags.NV)
  | .inf n => (if n then lo else hi, Flags.NV)
  | .fin n m x =>
    let (k, nx) := if x ≥ 0 then (m * 2 ^ x.toNat, false) else roundUnits n m (-x).toNat false rm
    let v : Int := if n then -(k : Int) else k
    if v < lo then (lo, Flags.NV) else if v > hi then (hi, Flags.NV) else (v, if nx then Flags.NX else 0)
/-- An integer as a value. -/
def Fp.ofInt (v : Int) : Fp := .fin (decide (v < 0)) v.natAbs 0
/-- A value times `2^k`. -/
def Fp.scale (k : Int) : Fp → Fp
  | .fin n m x => .fin n m (x + k)
  | a => a

/-- `sr_draw` of R59. -/
def srDraw (seed : Word) (c : Nat) : Nat :=
  let z : Word := seed + BitVec.ofNat 64 (c + 1) * 0x9E3779B97F4A7C15#64
  let z := (z ^^^ (z >>> 30)) * 0xBF58476D1CE4E5B9#64
  let z := (z ^^^ (z >>> 27)) * 0x94D049BB133111EB#64
  let z := z ^^^ (z >>> 31)
  z.toNat / 2 ^ 40
/-- `round_sr` of R59 with the special cases of Table 3.4, and its flags under R53. -/
def convertSr (f : Fmt) (sat : Bool) (seed : Word) (c : Nat) : Fp → Nat × Flags
  | .fin n m x =>
    let s := if n then f.signBit else 0
    if m = 0 then (s, 0)
    else
      let pick (q : Int) : Nat × Bool :=
        if x ≥ q then (m * 2 ^ (x - q).toNat, false)
        else
          let sh := (q - x).toNat
          let r := m % 2 ^ sh
          (m / 2 ^ sh + (if r * 2 ^ 24 / 2 ^ sh > srDraw seed c then 1 else 0), decide (r ≠ 0))
      let top : Int := (Nat.log2 m : Int) + x
      let emin : Int := 1 - (f.bias : Int)
      let ex := max top emin
      let (k, nx) := pick (ex - f.m)
      let pat := ((ex + f.bias).toNat) * 2 ^ f.m + k - 2 ^ f.m
      let tiny := decide (top < emin - 1) ||
        (decide (top = emin - 1) && decide ((pick (top - f.m)).1 < 2 ^ (f.m + 1)))
      if pat > f.maxPat then (convOver f 0 sat n, Flags.OF ||| Flags.NX)
      else (s + pat, roundFlags ⟨pat, false, nx, tiny⟩)
  | a => convert f 0 sat a

/-- One level of the pairwise tree of R64. -/
def treeLevel {α : Type} (op : α → α → α) : List (Option α) → List (Option α)
  | some a :: some b :: t => some (op a b) :: treeLevel op t
  | none :: b :: t => b :: treeLevel op t
  | a :: none :: t => a :: treeLevel op t
  | l => l
/-- `tree_reduce` of R64 over a power of two of lanes; `none` is an inactive lane. `fuel` is the level count. -/
def treeReduce {α : Type} (op : α → α → α) : Nat → List (Option α) → Option α
  | _, [] => none
  | 0, a :: _ => a
  | n + 1, l => treeReduce op n (treeLevel op l)
/-- A scan in lane order (R65). `e` is the empty-scan value. -/
def scanLanes {α : Type} (op : α → α → α) (e : α) : Option α → List (α × Bool) → List α
  | _, [] => []
  | p, (x, act) :: t =>
    let p' := if act then some (match p with
      | none => x
      | some q => op q x) else p
    p'.getD e :: scanLanes op e p' t

/-- `xacc_add` of R67 on a 64-byte cell; reserved bits are written zero. -/
def xaccAdd (cell : BitVec 512) (x : Fp) : BitVec 512 × Flags :=
  let c : BitVec 512 := cell &&& BitVec.ofNat 512 (2 ^ 499 - 1)
  match x with
  | .nan _ s => (c ||| BitVec.ofNat 512 (2 ^ 498), if s then Flags.NV else 0)
  | .inf false => (c ||| BitVec.ofNat 512 (2 ^ 496), 0)
  | .inf true => (c ||| BitVec.ofNat 512 (2 ^ 497), 0)
  | .fin n m e =>
    let v : Int := signedAt n m e (-303)
    let sum := BitVec.ofNat 496 c.toNat + BitVec.ofInt 496 v
    (BitVec.ofNat 512 (c.toNat / 2 ^ 496 * 2 ^ 496 + sum.toNat), 0)
/-- `xacc_read` of R68: an f32 pattern and flags. -/
def xaccRead (cell : BitVec 512) : Nat × Flags :=
  let n := cell.toNat
  let nan := n / 2 ^ 498 % 2
  let ninf := n / 2 ^ 497 % 2
  let pinf := n / 2 ^ 496 % 2
  if nan = 1 then (0x7FC00000, 0)
  else if pinf = 1 ∧ ninf = 1 then (0x7FC00000, Flags.NV)
  else if pinf = 1 then (0x7F800000, 0)
  else if ninf = 1 then (0xFF800000, 0)
  else
    let v := (BitVec.ofNat 496 n).toInt
    if v = 0 then (0, 0) else roundFin (fmtOf 15) 0 (decide (v < 0)) v.natAbs (-303) false

end Sys2Proof.Machine
end

