-- ==== Sys2Proof/Config.lean ====
section
/-! DEFINITION. What an implementation fixes and the spec leaves open: opaque constants, of which nothing can be evaluated or proved. -/

namespace Sys2Proof.Config

/-- The energy, in nJ, of an issued bundle (08_context.md R169 gives no figures). Free value, log 6. -/
opaque bundleEnergy : Nat → Nat
/-- The energy, in nJ, of a compute slot or a drain of an MXE job (R169). Log 6. -/
opaque mxeEnergy : Nat → Nat
/-- The energy, in nJ, of a transfer that the Ebb engine makes for a job (R169). Log 6. -/
opaque ebbEnergy : Nat → Nat
/-- The energy of fabric, caches, LPDDR6 and leakage in a period (21_boot_power.md R400 gives no figures). Log 6. -/
opaque baseEnergy : Nat → Nat
/-- Whether signature bytes verify a SHA-512 digest under the Gyrnaran public key, which no rule gives (R397 step 2). Log 7. -/
opaque signatureValid : BitVec 512 → List Byte → Bool
/-- The P-521 signature of a SHA-512 digest under the device key (Table 21.3), 132 bytes. Log 7. -/
opaque sign : BitVec 512 → BitVec 1056
/-- What a read of `HFWMB` gives while a request is served, by the number of posts (20_headland.md Table 20.1). Log 6. -/
opaque mailboxStatus : Nat → BitVec 32
/-- The payload, in the words of 18_link.md Table 18.4, of the request that 32 bits of `HFWMB` stand for. Log 41. -/
opaque mailboxWords : BitVec 32 → List (BitVec 64)
/-- The bytes of Headland's mask ROM (R386, R397 gives what its program does, not the program). Log 12. -/
opaque romByte : Nat → Byte
/-- What a queue's, firmware's or engine's choice is where the spec states none (n-th draw). Log 6. -/
opaque freeNat : Nat → Nat

end Sys2Proof.Config
end

