-- ==== Sys2Proof/Machine/State.lean ====
section
/-! DEFINITION. The machine's state as plain data, and its value after reset. INVENTORY.md lists every piece with its rule. -/

namespace Sys2Proof.Machine

/-- Reasons a step may fault. -/
inductive Fault where
  /-- Raised by `step` when the agenda names a core index of 512 or more or a slot of 5 or more: the device has no
  such agent (R8, R69). Safe: nothing is claimed of such a step. -/
  | noSuchAgent
  deriving DecidableEq, Repr

/-- Reasons a step may be refused. -/
inductive Refusal where
  /-- Raised by an arm of `exec` whose instruction has no meaning yet. Safe: nothing is claimed of it. -/
  | notModelled (mnemonic : String)
  deriving DecidableEq, Repr

/-- A Merim record: its first entry, and the three following entries of a long record (R200). -/
structure Rec where
  head : BitVec 128
  ext : List (BitVec 128) := []
  deriving DecidableEq, Repr

/-- The causes of Table 19.1. -/
structure Trap where
  cause : BitVec 8
  tval : Word
  taddr : BitVec 48
  deriving DecidableEq, Repr

/-- Why a stalled slot waits. -/
inductive Wait where
  | load | page | walk | release | recv | join | barrier | episode | linked | job | ebb | claim | side | copy
  | posted | gang | pair | reply | emit | predicate | hold | bank
  deriving DecidableEq, Repr

/-- A task's place in Table 9.4, as its slot shows it. -/
inductive Life where
  | free | running
  | stalled (w : Wait)
  | trapped
  deriving DecidableEq, Repr

/-- How the running task was created (Table 9.3), with what R209 and R213 need at its end. -/
inductive Origin where
  | none
  /-- From queue `q` of a core; a window close carries the end of its window. -/
  | record (core q : Nat) (close : Option (BitVec 48))
  | spawn | message | launch | migrated
  deriving DecidableEq, Repr

/-- Where a pending load writes its result. -/
inductive Dest where
  | none
  | g (r : BitVec 5)
  | v (r : BitVec 5)
  /-- held for the instruction that waits for it -/
  | hold
  deriving DecidableEq, Repr

/-- A load in flight whose bytes return later, lane by lane (R82, R129, R130). `form`: 0 zero-extend, 1 sign-extend,
2 replicate over the register, 3 lanes of `size` bytes into the register's old bits, 4 lanes from bit 0 with zeros
above. -/
structure Load where
  dest : Dest
  /-- lanes still to return: lane, and its stored address, or the message of a `.c` load -/
  pend : List (Nat × Nat)
  size : Nat
  form : Nat
  cove : Bool
  /-- what the arrival of a `.c` load read, by lane -/
  data : FMap (List Byte) := []
  /-- lanes that have returned -/
  back : FMap (List Byte) := []
  deriving DecidableEq, Repr

/-- A service item or a pending item's starting data (Tables 9.3 and 9.5). -/
structure Start where
  handler : Nat
  ctx : Nat
  prio : Nat
  limit : Nat
  id : BitVec 32
  args : Vector Word 4 := Vector.replicate 4 0
  g5 : Word := 0
  tsinh : BitVec 48 := 0
  join : Word := 0
  deriving DecidableEq, Repr

/-- The state that `MIGRATE` carries (R78, R194). -/
structure Carried where
  g : Vector Word 32
  m : Vector Word 8
  ev : Vector (BitVec 128) 4
  pc : Word
  fctl : BitVec 4
  fflags : BitVec 5
  gctl : BitVec 4
  gstat : Word
  unord : Bool
  emitto : BitVec 32
  hintdrop : BitVec 32
  barto : BitVec 32
  left : Nat
  limit : Nat
  origin : Origin
  gd : BitVec 5
  scope : Nat
  deriving DecidableEq, Repr

/-- What kind of pending item it is (R165). -/
inductive ItemKind where
  /-- the record at ring counter `pos` of queue `q` -/
  | record (q pos n : Nat)
  | deque
  | migration (c : Carried)
  | launch
  deriving DecidableEq, Repr

/-- A pending item of a core, with the order in which it became pending. -/
structure Item where
  num : Nat
  kind : ItemKind
  start : Start
  served : Bool := false        -- its FOOTPRINT has been served (R185)
  asked : Bool := false         -- its absent pages have been requested
  pins : List Nat := []         -- pages pinned for it
  forSlot : Option Nat := none  -- the slot whose probe stole it (R188)
  deriving DecidableEq, Repr

/-- An atomic or deposit on its way to its owner (R151 to R155). -/
structure Atomic where
  op : Nat
  width : Nat
  ctx : Nat
  la : Nat                      -- local address, or stored address for `.g`
  glob : Bool
  operand : Word
  compare : Word
  vec : Vec
  /-- a `.l` form, whose bytes the sender's later `.l` accesses may name (R136) -/
  near : Bool := false
  core : Nat
  slot : Nat
  task : BitVec 32
  posted : Bool
  deriving DecidableEq, Repr

/-- Who a record's acceptance answers to (R207). -/
inductive Sender where
  | slot (core slot : Nat) (task : BitVec 32)
  | stream (n : Nat)
  | mxe (cove job : Nat)
  | tile (cove tile : Nat)
  | ebb (cove job : Nat)
  | system
  deriving DecidableEq, Repr

/-- Where a record goes (R226). -/
inductive Target where
  | queue (core q : Nat)
  | stream (cove n : Nat)
  | device (d : Nat) (word : BitVec 16)
  deriving DecidableEq, Repr

/-- What a reply answers. -/
inductive ReplyKind where
  | atomic | emit | sys | spawnr | amsg | woken
  deriving DecidableEq, Repr

/-- What a message carries. Each is one row of the event table's arrivals. -/
inductive Body where
  | coveStore (ctx core slot la n : Nat) (data : Vec)
  | coveScatter (ctx core : Nat) (bytes : List (Nat × Byte))
  | coveLoad (ctx core slot la n : Nat)
  | atomic (a : Atomic)
  | reply (k : ReplyKind) (core slot : Nat) (task : BitVec 32) (ask : Nat) (value : Word)
  | sys (service ctx core slot : Nat) (task : BitVec 32) (value : Word)
  | stealProbe (thief slot victim : Nat)
  | stealReply (thief slot : Nat) (e : Option Item)
  | spawnr (st : Start) (core slot : Nat) (task : BitVec 32)
  | unspawn (core slot : Nat) (task : BitVec 32) (ask ctx : Nat) (join : Word)
  | amsg (st : Start) (core slot : Nat) (task : BitVec 32) (waits : Bool)
  | migrate (st : Start) (c : Carried)
  | jdone (ctx la core slot : Nat) (task : BitVec 32)
  | record (rec : Rec) (ctx : Nat) (target : Target) (sender : Sender) (ovf : Bool)
  | tidemark (target : Target) (ctx : Nat) (src : BitVec 16) (value : BitVec 48)
  | mxq (d : List Word) (ctx : Nat) (stamp : BitVec 48) (late : Bool) (prio : Nat) (task : BitVec 32)
      (core slot : Nat)
  | mxcan (id : BitVec 32) (ctx core slot : Nat) (task : BitVec 32)
  | sample (cove job op core bank : Nat)
  | waitq (ctx la core slot : Nat) (task : BitVec 32) (value : Word)
  | wake (ctx la core slot : Nat) (task : BitVec 32) (count : Word)
  | flush (cove n core slot ctx : Nat) (task : BitVec 32)
  | rhoash (rec : Rec) (d : Nat) (word : BitVec 16) (link : Nat)
  | trapOp (op : Nat) (target : Word) (arg : Word) (data : Word) (ctx core slot : Nat) (task : BitVec 32)
  | error (src core ctx : Nat)
  deriving DecidableEq, Repr

/-- A message in flight from a sending agent to a destination agent (R138: first in, first out on each pair). -/
structure Msg where
  id : Nat
  src : Nat
  dst : Nat
  body : Body
  deriving DecidableEq, Repr

/-- A bundle that a gang leader has issued, for a follower (R309). -/
structure Bundle where
  pc : Word
  head : BitVec 32
  tail : Option (BitVec 32)
  next : Word
  result : Option Word            -- none while the leader's reply is still to come
  ev : Vector (BitVec 128) 4
  deriving DecidableEq, Repr

/-- A copy of an outbound effect held for the comparator (R315): the word, its address or destination (0 where it has
none), its data, and the lane addresses of a `VSCATTER`, which has an address for each lane. -/
structure Copy where
  word : BitVec 32
  addr : Word
  data : List Word
  lanes : List Word := []
  since : Nat                   -- when it came to the comparator
  deriving DecidableEq, Repr

/-- A predicate whose stage C work remains (R300). -/
structure Predicate where
  word : BitVec 32
  d : Nat
  masks : List Word
  na : Nat
  nb : Nat
  nc : Nat
  nt : Nat
  tie : Option Word             -- `TVAL` of `GEOM_TIEID`
  nfs : Bool
  deriving DecidableEq, Repr

/-- A `CBLD` that waits for its claim or its side (R283). -/
structure CbReq where
  bank : Nat
  mode : Nat
  src : Nat
  fmt : Nat
  fresh : Bool := false         -- the claim is this instruction's
  deriving DecidableEq, Repr

/-- What the tail of a pair writes: registers by number, with their values, and the flags that it raises (R21). -/
structure Regs where
  g : FMap Word
  v : FMap Vec
  m : FMap Word
  fflags : BitVec 5
  deriving DecidableEq, Repr

/-- One task slot of a core (04_task_state.md). -/
structure Slot where
  g : Vector Word 32 := Vector.replicate 32 0
  v : Vector Vec 32 := Vector.replicate 32 0
  m : Vector Word 8 := (Vector.replicate 8 0).set 0 (BitVec.allOnes 64)
  ev : Vector (BitVec 128) 4 := Vector.replicate 4 0
  mb : Vector Word 4 := Vector.replicate 4 0
  mbFull : BitVec 4 := 0
  pc : Word := 0
  latch : BitVec 24 := 0
  pfxp : Bool := false
  unord : Bool := false
  prio : BitVec 6 := 0
  gang : Bool := false
  taskid : BitVec 32 := 0
  ctx : BitVec 4 := 0
  gk : BitVec 2 := 0
  lane : BitVec 3 := 0
  tsinh : BitVec 48 := 0
  avt : BitVec 2 := 0
  rm : BitVec 2 := 0
  fflags : BitVec 5 := 0
  nfs : Bool := false
  nfq : Bool := false
  tie : BitVec 2 := 0
  gstat : Word := 0
  tcause : BitVec 8 := 0
  tval : Word := 0
  tepc : BitVec 48 := 0
  ttile : BitVec 22 := 0
  ttask : BitVec 35 := 0
  taddr : BitVec 48 := 0
  limit : BitVec 24 := 0
  left : BitVec 24 := 0
  emitto : BitVec 32 := 4096
  hintdrop : BitVec 32 := 0
  barto : BitVec 32 := 1000000
  life : Life := .free
  frozen : Bool := false
  freezeNum : BitVec 16 := 0
  /-- A frozen slot that returns to running at the release (R379). -/
  thaw : Bool := false
  /-- The bundle before which a gang or pair member stops (R311, R317). -/
  stopAt : Option Nat := none
  /-- Values that the primary of a pair obtained for this twin, by bundle number (R314). -/
  feed : List (Nat × List Word) := []
  /-- A reply that is still to write a g register (or none, for g0) before the slot may issue. -/
  reply : Option (BitVec 5 × Nat) := none
  /-- A request whose answer the present instruction waits for before it completes: its message, and the answer. -/
  ask : Option Nat := none
  got : Option Word := none
  /-- What the tail of the present bundle wrote as its head acted and then waited: the tail is not run again (R21). -/
  begun : Option Regs := none
  loads : List Load := []
  /-- Bytes that the present instruction waited for. -/
  held : Option (List Byte) := none
  /-- Arms by channel and domain, key 4 * channel + domain (R324). -/
  arms : FMap (BitVec 32) := []
  /-- Barriers whose release has not reached the core yet (R326). -/
  awaiting : List Nat := []
  origin : Origin := .none
  handler : Nat := 0
  join : Word := 0
  pins : List Nat := []
  reader : Option (Nat × Option Nat) := none   -- bank and side that a waiting load's expansion reads (R276)
  rbanks : Word := 0            -- retained banks taken over at the start (R186)
  predicate : Option Predicate := none
  walkFail : Option (Nat × BitVec 6) := none
  /-- The release of the present instruction has begun, with the write-backs below a number, or is done (R141). -/
  relBegun : Bool := false
  relUpto : Nat := 0
  relDone : Bool := false
  leader : Option (Nat × Nat) := none
  bundles : List Bundle := []
  issued : Nat := 0
  answer : Option (Nat × Nat × BitVec 32 × Nat) := none  -- core, slot, task and request of a waiting sender
  copy : Option Copy := none
  agreed : Bool := false
  probes : List Nat := []       -- cores still to probe (R188)
  stealing : Bool := false
  started : Nat := 0            -- device time at which the present wait began
  cbreq : Option CbReq := none
  /-- The counter of its core that a `JWAIT` waits on (R197). -/
  joinOn : Option Nat := none
  /-- A `TGET` whose copy has begun: tile, local address and result (R246). -/
  copying : Option (Nat × Nat × Word) := none
  linkedAt : Option (Nat × Nat) := none   -- owner and cell a `WAITQ` is linked at
  /-- The register and next address of a `WAITQ` that waits, and what an unlinking `WAKE` has for it (R334). -/
  wq : Option (BitVec 5 × Word) := none
  woken : Option Word := none
  mbLanding : BitVec 4 := 0     -- mailboxes in whose landing cycle the core is (R109)
  mbNew : Vector Word 4 := Vector.replicate 4 0
  deriving DecidableEq, Repr

/-- A local page frame (R344). -/
inductive FrameState where
  | filling | resident | spilling
  deriving DecidableEq, Repr

/-- A page request (R345): its context and page, and its transfer's class (R347). -/
structure PageAsk where
  ctx : Nat
  page : Nat
  cls : Nat := 1
  deriving DecidableEq, Repr

structure Frame where
  ctx : Nat
  page : Nat
  state : FrameState
  dirty : Bool := false
  pins : Nat := 0
  stamp : Nat := 0
  demand : Bool := false
  next : Option PageAsk := none         -- the request that waits for this frame's spill
  cls : Nat := 1                        -- class of the transfer that fills it (R347)
  pos : Nat := 0                        -- 1 KiB chunks that its transfer has moved (R347)
  /-- a `SPILL` copies it, and nothing has been stored to it since that began (R350) -/
  copied : Bool := false
  fault : Bool := false
  deriving DecidableEq, Repr

/-- A queue (R204 to R219). -/
structure Queue where
  ctx : Nat
  handler : Nat
  size : Nat
  ovf : Bool
  latep : Bool
  tadv : Bool
  poll : Bool
  ring : Nat
  wlen : Nat
  wphase : Nat
  subs : Word
  stale : Nat
  head : Nat := 0
  tail : Nat := 0
  last : FMap (BitVec 48) := []          -- by source entry; entry 64 is shared by all others
  tm : FMap (BitVec 48) := []
  window : Int := 0                       -- the lowest open window
  lastClosed : Option (BitVec 48) := none
  lateDrops : BitVec 32 := 0
  drops : BitVec 32 := 0
  dropsSent : BitVec 32 := 0
  lateCount : BitVec 32 := 0
  ovfPending : Bool := false
  ovfStamp : BitVec 48 := 0
  waiters : List Msg := []                -- refused records of listed senders
  closes : List (Int × Nat × Bool × Word) := []   -- last window, merged count, by timeout, laggards
  done : BitVec 48 := 0
  deriving DecidableEq, Repr

/-- A codebook side (Table 13.1). -/
inductive SideState where
  | empty | loading | standby | live
  | held (d : Bool)
  deriving DecidableEq, Repr

structure Side where
  state : SideState := .empty
  units : List Nat := []
  cnt : Nat := 0
  et : Nat := 0
  el : Nat := 0
  readers : Nat := 0
  clean : Bool := false
  src : Nat := 0
  mode : Nat := 0
  deriving DecidableEq, Repr

/-- A translation held in a TLB (R340): context, leaf base, leaf size, leaf entry. -/
structure TlbEntry where
  ctx : Nat
  va : Nat
  size : Nat
  entry : Word
  level : Nat
  deriving DecidableEq, Repr

/-- A load of a shadow side in progress: its slot or job, its source, and the translations of a global source's
pages (R283, R284). -/
structure Loading where
  slot : Option Nat := none
  task : BitVec 32 := 0
  job : Option Nat := none
  side : Nat
  src : Nat
  mode : Nat
  len : Nat
  pages : List (Nat × TlbEntry) := []
  pins : List (Nat × Nat) := []           -- core and page of the local pages that an engine's load reads (R344)
  pos : Nat := 0                          -- bytes that its copy has moved (R347)
  deriving DecidableEq, Repr

structure Bank where
  sides : Vector Side 2 := Vector.replicate 2 {}
  gen : BitVec 8 := 0
  holder : Option Nat := none
  claims : List Nat := []
  since : Nat := 0                        -- when the holder's claim was served
  passing : Option Nat := none            -- the context being saved out (R280)
  moved : Nat := 0                        -- 1 KiB chunks that its save or restore has moved (R347)
  loaders : List Loading := []            -- loads in progress, at most one a side
  /-- its context drains, and the bank is to be invalidated once no reader holds it (R163) -/
  dying : Bool := false
  deriving DecidableEq, Repr

/-- A saved side (R280): its role, format and its bytes' place. -/
structure Saved where
  side : Nat
  live : Bool
  clean : Bool
  cnt : Nat
  et : Nat
  el : Nat
  src : Nat
  mode : Nat
  deriving DecidableEq, Repr

structure Retained where
  banks : Word
  handler : Nat
  ctx : Nat
  order : Nat
  deriving DecidableEq, Repr

structure EnrgView where
  spentOut : Bool := false
  qleft : BitVec 32 := 0
  deriving DecidableEq, Repr

/-- One byte of an L1 (R139). -/
structure L1Byte where
  data : Byte
  dirty : Bool
  carrier : Option Nat := none            -- the write-back in flight that carries the byte as last stored
  deriving DecidableEq, Repr

/-- A sector on its way to the memory-side cache, with the release it belongs to (R141, R146). -/
structure WriteBack where
  num : Nat := 0
  bytes : List (Nat × Byte)
  tag : Option (Nat × Nat × Nat)          -- scope, core, context
  held : Bool := false                    -- it crosses the dies and was issued during a region commit (R156)
  drop : Bool := false                    -- an `INV`, whose bytes then leave L1 (R149)
  deriving DecidableEq, Repr

/-- An item of the service slot (R181): an active message, an atomic or a deposit that waits its turn. -/
structure SvcItem where
  num : Nat
  start : Start
  answer : Option (Nat × Nat × BitVec 32 × Nat)
  served : Bool := false
  asked : Bool := false
  pins : List Nat := []
  deriving DecidableEq, Repr

structure Core where
  slots : Vector Slot 5 := Vector.replicate 5 {}
  b0 : BitVec 22 := 0x8000
  b1 : BitVec 22 := 0x48000
  b2 : BitVec 22 := 0x200000
  seq : Nat := 1
  parked : Bool := false
  vt : FMap Nat := []
  flagWords : FMap (BitVec 5) := []
  tout : FMap (BitVec 48) := []
  enrg : FMap EnrgView := []
  l1 : FMap L1Byte := []
  tlb : List TlbEntry := []
  frames : FMap Frame := []
  fills : List PageAsk := []              -- page requests that wait for a frame
  /-- Accesses that wait for a page, in order: context, page, and the slot or, from 8 on, the message (R346). -/
  waits : List (Nat × Nat × Nat) := []
  items : List Item := []
  itemSeq : Nat := 0
  svc : List SvcItem := []
  queues : FMap Queue := []
  banks : Vector Bank 8 := Vector.replicate 8 {}
  retained : FMap Retained := []
  links : FMap (List (Nat × BitVec 32 × Nat)) := []      -- by cell: core * 8 + slot, task, request
  /-- `TGET` copies under way whose task has ended: slot, context, tile, local address (R249, R383). -/
  copies : List (Nat × Nat × Nat × Nat) := []
  wb : List WriteBack := []
  wbSeq : Nat := 0
  /-- Lines in the 64 KiB instruction cache, by stored address over 256 (R9, R13). -/
  icache : List Nat := []
  datapath : Option Nat := none
  stamp : Nat := 0
  last : Nat := 4                         -- the slot that issued most recently (R82)
  pbtgt : BitVec 9 := 0
  pbnew0 : BitVec 22 := 0x8000
  pbnew1 : BitVec 22 := 0x48000
  pbnew2 : BitVec 22 := 0x200000
  pbstate : BitVec 2 := 0
  /-- The firmware core whose boundary commit runs here, with the new boundaries. -/
  committing : Option (Nat × BitVec 22 × BitVec 22 × BitVec 22) := none
  shadow : FMap (BitVec 16) := []
  regionState : BitVec 2 := 0
  deriving DecidableEq, Repr

/-- A `PREF` or `PREFH` whose address waits for a walk (R150, R340): its slot and task, and whether it fills the L1. -/
structure Hint where
  core : Nat
  slot : Nat
  task : BitVec 32
  va : Nat
  fill : Bool
  deriving DecidableEq, Repr

/-- A walk in progress (R340). -/
structure Walk where
  ctx : Nat
  va : Nat
  again : Bool := false
  waiters : List (Nat × Nat × Nat) := []  -- core, slot, virtual address
  hints : List Hint := []
  deriving DecidableEq, Repr

/-- A job's states (Table 12.4). -/
inductive JobState where
  | queued | admitted | running | draining | done | faulted | cancelled
  deriving DecidableEq, Repr

structure Job where
  id : BitVec 32
  d : List Word
  ctx : Nat
  stamp : BitVec 48
  late : Bool
  prio : Nat
  task : BitVec 32
  core : Nat
  tile : Option Nat := none
  sides : List (Nat × Nat × Nat × Nat) := []     -- operand, core, bank, side
  sampling : Nat := 0
  noSide : Bool := false
  state : JobState := .queued
  code : Nat := 0
  addr : Nat := 0
  flags : BitVec 5 := 0
  slots : Nat := 0                        -- compute slots done
  arrived : Nat := 0                      -- slots whose operands have arrived
  /-- Local pages that the operands were read from before all were there: core, page, bytes, none where one is bad. -/
  reads : List (Nat × Nat × List (Option Byte)) := []
  start : List Word := []                 -- the paired check's starting bits
  drain : List Byte := []
  checked : Bool := false
  cancel : Bool := false
  recorded : Bool := false                -- its record is accepted, rejected or not due
  sent : Bool := false
  lines : List Nat := []                  -- lines that the job wrote (R146)
  probed : Nat := 0                       -- leading bytes of D whose page has been there
  written : Nat := 0                      -- leading bytes of D written
  deriving DecidableEq, Repr

structure Mxe where
  tides : FMap (BitVec 48) := []          -- last tidemark sent, by context (R214, R215)
  jobs : List Job := []
  seq : Nat := 1
  table : List (Option Nat) := []         -- the firmware's slots; none is FREE
  slot : Nat := 0
  used : FMap Nat := []
  owners : FMap Nat := []
  idle : Nat := 0                         -- slots since the last grant
  hold : Nat := 0                         -- boundaries that the stagger still idles
  rejected : BitVec 32 := 0
  deriving DecidableEq, Repr

/-- Tile states (Table 11.5). -/
inductive TileState where
  | collecting | sealed | dispatched | claimed | inJob | freeing
  deriving DecidableEq, Repr

structure Tile where
  num : Nat
  ctx : Nat
  stream : Nat
  tx : Nat
  ty : Nat
  win : Int
  blocks : List Nat
  state : TileState := .collecting
  home : Nat := 0
  nent : Nat := 0
  t0 : BitVec 48 := 0
  ts : BitVec 48 := 0
  tfirst : Nat := 0
  cause : Nat := 0
  early : Bool := false
  claimer : Option (Nat × Nat × BitVec 32) := none
  order : Nat := 0
  sent : Bool := false
  fresh : Bool := true                    -- no copy is stored yet
  deriving DecidableEq, Repr

structure TileStream where
  ctx : Nat
  d : List Word
  window : Int := 0
  first : Int := 0
  tm : FMap (BitVec 48) := []
  outside : BitVec 32 := 0
  late : BitVec 32 := 0
  pressure : BitVec 32 := 0
  fifo : BitVec 32 := 0
  deriving DecidableEq, Repr

/-- A FIFO item of Breakwater (R235). -/
inductive FifoItem where
  | record (stream : Nat) (rec : Rec)
  | tidemark (stream : Nat) (src : BitVec 16) (value : BitVec 48)
  | flush (stream core slot ctx : Nat) (task : BitVec 32) (ask : Nat)
  | release (tile : Nat)
  deriving DecidableEq, Repr

structure Breakwater where
  tides : FMap (BitVec 48) := []          -- last tidemark sent, by context (R214, R215)
  fifo : List FifoItem := []
  relWait : List Nat := []                -- releases that wait for room in the FIFO
  rejected : FMap (BitVec 32) := []       -- TILE records rejected, by stream number, since reset (R366)
  streams : FMap TileStream := []
  tiles : List Tile := []
  seqs : FMap Nat := []                   -- block sequences modulo 64
  tileSeq : Nat := 0
  sealSeq : Nat := 0
  deriving DecidableEq, Repr

/-- A class-4 or CBFETCH job of the Ebb engine (R347 to R354). -/
structure EbbJob where
  id : BitVec 32
  d : List Word
  fetch : Option (Nat × Nat × Nat × Nat × Nat) := none    -- core, bank, source, mode, format of a CBFETCH
  ctx : Nat
  stamp : BitVec 48
  late : Bool
  prio : Nat
  task : BitVec 32
  core : Nat
  state : JobState := .queued
  code : Nat := 0
  addr : Nat := 0
  pos : Nat := 0                          -- bytes or pages done
  undo : List (Nat × Byte × Nat) := []    -- bytes written, by place: the value before the job, and the run that wrote last (R349)
  pages : List (Nat × TlbEntry) := []     -- the translations made before the first byte moves (R349)
  pins : List (Nat × Nat) := []           -- core and page of the local pages that it reads and writes (R344)
  moved : Bool := false
  lines : List Nat := []
  sent : Bool := false
  recorded : Bool := false
  deriving DecidableEq, Repr

structure Ebb where
  tides : FMap (BitVec 48) := []          -- last tidemark sent, by context (R214, R215)
  jobs : List EbbJob := []
  seq : Nat := 1
  rejected : BitVec 32 := 0
  deriving DecidableEq, Repr

structure Cove where
  tlb : List TlbEntry := []
  walks : List Walk := []                 -- in progress, at most 16
  misses : List Walk := []                -- waiting in arrival order, at most 64 (R340)
  mxe : Mxe := {}
  bw : Breakwater := {}
  ebb : Ebb := {}
  deriving DecidableEq, Repr

/-- Context states (Table 8.2). -/
inductive CtxState where
  | free | loading | ready | quotaHeld | faulted | frozen | draining | released
  deriving DecidableEq, Repr

/-- A handler's entry (Table 9.2) with its footprint (R184). -/
structure Handler where
  entry : Nat
  budget : Nat
  prio : Nat
  queue : Nat
  cbm : BitVec 8 := 0
  pages : List (Nat × Nat) := []
  deriving DecidableEq, Repr

/-- A bank preload of one core (Table 13.4). -/
structure Preload where
  core : Nat
  bank : Nat
  fmt : Nat
  src : Nat
  live : Bool
  begun : Bool := false
  deriving DecidableEq, Repr

structure Source where
  id : BitVec 16
  live : Bool := true
  deriving DecidableEq, Repr

/-- A context: its attributes (Table 8.1), state, kernel, accounting and firmware-side stores. -/
structure Ctx where
  state : CtxState := .free
  prior : CtxState := .free
  faultRecorded : Bool := false
  drainRecorded : Bool := false
  pmin : Nat := 0
  pmax : Nat := 0
  weight : Nat := 16
  share : Nat := 16
  cores : BitVec 512 := 0
  sws : Nat := 0
  cbmask : BitVec 8 := 0
  pair : Bool := false
  trapcore : Nat := 0
  trapq : Nat := 0
  domain : Nat := 0
  sources : List Source := []
  step : Nat := 0
  hbwatch : Nat := 0
  spill : Nat := 0
  lpages : Nat := 0
  /-- Page table entries, keyed by level and index path (R335). -/
  pt : FMap Word := []
  image : Nat := 0
  code : Nat := 0
  handlers : List Handler := []
  pending : Option Bool := none           -- firmware has checked the kernel: whether it loads
  binds : List (Nat × Queue) := []        -- bindings that go live, by core * 16 + queue
  sbinds : List (Nat × TileStream) := []  -- by cove * 8 + stream
  preloads : List Preload := []           -- banks to load before the context is ready (R281)
  quota : Nat := 0
  spent : Nat := 0                        -- nJ that the meters have charged in the period (R169)
  debt : Nat := 0
  spentOut : Bool := false
  trace : List Word := []
  traceDrops : Nat := 0
  barsDrained : Bool := false             -- the first episode of every barrier was completed by draining (R325)
  hbLast : Nat := 0
  hbSeq : BitVec 32 := 0
  hbAt : BitVec 32 := 0                  -- DTIME[31:0] of the last accepted heartbeat
  store : List Rec := []
  /-- Saved bank images, by core * 8 + bank. -/
  saved : FMap (List Saved) := []
  deriving DecidableEq, Repr

structure MscLine where
  tag : Option (Nat × Nat × Nat) := none  -- scope, core, context
  reported : Bool := false
  deriving DecidableEq, Repr

structure DirEntry where
  entry : Word
  ctx : Nat
  va : Nat
  size : Nat
  coves : BitVec 32
  deriving DecidableEq, Repr

/-- An invalidation in progress (R342). -/
structure Inval where
  ctx : Nat
  lo : Nat
  hi : Nat
  coves : List Nat
  deriving DecidableEq, Repr

structure Die where
  step : BitVec 2 := 0
  /-- The last reading of each of the die's eight thermal sensors, in °C (R400). -/
  sensors : Vector Nat 8 := Vector.replicate 8 0
  next : Option (BitVec 2) := none
  dir : List DirEntry := []
  deriving DecidableEq, Repr

/-- The reading of a die's hottest sensor (R400). -/
def Die.temp (d : Die) : Nat := d.sensors.toList.foldl max 0

inductive LinkState where
  | down | training | up | degraded
  deriving DecidableEq, Repr

structure Link where
  state : LinkState := .down
  lost : Nat := 0
  failures : BitVec 16 := 0
  since : Nat := 0                        -- when training began
  replays : BitVec 32 := 0
  dropped : BitVec 32 := 0
  route : Option Nat := none
  deriving DecidableEq, Repr

/-- A sensor stream (Table 18.5 and R366). -/
structure Stream where
  en : Bool := false
  safe : Bool := false
  tgt : BitVec 16 := 0
  ctx : Nat := 0
  entry : Nat := 0
  hbeat : Nat := 100
  offset : Nat := 0
  maxb : Nat := 65536
  maxc : Nat := 1048576
  period : Nat := 1000
  rows : Nat := 16
  cols : Nat := 16
  thr : Nat := 64
  wsh : Nat := 4
  base : Option Word := none
  last : Option (BitVec 48) := none
  lastSend : Nat := 0
  /-- When the next taxel frame is due, and when the present one began (R369, R370). -/
  scanAt : Nat := 0
  scanFrom : Nat := 0
  scanning : Bool := false
  cut : Bool := false
  refs : FMap (BitVec 16) := []
  sent : Word := 0
  rate : BitVec 32 := 0
  rejected : BitVec 32 := 0
  cuts : BitVec 32 := 0
  discarded : BitVec 32 := 0
  deriving DecidableEq, Repr

structure Timer where
  ctx : Nat
  num : Nat
  period : Nat
  core : Nat
  queue : Nat
  due : Nat
  count : BitVec 32 := 0
  deriving DecidableEq, Repr

/-- A barrier of one context, channel and domain instance (R320 to R330). -/
structure Barrier where
  episode : BitVec 32 := 0
  participants : Option (List Nat) := none    -- none: as the context's cores give when it became ready
  flags : List Nat := []
  completing : Bool := false
  missing : Option (List Nat) := none
  drained : Option (BitVec 32) := none        -- the episode that the context's draining completed
  deriving DecidableEq, Repr

structure LogEntry where
  time : BitVec 32
  lost : Nat
  core : BitVec 9
  ctx : BitVec 4
  src : BitVec 5
  deriving DecidableEq, Repr

/-- What a CSR instruction does with the value that it brings (Zicsr, R385). -/
inductive CsrKind where
  | write | set | clear
  deriving DecidableEq, Repr

/-- What a Headland hart asks of its memory, and of the CSRs that stand outside it, in one instruction (R386). -/
inductive HartReq where
  | idle
  | load (addr : BitVec 32) (n : Nat)
  | store (addr : BitVec 32) (n : Nat) (v : BitVec 32)
  | csr (num : BitVec 12) (reads writes : Bool) (kind : CsrKind) (src : BitVec 32)
  deriving DecidableEq, Repr

/-- What a Headland hart is given in one instruction. -/
structure HartIn where
  irq : Bool                             -- the machine external interrupt is pending
  word : Option (BitVec 32)              -- what the fetch at the pc gives: none where it faults
  badAt : BitVec 32                      -- the address at which it faults
  answer : Option (BitVec 32)            -- what the hart's request gives: none where it faults
  deriving DecidableEq, Repr

/-- A RISC-V hart of Headland's lockstep pair: RV32IMC with Zicsr, machine mode only (R385). Log 12 names the reset
values that R385's manuals leave open. -/
structure Hart where
  x : Vector (BitVec 32) 32 := Vector.replicate 32 0
  pc : BitVec 32 := 0
  mie : Bool := false                    -- mstatus.MIE
  mpie : Bool := false                   -- mstatus.MPIE
  meie : Bool := false                   -- mie.MEIE
  mtvec : BitVec 32 := 0
  mscratch : BitVec 32 := 0
  mepc : BitVec 32 := 0
  mcause : BitVec 32 := 0
  mtval : BitVec 32 := 0
  deriving DecidableEq, Repr

/-- What the comparator holds of an instruction that the main hart has run and the checker has not: what the main hart
was given, and what it put out (R386). -/
structure HartOut where
  given : HartIn
  fetch : BitVec 32
  req : HartReq
  deriving DecidableEq, Repr

/-- Headland (Table 20.1), its two harts and their comparator (R386). -/
structure Headland where
  frzNum : BitVec 16 := 0
  frzCtx : BitVec 4 := 0
  frzAll : Bool := false
  relCtx : BitVec 4 := 0
  relAll : Bool := false
  relPending : BitVec 16 := 0            -- contexts whose release waits for STOPPED
  pinhold : Bool := false
  off : BitVec 12 := 0
  slot : BitVec 3 := 0
  core : BitVec 9 := 0
  idl : BitVec 32 := 0
  idh : BitVec 32 := 0
  icst : BitVec 2 := 0
  hbsel : BitVec 4 := 0
  hbmiss : BitVec 16 := 0
  herr : BitVec 13 := 0
  hemask : BitVec 13 := 0
  heact : BitVec 9 := 0
  log : List LogEntry := []
  lost : Nat := 0
  latch : BitVec 4 := 0
  run : BitVec 4 := 0
  hwdog : BitVec 32 := 0x016E3600
  hwFrac : Nat := 0                      -- fifths of a count that device time has left over (1.2 GHz)
  timeh : BitVec 32 := 0
  popped : BitVec 32 := 0
  posts : Nat := 0                       -- writes of HFWMB
  mail : List (BitVec 32) := []          -- requests posted and not ended, oldest first
  mailWait : Bool := false               -- the unmap that is served waits for its invalidation
  fwstatus : BitVec 32 := 0              -- the status with which the last of them ended
  main : Hart := {}
  checker : Hart := {}
  behind : List HartOut := []            -- what the checker is behind by, oldest first
  mcycle : BitVec 64 := 0
  minstret : BitVec 64 := 0
  inhibit : BitVec 32 := 0               -- mcountinhibit: bit 0 mcycle, bit 2 minstret
  deriving DecidableEq, Repr

/-- Boot phases (R397, R398): held in reset, recovery with the failed step, running. -/
inductive Phase where
  | held
  | recovery (step : Nat)
  | running
  deriving DecidableEq, Repr

/-- One entry of the agenda: which step comes next. It is the outside world's and the arbiters' choice, log 4. -/
inductive Act where
  /-- device time advances by `ns` (R12) -/
  | tick (ns : Nat)
  /-- a slot issues (R82) -/
  | issue (core slot : Nat)
  /-- a cycle of a core: the slot that the choice of R82 names issues, or none does -/
  | core (core : Nat)
  /-- `n` core cycles pass on a core in which its slots hold their tasks and issue nothing (R182) -/
  | idle (core n : Nat)
  /-- a device event of the table -/
  | event (i : Instr)
  /-- the landing cycle of a deposit ends (R109) -/
  | land (core slot : Nat)
  /-- the sector of a byte is evicted from L1, its dirty bytes written back outside a release (R139, R146) -/
  | evict (core pa : Nat)
  /-- a memory-side cache line is evicted, and its tag lost (R146) -/
  | evictLine (line : Nat)
  /-- a TLB entry of a cove, and the core copies, are evicted (R340) -/
  | evictTlb (cove idx : Nat)
  /-- the host stores bytes into the SDIO command window (R363) -/
  | host (off : Nat) (bytes : List Byte)
  /-- the Ebb engine moves the next 1 KiB chunk of the page that fills or leaves a frame (R347) -/
  | chunk (core frame : Nat)
  /-- a byte gets or loses an uncorrectable ECC error -/
  | poison (addr : Nat) (on : Bool)
  /-- the host sets or clears the recovery request of R398 -/
  | cccr (on : Bool)
  /-- a record of another device for device `d` comes in over a Rhoash link (R361) -/
  | peer (rec : Rec) (d : Nat) (word : BitVec 16) (link : Nat)
  /-- another device's firmware relays a host launch over a Rhoash link: context, the command's `ARG` and `ADDR`, and
  g1 to g4 (R361) -/
  | relay (link ctx arg addr : Nat) (args : Vector Word 4)
  /-- Headland's main hart runs an instruction, and its checker the one that it is behind by (R386) -/
  | hart
  /-- the NOR store's bytes as manufactured or programmed outside (R395) -/
  | nor (off : Nat) (bytes : List Byte)
  deriving DecidableEq, Repr

/-- The role of the word that `exec` runs: alone, first or second of a pair (R19). -/
inductive Role where
  | lone | head | tail
  deriving DecidableEq, Repr

/-- The slot that issues. -/
structure Cur where
  core : Fin 512 := 0
  slot : Fin 5 := 0
  role : Role := .lone
  word : BitVec 32 := 0
  /-- The slot as the tail of this bundle leaves its registers, for a head that carries them away (R21, R194). -/
  tail : Option Slot := none
  deriving DecidableEq, Repr

/-- The machine. -/
structure State where
  cores : FMap Core := []
  coves : FMap Cove := []
  ctxs : FMap Ctx := []
  mem : List Host.Cell := []
  poison : List Nat := []
  msc : FMap MscLine := []
  trapDrops : FMap (BitVec 32) := []      -- TRAP records dropped from the trap store, by context, since reset (R366)
  regions : FMap (BitVec 16) := []
  /-- Boundary commits that firmware cores have asked for, in arrival order: core, target, new boundaries (R73). -/
  commits : List (Nat × Nat × BitVec 22 × BitVec 22 × BitVec 22) := []
  /-- Cores behind the mesh firewall registers (R9, R397). -/
  firewall : BitVec 512 := 0
  regionFrom : Option Nat := none         -- firmware core whose region commit runs
  regionNew : FMap (BitVec 16) := []      -- the table that it commits
  frameLay : FMap Nat := []
  dies : Vector Die 2 := Vector.replicate 2 {}
  invals : List Inval := []
  period : BitVec 16 := 0
  allowance : Nat := 0                    -- A of R400, in halves of a nJ
  net : List Msg := []
  msgSeq : Nat := 0
  streams : FMap Stream := []
  portBadVc : FMap (BitVec 32) := []
  portBadType : FMap (BitVec 32) := []
  /-- Events of a camera port in the present microsecond (R371). -/
  portRate : FMap (Nat × Nat) := []
  links : FMap Link := []
  timers : List Timer := []
  /-- Records whose queue's wait list was full, with the time of their next sending (R207). -/
  retries : List (Nat × Msg) := []
  sdioBusy : Bool := true
  sdioDone : Bool := false
  sdioWait : Bool := false               -- an unmap of the present command waits for its invalidation
  cccr : Bool := false
  barriers : FMap Barrier := []
  headland : Headland := {}
  phase : Phase := .held
  fuse : Nat := 0
  svn : Nat := 0
  measured : BitVec 512 := 0              -- digest of the running image (R399)
  conf : Word := 0x005F012C004C010F      -- Table 21.2 reset fields: 95 C, 300 W, 4 cores from row 12, die 1, column 15
  /-- One count for both dies, whose copies may differ by 1 ns (R12; DESIGN CHOICE, log 78). -/
  dtime : Word := 0
  dev : BitVec 2 := 0
  ring : Nat := 1
  capptr : BitVec 48 := 0xFFFFFFFFC000
  cur : Cur := {}
  agenda : List Act := []
  free : Nat := 0
  deriving DecidableEq, Repr

/-- The machine right after reset (21_boot_power.md R397): every core held, every context free, nothing running.
The values that no rule states are those of logs 2 to 6. -/
def State.reset : State := {}

end Sys2Proof.Machine
end

