-- ==== Sys2Proof/Machine/Ops.lean ====
section
/-! DEFINITION. The named operations over registers, memory, translation, local pages, messages and traps. -/

namespace Sys2Proof.Machine

/-! ### Parts of the state -/

def State.core (s : State) (c : Nat) : Core := s.cores.getD c {}
def State.setCore (s : State) (c : Nat) (k : Core) : State := { s with cores := s.cores.set c k }
def State.modCore (s : State) (c : Nat) (f : Core → Core) : State := s.setCore c (f (s.core c))
def State.cove (s : State) (n : Nat) : Cove := s.coves.getD n {}
def State.setCove (s : State) (n : Nat) (k : Cove) : State := { s with coves := s.coves.set n k }
def State.modCove (s : State) (n : Nat) (f : Cove → Cove) : State := s.setCove n (f (s.cove n))
def State.ctx (s : State) (c : Nat) : Ctx := s.ctxs.getD c {}
def State.setCtx (s : State) (c : Nat) (x : Ctx) : State := { s with ctxs := s.ctxs.set c x }
def State.modCtx (s : State) (c : Nat) (f : Ctx → Ctx) : State := s.setCtx c (f (s.ctx c))
def Core.slot (k : Core) (j : Nat) : Slot := (k.slots[j]?).getD {}
def Core.setSlot (k : Core) (j : Nat) (x : Slot) : Core := { k with slots := k.slots.setIfInBounds j x }
def State.slot (s : State) (c j : Nat) : Slot := (s.core c).slot j
def State.setSlot (s : State) (c j : Nat) (x : Slot) : State := s.modCore c (fun k => k.setSlot j x)
def State.modSlot (s : State) (c j : Nat) (f : Slot → Slot) : State := s.setSlot c j (f (s.slot c j))
/-- The issuing core's index. -/
def State.myCore (s : State) : Nat := s.cur.core.val
/-- The issuing slot's number. -/
def State.mySlot (s : State) : Nat := s.cur.slot.val
/-- The issuing slot. -/
def State.me (s : State) : Slot := (s.core s.cur.core.val).slots[s.cur.slot.val]
/-- The state with the issuing slot replaced. -/
def State.setMe (s : State) (x : Slot) : State :=
  s.setCore s.cur.core.val
    { s.core s.cur.core.val with slots := (s.core s.cur.core.val).slots.set s.cur.slot.val x }
def State.modMe (s : State) (f : Slot → Slot) : State := s.setMe (f s.me)
/-- A meter charges a context (R169). -/
def State.meter (s : State) (x nJ : Nat) : State :=
  { s with free := s.free + 1 }.modCtx x (fun k => if k.state = CtxState.free then k else { k with spent := k.spent + nJ })
/-- The issuing task's context. -/
def State.myCtx (s : State) : Ctx := s.ctx s.me.ctx.toNat

/-! ### Geometry of the device (R8, R9, R17, R306) -/

/-- The cove that holds core `c` (R8). -/
def coveOf (c : Nat) : Nat := 32 * (c / 256) + 8 * (c / 16 % 16 / 4) + c % 16 / 2
/-- Cove position of core `c` (R306). -/
def posOf (c : Nat) : Nat := c % 2 + 2 * (c / 16 % 4)
/-- The core at position `q` of the cove of core `c`. -/
def coreAt (cove q : Nat) : Nat :=
  256 * (cove / 32) + 16 * (4 * (cove % 32 / 8) + q / 2) + 2 * (cove % 8) + q % 2
/-- The firmware cores of the configuration table (R9, R396). -/
def State.isFw (s : State) (c : Nat) : Bool :=
  let w := s.conf.toNat
  c / 256 == w / 2 ^ 8 % 2 && c % 16 == w % 16 && decide (w / 2 ^ 16 % 16 ≤ c / 16 % 16) &&
    decide (c / 16 % 16 < w / 2 ^ 16 % 16 + w / 2 ^ 20 % 32)
/-- Whether a core stands behind the mesh firewall registers (R9). -/
def State.walled (s : State) (c : Nat) : Bool := s.isFw c || s.firewall.getLsbD c
/-- Whether core `c` is given to context `x` (Table 8.1). -/
def Ctx.has (x : Ctx) (c : Nat) : Bool := decide (c < 512) && x.cores.getLsbD c
/-- The other core's index of a pair (R306). -/
def twinOf (c : Nat) : Nat := if c % 2 = 0 then c + 1 else c - 1
/-- The primary of the pair that holds `c`. -/
def primaryOf (c : Nat) : Nat := c - c % 2

/-! ### Registers (R32, R69) -/

/-- g register; g0 reads zero. -/
def Slot.rg (t : Slot) (r : BitVec 5) : Word := if r = 0 then 0 else t.g[r.toNat]'(r.isLt)
/-- v register. -/
def Slot.rv (t : Slot) (r : BitVec 5) : Vec := t.v[r.toNat]'(r.isLt)
/-- Mask register by its low three bits; m0 reads all ones. -/
def Slot.rm' (t : Slot) (r : Nat) : Word := if r % 8 = 0 then BitVec.allOnes 64 else (t.m[r % 8]?).getD 0
/-- A write to g0 is discarded. -/
def Slot.wg (t : Slot) (r : BitVec 5) (x : Word) : Slot :=
  if r = 0 then t else { t with g := t.g.set r.toNat x (r.isLt) }
def Slot.wv (t : Slot) (r : BitVec 5) (x : Vec) : Slot := { t with v := t.v.set r.toNat x (r.isLt) }
/-- A write to m0 is discarded. -/
def Slot.wm (t : Slot) (r : Nat) (x : Word) : Slot :=
  if r % 8 = 0 then t else { t with m := t.m.setIfInBounds (r % 8) x }
def State.rg (s : State) (r : BitVec 5) : Word := s.me.rg r
def State.rv (s : State) (r : BitVec 5) : Vec := s.me.rv r
def State.rmask (s : State) (r : Nat) : Word := s.me.rm' r
def State.wg (s : State) (r : BitVec 5) (x : Word) : State := s.modMe (fun t => t.wg r x)
def State.wv (s : State) (r : BitVec 5) (x : Vec) : State := s.modMe (fun t => t.wv r x)
def State.wmask (s : State) (r : Nat) (x : Word) : State := s.modMe (fun t => t.wm r x)
/-- Flags are OR-ed into `FFLAGS` (R61). -/
def State.orFlags (s : State) (f : Flags) : State := s.modMe (fun t => { t with fflags := t.fflags ||| f })

/-! ### The word and its address (R19, R21) -/

/-- Address of the word being run: a tail stands at the head's address + 4. -/
def State.wordPc (s : State) : Word := if s.cur.role = .tail then s.me.pc + 4 else s.me.pc
/-- Address of the next bundle (R19). -/
def State.nextPc (s : State) : Word := if s.cur.role = .lone then s.me.pc + 4 else s.me.pc + 8
/-- What every completing instruction leaves behind: no pending prefix (R35), no part-done release, request, answer
or failed walk; and a slot that was stalled goes on (Table 9.4). -/
def Slot.settle (t : Slot) : Slot :=
  { t with pfxp := false, relBegun := false, relDone := false, ask := none, got := none, begun := none, walkFail := none, held := none, cbreq := none, joinOn := none, awaiting := [], wq := none, woken := none,
           agreed := false, copy := none, started := 0, issued := t.issued + 1,
           feed := t.feed.filter (fun p => decide (t.issued < p.1)),
           life := match t.life with
             | .stalled _ => .running
             | l => l }
/-- The bundle completes and the PC becomes `pc`. -/
def State.goto (s : State) (pc : Word) : State := s.modMe (fun t => { t.settle with pc := pc })
/-- The bundle completes and the PC advances past it (R19). -/
def State.advance (s : State) : State := s.goto s.nextPc

/-! ### The result of a meaning -/

/-- How a meaning that does not complete ends: a trap, or a wait in the state given. -/
inductive Stop where
  | trap (t : Trap)
  | wait (w : Wait) (s : State)

/-- A meaning: a change of state that may trap or wait. -/
abbrev M := StateT State (Except Stop)

def stopTrap {α : Type} (t : Trap) : M α := fun _ => .error (.trap t)
/-- `raise_trap` of R5. -/
def raise {α : Type} (cause : BitVec 8) (tval : Word) (taddr : BitVec 48) : M α := stopTrap ⟨cause, tval, taddr⟩
/-- The slot waits; the instruction is run again when the slot next issues. -/
def waitFor {α : Type} (w : Wait) : M α := fun s => .error (.wait w s)

namespace Cause
abbrev illegalInstruction : BitVec 8 := 0x01
abbrev illegalFrame : BitVec 8 := 0x02
abbrev illegalPrefix : BitVec 8 := 0x03
abbrev privilege : BitVec 8 := 0x04
abbrev fetchPage : BitVec 8 := 0x05
abbrev loadPage : BitVec 8 := 0x06
abbrev storePage : BitVec 8 := 0x07
abbrev layoutAlias : BitVec 8 := 0x08
abbrev localBounds : BitVec 8 := 0x09
abbrev misaligned : BitVec 8 := 0x0A
abbrev cbIndex : BitVec 8 := 0x0B
abbrev cbEmpty : BitVec 8 := 0x0C
abbrev geomNonfinite : BitVec 8 := 0x0D
abbrev geomTieid : BitVec 8 := 0x0E
abbrev taskBudget : BitVec 8 := 0x0F
abbrev redundancyMismatch : BitVec 8 := 0x10
abbrev jobFault : BitVec 8 := 0x11
abbrev barrierTimeout : BitVec 8 := 0x13
abbrev migrateState : BitVec 8 := 0x14
abbrev software : BitVec 8 := 0x15
abbrev breakpoint : BitVec 8 := 0x16
abbrev eccUncorrectable : BitVec 8 := 0x17
abbrev freeze : BitVec 8 := 0x19
end Cause

/-- `ILLEGAL_INSTRUCTION` with the word and its address (R31). -/
def illegalTrap (s : State) : Trap :=
  ⟨Cause.illegalInstruction, s.cur.word.setWidth 64, s.wordPc.setWidth 48⟩
def illegal {α : Type} : M α := fun s => .error (.trap (illegalTrap s))
def misaligned {α : Type} (n : Nat) (a : Word) : M α := raise Cause.misaligned (BitVec.ofNat 64 n) (a.setWidth 48)
/-- `LOCAL_BOUNDS`: 0 local, 1 cove, 2 owner address or target word (Table 19.1). -/
def bounds {α : Type} (k : Nat) (a : Word) : M α := raise Cause.localBounds (BitVec.ofNat 64 k) (a.setWidth 48)

/-! ### Memory bytes (R2; canonical form: rising addresses, no zero entry) -/

/-- What an unlisted byte reads as: 0 (DESIGN CHOICE, log 2). -/
def Mem.unlisted : Byte := 0
/-- The byte at a stored address. -/
def Mem.get : List Host.Cell → Nat → Byte
  | [], _ => Mem.unlisted
  | (a, x) :: t, k => if k = a then x else Mem.get t k
/-- The memory with the byte at `k` set, in canonical form. -/
def Mem.set : List Host.Cell → Nat → Byte → List Host.Cell
  | [], k, x => if x = Mem.unlisted then [] else [(k, x)]
  | (a, y) :: t, k, x =>
    if k = a then (if x = Mem.unlisted then t else (k, x) :: t)
    else if k < a then (if x = Mem.unlisted then (a, y) :: t else (k, x) :: (a, y) :: t)
    else (a, y) :: Mem.set t k x
/-- The canonical form as a Boolean: addresses strictly rising, no entry equal to an unlisted byte. -/
def Mem.wf : List Host.Cell → Bool
  | [] => true
  | [(_, x)] => x != Mem.unlisted
  | (a, x) :: (b, y) :: t => x != Mem.unlisted && decide (a < b) && Mem.wf ((b, y) :: t)
/-- Bytes in [lo, lo + n) set to unlisted. -/
def Mem.clear (m : List Host.Cell) (lo n : Nat) : List Host.Cell :=
  m.filter (fun c => !(decide (lo ≤ c.1) && decide (c.1 < lo + n)))
/-- The listed bytes in [lo, lo + n), as offsets from lo. -/
def Mem.slice (m : List Host.Cell) (lo n : Nat) : List Host.Cell :=
  (m.filter (fun c => decide (lo ≤ c.1) && decide (c.1 < lo + n))).map (fun c => (c.1 - lo, c.2))
/-- Bytes written one by one, in order. -/
def Mem.puts (m : List Host.Cell) : List (Nat × Byte) → List Host.Cell
  | [] => m
  | (a, x) :: t => Mem.puts (Mem.set m a x) t
/-- [dst, dst + n) becomes a copy of [src, src + n). -/
def Mem.copy (m : List Host.Cell) (src dst n : Nat) : List Host.Cell :=
  Mem.puts (Mem.clear m dst n) ((Mem.slice m src n).map (fun c => (dst + c.1, c.2)))

def State.byte (s : State) (a : Nat) : Byte := Mem.get s.mem a
def State.setByte (s : State) (a : Nat) (x : Byte) : State := { s with mem := Mem.set s.mem a x }
/-- `n` bytes from a stored address, lowest first. -/
def State.bytes (s : State) : Nat → Nat → List Byte
  | _, 0 => []
  | a, n + 1 => s.byte a :: s.bytes (a + 1) n
def State.putBytes (s : State) (a : Nat) (l : List Byte) : State :=
  { s with mem := Mem.puts s.mem (l.mapIdx (fun i x => (a + i, x))) }
/-- A little-endian number of `n` bytes (R2). -/
def State.num (s : State) (a n : Nat) : Nat := leNat (s.bytes a n)
def State.putNum (s : State) (a n x : Nat) : State := s.putBytes a (leBytes n x)
def State.poisoned (s : State) (a n : Nat) : Bool := s.poison.any (fun p => decide (a ≤ p) && decide (p < a + n))

/-! ### Where storage stands in the one memory (log 8) -/

/-- LPDDR6 of a die, by 1 GiB granule (R359). -/
def lpddr (die gran off : Nat) : Nat := (die * 64 + gran) * 2 ^ 30 + off
/-- Bytes of a core's SRAM pool (R10). -/
def poolBytes : Nat := 0x280000
/-- A core's SRAM pool (R72). -/
def poolAt (c off : Nat) : Nat := 2 ^ 40 + c * 2 ^ 22 + off
/-- The xSPI NOR store (R395). -/
def norAt (off : Nat) : Nat := 2 ^ 42 + off
/-- A cove's Breakwater tile buffer (R233). -/
def tileAt (cove off : Nat) : Nat := 2 ^ 43 + cove * 2 ^ 20 + off
/-- A cove's MXE accumulator memory (R257). -/
def accAt (cove off : Nat) : Nat := 2 ^ 44 + cove * 2 ^ 19 + off
/-- The SDIO command window (R363). -/
def windowAt (off : Nat) : Nat := 2 ^ 45 + off
/-- The recovery staging buffer (R398). -/
def stagingAt (off : Nat) : Nat := 2 ^ 46 + off
/-- Headland's SRAM (R386). -/
def hramAt (off : Nat) : Nat := 2 ^ 47 + off
/-- The table entry of a context with a key: only its ECC errors stand here (log 9). -/
def tableAt (ctx key : Nat) : Nat := 2 ^ 50 + ctx * 2 ^ 46 + 8 * key

/-! ### Messages (R138) -/

namespace Agent
def slot (c j : Nat) : Nat := c * 8 + j
def queueUnit (c : Nat) : Nat := c * 8 + 5
def owner (c : Nat) : Nat := c * 8 + 6
def engine (cove k : Nat) : Nat := 4096 + cove * 4 + k
def stream (n : Nat) : Nat := 4608 + n
def firmware : Nat := 5000
def queue (c q : Nat) : Nat := 10000 + c * 16 + q
def tileStream (cove n : Nat) : Nat := 20000 + cove * 8 + n
def mxe (cove : Nat) : Nat := 21000 + cove
def device (d : Nat) : Nat := 23000 + d
def headland : Nat := 24000
end Agent

/-! ### Paths between the dies (R17, R357, R358, R431)

A router is written as the index of the core that it serves. -/

def State.link (s : State) (i : Nat) : Link := s.links.getD i {}
/-- States in which a link carries traffic (Table 18.1). -/
def LinkState.carries : LinkState → Bool
  | .up => true
  | .degraded => true
  | _ => false
/-- The first firmware core (R396), whose index stands for firmware in the system class. -/
def State.firstFw (s : State) : Nat :=
  let w := s.conf.toNat
  256 * (w / 2 ^ 8 % 2) + 16 * (w / 2 ^ 16 % 16) + w % 16
/-- The router at which an agent enters and leaves the mesh (R431); none for a memory-side cache slice, which the spec
places on no router, and for what is not on the mesh. -/
def State.routerOf (s : State) (a : Nat) : Option Nat :=
  if a < 4096 then some (a / 8)
  else if a < 4608 then some (coreAt ((a - 4096) / 4) 0)
  else if a < 4672 then
    (let p := (a - 4608) / 8
     some (if p < 4 then 16 * (4 * p) else 256 + 16 * (4 * (p - 4)) + 15))
  else if a < 5000 then some (16 * (4 * (a - 4672) + 2))
  else if a = Agent.firmware then some s.firstFw
  else if 10000 ≤ a ∧ a < 20000 then some ((a - 10000) / 16)
  else if 20000 ≤ a ∧ a < 21000 then some (coreAt ((a - 20000) / 8) 0)
  else if 21000 ≤ a ∧ a < 23000 then some (coreAt (a - 21000) 0)
  else none
/-- Die of an agent. -/
def State.dieOf (s : State) (a : Nat) : Option Nat :=
  if 40000 ≤ a then some ((a - 40000) / 4) else (s.routerOf a).map (· / 256)
/-- The UCIe module at which the traffic of a row crosses: the row's own, or the one to which it is routed (R17, R358). -/
def State.moduleOf (s : State) (row : Nat) : Nat := ((s.link (row / 4)).route).getD (row / 4)
/-- Mesh hops between two routers: along x to the edge, over the crossing in place of one hop and on along x and then y
(R17); a crossing away from the row costs its travel along the edge column (R358). -/
def State.meshHops (s : State) (a b : Nat) : Nat :=
  let d (x y : Nat) : Nat := if x ≤ y then y - x else x - y
  let y := a / 16 % 16
  if a / 256 = b / 256 then d (a % 16) (b % 16) + d y (b / 16 % 16)
  else
    let row := if s.moduleOf y = y / 4 then y else min (max y (4 * s.moduleOf y)) (4 * s.moduleOf y + 3)
    let edge (c : Nat) : Nat := if c / 256 = 0 then 15 - c % 16 else c % 16
    edge a + d y row + edge b + d row (b / 16 % 16)
/-- Whether traffic of a row cannot cross between the dies now: its module is held, training or down (R356, R358). -/
def State.rowShut (s : State) (row : Nat) : Bool := !(s.link (s.moduleOf row)).state.carries
/-- Whether a message crosses the dies, and the row of its crossing: its sender's, or where that stands on no router its
receiver's (log 75). -/
def State.crossingRow (s : State) (m : Msg) : Option Nat :=
  match s.dieOf m.src, s.dieOf m.dst with
  | some a, some b => if a = b then none else (((s.routerOf m.src).or (s.routerOf m.dst)).map (fun r => r / 16 % 16))
  | _, _ => none

/-- A message is sent; its number identifies it. -/
def State.post (s : State) (src dst : Nat) (b : Body) : State :=
  { s with net := s.net ++ [⟨s.msgSeq, src, dst, b⟩], msgSeq := s.msgSeq + 1 }
/-- Message `id`, if it is the oldest of its channel (R138) and its way between the dies is open (R356), and the state
without it. -/
def State.take (s : State) (id : Nat) : Option (Msg × State) :=
  match s.net.find? (fun m => m.id == id) with
  | none => none
  | some m =>
    if (s.crossingRow m).any s.rowShut then none
    else match s.net.find? (fun x => x.src == m.src && x.dst == m.dst) with
    | some x => if x.id = m.id then some (m, { s with net := s.net.filter (fun y => y.id != id) }) else none
    | none => none

/-- Requests of a slot that a release waits for (R141) and R155 counts: those still travelling, and posted ones
whose acknowledgement is on its way. -/
def Msg.outstanding (m : Msg) (c j : Nat) : Bool :=
  (m.src == Agent.slot c j && match m.body with
    | .reply .. => false
    | .error .. => false
    | .tidemark .. => false
    | _ => true) ||
  (match m.body with
    | .reply .atomic c' j' _ _ _ => c' == c && j' == j
    | .reply .emit c' j' _ _ _ => c' == c && j' == j
    | _ => false)
def State.outstanding (s : State) (c j : Nat) : Nat := (s.net.filter (fun m => m.outstanding c j)).length
/-- Posted atomics, deposits, messages and decrements of a slot (R155, R193, R197, R333). -/
def Msg.posted (m : Msg) (c j : Nat) : Bool :=
  (m.src == Agent.slot c j && match m.body with
    | .atomic a => a.posted
    | .amsg _ _ _ _ w => !w
    | .jdone .. => true
    | .wake .. => true
    | _ => false) ||
  (match m.body with
    | .reply .atomic c' j' _ _ _ => c' == c && j' == j
    | _ => false)
def State.postedBy (s : State) (c j : Nat) : Nat := (s.net.filter (fun m => m.posted c j)).length

/-- An error report travels to Headland (R389). -/
def State.report (s : State) (src core ctx : Nat) : State :=
  s.post Agent.firmware Agent.headland (.error src core ctx)

/-! ### Records and time stamps (R200 to R203) -/

/-- `ts_before` of R203. -/
def tsBefore (a b : BitVec 48) : Bool := decide (0 < (b - a).toNat) && decide ((b - a).toNat < 2 ^ 47)
def tsMax (a b : BitVec 48) : BitVec 48 := if tsBefore a b then b else a
def State.now48 (s : State) : BitVec 48 := s.dtime.setWidth 48
/-- A source identifier: class, device and index (R200, R201). -/
def State.srcId (s : State) (cls index : Nat) : BitVec 16 :=
  BitVec.ofNat 16 (cls * 2 ^ 14 + s.dev.toNat * 2 ^ 12 + index)
/-- A record's first entry (Table 10.1); `flags` are bits [75:72]. -/
def mkRec (ts : BitVec 48) (src : BitVec 16) (kind flags payload : Nat) : BitVec 128 :=
  BitVec.ofNat 128 (ts.toNat + src.toNat * 2 ^ 48 + kind * 2 ^ 64 + flags * 2 ^ 72 + payload % 2 ^ 48 * 2 ^ 80)
def Rec.ts (r : Rec) : BitVec 48 := r.head.setWidth 48
def Rec.src (r : Rec) : BitVec 16 := BitVec.ofNat 16 (r.head.toNat / 2 ^ 48)
def Rec.kind (r : Rec) : Nat := r.head.toNat / 2 ^ 64 % 256
def Rec.cls (r : Rec) : Nat := r.head.toNat / 2 ^ 62 % 4
/-- The device of a record's source identifier (R201). -/
def Rec.device (r : Rec) : BitVec 2 := BitVec.ofNat 2 (r.src.toNat / 2 ^ 12 % 4)
def Rec.isLong (r : Rec) : Bool := r.head.getLsbD 74
def Rec.late (r : Rec) : Bool := r.head.getLsbD 72
def Rec.payload (r : Rec) : Nat := r.head.toNat / 2 ^ 80
def Rec.setTs (r : Rec) (t : BitVec 48) : Rec :=
  { r with head := BitVec.ofNat 128 (r.head.toNat / 2 ^ 48 * 2 ^ 48 + t.toNat) }
def Rec.setLate (r : Rec) : Rec := { r with head := r.head ||| BitVec.ofNat 128 (2 ^ 72) }

/-! ### Translation (R335 to R342) -/

/-- Index path of `va` at level `l`, as the key of the context's table entry. -/
def ptKey (va l : Nat) : Nat := l * 2 ^ 40 + va / 2 ^ (if l = 1 then 36 else if l = 2 then 25 else 14)
/-- Leaf size at level `l`: 64 GiB, 32 MiB, 16 KiB. -/
def leafSize (l : Nat) : Nat := if l = 1 then 2 ^ 36 else if l = 2 then 2 ^ 25 else 2 ^ 14
def walkStatus (l code : Nat) : BitVec 6 := BitVec.ofNat 6 (l * 16 + code)
/-- A walk that met an uncorrectable error in an entry: code 7, which no walk status of R336 has (log 9). -/
def eccStatus (st : BitVec 6) : Bool := st.toNat % 16 == 7
/-- The region table entry of a 1 GiB range: valid, die, granule (R359). -/
def State.region (s : State) (i : Nat) : BitVec 16 :=
  s.regions.getD i (BitVec.ofNat 16 (2 ^ 15 + (if i ≥ 64 then 2 ^ 14 else 0) + i % 64))
/-- The layout permutation within a frame (Table 17.2). -/
def permute (lay o : Nat) : Nat :=
  match lay with
  | 1 => o / 2 ^ 10 * 2 ^ 10 + ((o / 2 ^ 7 % 8) ^^^ (o / 2 ^ 10 % 8)) * 2 ^ 7 + o % 2 ^ 7
  | 2 => (8 * (o / 2 ^ 7 % 16) + o / 2 ^ 7 / 16) * 2 ^ 7 + o % 2 ^ 7
  | _ => o
/-- Where a physical address is stored: the owning die's LPDDR6 (R10, R359). -/
def State.stored (s : State) (pa : Nat) : Nat :=
  let r := (s.region (pa / 2 ^ 30)).toNat
  lpddr (r / 2 ^ 14 % 2) (r % 64) (pa % 2 ^ 30)
/-- One level of `walk` (R335): the leaf, or the status; `none` to go on. -/
def walkLevel (e : Word) (l : Nat) : Option (Except (BitVec 6) Word) :=
  let n := e.toNat
  let leaf := bits n 1 1
  let lay := bits n 58 2
  if bits n 0 1 = 0 then some (.error (walkStatus l 2))
  else if bits n 60 4 ≠ 0 ∨ bits n 48 10 ≠ 0 ∨ bits n 6 8 ≠ 0 ∨ bits n 2 1 ≠ 0 ∨ lay = 3 ∨
      (leaf = 0 ∧ (bits n 3 3 ≠ 0 ∨ lay ≠ 0)) ∨ (l = 3 ∧ leaf = 0) then some (.error (walkStatus l 3))
  else if leaf = 1 then
    if bits n 14 34 * 2 ^ 14 % leafSize l ≠ 0 then some (.error (walkStatus l 4)) else some (.ok e)
  else none
/-- The layout summary of the block that holds a frame, for a leaf of level `l` (R338); `none` when they differ. -/
def State.layout (s : State) (l pa : Nat) : Option Nat :=
  let own := s.frameLay.getD (pa / 2 ^ 14) 0
  if l = 3 then some own
  else
    let lo := pa / leafSize l * leafSize l / 2 ^ 14
    let n := leafSize l / 2 ^ 14
    let listed := s.frameLay.filter (fun c => decide (lo ≤ c.1) && decide (c.1 < lo + n))
    if listed.length = n then
      (if listed.all (fun c => c.2 == own) then some own else none)
    else if listed.all (fun c => c.2 == 0) then some 0 else none
/-- The walk of R335 with the checks of R338 and R359: the TLB entry, or the status. -/
def State.walk (s : State) (ctx va : Nat) : Except (BitVec 6) TlbEntry :=
  let pt := (s.ctx ctx).pt
  let leaf (l : Nat) (e : Word) : Except (BitVec 6) TlbEntry :=
    let size := leafSize l
    let pa := bits e.toNat 14 34 * 2 ^ 14 + va % size
    if pa ≥ 2 ^ 37 ∨ (s.region (pa / 2 ^ 30)).toNat < 2 ^ 15 then .error (walkStatus l 3)
    else if s.layout l pa ≠ some (bits e.toNat 58 2) then .error (walkStatus l 6)
    else .ok ⟨ctx, va / size * size, size, e, l⟩
  let read (l : Nat) : Option (Except (BitVec 6) Word) :=
    if s.poisoned (tableAt ctx (ptKey va l)) 8 then some (.error (walkStatus l 7)) else walkLevel (pt.getD (ptKey va l) 0) l
  if va ≥ 2 ^ 48 then .error (walkStatus 0 1)
  else match read 1 with
    | some (.error x) => .error x
    | some (.ok e) => leaf 1 e
    | none => match read 2 with
      | some (.error x) => .error x
      | some (.ok e) => leaf 2 e
      | none => match read 3 with
        | some (.error x) => .error x
        | some (.ok e) => leaf 3 e
        | none => .error (walkStatus 3 3)
/-- The kind of an access, for the permission it needs (R336). -/
inductive Acc where
  | fetch | load | store | engineWrite
  deriving DecidableEq, Repr
def TlbEntry.allows (t : TlbEntry) (k : Acc) : Bool :=
  match k with
  | .fetch => t.entry.getLsbD 5
  | .load => t.entry.getLsbD 3
  | .store => t.entry.getLsbD 3 && t.entry.getLsbD 4
  | .engineWrite => t.entry.getLsbD 4
/-- The physical address that a translation gives a virtual address (R335, R337). -/
def TlbEntry.physical (t : TlbEntry) (va : Nat) : Nat :=
  let pa := bits t.entry.toNat 14 34 * 2 ^ 14 + (va - t.va)
  pa / 2 ^ 14 * 2 ^ 14 + permute (bits t.entry.toNat 58 2) (pa % 2 ^ 14)
/-- Where it is stored. -/
def State.through (s : State) (t : TlbEntry) (va : Nat) : Nat := s.stored (t.physical va)
def tlbFind (l : List TlbEntry) (ctx va : Nat) : Option TlbEntry :=
  l.find? (fun t => t.ctx == ctx && decide (t.va ≤ va) && decide (va < t.va + t.size))
/-- An engine's or firmware's translation: the walk's result for the address, with the permission checked. -/
def State.engineVa (s : State) (ctx va : Nat) (k : Acc) : Except (BitVec 6) Nat :=
  match s.walk ctx va with
  | .error x => .error x
  | .ok t => if t.allows k then .ok (s.through t va) else .error (walkStatus t.level 5)
/-- The TLB lookup of R340 for a slot of core `c`: core TLB, then cove TLB. -/
def State.lookup (s : State) (c ctx va : Nat) : Option TlbEntry :=
  match tlbFind (s.core c).tlb ctx va with
  | some t => some t
  | none => tlbFind (s.cove (coveOf c)).tlb ctx va
/-- The page trap of an access whose walk status is `st` (R336). -/
def pageTrap (k : Acc) (va : Word) (st : BitVec 6) : Trap :=
  if eccStatus st then ⟨Cause.eccUncorrectable, 0, va.setWidth 48⟩
  else
    let cause := if st.toNat % 16 = 6 then Cause.layoutAlias else match k with
      | .fetch => Cause.fetchPage
      | .load => Cause.loadPage
      | _ => Cause.storePage
    ⟨cause, st.setWidth 64, va.setWidth 48⟩
/-- Whether an address falls in the range of the leaf that a walk finds, or of the entry at which it fails (R340). -/
def State.walkCovers (s : State) (w : Walk) (ctx va : Nat) : Bool :=
  let size := match s.walk w.ctx w.va with
    | .ok t => t.size
    | .error st => leafSize (max 1 (st.toNat / 16))
  w.ctx == ctx && w.va / size == va / size
/-- The fault code of an engine's access whose walk failed: 7 where an entry has an ECC error, else 2 (Table 12.3). -/
def walkCode (st : BitVec 6) : Nat := if eccStatus st then 7 else 2
/-- Why an engine's access stops. -/
inductive JobStop where
  | fault (code addr : Nat)
  /-- a local page to wait for -/
  | absent (core page : Nat)
  /-- the request cannot cross the dies now (R156, R356), or waits for the cove's walker (R340) -/
  | held
  /-- a miss in the cove TLB, with the entry that the engine's walk finds -/
  | walk (t : TlbEntry)
  deriving DecidableEq, Repr
/-- Walks that a cove's walker has in progress at most (R340). -/
def walkerSize : Nat := 16
/-- The translation that an engine of cove `v` finds: in the cove TLB, else by a walk. A miss in the range of a walk in
progress waits for that walk, and with a full walker every miss waits (R340). -/
def State.coveEntry (s : State) (v ctx va : Nat) : Except JobStop TlbEntry :=
  match tlbFind (s.cove v).tlb ctx va with
  | some t => .ok t
  | none =>
    if (s.cove v).walks.any (fun w => s.walkCovers w ctx va) || decide (walkerSize ≤ (s.cove v).walks.length) then .error .held
    else match s.walk ctx va with
      | .error st => .error (.fault (walkCode st) va)
      | .ok t => .error (.walk t)
/-- The translation of an engine's access, its permission checked. -/
def State.coveAllows (s : State) (v ctx va : Nat) (k : Acc) : Except JobStop TlbEntry := do
  let t ← s.coveEntry v ctx va
  if t.allows k then .ok t else .error (.fault 2 va)
/-- The stored address of an access by an engine of cove `v`. -/
def State.coveVa (s : State) (v ctx va : Nat) (k : Acc) : Except JobStop Nat :=
  (s.coveAllows v ctx va k).map (fun t => s.through t va)
/-- Pages of the virtual space: no more walks than these can be new. -/
def walkFuel : Nat := 2 ^ 34
/-- The answer of an engine's accesses in cove `v`, each miss walked in turn, and the entries that the walks brought. -/
def State.reachBy {α : Type} (v : Nat) (f : State → Except JobStop α) : Nat → State → Except JobStop (α × List TlbEntry)
  | 0, _ => .error .held
  | n + 1, s => match f s with
    | .ok x => .ok (x, [])
    | .error (.walk t) =>
      (State.reachBy v f n (s.modCove v (fun k => { k with tlb := k.tlb ++ [t] }))).map (fun r => (r.1, t :: r.2))
    | .error e => .error e
def State.reach {α : Type} (s : State) (v : Nat) (f : State → Except JobStop α) : Except JobStop (α × List TlbEntry) :=
  State.reachBy v f walkFuel s
/-- A walk takes the waiters of another. -/
def Walk.merge (w o : Walk) : Walk :=
  { w with waiters := w.waiters ++ o.waiters.filter (fun p => !w.waiters.contains p), hints := w.hints ++ o.hints }
/-- A miss enters a cove's walker: it merges with a walk in progress whose leaf range it falls in, else it is one of 16
walks, else one of 64 misses that wait; beyond these the requester asks again (R340). -/
def State.enterWalk (s : State) (v : Nat) (m : Walk) : State :=
  s.modCove v (fun k =>
    if k.walks.any (fun w => s.walkCovers w m.ctx m.va) then
      { k with walks := k.walks.map (fun w => if s.walkCovers w m.ctx m.va then w.merge m else w) }
    else if k.walks.length < walkerSize then { k with walks := k.walks ++ [m] }
    else if k.misses.length < 64 ∧ (!m.hints.isEmpty ∨ !k.misses.contains m) then { k with misses := k.misses ++ [m] } else k)
/-- Whether a cove's walker takes a miss now (R340). -/
def State.walkRoom (s : State) (v ctx va : Nat) : Bool :=
  (s.cove v).walks.any (fun w => s.walkCovers w ctx va) || decide ((s.cove v).walks.length < walkerSize) ||
    decide ((s.cove v).misses.length < 64)
/-- The miss of the issuing slot. -/
def State.askWalk (s : State) (ctx va : Nat) : State :=
  s.enterWalk (coveOf s.myCore) { ctx := ctx, va := va, waiters := [(s.myCore, s.mySlot, va)] }
/-- A slot's translation, permission checked: the entry, a page trap, or a wait for the walk (R336, R340). -/
def translateTo (va : Word) (k : Acc) : M TlbEntry := fun s =>
  let v := va.toNat
  let ctx := s.me.ctx.toNat
  if v ≥ 2 ^ 48 then .error (.trap (pageTrap k va (walkStatus 0 1)))
  else match s.lookup s.myCore ctx v with
    | some t =>
      if t.allows k then .ok (t, s) else .error (.trap (pageTrap k va (walkStatus t.level 5)))
    | none =>
      match s.me.walkFail with
      | some (p, st) =>
        if p = v / 2 ^ 14 then .error (.trap (pageTrap k va st)) else .error (.wait .walk (s.askWalk ctx v))
      | none => .error (.wait .walk (s.askWalk ctx v))
/-- Whether a stored address lies on the other die of a core. -/
def crossDie (c a : Nat) : Bool := a / 2 ^ 36 != c / 256
/-- Whether a new request of core `c` for a stored address is held: it crosses the dies while the region table changes
(R156). -/
def State.regionHeld (s : State) (c a : Nat) : Bool := s.regionFrom.isSome && crossDie c a
/-- Whether an access of core `c`'s router to a stored address cannot cross now (R156, R356). -/
def State.heldBack (s : State) (c a : Nat) : Bool := s.regionHeld c a || (crossDie c a && s.rowShut (c / 16 % 16))
/-- The stored address of a slot's access; a new cross-die request is held while the region table changes (R156). -/
def translate (va : Word) (k : Acc) : M Nat := do
  let t ← translateTo va k
  fun s =>
    let a := s.through t va.toNat
    if s.regionHeld s.myCore a then .error (.wait .hold s) else .ok (a, s)

/-! ### Local pages (R343 to R346) -/

def Core.frameCount (k : Core) : Nat := (k.b2.toNat - k.b1.toNat) / 2 ^ 14
/-- The pool offset of frame `f` (R344). -/
def Core.frameOff (k : Core) (f : Nat) : Nat := k.b1.toNat + f * 2 ^ 14
/-- The frame that holds local page `p` of a context. -/
def Core.frameOf (k : Core) (ctx p : Nat) : Option (Nat × Frame) :=
  k.frames.find? (fun x => x.2.ctx == ctx && x.2.page == p)
/-- The unpinned resident frame of oldest stamp, ties to the lower frame (R345). -/
def oldest : List (Nat × Frame) → Option (Nat × Frame)
  | [] => none
  | x :: t =>
    let ok := decide (x.2.pins = 0) && decide (x.2.state = .resident)
    match oldest t with
    | none => if ok then some x else none
    | some y => if ok && decide (x.2.stamp ≤ y.2.stamp) then some x else some y
/-- A frame as it begins to fill for a request. -/
def PageAsk.frame (r : PageAsk) : Frame := { ctx := r.ctx, page := r.page, state := .filling, cls := r.cls }
/-- Requests for one page merge, at the higher class (R346, R347). -/
def PageAsk.join (r o : PageAsk) : PageAsk :=
  if r.ctx = o.ctx ∧ r.page = o.page then { r with cls := min r.cls o.cls } else r
/-- Frames whose page no stalled access waits for: only these may be victims, so that each stalled access is performed
first (Table 17.3). -/
def Core.unwaited (k : Core) : FMap Frame :=
  k.frames.filter (fun x => !k.waits.any (fun w => w.1 == x.2.ctx && w.2.1 == x.2.page))
/-- A request takes the lowest free frame, or a victim's (R345): a clean victim is dropped, a dirty one is spilled first;
none when every frame is pinned. -/
def Core.obtain (k : Core) (r : PageAsk) : Option Core :=
  match (List.range k.frameCount).find? (fun f => (k.frames.find f).isNone) with
  | some f => some { k with frames := k.frames.set f r.frame }
  | none => (oldest k.unwaited).map (fun x =>
    { k with frames := k.frames.set x.1 (if x.2.dirty then { x.2 with state := .spilling, next := some r, pos := 0 } else r.frame) })
/-- Whether a page has a frame, or one whose spill it waits for. -/
def Core.placed (k : Core) (ctx p : Nat) : Bool :=
  (k.frameOf ctx p).isSome || k.frames.any (fun x => x.2.next.any (fun r => r.ctx == ctx && r.page == p))
/-- A page is requested (R345): it merges with an earlier request of the page; else it takes a frame, or waits behind the
requests that wait already. -/
def Core.request (k : Core) (ctx p : Nat) (cls : Nat := 1) : Core :=
  let r : PageAsk := ⟨ctx, p, cls⟩
  match k.frameOf ctx p with
  | some (f, fr) => (match fr.state with
    | .resident => k
    | .filling => { k with frames := k.frames.set f { fr with cls := min fr.cls cls } }
    | .spilling => { k with frames := k.frames.set f { fr with demand := true } })
  | none =>
    if k.placed ctx p then
      { k with frames := k.frames.map (fun x : Nat × Frame => (x.1, { x.2 with next := x.2.next.map (fun o => o.join r) })) }
    else if k.fills.any (fun o => o.ctx == ctx && o.page == p) then { k with fills := k.fills.map (fun o => o.join r) }
    else if k.fills.isEmpty then (k.obtain r).getD { k with fills := [r] }
    else { k with fills := k.fills ++ [r] }
/-- Requests that waited for a frame try again, oldest first, up to one that still finds none. -/
def Core.retryList : List PageAsk → Core → Core
  | [], k => { k with fills := [] }
  | r :: l, k => if k.placed r.ctx r.page then Core.retryList l k
    else match k.obtain r with
      | some k' => Core.retryList l k'
      | none => { k with fills := r :: l }
def Core.retryFills (k : Core) : Core := Core.retryList k.fills k
/-- Whether an access may enter the local order: no earlier access stalled on its page waits still (R346). -/
def Core.mayEnter (k : Core) (ctx p who : Nat) : Bool :=
  match k.waits.find? (fun w => w.1 == ctx && w.2.1 == p) with
  | some w => w.2.2 == who
  | none => true
/-- How accesses other than those of the core's own slots stand among the accesses that wait for a page: those of a slot
of another core of the cove that have not left it, messages, and job `id` of an engine's kind `k`: 0 the MXE, 2 the Ebb
engine, 3 the load of a side (R346). -/
def farWho (c j : Nat) : Nat := 8 + 2 * (8 * c + j)
def engineWho (k id : Nat) : Nat := 8 + 2 * (8192 + 4 * id + k)
def msgWho (id : Nat) : Nat := 9 + 2 * id
/-- An access waits for its page. -/
def Core.await (k : Core) (ctx p who : Nat) : Core :=
  if k.waits.contains (ctx, p, who) then k else { k with waits := k.waits ++ [(ctx, p, who)] }
/-- The access is performed, and its frame may be a victim again. -/
def Core.entered (k : Core) (ctx p who : Nat) : Core :=
  if k.waits.contains (ctx, p, who) then { k with waits := k.waits.filter (· != (ctx, p, who)) }.retryFills else k
/-- Every wait of a slot or message ends. -/
def Core.leave (k : Core) (who : Nat) : Core :=
  if k.waits.any (fun w => w.2.2 == who) then { k with waits := k.waits.filter (fun w => w.2.2 != who) }.retryFills else k
/-- An access that finds its page absent asks for it, and waits in its turn (R345, R346). -/
def State.waitPage (s : State) (c ctx p who : Nat) (cls : Nat := 1) : State :=
  s.modCore c (fun k => (k.request ctx p cls).await ctx p who)
/-- Every wait of an engine's job, on any core, ends. -/
def State.leaveAll (s : State) (who : Nat) : State :=
  (s.cores.filter (fun k => k.2.waits.any (fun w => w.2.2 == who))).foldl (fun s k => s.modCore k.1 (fun q => q.leave who)) s
/-- A pin is dropped (R185, R345). -/
def Core.unpin (k : Core) (f : Nat) : Core :=
  match k.frames.find f with
  | some fr => { k with frames := k.frames.set f { fr with pins := fr.pins - 1 } }
  | none => k
def Core.pin (k : Core) (f : Nat) : Core :=
  match k.frames.find f with
  | some fr => { k with frames := k.frames.set f { fr with pins := fr.pins + 1 } }
  | none => k
/-- An access stamps its frame, and a store marks it dirty (R344, Table 17.3). -/
def Core.touch (k : Core) (f : Nat) (store : Bool) : Core :=
  match k.frames.find f with
  | some fr => { k with stamp := k.stamp + 1
                        frames := k.frames.set f { fr with stamp := k.stamp + 1, dirty := fr.dirty || store, copied := fr.copied && !store } }
  | none => k

/-- Where a local byte stands: outside the local space, in a page that is not resident, or at a stored address with
its frame. -/
inductive Where where
  | outside
  | absent (page : Nat)
  | failed (page : Nat)
  | here (frame addr : Nat)
  deriving DecidableEq, Repr
/-- A local address of a context on a core (R343, R344). -/
def State.local? (s : State) (c ctx la : Nat) : Where :=
  if la ≥ 2 ^ 23 ∨ la ≥ 2 ^ 14 * (s.ctx ctx).lpages then .outside
  else
    let k := s.core c
    match k.frameOf ctx (la / 2 ^ 14) with
    | none => .absent (la / 2 ^ 14)
    | some (f, fr) =>
      if fr.fault then .failed (la / 2 ^ 14)
      else if fr.state = .resident then .here f (poolAt c (k.frameOff f + la % 2 ^ 14)) else .absent (la / 2 ^ 14)
/-- A local access of the issuing slot to `n` bytes that stay within one page: the stored address, `LOCAL_BOUNDS`,
or a wait for the page (R112). `TADDR` is `ta`. -/
def localAddr (ta : Word) (la n : Nat) (store : Bool) : M Nat := fun s =>
  let c := s.myCore
  let ctx := s.me.ctx.toNat
  if la + n > 2 ^ 14 * (s.ctx ctx).lpages then .error (.trap ⟨Cause.localBounds, 0, ta.setWidth 48⟩)
  else match s.local? c ctx la with
    | .outside => .error (.trap ⟨Cause.localBounds, 0, ta.setWidth 48⟩)
    | .absent p => .error (.wait .page (s.modCore c (fun k => (k.request ctx p).await ctx p s.mySlot)))
    | .failed _ => .error (.trap ⟨Cause.eccUncorrectable, 0, ta.setWidth 48⟩)
    | .here f a =>
      let p := la / 2 ^ 14
      if (s.core c).mayEnter ctx p s.mySlot then .ok (a, s.modCore c (fun k => (k.touch f store).entered ctx p s.mySlot))
      else .error (.wait .page (s.modCore c (fun k => k.await ctx p s.mySlot)))
/-- Local pages of a range, made present; the stored address of each byte by `localByte`. -/
def localRange (ta : Word) (la n : Nat) (store : Bool) : M Unit := fun s =>
  let ctx := s.me.ctx.toNat
  if la + n > 2 ^ 14 * (s.ctx ctx).lpages ∨ la ≥ 2 ^ 23 then .error (.trap ⟨Cause.localBounds, 0, ta.setWidth 48⟩)
  else ((List.range ((la + n - 1) / 2 ^ 14 + 1 - la / 2 ^ 14)).forM
    (fun i => do let _ ← localAddr ta ((la / 2 ^ 14 + i) * 2 ^ 14) 1 store; pure ()) : M Unit) s
/-- The stored address of a resident local byte. -/
def State.localByte (s : State) (c ctx la : Nat) : Option Nat :=
  match s.local? c ctx la with
  | .here _ a => some a
  | _ => none
/-- Bytes at resident local addresses. -/
def State.localBytes (s : State) (c ctx : Nat) : Nat → Nat → List Byte
  | _, 0 => []
  | la, n + 1 => (match s.localByte c ctx la with
    | some a => s.byte a
    | none => 0) :: s.localBytes c ctx (la + 1) n
/-- A core's rank among the context's cores, and their number (R343). -/
def Ctx.rank (x : Ctx) (c : Nat) : Nat := ((List.range c).filter x.has).length
def Ctx.coreCount (x : Ctx) : Nat := ((List.range 512).filter x.has).length
/-- Whether a context's bindings have stopped accepting: it drains, was draining as it was frozen, or is released (R163). -/
def Ctx.stopped (x : Ctx) : Bool :=
  x.state == .draining || x.state == .released || (x.state == .frozen && x.prior == .draining)
/-- Virtual address of local page `n` of a core in the spill area. -/
def Ctx.pageVa (x : Ctx) (c n : Nat) : Nat := x.spill + 16384 * (1 + x.rank c * x.lpages + n)
/-- Where the bytes of a local address stand: in a resident frame, or at home in the spill area. -/
def State.homeByte (s : State) (c ctx la : Nat) : Option Nat :=
  match s.localByte c ctx la with
  | some a => some a
  | none => match s.engineVa ctx ((s.ctx ctx).pageVa c (la / 2 ^ 14) + la % 2 ^ 14) .load with
    | .ok a => some a
    | .error _ => none
/-- Bytes stored at resident local addresses, their frames marked dirty. -/
def State.putLocal (s : State) (c ctx : Nat) : Nat → List Byte → State
  | _, [] => s
  | la, x :: t =>
    match s.local? c ctx la with
    | .here f a => ((s.setByte a x).modCore c (fun k => k.touch f true)).putLocal c ctx (la + 1) t
    | _ => s.putLocal c ctx (la + 1) t

/-! ### Taking a trap (R373 to R376) -/

/-- The TRAP record of Table 19.1a. -/
def trapRec (s : State) (c j : Nat) (t : Trap) (tepc : BitVec 48) (task : BitVec 32) (owner : Bool) : Rec :=
  { head := mkRec s.now48 (s.srcId 3 c) 7 4
      (t.cause.toNat + j * 2 ^ 8 + c * 2 ^ 11 + (if owner then 2 ^ 21 else 0))
    ext := [BitVec.ofNat 128 (t.tval.toNat + tepc.toNat * 2 ^ 64),
            BitVec.ofNat 128 (t.taddr.toNat + task.toNat * 2 ^ 64 + (c + coveOf c * 2 ^ 16) * 2 ^ 96), 0] }
/-- The record goes to the context's trap queue on its trap core (R374). -/
def State.sendTrapRec (s : State) (c ctx : Nat) (r : Rec) : State :=
  let x := s.ctx ctx
  s.post (Agent.queueUnit c) (Agent.queue x.trapcore x.trapq) (.record r ctx (.queue x.trapcore x.trapq) .system false)
/-- Waits in which a gang's members stand together, each for its own core: a barrier, an episode, a wait cell (R331,
R334). Their bundles do not transfer control. -/
def Life.joins : Life → Bool
  | .stalled .barrier => true
  | .stalled .episode => true
  | .stalled .linked => true
  | _ => false
/-- What the present instruction of a stopping slot had begun is dropped, to be done again in full. With `keep`, an
answer that has arrived stays for it: only a request whose answer has not arrived is abandoned (R83). -/
def Slot.dropBegun (t : Slot) (keep : Bool) : Slot :=
  let k := keep && t.wq.isNone && t.got.isSome
  { t with relBegun := false, relDone := false, ask := none, got := if k then t.got else none, begun := none,
           walkFail := none, held := none, joinOn := none, awaiting := [], wq := none, woken := none,
           loads := t.loads.filter (fun l => l.dest != .hold), copy := none, agreed := false, predicate := none,
           started := if t.reply.isSome then t.started else 0, stopAt := none }
/-- The slot stops with the trap CSRs of R373 written, at `tepc`. What the present instruction had begun is dropped;
its pending prefix stays unless the cause is `ILLEGAL_PREFIX` (R35). -/
def Slot.trapped (t : Slot) (c j : Nat) (x : Trap) (tepc : BitVec 48) : Slot :=
  { t.dropBegun (x.cause == Cause.taskBudget) with
           tcause := x.cause, tval := x.tval, tepc := tepc,
           ttile := BitVec.ofNat 22 (c + coveOf c * 2 ^ 16),
           ttask := BitVec.ofNat 35 (t.taskid.toNat + j * 2 ^ 32), taddr := x.taddr,
           pc := tepc.setWidth 64, life := .trapped, thaw := false,
           cbreq := if x.cause = Cause.taskBudget then t.cbreq else none,
           pfxp := t.pfxp && decide (x.cause ≠ Cause.illegalPrefix) }
/-- Waiters of a cell: context and local address, with the linked slots in order (R332). -/
def cellKey (ctx la : Nat) : Nat := ctx * 2 ^ 32 + la
/-- The header of a cell with these waiters. -/
def cellHeader (l : List (Nat × BitVec 32 × Nat)) : Nat :=
  let code (w : Nat × BitVec 32 × Nat) : Nat := w.1 / 8 * 4 + w.1 % 4
  match l with
  | [] => 0
  | w :: _ => code w + code (l.getLastD w) * 2 ^ 16 + l.length * 2 ^ 32
/-- The waiters of a cell are set, and its header written. -/
def State.setWaiters (s : State) (o cell : Nat) (l : List (Nat × BitVec 32 × Nat)) : State :=
  (s.modCore o (fun k => { k with links := if l.isEmpty then k.links.del cell else k.links.set cell l })).putLocal o
    (cell / 2 ^ 32) (cell % 2 ^ 32 + 8) (leBytes 8 (cellHeader l))
/-- The waiter of a slot leaves the wait cell it is linked at (R334). -/
def State.unlink (s : State) (c j : Nat) : State :=
  match (s.slot c j).linkedAt with
  | none => s
  | some (o, cell) =>
    (s.setWaiters o cell (((s.core o).links.getD cell []).filter (fun w => w.1 != c * 8 + j))).modSlot c j
      (fun t => { t with linkedAt := none })
/-! ### Readers of codebook sides (R275, R276) -/

def Core.bank (k : Core) (b : Nat) : Bank := (k.banks[b]?).getD {}
def Core.setBank (k : Core) (b : Nat) (x : Bank) : Core := { k with banks := k.banks.setIfInBounds b x }
def Bank.side (b : Bank) (i : Nat) : Side := (b.sides[i]?).getD {}
def Bank.setSide (b : Bank) (i : Nat) (d : Side) : Bank := { b with sides := b.sides.setIfInBounds i d }
/-- The live side's number (R275). -/
def Bank.live (b : Bank) : Option Nat :=
  if (b.side 0).state = .live then some 0 else if (b.side 1).state = .live then some 1 else none
def Bank.mod (b : Bank) (i : Nat) (f : Side → Side) : Bank := b.setSide i (f (b.side i))
/-- A side becomes empty and its units are freed. -/
def Side.emptied (d : Side) : Side := { readers := d.readers }
/-- A reader of a side finishes (R275). -/
def Side.readerDone (d : Side) : Side :=
  let d := { d with readers := d.readers - 1 }
  if d.readers = 0 then
    match d.state with
    | .held false => { d with state := .standby }
    | .held true => d.emptied
    | _ => d
  else d
def Bank.bump (b : Bank) : Bank := { b with gen := b.gen + 1 }
/-- `CBINV` on one side (Table 13.1). -/
def Side.invalidate (d : Side) : Side :=
  match d.state with
  | .live => if d.readers > 0 then { d with state := .held true } else d.emptied
  | .standby => d.emptied
  | .held _ => { d with state := .held true }
  | _ => d
/-- `CBINV` on a bank with no loading side (R286). -/
def Bank.invalidate (b : Bank) : Bank :=
  let had := b.live.isSome
  let b := (b.mod 0 Side.invalidate).mod 1 Side.invalidate
  if had then b.bump else b
/-- The load of side `i` is over. -/
def Bank.loaded (b : Bank) (i : Nat) : Bank := { b with loaders := b.loaders.filter (fun l => l.side != i) }
/-- A bank of a draining context is invalidated once no reader holds it; a side that a load or a restore fills is emptied
as that ends (R163, R280). -/
def Bank.settle (b : Bank) : Bank :=
  if b.dying && (b.side 0).readers == 0 && (b.side 1).readers == 0 then { b.invalidate with dying := !b.loaders.isEmpty || b.moved != 0 } else b
/-- A reader of side `i` finishes. -/
def Bank.endReader (b : Bank) (i : Nat) : Bank := (b.mod i Side.readerDone).settle
/-- A load that expands ends, or is dropped: it reads its sampled side no longer (R276). -/
def State.dropReader (s : State) (c j : Nat) : State :=
  match (s.slot c j).reader with
  | none => s
  | some (b, i) =>
    let s := s.modSlot c j (fun t => { t with reader := none })
    match i with
    | some i => s.modCore c (fun k => k.setBank b ((k.bank b).endReader i))
    | none => s

/-! ### Banks that pass between contexts (R279, R280) -/

/-- A context's handler entry (Table 9.2). -/
def Ctx.handler (x : Ctx) (h : Nat) : Handler := (x.handlers[h]?).getD ⟨0, 0, 0, 255, 0, []⟩
/-- Whether a task of context `d` whose footprint names the bank holds an application slot or a retained entry. -/
def State.namesBank (s : State) (c b d : Nat) : Bool :=
  let names (h : Nat) : Bool := ((s.ctx d).handler h).cbm.getLsbD b
  (List.range 4).any (fun j => let t := s.slot c j
    decide (t.life ≠ .free) && t.ctx.toNat == d && names t.handler) ||
  (s.core c).retained.any (fun e => e.2.ctx == d && names e.2.handler)
/-- Whether the bank may leave its holder. -/
def State.bankIdle (s : State) (c b d : Nat) : Bool :=
  let y := (s.core c).bank b
  !s.namesBank c b d && (y.side 0).readers == 0 && (y.side 1).readers == 0 && y.loaders.isEmpty && y.passing.isNone && y.moved == 0
def Side.used (d : Side) : Bool := decide (d.state ≠ .empty)
/-- A bank's holder gives it up: a bank with sides goes to be saved, an empty one to the oldest claim. -/
def Core.vacate (k : Core) (b : Nat) : Core :=
  let y := k.bank b
  if (y.side 0).used || (y.side 1).used then k.setBank b { y.bump with passing := y.holder, holder := none }
  else match y.claims with
    | [] => k.setBank b { y with holder := none }
    | x :: l => { k.setBank b { y.bump with holder := some x, claims := l, since := k.stamp } with stamp := k.stamp + 1 }
/-- Whether the slot's present `CBLD` rests on a claim of a bank that only such instructions have made. -/
def Slot.freshAt (t : Slot) (b x : Nat) : Bool := t.ctx.toNat == x && t.cbreq.any (fun r => r.fresh && r.bank == b)
/-- A context's claim of a bank stands by itself from now on. -/
def Core.firm (k : Core) (b x : Nat) : Core :=
  { k with slots := k.slots.map (fun t => if t.freshAt b x then { t with cbreq := t.cbreq.map (fun r => { r with fresh := false }) } else t) }
/-- The claim that a slot's present `CBLD` made is withdrawn, as the instruction traps, unless another `CBLD` of the context
waits for it too (R5, R291). -/
def State.unclaim (s : State) (c j : Nat) : State :=
  let x := (s.slot c j).ctx.toNat
  match (s.slot c j).cbreq with
  | some r =>
    let y := (s.core c).bank r.bank
    if !r.fresh ∨ (List.range 5).any (fun i => i != j && (s.slot c i).freshAt r.bank x) then s
    else if y.holder = some x then (if s.bankIdle c r.bank x then s.modCore c (fun k => k.vacate r.bank) else s)
    else s.modCore c (fun k => k.setBank r.bank { y with claims := y.claims.filter (· != x) })
  | none => s

/-- The wait of a slot for a page of another core of its cove ends. -/
def State.leaveFar (s : State) (c j : Nat) : State :=
  ((List.range 8).map (coreAt (coveOf c))).foldl (fun s d =>
    if (s.core d).waits.any (fun w => w.2.2 == farWho c j) then s.modCore d (fun k => k.leave (farWho c j)) else s) s
/-- What the present instruction of a slot holds elsewhere is given back: its link at a wait cell, its core's exact
datapath, its place among those that wait for a page. -/
def State.letGo (s : State) (c j : Nat) : State :=
  ((s.unlink c j).modCore c (fun k => (if k.datapath = some j then { k with datapath := none } else k).leave j)).leaveFar c j
/-- A slot that stops with its group, or by a freeze: what the present instruction had begun is dropped, to be done
again in full; it writes no trap CSR (R83, R311). -/
def Slot.halted (t : Slot) : Slot := { t.dropBegun true with life := .trapped }
/-- The other slots of the task in slot `j` of core `c`: a gang's members, or the twin of a pair. -/
def State.group (s : State) (c j : Nat) : List (Nat × Nat) :=
  let t := s.slot c j
  if t.gang then
    let lead := t.leader.getD (c, j)
    let cores := (List.range 8).map (coreAt (coveOf c))
    ((if (s.slot lead.1 lead.2).gang && (s.slot lead.1 lead.2).taskid == t.taskid then [lead] else []) ++
      (cores.filter (fun d => (s.slot d 0).leader == some lead && (s.slot d 0).taskid == t.taskid)).map (fun d => (d, 0))).filter (· ≠ (c, j))
  else if (s.ctx t.ctx.toNat).pair && t.life != .free then
    if (s.slot (twinOf c) j).taskid = t.taskid then [(twinOf c, j)] else []
  else []
/-- Waits that may last as long as a freeze: for an engine, whose commands for a frozen context pause (R347), for another
task, or for work that a freeze abandons (R302). -/
def Wait.outlasts : Wait → Bool
  | .page => true
  | .recv => true
  | .join => true
  | .barrier => true
  | .episode => true
  | .linked => true
  | .job => true
  | .ebb => true
  | .claim => true
  | .side => true
  | .predicate => true
  | .bank => true
  | _ => false
/-- Whether a frozen slot stops where it stands, though its group has come further (R83, R302, R331, R334). -/
def Slot.stuck (t : Slot) : Bool := t.predicate.isSome || match t.life with
  | .stalled w => w.outlasts
  | _ => false
/-- Whether a slot stops before its present instruction though its group's stop lies further on: a freeze finds it waiting,
its `WAITQ` waits, or it is in stage C of a predicate and its gang's budget is spent (R302, R310, R334). -/
def State.abandons (s : State) (c j : Nat) : Bool :=
  let t := s.slot c j
  (t.frozen && t.stuck) || (t.stopAt.isSome && t.life == .stalled .linked) ||
    (t.predicate.isSome && (match t.leader with
      | some l => (s.slot l.1 l.2).left == 0 && (s.slot l.1 l.2).taskid == t.taskid
      | none => false))
/-- What a tail wrote goes to its slot (R21); a tail that raises no flag leaves what a head wrote (R61). -/
def Slot.merge (u : Slot) (r : Regs) : Slot :=
  { u with
    g := r.g.foldl (fun l p => l.setIfInBounds p.1 p.2) u.g
    v := r.v.foldl (fun l p => l.setIfInBounds p.1 p.2) u.v
    m := r.m.foldl (fun l p => l.setIfInBounds p.1 p.2) u.m
    fflags := u.fflags ||| r.fflags }
/-- A slot that a `WAKE` has unlinked counts as stopped after its `WAITQ`: the result stands in its frame with that of the
bundle's tail (R334), and a gang follower's bundle is issued. -/
def Slot.takeWoken (t : Slot) : Slot :=
  match t.woken, t.wq with
  | some v, some (d, next) => { (((t.begun.map t.merge).getD t).wg d v).settle with
      pc := next, bundles := if t.leader.isSome then t.bundles.drop 1 else t.bundles }
  | _, _ => t
/-- The acquire actions at a scope (R141) for core `c`. -/
def State.acquireAt (s : State) (c scope : Nat) : State :=
  if scope = 0 then s else s.modCore c (fun k => { k with l1 := k.l1.filter (fun p => p.2.dirty) })
/-- The result of a woken `WAITQ` is taken as its slot stops, after the acquire at `.dev` of R333. -/
def State.takeWokenAt (s : State) (c j : Nat) : State :=
  (if (s.slot c j).wq.isSome && (s.slot c j).woken.any (· != 0) then s.acquireAt c 3 else s).modSlot c j Slot.takeWoken
/-- A slot stops with its group. -/
def State.haltSlot (s : State) (c j : Nat) : State :=
  ((s.takeWokenAt c j).letGo c j).modSlot c j Slot.halted
/-- The rest of a group stops at bundle `n`: before it, or at once when it has been issued already (R311, R317) or the slot
waits in a `WAITQ` (R334). The task stays stopped past the release of a freeze that has met it too. -/
def State.stopGroup (s : State) (c j n : Nat) : State :=
  (s.group c j).foldl (fun s p =>
    let s := s.modSlot p.1 p.2 (fun t => { t with thaw := false })
    let t := s.slot p.1 p.2
    if t.life = .free || t.life = .trapped then s
    else if t.issued < n && t.life != .stalled .linked then s.modSlot p.1 p.2 (fun t => { t with stopAt := some n }) else s.haltSlot p.1 p.2) s
/-- A trap at slot `j` of core `c` (R373); a slot of a frozen context is also marked frozen (R378). An instruction that
traps reads its codebook side no longer (R276, R278), and its claim of a bank is none (R5); one that a budget's end stops
keeps both (R376). -/
def State.trapSlot (s : State) (c j : Nat) (x : Trap) : State :=
  let s := if x.cause = Cause.taskBudget then s else (s.dropReader c j).unclaim c j
  let s := s.takeWokenAt c j
  let t := s.slot c j
  let tepc : BitVec 48 := t.pc.setWidth 48
  let s := (s.letGo c j).stopGroup c j t.issued
  let s := s.modSlot c j (fun t => t.trapped c j x tepc)
  s.sendTrapRec c t.ctx.toNat (trapRec s c j x tepc t.taskid false)
/-- The issuing slot takes a trap. -/
def takeTrap (s : State) (x : Trap) : State := s.trapSlot s.myCore s.mySlot x
/-- The issuing slot stalls, the instruction still to be completed (Table 9.4). -/
def stall (s : State) (w : Wait) : State := s.modMe (fun t => { t with life := .stalled w })

/-- The outcome of a meaning (R5): its state, the trap taken from the state before it, or the stalled slot. -/
def finish (s : State) (r : Except Stop (Unit × State)) : Host.Outcome State Fault Refusal :=
  match r with
  | .ok (_, s') => .next s'
  | .error (.trap x) => .next (takeTrap s x)
  | .error (.wait w s') => .next (stall s' w)
/-- A meaning run on a state. -/
def runM (x : M Unit) (s : State) : Host.Outcome State Fault Refusal := finish s (x s)

/-- g register of the issuing slot. -/
def getG (r : BitVec 5) : M Word := fun s => .ok (s.rg r, s)
/-- Write gd and complete. -/
def retG (d : BitVec 5) (x : Word) : M Unit := fun s => .ok ((), (s.wg d x).advance)
/-- Complete. -/
def done : M Unit := fun s => .ok ((), s.advance)
def onlyIf (p : Bool) (e : M Unit) : M Unit := if p then e else pure ()

/-! ### Cove addresses and owner addresses (R135, R151) -/

/-- Core and local address of a cove address for an issuing core. -/
def coveAddr (c ca : Nat) : Nat × Nat := (coreAt (coveOf c) (ca / 2 ^ 7 % 8), ca / 2 ^ 10 * 2 ^ 7 + ca % 2 ^ 7)
/-- The `.c` check of R135: the core and local address, or `LOCAL_BOUNDS`. -/
def coveCheck (ea : Word) : M (Nat × Nat) := fun s =>
  let x := s.myCtx
  let ca := ea.toNat
  let t := coveAddr s.myCore ca
  if ca ≥ 2 ^ 48 ∨ ca ≥ 8 * x.sws ∨ !x.has t.1 then .error (.trap ⟨Cause.localBounds, 1, ea.setWidth 48⟩)
  else .ok (t, s)
/-- The owner-address check of R151 for `n` bytes: core and local address. -/
def ownerCheck (a : Word) (n : Nat) : M (Nat × Nat) := fun s =>
  let x := s.myCtx
  let c := bits a.toNat 48 9
  let la := a.toNat % 2 ^ 48
  if a.toNat ≥ 2 ^ 57 ∨ !x.has c ∨ la + n > x.sws then .error (.trap ⟨Cause.localBounds, 2, a.setWidth 48⟩)
  else .ok ((c, la), s)

/-! ### The L1 (R139) -/

/-- The byte that a load of core `c` finds: in L1 where valid. -/
def State.l1Get (s : State) (c a : Nat) : Option Byte := ((s.core c).l1.find a).map (·.data)
def State.l1Has (s : State) (c a n : Nat) : Bool := (List.range n).all (fun i => (s.l1Get c (a + i)).isSome)
def Core.l1Store (k : Core) (a : Nat) (x : Byte) : Core := { k with l1 := k.l1.set a ⟨x, true, none⟩ }
/-- The slice of its die's memory-side cache that holds a line, PA[9:8] XOR PA[13:12], with the die (R10). -/
def sliceOf (line : Nat) : Nat := line / 2 ^ 28 * 4 + (line % 4 ^^^ line / 16 % 4)
/-- Lines in a slice of 16 MiB (R10). -/
def sliceLines : Nat := 2 ^ 16
/-- The line in the memory-side cache has this tag; a line that comes into a full slice puts another out, which one is
free (R10, log 24). -/
def State.mscSet (s : State) (line : Nat) (x : MscLine) : State :=
  if (s.msc.find line).isSome then { s with msc := s.msc.set line x }
  else
    let l := s.msc.filter (fun p => sliceOf p.1 == sliceOf line)
    if l.length < sliceLines then { s with msc := s.msc.set line x }
    else { s with
      msc := (s.msc.del ((l[Config.freeNat s.free % l.length]?).getD (line, x)).1).set line x, free := s.free + 1 }
/-- A line is brought into the memory-side cache, where absent. -/
def State.mscBring (s : State) (line : Nat) : State := s.mscSet line (s.msc.getD line {})
/-- Eight aligned bytes of a sector are brought into L1 where one of them is absent: every one that is not dirty takes
the present value, so that no load mixes two fills of them (R129). -/
def State.fillGroup (s : State) (c a : Nat) : State :=
  if s.l1Has c a 8 then s
  else s.modCore c (fun k => (List.range 8).foldl (fun k i =>
    match k.l1.find (a + i) with
    | some b => if b.dirty then k else { k with l1 := k.l1.set (a + i) ⟨s.byte (a + i), false, none⟩ }
    | none => { k with l1 := k.l1.set (a + i) ⟨s.byte (a + i), false, none⟩ }) k)
/-- Whether the L1's region of the pool has room for the sectors it holds and those given (R13, R72). -/
def Core.l1Fits (k : Core) (secs : List Nat) : Bool :=
  decide ((List.map (fun (p : Nat × L1Byte) => p.1 / 128) k.l1 ++ secs).dedup.length ≤ (poolBytes - k.b2.toNat) / 128)
/-- The sectors of the L1 with no dirty byte, but for those given. -/
def Core.l1Clean (k : Core) (secs : List Nat) : List Nat :=
  ((List.map (fun (p : Nat × L1Byte) => p.1 / 128) k.l1).dedup).filter (fun x => !secs.contains x && !k.l1.any (fun p => p.2.dirty && p.1 / 128 == x))
/-- A sector leaves the L1. -/
def Core.l1Drop (k : Core) (sec : Nat) : Core := { k with l1 := k.l1.filter (fun p => p.1 / 128 != sec) }
/-- A core's L1 with room for sectors: clean ones leave, which ones is free, as long as there is none, `n` of them at most;
`none` where too few are clean (R13, log 24). -/
def State.l1Make (s : State) (c : Nat) (secs : List Nat) : Nat → Option State
  | 0 => if (s.core c).l1Fits secs then some s else none
  | n + 1 =>
    if (s.core c).l1Fits secs then some s
    else match (s.core c).l1Clean secs with
      | [] => none
      | x :: l =>
        let out := ((x :: l)[Config.freeNat s.free % (l.length + 1)]?).getD x
        State.l1Make ({ s with free := s.free + 1 }.modCore c (fun k => k.l1Drop out)) c secs n
/-- The 128-byte sector of `a` is brought into L1, which keeps it if it can make room, and its line into the memory-side
cache (R139). -/
def State.fillSector (s : State) (c a : Nat) : State :=
  (match s.l1Make c [a / 128] 1 with
    | some s => (List.range 16).foldl (fun (s : State) i => s.fillGroup c (a / 128 * 128 + 8 * i)) s
    | none => s).mscBring (a / 256)
/-- A byte as core `c` sees it now: its own L1, else the memory-side cache. -/
def State.seen (s : State) (c a : Nat) : Byte := (s.l1Get c a).getD (s.byte a)
/-- Whether an outstanding load of the slot reads the byte (R113). -/
def Slot.loading (t : Slot) (a n : Nat) : Bool :=
  t.loads.any (fun l => !l.cove && l.pend.any (fun x => decide (x.2 < a + n) && decide (a < x.2 + l.size)))
/-- Bytes stored by the issuing core into its L1, dirty. -/
def State.putGlobal (s : State) (a : Nat) (l : List Byte) : State :=
  s.modCore s.myCore (fun k => (l.mapIdx (fun i x => (a + i, x))).foldl (fun k p => k.l1Store p.1 p.2) k)

/-! ### Release and acquire (R141, R146) -/

/-- Dirty sectors of a core's L1 with bytes that no write-back in flight carries. -/
def Core.dirtySectors (k : Core) : List Nat :=
  ((k.l1.filter (fun p => p.2.dirty && p.2.carrier.isNone)).map (fun p => p.1 / 128)).dedup
def Core.sectorBytes (k : Core) (sec : Nat) : List (Nat × Byte) :=
  (k.l1.filter (fun p => p.2.dirty && p.2.carrier.isNone && p.1 / 128 == sec)).map (fun p => (p.1, p.2.data))
/-- The dirty bytes of a sector leave as one write-back (R139); a byte is sent once for each time it was stored. `drop`:
the sector's bytes leave L1 afterwards (R149). -/
def State.writeBack (s : State) (c sec : Nat) (tag : Option (Nat × Nat × Nat)) (drop : Bool) : State :=
  match (s.core c).sectorBytes sec with
  | [] => s
  | l => s.modCore c (fun k => { k with
      wb := k.wb ++ [{ num := k.wbSeq, bytes := l, tag := tag, drop := drop,
                       held := s.regionHeld c (128 * sec) }]
      wbSeq := k.wbSeq + 1
      l1 := l.foldl (fun f p => f.set p.1 ⟨p.2, true, some k.wbSeq⟩) k.l1 })
/-- A write-back reaches the memory-side cache: its bytes are performed, and are dirty no longer unless stored again;
the line's tag is set, or cleared outside a release (R146). -/
def State.performWb (s : State) (c : Nat) (w : WriteBack) : State :=
  let s := { s with mem := Mem.puts s.mem w.bytes }
  let clean (l : FMap L1Byte) (p : Nat × Byte) : FMap L1Byte :=
    match l.find p.1 with
    | some b => if b.carrier = some w.num then l.set p.1 { b with dirty := false, carrier := none } else l
    | none => l
  let s := s.modCore c (fun k => { k with l1 := w.bytes.foldl clean k.l1 })
  let s := if w.drop then s.modCore c (fun k => { k with l1 := k.l1.filter (fun p =>
    p.2.dirty || !w.bytes.any (fun b => b.1 / 128 == p.1 / 128)) }) else s
  match w.bytes with
  | [] => s
  | (a, _) :: _ => s.mscSet (a / 256) { tag := w.tag, reported := false }
/-- The issuing core's L1 makes room for the sectors that a store writes; where no clean sector can leave, a dirty one,
which one is free, starts its write-back, and the store waits (R13, R139, log 24). -/
def roomFor (secs : List Nat) : M Unit := fun s =>
  match s.l1Make s.myCore secs secs.length with
  | some s => .ok ((), s)
  | none =>
    let l := (s.core s.myCore).dirtySectors
    .error (.wait .load (match l[Config.freeNat s.free % l.length]? with
      | some x => { s.writeBack s.myCore x none true with free := s.free + 1 }
      | none => s))
/-- A store of the issuing core into its L1, once no load of the slot reads its bytes (R113, R139). -/
def storeGlobal (a : Nat) (l : List Byte) : M Unit := do
  let s ← get
  if s.me.loading a l.length then waitFor .load
  else
    roomFor [a / 128]
    modify (fun s : State => s.putGlobal a l)
/-- Whether every earlier effect of the slot is performed, its global loads have returned, which R142 puts before the
release (log 92), and every write-back that its release found or sent is acknowledged. -/
def State.released (s : State) (c j scope : Nat) : Bool :=
  decide (s.outstanding c j = 0) && (s.slot c j).loads.all (·.cove) &&
    (decide (scope = 0) || (s.core c).wb.all (fun w => decide ((s.slot c j).relUpto ≤ w.num)))
/-- A release begins: every dirty sector of the issuing core's L1 leaves, with the release tag (R141, R146). -/
def State.beginRelease (s : State) (scope : Nat) : State :=
  if s.me.relBegun || scope == 0 then s
  else
    let c := s.myCore
    let tag := some (scope, c, s.me.ctx.toNat)
    let s := (s.core c).dirtySectors.foldl (fun s sec => s.writeBack c sec tag false) s
    s.modMe (fun t => { t with relBegun := true, relUpto := (s.core c).wbSeq })
/-- The issuing slot's release is done. -/
def State.endRelease (s : State) : State := s.modMe (fun t => { t with relDone := true })
/-- The release actions at a scope (R141): the slot waits until they are complete. -/
def release (scope : Nat) : M Unit := fun s =>
  if s.me.relDone then .ok ((), s)
  else
    let s := s.beginRelease scope
    if s.released s.myCore s.mySlot scope then .ok ((), s.endRelease) else .error (.wait .release s)
def acquire (scope : Nat) : M Unit := fun s => .ok ((), s.acquireAt s.myCore scope)
/-- The narrowest scope that holds two cores (R194, R197). -/
def scopeOf (a b : Nat) : Nat := if a = b then 0 else if coveOf a = coveOf b then 1 else if a / 256 = b / 256 then 2 else 3
/-- Whether core `b` lies within `scope` of core `a` (Table 7.2). -/
def within (scope a b : Nat) : Bool := decide (scopeOf a b ≤ scope)

/-- An engine's completion sets the release tag on the lines that the job wrote (R146). -/
def State.tagLines (s : State) (lines : List Nat) (scope core ctx : Nat) : State :=
  lines.foldl (fun s a => s.mscSet a { tag := some (scope, core, ctx), reported := false }) s

/-! ### Pairs and gangs (R309, R314, R315) -/

/-- Whether the issuing task runs paired. -/
def State.paired (s : State) : Bool := s.myCtx.pair
/-- An outbound effect passes the comparator (R315). In a paired context the slot waits until the two copies have been
compared; then the primary performs the effect, and the answer says whether this core is the one. -/
def outbound (addr : Word) (data : List Word) (lanes : List Word := []) : M Bool := fun s =>
  if !s.paired then .ok (true, s)
  else if s.me.agreed then .ok (decide (s.myCore % 2 = 0), s)
  else .error (.wait .pair (s.modMe (fun t =>
    { t with copy := some { word := s.cur.word, addr := addr, data := data, lanes := lanes
                            since := (t.copy.map (·.since)).getD s.dtime.toNat } })))
/-- Whether the issuing slot is a gang follower; its bundle is then the leader's. -/
def State.follower (s : State) : Bool := s.me.leader.isSome
/-- An instruction that acts at the leader only (R232, R249, R384): a follower takes the leader's result. -/
def leaderOnly (d : BitVec 5) (x : M Unit) : M Unit := fun s =>
  if s.follower then
    match s.me.bundles with
    | b :: _ => match b.result with
      | some x => retG d x s
      | none => .error (.wait .gang s)
    | [] => .error (.wait .gang s)
  else x s

/-! ### Requests and replies -/

/-- The instruction completes now, and its reply writes gd later; the slot issues nothing before (R155, R226). -/
def replyLater (d : BitVec 5) (ask : Nat) : M Unit := fun s =>
  .ok ((), (s.advance).modMe (fun t => { t with reply := some (d, ask), life := .stalled .reply }))
/-- A request whose answer the instruction needs before it completes: sent once, then awaited. -/
def askFor (w : Wait) (send : State → State) : M Word := fun s =>
  match s.me.got with
  | some x => .ok (x, s)
  | none =>
    match s.me.ask with
    | some _ => .error (.wait w s)
    | none => .error (.wait w ((send s).modMe (fun t => { t with ask := some s.msgSeq })))
/-- The twin's slot of a paired context mirrors what the primary's slot receives (R314). -/
def State.mirrors (s : State) (c j : Nat) : List (Nat × Nat) :=
  if (s.ctx (s.slot c j).ctx.toNat).pair then [(c, j), (twinOf c, j)] else [(c, j)]
/-- A reply to an instruction that has completed writes gd in the slot's frame (R158, R373). -/
def Slot.deliver (t : Slot) (x : Word) : Slot :=
  match t.reply with
  | some (d, _) =>
    let t := t.wg d x
    { t with reply := none, started := 0, life := match t.life with
      | .stalled _ => .running
      | l => l }
  | none => t
/-- A gang leader's reply also reaches the bundles that its followers hold; a follower's is its own (R232, R249). -/
def State.passReply (s : State) (c j : Nat) (x : Word) : State :=
  if (s.slot c j).leader.isSome then s else (s.group c j).foldl (fun s p => s.modSlot p.1 p.2 (fun t =>
    { t with bundles := t.bundles.map (fun b => if b.result.isNone then { b with result := some x } else b) })) s
/-- A bundle that a gang's leader has issued goes to its followers (R309). -/
def State.share (s : State) (c j : Nat) (b : Bundle) : State :=
  (s.group c j).foldl (fun s p => s.modSlot p.1 p.2 (fun t =>
    if t.leader = some (c, j) then { t with bundles := t.bundles ++ [b] } else t)) s
/-- A value that the primary of a pair obtains once for both cores (R314): the primary passes it on, the twin takes
it; run again for the same bundle, it answers the same. -/
def obtained (x : M (List Word)) : M (List Word) := fun s =>
  if !s.paired then x s
  else
    let even := s.myCore % 2 == 0
    let t := if even then s.slot (s.myCore + 1) s.mySlot else s.me
    match t.feed.find? (fun p => p.1 == s.me.issued) with
    | some p => .ok (p.2, s)
    | none =>
      if !even then .error (.wait (if (s.slot (s.myCore - 1) s.mySlot).life = .stalled .recv then .recv else .pair) s)
      else match x s with
        | .ok (l, s') => .ok (l, s'.modSlot (s.myCore + 1) s.mySlot (fun t => { t with feed := t.feed ++ [(s.me.issued, l)] }))
        | .error e => .error e
/-- A reply that the present instruction waits for. -/
def Slot.answerWith (t : Slot) (x : Word) : Slot :=
  { t with got := some x, life := match t.life with
    | .stalled _ => .running
    | l => l }

/-- Whether a slot holds a task that runs or waits. -/
def Slot.going (t : Slot) : Bool := match t.life with
  | .running => true
  | .stalled _ => true
  | _ => false
/-- Whether the twin of a slot has come to the instruction whose reply arrives, so that both receive it (R314). -/
def State.twinWaits (s : State) (c j : Nat) (p : Slot → Bool) : Bool :=
  !(s.ctx (s.slot c j).ctx.toNat).pair || p (s.slot (twinOf c) j) || !(s.slot (twinOf c) j).going
/-- A reply to an instruction that has completed: it writes gd in the frames, and passes to a gang's followers. A reply
that no longer names a waiting task is an acknowledgement, and is dropped. -/
def State.giveReply (s : State) (c j : Nat) (task : BitVec 32) (ask : Nat) (v : Word) : Option State :=
  let t := s.slot c j
  if t.life = .free ∨ t.taskid ≠ task ∨ t.reply.map (·.2) ≠ some ask then some s
  else if !s.twinWaits c j (fun u => u.reply.isSome) then none
  else
    let s := (s.mirrors c j).foldl (fun s p => s.modSlot p.1 p.2 (fun t => { t with copying := none }.deliver v)) s
    some (s.passReply c j v)
/-- A reply that the present instruction waits for. -/
def State.giveAnswer (s : State) (c j : Nat) (task : BitVec 32) (ask : Nat) (v : Word) : Option State :=
  let t := s.slot c j
  if t.life = .free ∨ t.taskid ≠ task ∨ t.ask ≠ some ask then some s
  else if !s.twinWaits c j (fun u => u.ask.isSome) then none
  else some ((s.mirrors c j).foldl (fun s p => s.modSlot p.1 p.2 (fun t => t.answerWith v)) s)
/-- A value that changes with time, read once by the two cores of a pair (R314). -/
def readOnce (x : State → Word) : M Word := do
  let r ← obtained (fun s => .ok ([x s], s))
  pure (r.headD 0)
/-- Write gd with such a value and complete. -/
def retOnce (d : BitVec 5) (x : Word) : M Unit := do
  let v ← readOnce (fun _ => x)
  retG d v

end Sys2Proof.Machine
end

