-- ==== Sys2Proof/Machine/Operands.lean ====
section
/-! DEFINITION. Operand forms: integers of a type, vector lanes, prefix fields and codebook expansion. -/

namespace Sys2Proof.Machine

/-! ### Integers of a type (R81) -/

def signedType (t : Nat) : Bool := decide (t < 4)
/-- `read_int` of R81. -/
def readInt (x t : Nat) : Int :=
  let w := typeBits t
  let p := x % 2 ^ w
  if signedType t ∧ p ≥ 2 ^ (w - 1) then (p : Int) - 2 ^ w else p
/-- The low `w` bits of an integer. -/
def wrapInt (v : Int) (w : Nat) : Nat := (v % 2 ^ w).toNat
/-- `write_int` of R81. -/
def writeInt (v : Int) (t : Nat) : Word :=
  let w := typeBits t
  let p := wrapInt v w
  if signedType t ∧ p ≥ 2 ^ (w - 1) then BitVec.ofNat 64 (p + 2 ^ 64 - 2 ^ w) else BitVec.ofNat 64 p
def lowest (t : Nat) : Int := if signedType t then -(2 ^ (typeBits t - 1)) else 0
def highest (t : Nat) : Int := if signedType t then 2 ^ (typeBits t - 1) - 1 else 2 ^ typeBits t - 1
/-- `saturate` of R81. -/
def saturate (v : Int) (t : Nat) : Int := min (max v (lowest t)) (highest t)
/-- Sign extension of the low `k` bits (R85). -/
def sext (k x : Nat) : Word := if x / 2 ^ (k - 1) % 2 = 1 then BitVec.ofNat 64 (x % 2 ^ k + 2 ^ 64 - 2 ^ k) else BitVec.ofNat 64 (x % 2 ^ k)
/-- The signed integer in the low `k` bits. -/
def sval (k x : Nat) : Int := if x / 2 ^ (k - 1) % 2 = 1 then (x % 2 ^ k : Nat) - 2 ^ k else (x % 2 ^ k : Nat)
/-- Quotient rounded toward zero; −1 when the divisor is zero (Table 5.3). -/
def divInt (x y : Int) : Int := if y = 0 then -1 else x.tdiv y
/-- Remainder; the dividend when the divisor is zero (Table 5.3). -/
def remInt (x y : Int) : Int := if y = 0 then x else x - y * x.tdiv y
/-- Ones of the low `n` bits. -/
def popcount : Nat → Nat → Nat
  | 0, _ => 0
  | n + 1, x => x % 2 + popcount n (x / 2)
/-- Trailing zeros of the low `n` bits. -/
def ctz : Nat → Nat → Nat
  | 0, _ => 0
  | n + 1, x => if x % 2 = 1 then 0 else 1 + ctz n (x / 2)
/-- Leading zeros of a pattern of `w` bits. -/
def clz (w x : Nat) : Nat := if x = 0 then w else w - 1 - Nat.log2 x

/-! ### Vector lanes (R49, R114) -/

/-- Lane `i` of width `w`. -/
def laneW (w : Nat) (v : Vec) (i : Nat) : Nat := v.toNat / 2 ^ (w * i) % 2 ^ w
/-- `lane(v, t, i)` of R114. -/
def lane (t : Nat) (v : Vec) (i : Nat) : Nat := laneW (typeBits t) v i
/-- Lanes of width `w` packed from lane 0 up. -/
def pack (w : Nat) : List Nat → Nat
  | [] => 0
  | x :: t => x % 2 ^ w + 2 ^ w * pack w t
def ofLanes (w : Nat) (l : List Nat) : Vec := BitVec.ofNat 512 (pack w l)
/-- Every lane of type `t` from its number. -/
def vecOf (t : Nat) (f : Nat → Nat) : Vec := ofLanes (typeBits t) ((List.range (lanes t)).map f)
/-- Lane results with flags: the register, and the OR of the flags. -/
def vecFlags (t : Nat) (f : Nat → Nat × Flags) : Vec × Flags :=
  let l := (List.range (lanes t)).map f
  (ofLanes (typeBits t) (l.map (·.1)), l.foldl (fun a p => a ||| p.2) 0)
/-- Bit `i` of a mask. -/
def active (m : Word) (i : Nat) : Bool := m.getLsbD i
/-- A mask whose bits below `n` are given (R122). -/
def maskOf (n : Nat) (f : Nat → Bool) : Word :=
  BitVec.ofNat 64 (pack 1 ((List.range n).map (fun i => if f i then 1 else 0)))
/-- Lane `i` of width `w` replaced. -/
def setLane (w : Nat) (v : Vec) (i x : Nat) : Vec :=
  BitVec.ofNat 512 (v.toNat - laneW w v i * 2 ^ (w * i) + x % 2 ^ w * 2 ^ (w * i))

/-! ### The prefix (R34 to R36) -/

structure Pfx where
  rm : Nat
  scl : Nat
  xb : Bool
  xa : Bool
  seg : Nat
  bank : Nat
  tb : Nat
  ta : Nat
  deriving DecidableEq, Repr
/-- The fields of a latch, `word[31:8]` of Table 2.13. -/
def Pfx.of (l : BitVec 24) : Pfx :=
  let n := l.toNat
  ⟨bits n 22 2, bits n 19 3, bits n 18 1 == 1, bits n 17 1 == 1, bits n 13 4, bits n 10 3, bits n 5 5, bits n 0 5⟩
/-- The pending prefix of the issuing slot; a tail never has one (R35). -/
def State.pfx (s : State) : Option Pfx :=
  if s.me.pfxp && decide (s.cur.role ≠ .tail) then some (Pfx.of s.me.latch) else none
/-- The rounding mode in force (R54). -/
def State.rmode (s : State) : Nat :=
  match s.pfx with
  | some p => if p.rm ≠ 0 then p.rm else s.me.rm.toNat
  | none => s.me.rm.toNat
/-- The type code that `FCTL.AVT` selects (R26). -/
def State.avType (s : State) : Nat :=
  match s.me.avt.toNat with
  | 0 => 15 | 1 => 16 | 2 => 13 | _ => 14
def illegalPrefix {α : Type} : M α := fun s =>
  .error (.trap ⟨Cause.illegalPrefix, s.cur.word.setWidth 64, s.wordPc.setWidth 48⟩)

/-- What an instruction of a prefixable group honours (Table 2.14, R116): TA and XA, TB and XB, SCL, RM, and `seg`
for BANK and SEG, which the whole group honours, with or without an expansion. -/
structure Honours where
  seg : Bool
  a : Bool
  b : Bool
  scl : Bool
  rm : Bool
  deriving DecidableEq, Repr
/-- The row of Table 2.14 for an instruction that reads operand a, or b, as a vector register (R116); `none` where its
group is not prefixable. -/
def Instr.honours (i : Instr) (w : BitVec 32) : Option Honours :=
  let m := major w
  if isC w then
    match i with
    | .vld _ s _ _ _ => some ⟨true, decide (s.toNat < 4), false, false, false⟩
    | .vgather .. => some ⟨true, true, false, false, false⟩
    | _ => none
  else if m = 0x0B ∨ m = 0x0C then some ⟨false, false, false, false, true⟩
  else match i with
    | .vabs .. => some ⟨true, true, false, false, false⟩
    | .vfsqrt .. => some ⟨true, true, false, false, true⟩
    | .vbcast .. => some ⟨true, false, false, false, false⟩
    | .vins .. => some ⟨true, false, false, false, false⟩
    | .vdot .. => some ⟨true, true, true, false, true⟩
    | _ =>
      if m = 0x10 ∨ m = 0x13 ∨ m = 0x14 then some ⟨true, true, true, false, false⟩
      else if m = 0x11 ∨ m = 0x12 then some ⟨true, true, true, false, true⟩
      else if m = 0x17 then some ⟨true, true, false, false, true⟩
      else if m = 0x15 then some ⟨true, true, false, true, true⟩
      else if m = 0x16 then some ⟨true, true, false, false, false⟩
      else none
/-- Whether the pending prefix breaks one of the checks of R35 that need no bank; `VCVT` with a scale needs an MX
element type on a side (R123). -/
def Instr.prefixBad (i : Instr) (w : BitVec 32) (p : Pfx) : Bool :=
  match Instr.honours i w with
  | none => true
  | some h =>
    (!h.rm && p.rm != 0) || (!h.scl && p.scl != 0) || (!h.a && (p.xa || p.ta != 31)) ||
      (!h.b && (p.xb || p.tb != 31)) || (!h.seg && (p.bank != 0 || p.seg != 0)) ||
      (p.xa && p.ta == 31) || (p.xb && p.tb == 31) || (!p.xa && p.ta != 31) || (!p.xb && p.tb != 31) ||
      (match i with
        | .vcvt _ _ st dt _ _ => p.scl != 0 && !((8 ≤ st.toNat && st.toNat ≤ 12) || (8 ≤ dt.toNat && dt.toNat ≤ 12))
        | _ => false)

/-! ### Codebook sides (R273 to R278) -/

/-- Bits per entry of a side (R274). -/
def Side.entryBits (d : Side) : Nat := typeBits d.et * 2 ^ d.el
/-- Bytes of a side (R274). -/
def sideBytes (cnt et el : Nat) : Nat := (cnt * (typeBits et * 2 ^ el) + 7) / 8
/-- The stored address of byte `i` of a side. -/
def State.sideAddr (s : State) (c : Nat) (d : Side) (i : Nat) : Nat :=
  poolAt c ((s.core c).b0.toNat + 1024 * ((d.units[i / 1024]?).getD 0) + i % 1024)
/-- Entry `i` of a side. -/
def State.entry (s : State) (c : Nat) (d : Side) (i : Nat) : Nat :=
  let e := d.entryBits
  let lo := e * i
  let n := (lo + e + 7) / 8 - lo / 8
  leNat ((List.range n).map (fun k => s.byte (s.sideAddr c d (lo / 8 + k)))) / 2 ^ (lo % 8) % 2 ^ e
/-- Whether a byte of entry `i` has an uncorrectable error. -/
def State.entryBad (s : State) (c : Nat) (d : Side) (i : Nat) : Bool :=
  let e := d.entryBits
  let lo := e * i
  s.poison ≠ [] && (List.range ((lo + e + 7) / 8 - lo / 8)).any (fun k => s.poisoned (s.sideAddr c d (lo / 8 + k)) 1)
/-- The shadow's number (R275). -/
def Bank.shadow (b : Bank) : Nat :=
  match b.live with
  | some l => 1 - l
  | none =>
    let busy (d : Side) : Bool := match d.state with
      | .loading => true
      | .held _ => true
      | _ => false
    if busy (b.side 0) && !busy (b.side 1) then 1 else 0
/-- The live side that a vector reader of the issuing slot samples, or `CB_EMPTY` (R276, R278). -/
def sample (bank : Nat) : M Side := fun s =>
  let b := (s.core s.myCore).bank bank
  if b.holder ≠ some s.me.ctx.toNat ∨ b.passing.isSome then .error (.trap ⟨Cause.cbEmpty, BitVec.ofNat 64 bank, 0⟩)
  else match b.live with
    | some l => .ok (b.side l, s)
    | none => .error (.trap ⟨Cause.cbEmpty, BitVec.ofNat 64 bank, 0⟩)
/-- The side that an expansion reads: a load that has waited for its bytes reads the one sampled at its issue (R116,
R276). -/
def sampled (bank : Nat) : M Side := fun s =>
  match s.me.reader with
  | some (b, some i) => .ok (((s.core s.myCore).bank b).side i, s)
  | some (b, none) => .error (.trap ⟨Cause.cbEmpty, BitVec.ofNat 64 b, 0⟩)
  | none => sample bank s
/-- The side's number that the pending prefix's expansion would read now; `none` where it meets an empty bank. -/
def State.sampleNow (s : State) (bank : Nat) : Option Nat :=
  let b := (s.core s.myCore).bank bank
  if b.holder ≠ some s.me.ctx.toNat ∨ b.passing.isSome then none else b.live
/-- A load that expands has issued and waits for its bytes: it becomes a reader of the live side (R276). -/
def holdSide : M Unit := fun s =>
  match s.pfx with
  | some p =>
    if p.xa && s.me.reader.isNone then
      let i := s.sampleNow p.bank
      let s := s.modMe (fun t => { t with reader := some (p.bank, i) })
      .ok ((), match i with
        | some i => s.modCore s.myCore (fun k => k.setBank p.bank ((k.bank p.bank).mod i (fun d => { d with readers := d.readers + 1 })))
        | none => s)
    else .ok ((), s)
  | none => .ok ((), s)
/-- The entry-size rule and the segment rule of R36 for a side's format and index size `k`. -/
def segmentOk (d : Side) (k seg : Nat) : Bool :=
  let e := d.entryBits
  (e == 4 || e == 8 || e == 16 || e == 32 || e == 64 || e == 128 || e == 256 || e == 512) && decide (k ≤ e) &&
    (if k = 12 then decide ((seg + 1) * (512 / e) * 12 ≤ 512) else decide (seg < e / k))
/-- `expand` of R116, after the format checks. -/
def expand (x : Vec) (k bank seg op : Nat) (d : Side) : M Vec := fun s =>
  let e := d.entryBits
  let n := 512 / e
  let idx := (List.range n).map (fun j => laneW k x (seg * n + j))
  match (idx.mapIdx (fun j v => (j, v))).find? (fun p => decide (p.2 ≥ d.cnt)) with
  | some (j, v) =>
    .error (.trap ⟨Cause.cbIndex, BitVec.ofNat 64 (v + j * 2 ^ 16 + bank * 2 ^ 24 + op * 2 ^ 27), 0⟩)
  | none =>
    let c := s.myCore
    match idx.find? (fun v => s.entryBad c d v) with
    | some v => .error (.trap ⟨Cause.eccUncorrectable, 0, BitVec.ofNat 48 (s.sideAddr c d (e * v / 8) - poolAt c 0)⟩)
    | none => .ok (ofLanes e (idx.map (s.entry c d)), s)
/-- Operands a and b with the pending prefix's expansion (R36, R116). `ta`, `tb` are the element types that the
instruction reads, where it reads one. -/
def expandOps (ta tb : Option Nat) (x y : Vec) : M (Vec × Vec) := fun s =>
  match s.pfx with
  | none => .ok ((x, y), s)
  | some p =>
    if !p.xa && !p.xb then .ok ((x, y), s)
    else (do
      let d ← sampled p.bank
      let bad (on : Bool) (ty : Nat) (t : Option Nat) : Bool :=
        on && (!segmentOk d (typeBits ty) p.seg || (match t with
          | some t => d.et != t
          | none => false))
      if bad p.xa p.ta ta || bad p.xb p.tb tb then illegalPrefix
      else
        let x ← if p.xa then expand x (typeBits p.ta) p.bank p.seg 0 d else pure x
        let y ← if p.xb then expand y (typeBits p.tb) p.bank p.seg 1 d else pure y
        pure (x, y)) s

end Sys2Proof.Machine
end

