-- ==== Sys2Proof/Machine/Tasks.lean ====
section
/-! DEFINITION. Tidemarks of a core and its engines, pending items, the scheduler, and the start and end of tasks (08_context.md, 09_kernel_task.md). -/

namespace Sys2Proof.Machine

/-! ### Tidemark updates (R213 to R215) -/

def tsMin (a b : BitVec 48) : BitVec 48 := if tsBefore a b then a else b
/-- Whether a subscription mask names a live entry that holds a source (R211, R217). -/
def Ctx.subscribes (x : Ctx) (subs : Word) (src : BitVec 16) : Bool :=
  (x.sources.mapIdx (fun i e => e.id == src && subs.getLsbD i)).any id
/-- An update goes to every queue and stream of the context that subscribes the source (R215, R236). -/
def State.sendTides (s : State) (agent ctx : Nat) (src : BitVec 16) (v : BitVec 48) : State :=
  let x := s.ctx ctx
  let s := s.cores.foldl (fun s p => p.2.queues.foldl (fun s q =>
    if q.2.ctx == ctx && q.2.wlen != 0 && x.subscribes q.2.subs src then
      s.post agent (Agent.queue p.1 q.1) (.tidemark (.queue p.1 q.1) ctx src v) else s) s) s
  s.coves.foldl (fun s p => p.2.bw.streams.foldl (fun s t =>
    if t.2.ctx == ctx && x.subscribes ((t.2.d[4]?).getD 0) src then
      s.post agent (Agent.tileStream p.1 t.1) (.tidemark (.stream p.1 t.1) ctx src v) else s) s) s
def State.toutOf (s : State) (c x : Nat) : BitVec 48 := (s.core c).tout.getD x 0
/-- The least T_out of a cove's eight cores for the context (R214, log 28). -/
def State.coveTout (s : State) (n x : Nat) : BitVec 48 :=
  ((List.range 8).map (fun i => s.toutOf (coreAt n i) x)).foldl tsMin (s.toutOf (coreAt n 0) x)
/-- The tidemark of a cove's MXE for a context (R214). -/
def State.mxeTide (s : State) (n x : Nat) : BitVec 48 :=
  (((s.cove n).mxe.jobs.filter (fun j => j.ctx == x && !j.recorded)).map (·.stamp)).foldl tsMin (s.coveTout n x)
/-- The tidemark of a cove's Ebb engine for a context (R214). -/
def State.ebbTide (s : State) (n x : Nat) : BitVec 48 :=
  (((s.cove n).ebb.jobs.filter (fun j => j.ctx == x && !j.recorded)).map (·.stamp)).foldl tsMin (s.coveTout n x)
/-- The engines of a cove send their tidemarks for a context where these have changed (R215). -/
def State.sendEngineTides (s : State) (n x : Nat) : State :=
  let a := s.mxeTide n x
  let b := s.ebbTide n x
  let s := if (s.cove n).mxe.tides.getD x 0 = a then s
    else (s.modCove n (fun k => { k with mxe := { k.mxe with tides := k.mxe.tides.set x a } })).sendTides
      (Agent.engine n 0) x (s.srcId 2 (4 * n)) a
  if (s.cove n).ebb.tides.getD x 0 = b then s
  else (s.modCove n (fun k => { k with ebb := { k.ebb with tides := k.ebb.tides.set x b } })).sendTides
    (Agent.engine n 2) x (s.srcId 2 (4 * n + 2)) b
/-- T_out of a core for a context moves up, and updates follow, sent once for a pair (R213, R228, R232). -/
def State.raiseTout (s : State) (c x : Nat) (v : BitVec 48) : State :=
  let old := s.toutOf c x
  let new := tsMax old v
  if new = old then s
  else
    let s := s.modCore c (fun k => { k with tout := k.tout.set x new })
    (if (s.ctx x).pair && c % 2 == 1 then s else s.sendTides (Agent.queueUnit c) x (s.srcId 1 c) new).sendEngineTides (coveOf c) x
/-- `done[q]` takes the end of a consumed close, and T_out follows the least over the context's `TADV` queues (R213). -/
def State.consumeClose (s : State) (c q : Nat) (t1 : BitVec 48) : State :=
  match (s.core c).queues.find q with
  | none => s
  | some u =>
    if !u.tadv then s
    else
      let s := s.modCore c (fun k => { k with queues := k.queues.set q { u with done := tsMax u.done t1 } })
      match ((s.core c).queues.filter (fun p => p.2.ctx == u.ctx && p.2.tadv)).map (fun p => p.2.done) with
      | [] => s
      | d :: l => s.raiseTout c u.ctx (l.foldl tsMin d)

/-! ### Identifiers and pending items (R165, R166, R178) -/

/-- `next_task_id` of R178, and the core with its sequence advanced. -/
def State.nextTaskId (s : State) (c : Nat) : BitVec 32 × State :=
  let n := (s.core c).seq
  (BitVec.ofNat 32 (c * 2 ^ 23 + n), s.modCore c (fun k => { k with seq := if n + 1 ≥ 2 ^ 23 then 1 else n + 1 }))
/-- The core that keeps a context's items: the primary of a pair (R314). -/
def State.homeOf (s : State) (c x : Nat) : Nat := if (s.ctx x).pair then primaryOf c else c
/-- The cores that a task of a context on core `c` runs on. -/
def State.both (s : State) (c x : Nat) : List Nat := if (s.ctx x).pair then [c, twinOf c] else [c]
/-- A context is active on a core that has a pending item, a waiting message among them, or a task of it, a trapped one too
(R166; DESIGN CHOICE, logs 85 and 96). -/
def Core.active (k : Core) (x : Nat) : Bool :=
  k.items.any (fun i => i.start.ctx == x) || k.svc.any (fun i => i.start.ctx == x) || k.slots.toList.any (fun t => decide (t.life ≠ .free) && t.ctx.toNat == x)
/-- The contexts active on a core. -/
def Core.actives (k : Core) : List Nat := (List.range 16).filter k.active
/-- The virtual time that a context takes as it becomes active (R166). -/
def Core.activate (k : Core) (x : Nat) : Core :=
  if k.active x then k
  else match (k.actives.map (fun y => k.vt.getD y 0)).min? with
    | some m => { k with vt := k.vt.set x (max (k.vt.getD x 0) m) }
    | none => k
/-- What the two lists of a core's pending work keep of a footprint, by number: its start, whether it is served and its
pages asked for, and the pages pinned for it (R185). -/
structure Footprint where
  start : Start
  served : Bool
  asked : Bool
  pins : List Nat
  deriving DecidableEq, Repr
def Core.footprint (k : Core) (num : Nat) : Option Footprint :=
  match k.items.find? (fun i => i.num == num), k.svc.find? (fun i => i.num == num) with
  | some i, _ => some ⟨i.start, i.served, i.asked, i.pins⟩
  | none, some i => some ⟨i.start, i.served, i.asked, i.pins⟩
  | none, none => none
def Core.setFootprint (k : Core) (num : Nat) (f : Footprint) : Core :=
  { k with
    items := k.items.map (fun i => if i.num = num then { i with served := f.served, asked := f.asked, pins := f.pins } else i)
    svc := k.svc.map (fun i => if i.num = num then { i with served := f.served, asked := f.asked, pins := f.pins } else i) }
/-- Footprints of items that became pending before number `num` on a core. -/
def Core.earlier (k : Core) (num : Nat) : List Footprint :=
  (k.items.filter (fun i => decide (i.num < num))).map (fun i => ⟨i.start, i.served, i.asked, i.pins⟩) ++
    (k.svc.filter (fun i => decide (i.num < num))).map (fun i => ⟨i.start, i.served, i.asked, i.pins⟩)
/-- An item becomes pending on a core. A draining context's are discarded, but for records of its trap queue (R163). -/
def State.addItem (s : State) (c : Nat) (kind : ItemKind) (st : Start) : State :=
  let queued := match kind with
    | .record .. => true
    | _ => false
  if (s.ctx st.ctx).stopped ∧ !queued then s
  else s.modCore c (fun k =>
    let k := k.activate st.ctx
    { k with items := k.items ++ [{ num := k.itemSeq, kind := kind, start := st }], itemSeq := k.itemSeq + 1 })
/-- Deque entries on a core, and the room of its store (R72, R187). -/
def Core.dequeLen (k : Core) : Nat := (k.items.filter (fun i => i.kind == .deque)).length
def Core.dequeRoom (k : Core) : Nat := (k.b0.toNat - 20480) / 64

/-! ### Queues' rings -/

/-- Pool address of ring entry `i` of a queue (R204, R205). -/
def State.ringAt (s : State) (c : Nat) (u : Queue) (i : Nat) : Nat :=
  (s.localByte c u.ctx (u.ring + 16 * (i % 2 ^ u.size))).getD (poolAt c ((s.core c).b1.toNat + u.ring + 16 * (i % 2 ^ u.size)))
/-- The 16 bytes of ring entry `i`. -/
def State.ringEntry (s : State) (c : Nat) (u : Queue) (i : Nat) : BitVec 128 := BitVec.ofNat 128 (s.num (s.ringAt c u i) 16)
/-- The record at ring counter `i`, with how many entries it takes (R205). -/
def State.ringRec (s : State) (c : Nat) (u : Queue) (i : Nat) : Rec × Nat :=
  let h := s.ringEntry c u i
  if h.getLsbD 74 then (⟨h, (List.range 3).map (fun k => s.ringEntry c u (i + 1 + k))⟩, 4) else (⟨h, []⟩, 1)
/-- Free entries (R205). -/
def Queue.free (u : Queue) : Nat := 2 ^ u.size - (u.tail + 2 ^ (u.size + 1) - u.head) % 2 ^ (u.size + 1)
/-- The four ev registers from a record (R71). -/
def Rec.evs (r : Rec) : Vector (BitVec 128) 4 :=
  Vector.ofFn (fun i : Fin 4 => ((r.head :: r.ext)[i.val]?).getD 0)

/-! ### Eligibility (R164, R165, R209, R314) -/

/-- Whether a context's state dispatches an item of a priority (Table 8.3). -/
def CtxState.dispatches (t : CtxState) (prio : Nat) (trapQueue : Bool) : Bool :=
  match t with
  | .ready => true
  | .quotaHeld => decide (40 ≤ prio)
  | .faulted => trapQueue
  | .draining => trapQueue
  | _ => false
/-- The state by which a core dispatches a context: whether its quota is spent is what the core last received (R167, R169). -/
def State.stateAt (s : State) (c x : Nat) : CtxState :=
  let seen : CtxState := if ((s.core c).enrg.getD x {}).spentOut then .quotaHeld else .ready
  match (s.ctx x).state with
  | .ready => seen
  | .quotaHeld => seen
  | t => t
/-- Whether a task started from queue `q` of core `c` still runs, is stalled, trapped or migrating (R209). -/
def State.queueBusy (s : State) (c q : Nat) : Bool :=
  let from_ (o : Origin) : Bool := match o with
    | .record c' q' _ => c' == c && q' == q
    | _ => false
  s.cores.any (fun p => p.2.slots.toList.any (fun t => decide (t.life ≠ .free) && from_ t.origin) ||
    p.2.items.any (fun i => match i.kind with
      | .migration k => from_ k.origin
      | _ => false)) ||
  s.net.any (fun m => match m.body with
    | .migrate _ k => from_ k.origin
    | _ => false)
/-- Whether an item of core `c` is eligible for slot `j`. -/
def State.eligible (s : State) (c j : Nat) (i : Item) : Bool :=
  let x := s.ctx i.start.ctx
  let k := s.core c
  let h := x.handler i.start.handler
  let trapQ := match i.kind with
    | .record q _ _ => s.homeOf x.trapcore i.start.ctx == c && x.trapq == q
    | _ => false
  (match i.forSlot with
    | some k => k == j || (s.slot c k).life != .free
    | none => true) &&
  (s.stateAt c i.start.ctx).dispatches i.start.prio trapQ &&
    (i.served || (h.pages.isEmpty && h.cbm == 0)) &&
    (s.both c i.start.ctx).all (fun d => (List.range 8).all (fun b => !h.cbm.getLsbD b || ((s.core d).bank b).holder == some i.start.ctx)) &&
    (!x.pair || (!(s.core (twinOf c)).parked && (s.core (twinOf c)).committing.isNone)) &&
    (match i.kind with
      | .record q pos _ =>
        k.items.all (fun o => match o.kind with
          | .record q' _ _ => !(q' == q && decide (o.num < i.num))
          | _ => true) &&
        (match k.queues.find q with
          | some u => !((s.ringRec c u pos).1.kind == 5 && s.queueBusy c q)
          | none => false)
      | _ => true) &&
    (!x.pair || (s.slot (twinOf c) j).life == .free)

/-! ### The scheduler (R167) -/

def ItemKind.rank : ItemKind → Nat
  | .record q _ _ => q
  | .deque => 16
  | _ => 17
/-- `QLEFT` as the core last received it (R169). -/
def Core.qleft (k : Core) (x : Nat) : Nat := ((k.enrg.getD x {}).qleft).toNat
/-- Whether item `a` goes before item `b` (R167). -/
def Core.before (k : Core) (a b : Item) : Bool :=
  if a.start.prio ≠ b.start.prio then decide (b.start.prio < a.start.prio)
  else if a.start.ctx ≠ b.start.ctx then
    let u := k.vt.getD a.start.ctx 0
    let v := k.vt.getD b.start.ctx 0
    if u ≠ v then decide (u < v)
    else if k.qleft a.start.ctx ≠ k.qleft b.start.ctx then decide (k.qleft b.start.ctx < k.qleft a.start.ctx)
    else decide (a.start.ctx < b.start.ctx)
  else if a.num ≠ b.num then decide (a.num < b.num)
  else decide (a.kind.rank < b.kind.rank)
def Core.best (k : Core) : List Item → Option Item
  | [] => none
  | i :: l => match k.best l with
    | none => some i
    | some b => some (if k.before i b then i else b)
/-- The item that a free slot takes. -/
def State.pick (s : State) (c j : Nat) : Option Item :=
  (s.core c).best ((s.core c).items.filter (s.eligible c j))

/-! ### Local pages held by tasks (R185, R186) -/

def Core.unpinPage (k : Core) (x p : Nat) : Core :=
  match k.frameOf x p with
  | some (f, _) => k.unpin f
  | none => k
def Core.pinPage (k : Core) (x p : Nat) : Core :=
  match k.frameOf x p with
  | some (f, _) => k.pin f
  | none => k
/-- The pages of the banks in a retained mask that are resident for the context (R186). -/
def Core.bankPages (k : Core) (x : Nat) (m : Word) : List Nat :=
  ((List.range 64).filter (fun j => m.getLsbD j)).flatMap (fun j =>
    [2 * j, 2 * j + 1].filter (fun p => match k.frameOf x p with
      | some (_, fr) => fr.state == .resident
      | none => false))
/-- The pins that retained banks put on a page of a context as it becomes resident (R186). -/
def Core.bankPins (k : Core) (x p : Nat) : Nat :=
  (k.retained.filter (fun e => e.2.ctx == x && e.2.banks.getLsbD (p / 2))).length +
    (k.slots.toList.filter (fun t => decide (t.life ≠ .free) && t.ctx.toNat == x && t.rbanks.getLsbD (p / 2))).length
def Core.dropRetained (k : Core) (e : Nat) : Core :=
  match k.retained.find e with
  | none => k
  | some r => (k.bankPages r.ctx r.banks).foldl (fun k p => k.unpinPage r.ctx p) { k with retained := k.retained.del e }
/-- The oldest retained entry of a context and successor (R186). -/
def Core.oldestRetained (k : Core) (x h : Nat) : Option (Nat × Retained) :=
  (k.retained.filter (fun p => p.2.ctx == x && p.2.handler == h)).foldl (fun a p => match a with
    | none => some p
    | some b => if p.2.order < b.2.order then some p else some b) none

/-- A pending item leaves its core without starting, and its pins are dropped (R163, R185, R188). -/
def State.dropItem (s : State) (c : Nat) (i : Item) : State :=
  let s := s.modCore c (fun k => { k with items := k.items.filter (fun o => o.num != i.num) })
  (s.both c i.start.ctx).foldl (fun s d => s.modCore d (fun k =>
    (i.pins.foldl (fun k p => k.unpinPage i.start.ctx p) k).retryFills)) s

/-! ### Starting a task (R69, R179, R209) -/

/-- A slot in the starting state of R69 and Table 9.3. -/
def Start.slot (st : Start) (x : Ctx) (pins : List Nat) : Slot :=
  let t : Slot := { ({} : Slot) with
    pc := BitVec.ofNat 64 (x.code + (x.handler st.handler).entry)
    prio := BitVec.ofNat 6 st.prio, taskid := st.id, ctx := BitVec.ofNat 4 st.ctx, tsinh := st.tsinh
    limit := BitVec.ofNat 24 st.limit, left := BitVec.ofNat 24 st.limit
    life := .running, handler := st.handler, join := st.join, pins := pins }
  let t := (((t.wg 1 st.args[0]).wg 2 st.args[1]).wg 3 st.args[2]).wg 4 st.args[3]
  t.wg 5 st.g5
/-- The carried state of R194, at the destination. -/
def Carried.slot (k : Carried) (st : Start) (pins : List Nat) : Slot :=
  let t : Slot := { ({} : Slot) with
    g := k.g, m := k.m, ev := k.ev, pc := k.pc
    avt := BitVec.ofNat 2 (k.fctl.toNat / 4), rm := k.fctl.setWidth 2
    fflags := k.fflags, nfs := k.gctl.getLsbD 3, nfq := k.gctl.getLsbD 2, tie := k.gctl.setWidth 2
    gstat := k.gstat, unord := k.unord, emitto := k.emitto, hintdrop := k.hintdrop, barto := k.barto
    prio := BitVec.ofNat 6 st.prio, taskid := st.id, ctx := BitVec.ofNat 4 st.ctx, tsinh := st.tsinh
    limit := BitVec.ofNat 24 k.limit, left := BitVec.ofNat 24 k.left
    life := .running, handler := st.handler, join := st.join, pins := pins, origin := k.origin }
  t.wg k.gd 1
/-- A task starts in a slot that was `o`: the mailboxes are empty and hold what they last held (R69, R108; log 34). -/
def Slot.over (t o : Slot) : Slot := { t with mb := o.mb }
/-- What a slot of core `c` holds once the item has started there. -/
def State.started (s : State) (c : Nat) (i : Item) : Slot :=
  let x := s.ctx i.start.ctx
  match i.kind with
  | .record q pos _ =>
    match (s.core c).queues.find q with
    | none => i.start.slot x i.pins
    | some u =>
      let r := (s.ringRec c u pos).1
      { i.start.slot x i.pins with
        ev := r.evs, tsinh := r.ts, origin := .record c q (if r.kind = 5 then some r.ts else none) }
  | .deque => { i.start.slot x i.pins with origin := .spawn }
  | .launch => { i.start.slot x i.pins with origin := .launch }
  | .migration k => k.slot i.start i.pins
/-- The queue's head moves past the record of an item that starts (R209). -/
def Core.headPast (k : Core) (i : Item) : Core :=
  match i.kind with
  | .record q _ n => match k.queues.find q with
    | some u => { k with queues := k.queues.set q { u with head := (u.head + n) % 2 ^ (u.size + 1) } }
    | none => k
  | _ => k
/-- The oldest retained entry of the context and handler passes to a task that starts (R186). -/
def Core.passRetained (k : Core) (x h : Nat) (t : Slot) : Core × Slot :=
  match k.oldestRetained x h with
  | some (e, r) => ({ k with retained := k.retained.del e }, { t with rbanks := r.banks })
  | none => (k, t)
/-- The item starts on slot `j` of one core; a retained entry of its handler passes to it (R186). -/
def State.startHere (s : State) (c j : Nat) (i : Item) : State :=
  let t := s.started c i
  let s := match i.kind with
    | .migration k => s.acquireAt c k.scope
    | _ => s
  let (k, t) := ((s.core c).headPast i).passRetained i.start.ctx i.start.handler t
  s.setCore c ({ k with items := k.items.filter (fun o => o.num != i.num) }.setSlot j (t.over (s.slot c j)))
/-- The item starts, on both cores of a pair (R314); its context is active on the twin from here on, not while the item was
pending (R166; DESIGN CHOICE, log 96). -/
def State.startItem (s : State) (c j : Nat) (i : Item) : State :=
  if (s.ctx i.start.ctx).pair then
    let d := twinOf c
    let t := s.started c i
    let s := s.startHere c j i
    let (k, t) := (((s.core d).activate i.start.ctx).headPast i).passRetained i.start.ctx i.start.handler t
    s.setCore d (k.setSlot j (t.over (s.slot d j)))
  else s.startHere c j i

/-! ### Stealing (R188) -/

def hops (a b : Nat) : Nat :=
  let d (x y : Nat) : Nat := if x ≤ y then y - x else x - y
  d (a % 16) (b % 16) + d (a / 16 % 16) (b / 16 % 16)
/-- The widest stealing domain among the contexts given to a core; 0 for none. -/
def State.domainAt (s : State) (c : Nat) : Nat :=
  (s.ctxs.filter (fun p => p.2.has c && p.2.state != .free && p.2.state != .released)).foldl (fun a p => max a (p.2.domain + 1)) 0
/-- `probe_order` of R188; firmware cores take no part (R9). -/
def State.probeOrder (s : State) (c : Nat) : List Nat :=
  let w := s.domainAt c
  let cove := (List.range 8).map (coreAt (coveOf c))
  let near := if w ≥ 1 then cove.filter (fun d => decide (c < d)) ++ cove.filter (fun d => decide (d < c)) else []
  let die := if w ≥ 2 then
    let all := ((List.range 256).map (fun d => d + 256 * (c / 256))).filter (fun d => coveOf d != coveOf c)
    (List.range 31).flatMap (fun h => all.filter (fun d => hops c d == h)) else []
  let far := if w ≥ 3 then (List.range 256).map (fun d => d + 256 * (1 - c / 256)) else []
  if s.walled c then [] else (near ++ die ++ far).filter (fun d => !s.walled d)
/-- The next probe of a slot's round goes out (R188). -/
def State.probeNext (s : State) (c j : Nat) : State :=
  match (s.slot c j).probes with
  | [] => s
  | v :: l => (s.modSlot c j (fun t => { t with probes := l })).post (Agent.slot c j) (Agent.owner v) (.stealProbe c j v)
/-- A free slot for which nothing is eligible starts a round of probes. -/
def State.trySteal (s : State) (c j : Nat) : State :=
  let probing := s.net.any (fun m => match m.body with
    | .stealProbe d k _ => d == c && k == j
    | .stealReply d k _ => d == c && k == j
    | _ => false)
  let order := s.probeOrder c
  if (s.slot c j).stealing ∨ probing ∨ order = [] then s
  else (s.modSlot c j (fun t => { t with stealing := true, probes := order, started := 0 })).probeNext c j
/-- An item that becomes pending ends the waits for a retry (R188). -/
def State.wakeThieves (s : State) (c : Nat) : State :=
  s.modCore c (fun k => { k with slots := k.slots.map (fun t =>
    if t.life = .free ∧ t.stealing ∧ t.probes = [] ∧ t.started ≠ 0 then { t with stealing := false, started := 0 } else t) })
/-- Whether a core may start tasks: not parked (R321), not held, and no boundary commit in progress (R73). -/
def State.mayStart (s : State) (c : Nat) : Bool := !(s.core c).parked && (s.core c).committing.isNone && s.phase == .running && !s.isFw c
/-- The decisions of the free slots among those given, in order (R165). -/
def State.decide' (s : State) (c : Nat) : List Nat → State
  | [] => s
  | j :: l =>
    if (s.slot c j).life ≠ .free then s.decide' c l
    else match s.pick c j with
      | some i => (s.startItem c j i).decide' c l
      | none => (s.trySteal c j).decide' c l
/-- The scheduler of a core decides for every free application slot. -/
def State.schedule (s : State) (c : Nat) : State := if s.mayStart c then s.decide' c [0, 1, 2, 3] else s
/-- Every core of a context decides (R165). -/
def State.scheduleAll (s : State) (x : Nat) : State :=
  ((List.range 512).filter (fun c => (s.ctx x).has c)).foldl (fun s c => s.schedule c) s
/-- An item becomes pending, and the core decides. -/
def State.offerItem (s : State) (c : Nat) (kind : ItemKind) (st : Start) : State :=
  ((s.addItem (s.homeOf c st.ctx) kind st).wakeThieves (s.homeOf c st.ctx)).schedule (s.homeOf c st.ctx)

/-! ### The service slot (R181) -/

/-- Whether the oldest service item may start (Table 9.4): the service slot is free, on both cores of a pair (R314), its
context is not frozen (Table 8.3), its footprint is pinned and its banks held (R165), and no core is parked (R321). -/
def State.svcReady (s : State) (c : Nat) (i : SvcItem) : Bool :=
  let x := s.ctx i.start.ctx
  let h := x.handler i.start.handler
  (s.both c i.start.ctx).all (fun d => (s.slot d 4).life == .free && !(s.core d).parked && (s.core d).committing.isNone &&
    (List.range 8).all (fun b => !h.cbm.getLsbD b || ((s.core d).bank b).holder == some i.start.ctx)) &&
    x.state != .frozen && (i.served || (h.pages.isEmpty && h.cbm == 0))
/-- The oldest service item starts when it may; a retained entry of its handler passes to it (R186). Its context has been
active since the item came; on a pair's twin it becomes so now (R166). -/
def State.startService (s : State) (c : Nat) : State :=
  match (s.core c).svc with
  | [] => s
  | i :: l =>
    if !s.svcReady c i then s
    else
      let x := i.start.ctx
      let t : Slot := { i.start.slot (s.ctx x) i.pins with origin := .message, answer := i.answer }
      let put (s : State) (d : Nat) (t : Slot) : State :=
        let (k, t) := (s.core d).passRetained x i.start.handler t
        s.setCore d (k.setSlot 4 (t.over (s.slot d 4)))
      let s := put (s.modCore c (fun k => { k with svc := l })) c t
      if (s.ctx x).pair then put (s.modCore (twinOf c) (fun k => k.activate x)) (twinOf c) { t with answer := none } else s

/-! ### Tiles that a task has claimed (R242) -/

/-- A freeing that Breakwater does not perform itself enters the FIFO as a release step, once the
FIFO has room for it (R235). -/
def Breakwater.release (b : Breakwater) (p : Tile → Bool) : Breakwater :=
  let gone := b.tiles.filter (fun t => p t && decide (t.state ≠ .freeing))
  let nums := gone.map (fun t => t.num)
  let room := if b.relWait.isEmpty then 256 - b.fifo.length else 0
  { b with tiles := b.tiles.map (fun t => if p t then { t with state := .freeing } else t)
           relWait := b.relWait ++ nums.drop room
           seqs := gone.foldl (fun f t => f.set (t.blocks.headD 0) ((f.getD (t.blocks.headD 0) 0 + 1) % 64)) b.seqs
           fifo := b.fifo ++ (nums.take room).map .release }

/-- A job gives up its tile: it is freed; one that a draining context has freed before loses its blocks, once its release
step has been performed (R242, R260, log 90). -/
def Breakwater.giveUp (b : Breakwater) (n : Nat) : Breakwater :=
  if b.tiles.any (fun t => t.num == n && t.state == .freeing) then
    if b.fifo.contains (.release n) || b.relWait.contains n then b else { b with tiles := b.tiles.filter (fun t => t.num != n) }
  else b.release (fun t => t.num == n)

/-! ### Ending a task (R102, R103, R310, R383) -/

/-- A slot without a task. -/
def Slot.clear (t : Slot) : Slot :=
  { t with life := .free, frozen := false, thaw := false, stopAt := none, reply := none, ask := none, got := none, begun := none,
           held := none, cbreq := none, joinOn := none, awaiting := [], wq := none, woken := none, copying := none, loads := [], arms := [], origin := .none, join := 0, pins := [], rbanks := 0, predicate := none,
           walkFail := none, relBegun := false, relDone := false, leader := none, bundles := [], answer := none, reader := none,
           copy := none, agreed := false, feed := [], gang := false, gk := 0, lane := 0, linkedAt := none,
           pfxp := false, latch := 0, probes := [], stealing := false, mbLanding := 0, mbFull := 0 }
/-- The slot frees, with everything that its task held. A `TGET` copy that has begun goes on (R249, R383). -/
def State.freeSlot (s : State) (c j : Nat) : State :=
  let t := s.slot c j
  let x := t.ctx.toNat
  let s := (s.letGo c j).dropReader c j
  let s := s.modCore c (fun k =>
    let k := t.pins.foldl (fun k p => k.unpinPage x p) k
    let k := (k.bankPages x t.rbanks).foldl (fun k p => k.unpinPage x p) k
    { k.setSlot j (t.clear) with copies := k.copies ++ (match t.copying with
      | some (n, la, _) => if (s.ctx x).pair && c % 2 == 1 then [] else [(j, x, n, la)]
      | none => []) }.retryFills)
  s.modCove (coveOf c) (fun v =>
    { v with bw := v.bw.release (fun l => decide (l.state = .claimed) && l.claimer == some (c, j, t.taskid)) })
/-- The cores that decide as a slot of core `c` frees that a task of context `x` held: its own, both where the context is
paired, and the primary where that holds items of a paired context, which wait for both cores (R314). -/
def State.deciders (s : State) (c x : Nat) : List Nat :=
  let p := primaryOf c
  if (s.ctx x).pair then [p, twinOf p]
  else if (s.core p).items.any (fun i => (s.ctx i.start.ctx).pair) || (s.core p).svc.any (fun i => (s.ctx i.start.ctx).pair) then
    [p, c].dedup
  else [c]
/-- The decision that a freed slot makes. -/
def State.afterFree (s : State) (c j x : Nat) : State :=
  (s.deciders c x).foldl (fun s d => if j = 4 then s.startService d else s.schedule d) s
/-- A waiting sender of a message receives its answer (R193). -/
def State.answerMsg (s : State) (c : Nat) (a : Option (Nat × Nat × BitVec 32 × Nat)) (v : Word) : State :=
  match a with
  | some (d, k, id, ask) => s.post (Agent.owner c) (Agent.slot d k) (.reply .amsg d k id ask v)
  | none => s
/-- The task of a slot halts: a consumed close moves T_out, and the slot frees (R102, R213). -/
def State.haltTask (s : State) (c j : Nat) : State :=
  let t := s.slot c j
  let s := match t.origin with
    | .record d q (some t1) => s.consumeClose (if (s.ctx t.ctx.toNat).pair then c else d) q t1
    | _ => s
  -- a head `HALT` retires the slot after the tail completes (R21)
  let v := if c = s.myCore ∧ j = s.mySlot then (s.cur.tail.getD t).rg 1 else t.rg 1
  let s := s.answerMsg c t.answer v
  (s.freeSlot c j).afterFree c j t.ctx.toNat
/-- The task of a slot is killed: no join decrement, no close consumed (R383). -/
def State.killTask (s : State) (c j : Nat) : State :=
  let all := (c, j) :: s.group c j
  all.foldl (fun s p =>
    let t := s.slot p.1 p.2
    let s := s.answerMsg p.1 t.answer (BitVec.allOnes 64)
    (s.freeSlot p.1 p.2).afterFree p.1 p.2 t.ctx.toNat) s

/-- Owner core and local address of an owner address. -/
def ownerOf (a : Word) : Nat × Nat := (bits a.toNat 48 9, a.toNat % 2 ^ 48)
/-- A posted effect waits while the slot has sixteen outstanding (R155). -/
def postRoom : M Unit := fun s => if s.postedBy s.myCore s.mySlot ≥ 16 then .error (.wait .posted s) else .ok ((), s)
/-- The join decrement of a task that halts (R197): release, then a posted decrement; a follower makes none (R310). -/
def joinDone : M Unit := fun s =>
  let t := s.me
  if t.join = 0 ∨ s.follower then .ok ((), s)
  else
    let o := ownerOf t.join
    (do
      let go ← outbound t.join []
      release (scopeOf s.myCore o.1)
      postRoom
      if go then modify (fun s : State => s.post (Agent.slot s.myCore s.mySlot) (Agent.owner o.1)
        (.jdone s.me.ctx.toNat o.2 s.myCore s.mySlot s.me.taskid))) s

end Sys2Proof.Machine
end

