-- ==== Sys2Proof/Machine/Memory.lean ====
section
/-! DEFINITION. Loads, stores, vector accesses, hints, cache maintenance, acquiring loads, releasing stores and fences (05_scalar_instructions.md R110 to R113; 06_vector_instructions.md R128 to R130; 07_memory_order.md R146 to R150). -/

namespace Sys2Proof.Machine

/-! ### Addresses and checks (R25, R111, R112) -/

/-- The base plus the scaled offset. -/
def scaled {w : Nat} (b : Word) (o : BitVec w) (n : Nat) : Word := b + BitVec.ofInt 64 (o.toInt * (n : Int))
/-- The effective address and the base after a post-increment (R111). -/
def addresses (post : Bool) (b : Word) (o : BitVec 9) (n : Nat) : Word × Word :=
  if post then (b, scaled b o n) else (scaled b o n, b)
/-- An access whose checks have passed: at a stored address, or at a core of the cove. -/
inductive Place where
  | at (addr : Nat)
  | core (core la : Nat)
  deriving DecidableEq, Repr
def eccTrap (ea : Word) : Trap := ⟨Cause.eccUncorrectable, 0, ea.setWidth 48⟩
/-- Bytes that an atomic touches (Table 7.4): a deposit and `AMO.FLAGS` name none of the window. -/
def Atomic.bytes (a : Atomic) : Nat :=
  if a.op = 0x0D then 64 else if a.op = 0x0E then 64 * lanes a.width else if a.op = 0x0F ∨ a.op = 0x10 then 0 else a.width
/-- Whether a posted atomic, decrement or wake of the issuing slot, not performed yet, names one of the bytes: in `.g`
mode at a stored address, or in `.l` mode at a local address of the issuing core (R136). -/
def State.atomicPending (s : State) (glob : Bool) (a n : Nat) : Bool :=
  let meets (la k : Nat) : Bool := decide (a < la + k) && decide (la < a + n)
  s.net.any (fun m => m.src == Agent.slot s.myCore s.mySlot && match m.body with
    | .atomic x => x.glob == glob && (glob || (x.near && m.dst == Agent.owner s.myCore)) && meets x.la x.bytes
    | .jdone _ la _ _ _ => !glob && m.dst == Agent.owner s.myCore && meets la 8
    | .wake _ la _ _ _ _ => !glob && m.dst == Agent.owner s.myCore && meets la 16
    | _ => false)
/-- An access waits for the slot's own earlier atomics on its bytes: accesses to one location keep program order (R136). -/
def afterAtomics (glob : Bool) (a n : Nat) : M Unit := fun s =>
  if s.atomicPending glob a n then .error (.wait .posted s) else .ok ((), s)
/-- The stored address of an access to a core of the cove. While its page is absent there, the access asks for the page
and waits in its slot, and traps where the page's fill fails, before it leaves (R112, R345, log 43). -/
def farAddr (ea : Word) (c la : Nat) : M Nat := fun s =>
  let x := s.me.ctx.toNat
  let p := la / 2 ^ 14
  let w := farWho s.myCore s.mySlot
  match s.local? c x la with
  | .here _ a =>
    if !(s.core c).mayEnter x p w then .error (.wait .page (s.modCore c (fun k => k.await x p w)))
    else .ok (a, if (s.core c).waits.contains (x, p, w) then s.modCore c (fun k => k.entered x p w) else s)
  | .absent _ => .error (.wait .page (s.modCore c (fun k => (k.request x p).await x p w)))
  | .failed _ => .error (.trap (eccTrap ea))
  | .outside => .error (.trap ⟨Cause.localBounds, 1, ea.setWidth 48⟩)
/-- The bytes that a core finds in an L1 are those of its pair's primary, which obtains them for both (R314). -/
def State.l1Core (s : State) : Nat := if s.paired then primaryOf s.myCore else s.myCore
/-- Whether data that a global load reads have an uncorrectable error: L1 hits have none. -/
def State.globalBad (s : State) (a n : Nat) : Bool :=
  s.poisoned a n && (List.range n).any (fun i => (s.l1Get s.l1Core (a + i)).isNone && s.poisoned (a + i) 1)
/-- `check_access` of R112: alignment, then the mode's own checks, then uncorrectable errors in data read. Errors in
bytes that a load has still to bring do not arise before it returns (log 43), so every trap is precise (R5). -/
def checkAccess (mode : BitVec 2) (ea : Word) (n : Nat) (k : Acc) : M Place := do
  if ea.toNat % n ≠ 0 then misaligned n ea
  else if mode = 0 then
    let a ← localAddr ea ea.toNat n (k == .store)
    let s ← get
    if k == .load && s.poisoned a n then stopTrap (eccTrap ea)
    else do
      afterAtomics false ea.toNat n
      pure (.at a)
  else if mode = 1 then
    let (c, la) ← coveCheck ea
    let a ← farAddr ea c la
    let s ← get
    if k == .load && s.poisoned a n then stopTrap (eccTrap ea) else pure (.core c la)
  else
    let a ← translate ea k
    let s ← get
    if k == .load && s.globalBad a n then stopTrap (eccTrap ea)
    else do
      afterAtomics true a n
      pure (.at a)

/-! ### Reading (R82, R137, R139) -/

/-- The bytes of an access to lanes of `n` bytes, at once: the scratchpad, or L1 hits of an unpaired context. -/
def readyBytes (mode : BitVec 2) (ps : List (Nat × Place)) (n : Nat) (s : State) : Option (List (Nat × List Byte)) :=
  if mode = 0 then some (ps.map (fun p => match p.2 with
    | .at a => (p.1, s.bytes a n)
    | .core .. => (p.1, [])))
  else if mode = 2 && !s.paired && ps.all (fun p => match p.2 with
    | .at a => s.l1Has s.myCore a n && !s.me.loading a n
    | .core .. => false) then
    some (ps.map (fun p => match p.2 with
      | .at a => (p.1, (List.range n).map (fun i => s.seen s.myCore (a + i)))
      | .core .. => (p.1, [])))
  else none
/-- Missing loads of a slot, which are at most eight (Table 5.1). -/
def Slot.misses (t : Slot) : Nat := (t.loads.filter (fun l => !l.cove)).length
/-- One lane of a load whose bytes return later: its stored address, or the message that asks another core for it. -/
def askPiece (go : Bool) (n : Nat) (acc : State × List (Nat × Nat)) (p : Nat × Place) : State × List (Nat × Nat) :=
  match p.2 with
  | .at a => (acc.1, acc.2 ++ [(p.1, a)])
  | .core c la =>
    let s := acc.1
    (if go then s.post (Agent.slot s.myCore s.mySlot) (Agent.owner c) (.coveLoad s.me.ctx.toNat s.myCore s.mySlot la n) else s,
     acc.2 ++ [(p.1, s.msgSeq)])
def Slot.addLoad (t : Slot) (l : Load) : Slot := { t with loads := t.loads ++ [l] }
/-- A load whose bytes return later enters the slot's outstanding loads; a `.c` load is sent to its core, by the
primary of a pair (R314). A ninth miss stalls the slot. -/
def issueLoad (mode : BitVec 2) (d : Dest) (form : Nat) (ps : List (Nat × Place)) (n : Nat) : M Unit := fun s =>
  if mode = 2 && decide (s.me.misses ≥ 8) then .error (.wait .load s)
  else
    let r := ps.foldl (askPiece (!s.paired || s.myCore % 2 == 0) n) (s, [])
    .ok ((), r.1.modMe (fun t => t.addLoad { dest := d, pend := r.2, size := n, form := form, cove := mode == 1 }))
/-- The register value of a scalar load (Table 5.7). -/
def loadWord (form n : Nat) (l : List Byte) : Word := if form = 1 then sext (8 * n) (leNat l) else BitVec.ofNat 64 (leNat l)
/-- The register value of a vector load (Table 6.9, R130). -/
def loadVec (form n : Nat) (ls : List (Nat × List Byte)) (old : Vec) : Vec :=
  if form = 2 then ofLanes (8 * n) (List.replicate (64 / n) (leNat ((ls.head?.map (·.2)).getD [])))
  else ls.foldl (fun v p => setLane (8 * n) v p.1 (leNat p.2)) (if form = 3 then old else 0)
/-- A load's result goes to its register. -/
def Slot.putLoad (t : Slot) (d : Dest) (form n : Nat) (ls : List (Nat × List Byte)) : Slot :=
  match d with
  | .none => t
  | .g r => t.wg r (loadWord form n ((ls.head?.map (·.2)).getD []))
  | .v r => t.wv r (loadVec form n ls (t.rv r))
  | .hold => { t with held := some (ls.flatMap (·.2)) }
/-- A load: at once where its bytes are there, else outstanding. -/
def loadTo (mode : BitVec 2) (d : Dest) (form : Nat) (ps : List (Nat × Place)) (n : Nat) : M Unit := do
  let s ← get
  match readyBytes mode ps n s with
  | some ls => set (s.modMe (fun t => t.putLoad d form n ls))
  | none => issueLoad mode d form ps n
/-- A load that the present instruction waits for: its lanes' bytes. -/
def loadNow (mode : BitVec 2) (ps : List (Nat × Place)) (n : Nat) : M (List (Nat × List Byte)) := do
  let s ← get
  let split (l : List Byte) : List (Nat × List Byte) := ps.mapIdx (fun i p => (p.1, (l.drop (i * n)).take n))
  match s.me.held with
  | some l => pure (split l)
  | none =>
    if ps.isEmpty then pure []
    else if s.me.loads.any (fun l => l.dest == .hold) then waitFor .load
    else match readyBytes mode ps n s with
      | some ls => pure ls
      | none => do
        issueLoad mode .hold 0 ps n
        holdSide
        waitFor .load

/-! ### Writing -/

/-- Bytes stored at a checked place (R111, R137, R139): a `.l` store on each core of a pair, the others once. -/
def storeAt (mode : BitVec 2) (p : Place) (l : List Byte) (go : Bool) : M Unit := fun s =>
  match p with
  | .at a => if mode = 0 then .ok ((), s.putBytes a l) else if go then storeGlobal a l s else .ok ((), s)
  | .core c la =>
    .ok ((), if go then s.post (Agent.slot s.myCore s.mySlot) (Agent.owner c)
      (.coveStore s.me.ctx.toNat s.myCore s.mySlot la l.length (BitVec.ofNat 512 (leNat l))) else s)
/-- A whole store: check, comparison, store. -/
def storeTo (mode : BitVec 2) (ea : Word) (l : List Byte) : M Unit := do
  let p ← checkAccess mode ea l.length .store
  let go ← outbound ea [BitVec.ofNat 64 (leNat l), BitVec.ofNat 64 (leNat (l.drop 8)), BitVec.ofNat 64 (leNat (l.drop 16)),
    BitVec.ofNat 64 (leNat (l.drop 24)), BitVec.ofNat 64 (leNat (l.drop 32)), BitVec.ofNat 64 (leNat (l.drop 40)),
    BitVec.ofNat 64 (leNat (l.drop 48)), BitVec.ofNat 64 (leNat (l.drop 56))]
  storeAt mode p l go
/-- The base register takes its new value. -/
def putBase (post : Bool) (b : BitVec 5) (nb : Word) : M Unit := fun s => .ok ((), if post then s.wg b nb else s)

/-! ### Scalar loads and stores (R110, R111) -/

/-- `LD`: the post-increment form is size code 7. -/
def execLd (o : BitVec 9) (sz : BitVec 3) (m : BitVec 2) (b d : BitVec 5) (s : State) :
    Host.Outcome State Fault Refusal :=
  runM (do
    let n := 2 ^ (sz.toNat % 4)
    let post := sz == 7
    let x ← getG b
    let (ea, nb) := addresses post x o n
    let p ← checkAccess m ea n .load
    loadTo m (.g d) (if sz.toNat < 3 then 1 else 0) [(0, p)] n
    putBase post b nb
    done) s

/-- `ST`: codes 4 to 7 are post-increment forms. -/
def execSt (o : BitVec 9) (sz : BitVec 3) (m : BitVec 2) (b d : BitVec 5) (s : State) :
    Host.Outcome State Fault Refusal :=
  runM (do
    let n := 2 ^ (sz.toNat % 4)
    let post := decide (sz.toNat ≥ 4)
    let x ← getG b
    let y ← getG d
    let (ea, nb) := addresses post x o n
    storeTo m ea (leBytes n y.toNat)
    putBase post b nb
    done) s

/-! ### Vector loads and stores (R128, R129) -/

/-- Bytes of a vector form (Table 6.9). -/
def vecBytes (sz : BitVec 3) : Nat := match sz.toNat with
  | 0 | 1 => 64
  | 2 | 3 => 32
  | 4 => 8
  | 5 => 4
  | 6 => 2
  | _ => 1
/-- Whether a pending prefix expands operand a. -/
def State.expanding (s : State) : Bool := match s.pfx with
  | some p => p.xa
  | none => false

/-- The places of a `.g` vector access, in pieces of at most 8 bytes (R129). -/
def pieces (mode : BitVec 2) (p : Place) (n : Nat) : List (Nat × Place) × Nat :=
  match p with
  | .at a => if mode = 2 ∧ n > 8 then ((List.range (n / 8)).map (fun i => (i, .at (a + 8 * i))), 8) else ([(0, p)], n)
  | .core .. => ([(0, p)], n)

/-- `VLD`: codes 1 and 3 are post-increment forms, codes 4 to 7 replicate. -/
def execVld (o : BitVec 9) (sz : BitVec 3) (m : BitVec 2) (b d : BitVec 5) (s : State) :
    Host.Outcome State Fault Refusal :=
  runM (do
    let n := vecBytes sz
    let post := sz == 1 || sz == 3
    let form := if sz.toNat < 4 then 4 else 2
    let x ← getG b
    let (ea, nb) := addresses post x o n
    let p ← checkAccess m ea n .load
    let (ps, w) := pieces m p n
    let s ← get
    if s.expanding then
      let ls ← loadNow m ps w
      let (v, _) ← expandOps none none (loadVec 4 w ls 0) 0
      modify (fun s : State => (s.dropReader s.myCore s.mySlot).wv d v)
    else loadTo m (.v d) form ps w
    putBase post b nb
    done) s

/-- `VST` (Table 6.9): codes 1 and 3 are post-increment forms. -/
def execVst (o : BitVec 9) (sz : BitVec 3) (m : BitVec 2) (b d : BitVec 5) (s : State) :
    Host.Outcome State Fault Refusal :=
  runM (do
    let n := vecBytes sz
    let post := sz == 1 || sz == 3
    let x ← getG b
    let s ← get
    let (ea, nb) := addresses post x o n
    storeTo m ea (leBytes n (s.rv d).toNat)
    putBase post b nb
    done) s

/-! ### Gather and scatter (R130) -/

/-- Effective address of lane `i`. -/
def laneAddr (base : Word) (x : Vec) (n : Nat) (scale : Bool) (i : Nat) : Word :=
  base + BitVec.ofInt 64 (sval (8 * n) (laneW (8 * n) x i) * (if scale then (n : Int) else 1))
/-- Every active lane is checked, in increasing order. -/
def checkLanes (mode : BitVec 2) (n : Nat) (k : Acc) : List (Nat × Word) → M (List (Nat × Place))
  | [] => pure []
  | (i, ea) :: t => do
    let p ← checkAccess mode ea n k
    let r ← checkLanes mode n k t
    pure ((i, p) :: r)
/-- The active lanes with their addresses. -/
def activeLanes (g : Word) (base : Word) (x : Vec) (n : Nat) (scale : Bool) : List (Nat × Word) :=
  ((List.range (64 / n)).filter (active g)).map (fun i => (i, laneAddr base x n scale i))

/-- `VGATHER`. -/
def execVgather (g : BitVec 3) (sz m : BitVec 2) (x : BitVec 1) (b a d : BitVec 5) (s : State) :
    Host.Outcome State Fault Refusal :=
  runM (do
    let n := 2 ^ sz.toNat
    let base ← getG a
    let s ← get
    let eas := activeLanes (s.rmask g.toNat) base (s.rv b) n (x == 1)
    let ps ← checkLanes m n .load eas
    if s.expanding then
      let ls ← loadNow m ps n
      let s ← get
      let (v, _) ← expandOps none none (loadVec 3 n ls (s.rv d)) 0
      modify (fun s : State => (s.dropReader s.myCore s.mySlot).wv d v)
    else if ps.isEmpty then pure ()
    else loadTo m (.v d) 3 ps n
    done) s

/-- Bytes of a scatter, a later lane replacing an earlier one (R130). -/
def scatterBytes (n : Nat) (v : Vec) (ps : List (Nat × Place)) : List (Place × List Byte) :=
  ps.map (fun p => (p.2, leBytes n (laneW (8 * n) v p.1)))
/-- One event at each core that a `.c` scatter reaches. -/
def sendScatter (l : List (Place × List Byte)) (s : State) : State :=
  let cores := (l.filterMap (fun p => match p.1 with
    | .core c _ => some c
    | .at _ => none)).dedup
  cores.foldl (fun s c => s.post (Agent.slot s.myCore s.mySlot) (Agent.owner c) (.coveScatter s.me.ctx.toNat s.myCore
    (l.flatMap (fun p => match p.1 with
      | .core c' la => if c' = c then p.2.mapIdx (fun i x => (la + i, x)) else []
      | .at _ => [])))) s
/-- A lane's store: on each core of a pair in mode .l, once in mode .g. -/
def State.storeLane (mode : BitVec 2) (go : Bool) (s : State) (q : Place × List Byte) : State :=
  match q.1 with
  | .at a => if mode = 0 then s.putBytes a q.2 else if go then s.putGlobal a q.2 else s
  | .core .. => s
/-- The sector that a lane stores to. -/
def laneSector (q : Place × List Byte) : Nat := match q.1 with
  | .at a => a / 128
  | .core .. => 0
/-- The lanes' stores, in increasing order, once the L1 has room for all of them: none waits after another has stored
(R133). -/
def storeLanes (mode : BitVec 2) (go : Bool) (l : List (Place × List Byte)) : M Unit := do
  if mode = 2 && go then roomFor (l.map laneSector).dedup else pure ()
  modify (fun s : State => l.foldl (State.storeLane mode go) s)

/-- `VSCATTER`. -/
def execVscatter (g : BitVec 3) (sz m : BitVec 2) (x : BitVec 1) (b a d : BitVec 5) (s : State) :
    Host.Outcome State Fault Refusal :=
  runM (do
    let n := 2 ^ sz.toNat
    let base ← getG a
    let s ← get
    let lanes := activeLanes (s.rmask g.toNat) base (s.rv b) n (x == 1)
    let ps ← checkLanes m n .store lanes
    let go ← outbound ((lanes.head?.map (·.2)).getD base) (lanes.map (fun p => BitVec.ofNat 64 (laneW (8 * n) (s.rv d) p.1)))
      (lanes.map (·.2))
    let l := scatterBytes n (s.rv d) ps
    let s ← get
    if m = 1 then (if go then modify (sendScatter l) else pure ())
    else if m = 2 && go && l.any (fun p => match p.1 with
      | .at a => s.me.loading a p.2.length
      | .core .. => false) then waitFor .load
    else storeLanes m go l
    done) s

/-! ### Hints and cache maintenance (R149, R150) -/

/-- A dropped hint counts in `HINTDROP`, saturating. -/
def Slot.dropHint (t : Slot) : Slot := { t with hintdrop := if t.hintdrop = BitVec.allOnes 32 then t.hintdrop else t.hintdrop + 1 }
/-- What a hint of core `c` does at a stored address: it fills the L1, or the memory-side cache alone; nothing where its
request could not cross the dies now (R149, R156, R356, log 56). -/
def State.hintAt (s : State) (c : Nat) (fill : Bool) (a : Nat) : State :=
  if s.heldBack c a then s else if fill then s.fillSector c a else s.mscBring (a / 256)
/-- A hint that misses the TLBs goes to the cove's walker as any miss does, and its slot goes on (R149, R340). Where the
walker takes no more, it does nothing, but for the count of one that would be dropped (R150, log 95). -/
def State.askHint (s : State) (va : Nat) (fill : Bool) : State :=
  let x := s.me.ctx.toNat
  let v := coveOf s.myCore
  if s.walkRoom v x va then s.enterWalk v { ctx := x, va := va, hints := [⟨s.myCore, s.mySlot, s.me.taskid, va, fill⟩] }
  else match s.walk x va with
    | .ok t => if t.allows .load then s else s.modMe Slot.dropHint
    | .error _ => s.modMe Slot.dropHint
/-- A `PREF.g` or `PREFH` of the issuing slot; it never faults (R150). -/
def State.hint (s : State) (ea : Word) (fill : Bool) : State :=
  if ea.toNat ≥ 2 ^ 48 then s.modMe Slot.dropHint
  else match s.lookup s.myCore s.me.ctx.toNat ea.toNat with
    | some t => if t.allows .load then s.hintAt s.myCore fill (s.through t ea.toNat) else s.modMe Slot.dropHint
    | none => s.askHint ea.toNat fill
/-- The hints that waited for a walk act on its result; one that finds no translation counts at its slot, while its task
has it. -/
def State.endHints (s : State) (l : List Hint) (r : Option TlbEntry) : State :=
  l.foldl (fun s h => match r with
    | some t => if t.allows .load then s.hintAt h.core h.fill (s.through t h.va)
      else s.modSlot h.core h.slot (fun u => if u.life ≠ .free ∧ u.taskid = h.task then u.dropHint else u)
    | none => s.modSlot h.core h.slot (fun u => if u.life ≠ .free ∧ u.taskid = h.task then u.dropHint else u)) s

/-- `PREF`: `.g` fills the sector, `.l` starts the fill of an absent page (R149). -/
def execPref (o : BitVec 9) (m : BitVec 2) (b : BitVec 5) (s : State) : Host.Outcome State Fault Refusal :=
  let ea := scaled (s.rg b) o 128
  if m = 0 then
    match s.local? s.myCore s.me.ctx.toNat ea.toNat with
    | .outside => .next ((s.modMe Slot.dropHint).advance)
    | .absent p => .next ((s.modCore s.myCore (fun k => k.request s.me.ctx.toNat p)).advance)
    | _ => .next s.advance
  else .next ((s.hint ea true).advance)

/-- `PREFH`: the line comes into the memory-side cache. -/
def execPrefh (o : BitVec 9) (b : BitVec 5) (s : State) : Host.Outcome State Fault Refusal :=
  .next ((s.hint (scaled (s.rg b) o 128) false).advance)

/-- A sector of the issuing core's L1 starts its write-back; with `drop` its bytes leave L1, those that a write-back
carries once it is performed (R149). -/
def State.cleanAt (s : State) (sec : Nat) (drop : Bool) : State :=
  let s := s.writeBack s.myCore sec none drop
  if drop then s.modCore s.myCore (fun k => { k with
    wb := k.wb.map (fun w => if w.bytes.any (fun p => p.1 / 128 == sec) then { w with drop := true } else w)
    l1 := k.l1.filter (fun p => p.2.dirty || p.1 / 128 != sec) })
  else s
/-- The sector's dirty bytes start their write-back, outside any release; `drop` makes the sector invalid (R149). -/
def cleanSector (ea : Word) (drop : Bool) : M Unit := do
  let t ← translateTo ea .load
  modify (fun s : State => s.cleanAt (s.through t ea.toNat / 128) drop)
  done

/-- `CLEAN`. -/
def execClean (o : BitVec 9) (b : BitVec 5) (s : State) : Host.Outcome State Fault Refusal :=
  runM (do
    let x ← getG b
    cleanSector (scaled x o 128) false) s

/-- `INV`. -/
def execInv (o : BitVec 9) (b : BitVec 5) (s : State) : Host.Outcome State Fault Refusal :=
  runM (do
    let x ← getG b
    cleanSector (scaled x o 128) true) s

/-! ### Acquiring loads and releasing stores (R146, R147) -/

/-- The SCOPEMISS record of R146 to the releasing context's trap queue. The slice that sends it stands at no stated router;
the record starts at position 0 of the releasing core's cove (DESIGN CHOICE, log 96). -/
def State.sendScopeMiss (s : State) (core ctx scope pa : Nat) : State :=
  let x := s.ctx ctx
  let r : Rec := ⟨mkRec s.now48 (s.srcId 1 core) 8 0 (scope * 2 ^ 5 + pa / 2 ^ 8 % 2 ^ 40 * 2 ^ 8), []⟩
  s.post (Agent.engine (coveOf core) 3) (Agent.queue x.trapcore x.trapq)
    (.record r ctx (.queue x.trapcore x.trapq) .system false)
/-- The tag check of an `LDA.G` at `.cove` or wider (R146); both cores of a pair note a miss (R314). -/
def State.tagCheck (s : State) (a pa scope : Nat) : State :=
  match s.msc.find (a / 256) with
  | none => s
  | some l => match l.tag with
    | none => s
    | some (tscope, tcore, tctx) =>
      let unord (s : State) : State :=
        (s.mirrors s.myCore s.mySlot).foldl (fun s p => s.modSlot p.1 p.2 (fun t => { t with unord := true })) s
      if !within tscope tcore s.myCore then
        if l.reported then unord s
        else
          let s := { s with msc := s.msc.set (a / 256) { l with reported := true } }
          (unord s).sendScopeMiss tcore tctx tscope (pa / 256 * 256)
      else if !within scope s.myCore tcore then unord s
      else s
/-- Scope codes as ordered extents: `.sys` reaches as far as `.dev` on the device. -/
def extent (scope : BitVec 3) : Nat := Nat.min scope.toNat 3

/-- `LDA`. At `.cove` or wider it waits for earlier loads of its bytes, so that none returns an older value (R139). Its line enters no
memory-side cache by it (DESIGN CHOICE, log 24). -/
def execLda (o : BitVec 6) (sc : BitVec 3) (z m : BitVec 2) (b d : BitVec 5) (s : State) :
    Host.Outcome State Fault Refusal :=
  runM (do
    let n := 2 ^ z.toNat
    let x ← getG b
    let ea := scaled x o n
    let p ← checkAccess m ea n .load
    let l ← (match p with
      | .at a =>
        if m = 2 ∧ sc ≠ 0 then do
          let t ← translateTo ea .load
          let s ← get
          if (List.range n).any (fun i => s.poisoned (a + i) 1 && !((s.core s.l1Core).l1.find (a + i)).any (·.dirty)) then
            stopTrap (eccTrap ea)
          if s.me.loading a n then waitFor .load
          if s.heldBack s.myCore a then waitFor .hold
          let r ← obtained (do
            let s ← get
            let v := leNat ((List.range n).map (fun i => match (s.core s.myCore).l1.find (a + i) with
              | some y => if y.dirty then y.data else s.byte (a + i)
              | none => s.byte (a + i)))
            set (s.tagCheck a (t.physical ea.toNat) (extent sc))
            pure [BitVec.ofNat 64 v])
          pure (leBytes n ((r.head?).getD 0).toNat)
        else do
          let ls ← loadNow m [(0, p)] n
          pure (ls.flatMap (·.2))
      | .core .. => do
        let ls ← loadNow m [(0, p)] n
        pure (ls.flatMap (·.2)))
    acquire sc.toNat
    retG d (BitVec.ofNat 64 (leNat l))) s

/-- Whether a write-back in flight of the core carries one of the bytes. -/
def Core.writingBack (k : Core) (a n : Nat) : Bool := k.wb.any (fun w => w.bytes.any (fun p => decide (a ≤ p.1) && decide (p.1 < a + n)))
/-- Bytes written through to the memory-side cache, with the release tag (R146, R147). -/
def State.writeThrough (s : State) (a : Nat) (l : List Byte) (tag : Option (Nat × Nat × Nat)) : State :=
  let s := s.putBytes a l
  let s := s.modCore s.myCore (fun k => { k with l1 := (l.mapIdx (fun i x => (a + i, x))).foldl (fun f p =>
    if (f.find p.1).isSome then f.set p.1 ⟨p.2, false, none⟩ else f) k.l1 })
  s.mscSet (a / 256) { tag := tag, reported := false }

/-- `STREL`: release, then the store, which at `.cove` or wider goes through to the memory-side cache. -/
def execStrel (o : BitVec 6) (sc : BitVec 3) (z m : BitVec 2) (b d : BitVec 5) (s : State) :
    Host.Outcome State Fault Refusal :=
  runM (do
    let n := 2 ^ z.toNat
    let x ← getG b
    let y ← getG d
    let ea := scaled x o n
    let p ← checkAccess m ea n .store
    let go ← outbound ea [BitVec.ofNat 64 (y.toNat % 2 ^ (8 * n))]
    release sc.toNat
    let l := leBytes n y.toNat
    let s ← get
    (match p with
      | .at a =>
        if m = 2 ∧ sc ≠ 0 then
          if s.me.loading a n || (s.core s.myCore).writingBack a n then waitFor .load
          else if s.heldBack s.myCore a then waitFor .hold
          else if go then set (s.writeThrough a l (some (sc.toNat, s.myCore, s.me.ctx.toNat))) else pure ()
        else storeAt m p l go
      | .core .. => storeAt m p l go)
    done) s

/-- `FENCE` (R148): release, then a wait for every earlier load, then acquire. -/
def execFence (r a : BitVec 1) (sc : BitVec 3) (s : State) : Host.Outcome State Fault Refusal :=
  runM (do
    if r = 1 then release sc.toNat else pure ()
    if a = 1 then
      let s ← get
      if s.me.loads.isEmpty then acquire sc.toNat else waitFor .load
    else pure ()
    done) s

end Sys2Proof.Machine
end

