-- ==== Sys2Proof/Machine/Atomics.lean ====
section
/-! DEFINITION. The AMO group at the sending slot (07_memory_order.md R151 to R155). -/

namespace Sys2Proof.Machine

/-- The owner's place of an atomic in each mode: agent, local or stored address. -/
structure AtomicAt where
  agent : Nat
  la : Nat
  glob : Bool
  near : Bool := false
  deriving DecidableEq, Repr

/-- The memory-side cache slice that holds the line of a stored address, as an agent (R10, R143). -/
def memAgent (a : Nat) : Nat := 40000 + sliceOf (a / 256)
/-- The address checks of R151 for `n` bytes aligned to `al`. -/
def atomicAddr (m : BitVec 2) (a : Word) (n al : Nat) : M AtomicAt := do
  if a.toNat % al ≠ 0 then misaligned al a
  else if m = 0 then
    let (c, la) ← ownerCheck a n
    pure ⟨Agent.owner c, la, false, true⟩
  else if m = 1 then
    let (c, la) ← coveCheck a
    pure ⟨Agent.owner c, la, false, false⟩
  else
    let p ← translate a .store
    let s ← get
    -- the aligned 8-byte groups that hold the location: a store's 8 bytes are performed together (R129)
    let lo := p / 8 * 8
    let len := (p + n + 7) / 8 * 8 - lo
    if s.me.loading p n || (s.core s.myCore).writingBack lo len then waitFor .load
    else
      -- the core's own bytes reach the memory-side cache first, and leave L1 (R136, R139)
      let dirty := (s.core s.myCore).l1.filter (fun x => x.2.dirty && decide (lo ≤ x.1) && decide (x.1 < lo + len))
      let s := { s with mem := Mem.puts s.mem (dirty.map (fun x : Nat × L1Byte => (x.1, x.2.data))) }
      -- a write-back that is no part of a release clears the tag (R146)
      let s := if dirty.isEmpty then s else s.mscSet (p / 256) {}
      set (s.modCore s.myCore (fun k => { k with l1 := k.l1.filter (fun x => !(decide (lo ≤ x.1) && decide (x.1 < lo + len))) }))
      pure ⟨memAgent p, p, true, false⟩
/-- An atomic leaves: posted when d = g0, at most sixteen outstanding, else its reply writes gd (R155). -/
def sendAtomic (op width : Nat) (at_ : AtomicAt) (addr operand compare : Word) (vec : Vec) (d : BitVec 5) : M Unit := do
  let go ← outbound addr ([operand, compare] ++ (List.range 8).map (fun i => BitVec.ofNat 64 (laneW 64 vec i)))
  if d = 0 then postRoom
  let s ← get
  let a : Atomic := { op := op, width := width, ctx := s.me.ctx.toNat, la := at_.la, glob := at_.glob, operand := operand,
                      compare := compare, vec := vec, near := at_.near, core := s.myCore, slot := s.mySlot, task := s.me.taskid, posted := d == 0 }
  if go then set (s.post (Agent.slot s.myCore s.mySlot) at_.agent (.atomic a))
  if d = 0 then done else replyLater d s.msgSeq
/-- An operation on a value of 32 or 64 bits. -/
def amoValue (op : Nat) (m w : BitVec 2) (b a d : BitVec 5) : M Unit := do
  let n := if w = 2 then 4 else 8
  let x ← getG a
  let y ← getG b
  let z ← getG d
  let p ← atomicAddr m x n n
  sendAtomic op n p x y z 0 d

/-- `AMO_SWAP` (Table 7.4). -/
def execAmoSwap (m w : BitVec 2) (b a d : BitVec 5) (s : State) : Host.Outcome State Fault Refusal := runM (amoValue 0x00 m w b a d) s
/-- `AMO_CAS` (Table 7.4). -/
def execAmoCas (m w : BitVec 2) (b a d : BitVec 5) (s : State) : Host.Outcome State Fault Refusal := runM (amoValue 0x01 m w b a d) s
/-- `AMO_ADD` (Table 7.4). -/
def execAmoAdd (m w : BitVec 2) (b a d : BitVec 5) (s : State) : Host.Outcome State Fault Refusal := runM (amoValue 0x02 m w b a d) s
/-- `AMO_AND` (Table 7.4). -/
def execAmoAnd (m w : BitVec 2) (b a d : BitVec 5) (s : State) : Host.Outcome State Fault Refusal := runM (amoValue 0x03 m w b a d) s
/-- `AMO_OR` (Table 7.4). -/
def execAmoOr (m w : BitVec 2) (b a d : BitVec 5) (s : State) : Host.Outcome State Fault Refusal := runM (amoValue 0x04 m w b a d) s
/-- `AMO_XOR` (Table 7.4). -/
def execAmoXor (m w : BitVec 2) (b a d : BitVec 5) (s : State) : Host.Outcome State Fault Refusal := runM (amoValue 0x05 m w b a d) s
/-- `AMO_MIN_S` (Table 7.4). -/
def execAmoMinS (m w : BitVec 2) (b a d : BitVec 5) (s : State) : Host.Outcome State Fault Refusal := runM (amoValue 0x06 m w b a d) s
/-- `AMO_MAX_S` (Table 7.4). -/
def execAmoMaxS (m w : BitVec 2) (b a d : BitVec 5) (s : State) : Host.Outcome State Fault Refusal := runM (amoValue 0x07 m w b a d) s
/-- `AMO_MIN_Z` (Table 7.4). -/
def execAmoMinZ (m w : BitVec 2) (b a d : BitVec 5) (s : State) : Host.Outcome State Fault Refusal := runM (amoValue 0x08 m w b a d) s
/-- `AMO_MAX_Z` (Table 7.4). -/
def execAmoMaxZ (m w : BitVec 2) (b a d : BitVec 5) (s : State) : Host.Outcome State Fault Refusal := runM (amoValue 0x09 m w b a d) s
/-- `AMO_FADD` (Table 7.4). -/
def execAmoFadd (m w : BitVec 2) (b a d : BitVec 5) (s : State) : Host.Outcome State Fault Refusal := runM (amoValue 0x0A m w b a d) s
/-- `AMO_FMIN` (Table 7.4). -/
def execAmoFmin (m w : BitVec 2) (b a d : BitVec 5) (s : State) : Host.Outcome State Fault Refusal := runM (amoValue 0x0B m w b a d) s
/-- `AMO_FMAX` (Table 7.4). -/
def execAmoFmax (m w : BitVec 2) (b a d : BitVec 5) (s : State) : Host.Outcome State Fault Refusal := runM (amoValue 0x0C m w b a d) s
/-- Type code of `XADD`'s width field (R151). -/
def xaddType (w : BitVec 2) : Nat := if w = 0 then 14 else if w = 1 then 13 else 15
/-- `AMO_XADD`: one addend to the 64-byte cell. -/
def execAmoXadd (m w : BitVec 2) (b a d : BitVec 5) (s : State) : Host.Outcome State Fault Refusal :=
  runM (do
    let x ← getG a
    let y ← getG b
    let p ← atomicAddr m x 64 64
    sendAtomic 0x0D (xaddType w) p x y 0 0 d) s
/-- `AMO_XADDV`: lane i to the cell at ea + 64i. -/
def execAmoXaddv (w : BitVec 2) (b a d : BitVec 5) (s : State) : Host.Outcome State Fault Refusal :=
  runM (do
    let x ← getG a
    let s ← get
    let p ← atomicAddr 0 x (64 * lanes (xaddType w)) 64
    sendAtomic 0x0E (xaddType w) p x 0 0 (s.rv b) d) s
/-- `AMO_DEP` (R154): core, slot and mailbox in the address, every other bit 0. -/
def execAmoDep (b a d : BitVec 5) (s : State) : Host.Outcome State Fault Refusal :=
  runM (do
    let x ← getG a
    let y ← getG b
    let s ← get
    let c := bits x.toNat 48 9
    if x.toNat ≥ 2 ^ 57 ∨ !s.myCtx.has c ∨ bits x.toNat 7 41 ≠ 0 ∨ bits x.toNat 2 2 ≠ 0 ∨ bits x.toNat 4 3 > 4 then bounds 2 x
    else sendAtomic 0x0F 8 ⟨Agent.owner c, x.toNat % 128, false, false⟩ x y 0 0 d) s
/-- `AMO_FLAGS` (R151, R153): the address names only a core. -/
def execAmoFlags (m : BitVec 2) (a d : BitVec 5) (s : State) : Host.Outcome State Fault Refusal :=
  runM (do
    let x ← getG a
    let s ← get
    if m = 0 then
      let c := bits x.toNat 48 9
      if x.toNat ≥ 2 ^ 57 ∨ x.toNat % 2 ^ 48 ≠ 0 ∨ !s.myCtx.has c then bounds 2 x
      else sendAtomic 0x10 8 ⟨Agent.owner c, 0, false, false⟩ x 0 0 0 d
    else
      let c := coreAt (coveOf s.myCore) (bits x.toNat 7 3)
      if x.toNat ≥ 2 ^ 10 ∨ x.toNat % 2 ^ 7 ≠ 0 ∨ !s.myCtx.has c then bounds 1 x
      else sendAtomic 0x10 8 ⟨Agent.owner c, 0, false, false⟩ x 0 0 0 d) s

/-! ### At the owner (R143, R152, R153) -/

/-- The new value of a location of `n` bytes, and the flags raised (Table 7.4). -/
def amoNew (op n old y z : Nat) : Nat × Flags :=
  let w := 8 * n
  let y := y % 2 ^ w
  let z := z % 2 ^ w
  let f := fmtOf (if n = 4 then 15 else 16)
  match op with
  | 0x00 => (y, 0)
  | 0x01 => (if old = z then y else old, 0)
  | 0x02 => ((old + y) % 2 ^ w, 0)
  | 0x03 => (old &&& y, 0)
  | 0x04 => (old ||| y, 0)
  | 0x05 => (old ^^^ y, 0)
  | 0x06 => (if sval w y < sval w old then y else old, 0)
  | 0x07 => (if sval w old < sval w y then y else old, 0)
  | 0x08 => (min old y, 0)
  | 0x09 => (max old y, 0)
  | 0x0A => fpAdd f 0 old y
  | 0x0B => fpMinMax f false old y
  | _ => fpMinMax f true old y

end Sys2Proof.Machine
end

