-- ==== Sys2Proof/Machine/Codebook.lean ====
section
/-! DEFINITION. Codebook banks: claims, loads, swaps, invalidation and reads (13_codebook.md R273 to R289). -/

namespace Sys2Proof.Machine

/-! ### Formats and units (R273, R274) -/

/-- Whether a format word keeps R274. -/
def formatOk (w : Word) : Bool :=
  let n := w.toNat
  let el := bits n 21 3
  let et := bits n 16 5
  decide (n < 2 ^ 24) && decide (el < 5) &&
    (if el = 0 then decide (et ≤ 17) else et == 0 || et == 11 || et == 12 || et == 13 || et == 14 || et == 15)
/-- Bytes that a format word asks for. -/
def formatBytes (n : Nat) : Nat := sideBytes (bits n 0 16 + 1) (bits n 16 5) (bits n 21 3)
/-- Units of the codebook region that no side holds, lowest first. -/
def Core.freeUnits (k : Core) : List Nat :=
  let used := k.banks.toList.flatMap (fun b => b.sides.toList.flatMap (·.units))
  (List.range ((k.b1.toNat - k.b0.toNat) / 1024)).filter (fun u => !used.contains u)
def Side.busy (d : Side) : Bool := match d.state with
  | .loading => true
  | .held _ => true
  | _ => false

/-! ### Side transitions (Table 13.1) -/

/-- A live side steps down, to held while it has readers. -/
def Side.stepDown (d : Side) : Side := { d with state := if d.readers > 0 then .held false else .standby }
/-- `CBSWAP` on a bank with no loading shadow (R285). -/
def Bank.swap (b : Bank) : Bank :=
  let sh := b.shadow
  let ready := match (b.side sh).state with
    | .standby => true
    | .held d => !d
    | _ => false
  match b.live with
  | some l =>
    if ready then ((b.mod l Side.stepDown).mod sh (fun d => { d with state := .live })).bump
    else (b.mod l Side.stepDown).bump
  | none => if ready then (b.mod sh (fun d => { d with state := .live })).bump else b
/-! ### Claims (R279, R280) -/

def cbKey (c b : Nat) : Nat := c * 8 + b
/-- Whether a saved image of the bank still waits to be restored. -/
def State.imageWaits (s : State) (c b x : Nat) : Bool := ((s.ctx x).saved.find (cbKey c b)).isSome
/-- A context claims a bank that its `CBMASK` has: at once when none holds it, else in the order of claims. -/
def State.claimBank (s : State) (c b x : Nat) : State :=
  if !(s.ctx x).cbmask.getLsbD b || !(s.ctx x).has c then s
  else s.modCore c (fun k =>
    let y := k.bank b
    match y.holder, y.passing with
    | none, none => { k.setBank b { y with holder := some x, since := k.stamp } with stamp := k.stamp + 1 }
    | none, some _ => if y.claims.contains x then k else k.setBank b { y with claims := y.claims ++ [x] }
    | some d, _ => if d = x ∨ y.claims.contains x then k else k.setBank b { y with claims := y.claims ++ [x] })
/-- A claim that no instruction's trap withdraws. -/
def State.ownBank (s : State) (c b x : Nat) : State := (s.claimBank c b x).modCore c (fun k => k.firm b x)
/-- Whether the context holds the bank with its image in place. One whose image is still to be restored it does not hold
yet (DESIGN CHOICE, log 93). -/
def State.holdsBank (s : State) (c b x : Nat) : Bool :=
  ((s.core c).bank b).holder == some x && !s.imageWaits c b x && ((s.core c).bank b).passing.isNone

/-! ### Loads (R283) -/

/-- Pages of a global range, each with its translation, for a task's load; whether none may be written. -/
def sourcePages (src len : Nat) : M (List (Nat × TlbEntry) × Bool) := do
  let first := src / 2 ^ 14
  let l ← ((List.range ((src + len - 1) / 2 ^ 14 + 1 - first)).mapM (fun i => do
    let va := max src ((first + i) * 2 ^ 14)
    let t ← translateTo (BitVec.ofNat 64 va) .load
    pure (((first + i, t), t.allows .engineWrite) : (Nat × TlbEntry) × Bool)) : M _)
  pure (l.map (·.1), l.all (fun p => !p.2))
/-- The pages of a local range are made present in order; the first byte outside the local space traps (R112). -/
def localSource (src len : Nat) : M Unit :=
  ((List.range ((src + len - 1) / 2 ^ 14 + 1 - src / 2 ^ 14)).forM (fun i => do
    let la := max src ((src / 2 ^ 14 + i) * 2 ^ 14)
    let _ ← localAddr (BitVec.ofNat 64 la) la 1 false
    pure ()) : M Unit)
/-- The range check of `CBLD`: each byte as R112 gives for the mode; the first failing byte traps. -/
def sourceCheck (mode src len : Nat) : M (List (Nat × TlbEntry) × Bool) := do
  if mode = 0 then
    localSource src len
    pure ([], false)
  else if mode = 1 then
    let _ ← ((List.range ((src + len - 1) / 128 + 1 - src / 128)).mapM (fun i =>
      coveCheck (BitVec.ofNat 64 (max src ((src / 128 + i) * 128)))) : M _)
    pure ([], false)
  else sourcePages src len
/-- The load begins: the shadow's units are freed and new ones taken, and the side is loading; `some 1` when too few
units are free (R283). `clean`: every page of a global source is mapped without write permission (R280). -/
def State.beginLoad (s : State) (c : Nat) (r : CbReq) (slot job : Option Nat) (pages : List (Nat × TlbEntry)) (clean : Bool) :
    State × Option Word :=
  let k := s.core c
  let b := k.bank r.bank
  let sh := b.shadow
  let k := k.setBank r.bank (b.mod sh Side.emptied)
  let need := (formatBytes r.fmt + 1023) / 1024
  let units := k.freeUnits.take need
  if units.length < need then (s.setCore c k, some 1)
  else
    let d : Side := { state := .loading, units := units, cnt := bits r.fmt 0 16 + 1, et := bits r.fmt 16 5,
                      el := bits r.fmt 21 3, clean := clean, src := r.src, mode := r.mode }
    let task : BitVec 32 := match slot with
      | some j => (s.slot c j).taskid
      | none => 0
    let load : Loading := { slot := slot, task := task, job := job, side := sh, src := r.src, mode := r.mode,
                            len := formatBytes r.fmt, pages := pages }
    let b := (k.bank r.bank).setSide sh d
    (s.setCore c (k.setBank r.bank { b with loaders := b.loaders ++ [load] }), none)
/-- Whether a context holds a bank or waits for it. -/
def State.claims (s : State) (c b x : Nat) : Bool :=
  ((s.core c).bank b).holder == some x || ((s.core c).bank b).claims.contains x
/-- From the claim to the start of the copy (R283): waits for the claim and for the side, checks the range, takes the
units. The range is checked before the claim too, whose walks and fills the slot then awaits with nothing claimed, so that
a trap of the check leaves no claim (R5). -/
def cbStart (r : CbReq) : M (Option Word) := do
  let s ← get
  if !s.claims s.myCore r.bank s.me.ctx.toNat then
    let _ ← sourceCheck r.mode r.src (formatBytes r.fmt)
    modify (fun s : State => s.modMe (fun t => { t with cbreq := some { r with fresh := true } }))
  else modify (fun s : State => s.modMe (fun t => { t with cbreq := some { r with
    fresh := (s.core s.myCore).slots.toList.any (fun u => u.freshAt r.bank t.ctx.toNat) } }))
  modify (fun s : State => s.claimBank s.myCore r.bank s.me.ctx.toNat)
  let s ← get
  if !s.holdsBank s.myCore r.bank s.me.ctx.toNat then waitFor .claim
  else
    let b := (s.core s.myCore).bank r.bank
    if (b.side b.shadow).busy then waitFor .side
    else
      let (pages, clean) ← sourceCheck r.mode r.src (formatBytes r.fmt)
      let s ← get
      let (s', f) := s.beginLoad s.myCore r (some s.mySlot) none pages clean
      set (s'.modCore s.myCore (fun k => k.firm r.bank s.me.ctx.toNat))
      pure f
/-- The bank that an instruction names must be in the context's `CBMASK` (R282). -/
def bankArg (k : BitVec 3) : M Unit := fun s =>
  if s.myCtx.cbmask.getLsbD k.toNat then .ok ((), s) else .error (.trap (illegalTrap s))
/-- The operand checks that `CBLD` and `CBLDA` share (R283). -/
def loadArgs (m : BitVec 2) (k : BitVec 3) (b a : BitVec 5) : M CbReq := do
  let src ← getG a
  let f ← getG b
  if !formatOk f then illegal
  else if src.toNat % 64 ≠ 0 then misaligned 64 src
  else pure ⟨k.toNat, m.toNat, src.toNat, f.toNat, false⟩

/-- `CBLD` (R283): illegal in the service slot (R181). Once its copy has begun it counts as done, and the status is
written when the copy ends (R291). -/
def execCbld (m : BitVec 2) (k : BitVec 3) (b a d : BitVec 5) (s : State) : Host.Outcome State Fault Refusal :=
  runM (do
    let s ← get
    if s.mySlot = 4 then illegal
    else
      bankArg k
      let r ← loadArgs m k b a
      match ← cbStart r with
      | some x => retG d x
      | none => replyLater d s.msgSeq) s

/-! ### Swap, invalidation, reading (R285 to R288) -/

def cbEmptyTrap (k : BitVec 3) : Trap := ⟨Cause.cbEmpty, k.setWidth 64, 0⟩
/-- A bank that the task's context holds, or `CB_EMPTY`. -/
def myBank (k : BitVec 3) : M Bank := fun s =>
  let b := (s.core s.myCore).bank k.toNat
  if s.holdsBank s.myCore k.toNat s.me.ctx.toNat then .ok (b, s) else .error (.trap (cbEmptyTrap k))
/-- An M action on the issuing core's bank. -/
def setBank (k : BitVec 3) (b : Bank) : M Unit := modify (fun s : State => s.modCore s.myCore (fun c => c.setBank k.toNat b))

/-- `CBSWAP` (R285). -/
def execCbswap (k : BitVec 3) (d : BitVec 5) (s : State) : Host.Outcome State Fault Refusal :=
  runM (do
    let s ← get
    if s.mySlot = 4 then illegal
    else
      bankArg k
      let b ← myBank k
      if (b.side b.shadow).state = .loading then waitFor .side
      else
        setBank k b.swap
        retG d (b.swap.gen.setWidth 64)) s

/-- `CBINV` (R286). -/
def execCbinv (k : BitVec 3) (s : State) : Host.Outcome State Fault Refusal :=
  runM (do
    let s ← get
    if s.mySlot = 4 then illegal
    else
      bankArg k
      let b ← myBank k
      if (b.side 0).state = .loading ∨ (b.side 1).state = .loading then waitFor .side
      else
        setBank k b.invalidate
        done) s

/-- `CBRD` (R287). -/
def execCbrd (k : BitVec 3) (b d : BitVec 5) (s : State) : Host.Outcome State Fault Refusal :=
  runM (do
    let i ← getG b
    bankArg k
    let x ← sample k.toNat
    let s ← get
    if i.toNat ≥ x.cnt then stopTrap ⟨Cause.cbIndex, BitVec.ofNat 64 (i.toNat % 2 ^ 16 + k.toNat * 2 ^ 24 + 2 ^ 28), 0⟩
    else if s.entryBad s.myCore x i.toNat then
      stopTrap ⟨Cause.eccUncorrectable, 0,
        BitVec.ofNat 48 (s.sideAddr s.myCore x (x.entryBits * i.toNat / 8) - poolAt s.myCore 0)⟩
    else
      modify (fun s : State => s.wv d (BitVec.ofNat 512 (s.entry s.myCore x i.toNat)))
      done) s

/-- `CBSTAT` (R288): each core of a pair reads its own bank (R291). -/
def execCbstat (k : BitVec 3) (d : BitVec 5) (s : State) : Host.Outcome State Fault Refusal :=
  runM (do
    bankArg k
    let s ← get
    let b := (s.core s.myCore).bank k.toNat
    if !s.holdsBank s.myCore k.toNat s.me.ctx.toNat then retG d 0
    else
      let sh := b.side b.shadow
      let code := match sh.state with
        | .empty => 0
        | .loading => 1
        | .standby => 2
        | .held _ => 3
        | .live => 0
      let lv := match b.live with
        | some l =>
          let x := b.side l
          2 ^ 3 + (if x.clean then 2 ^ 4 else 0) + (x.cnt - 1) * 2 ^ 16 + x.et * 2 ^ 32 + x.el * 2 ^ 37 + min x.readers 255 * 2 ^ 40
        | none => 0
      retG d (BitVec.ofNat 64 (code + (if sh.clean then 2 ^ 5 else 0) + b.gen.toNat * 2 ^ 8 + lv +
        min sh.readers 255 * 2 ^ 48 + 2 ^ 56))) s

/-- Sampling a bank for an expansion needs its image in place; a bank whose image waits presents no live side, since
its sides are empty until the restore. A reader that stays, a job's, adds one to the live side's count (R276). -/
def State.sampleFor (s : State) (c b x : Nat) : State × Option Nat :=
  let y := (s.core c).bank b
  if y.holder ≠ some x ∨ y.passing.isSome then (s, none)
  else match y.live with
    | none => (s, none)
    | some l => (s.modCore c (fun k => k.setBank b (y.mod l (fun d => { d with readers := d.readers + 1 }))), some l)
/-- A job's reader of a side finishes; a waiting load may then proceed (R275). -/
def State.readerDone (s : State) (c b side : Nat) : State :=
  s.modCore c (fun k => k.setBank b ((k.bank b).endReader side))

end Sys2Proof.Machine
end

