-- ==== Sys2Proof/Machine/Queue.lean ====
section
/-! DEFINITION. Receiving, emitting and time instructions, and windows of a queue (10_queue.md R203 to R230). -/

namespace Sys2Proof.Machine

/-! ### Windows (R216, R217) -/

/-- The window index that holds a device time (R216). -/
def windowAt' (wlen wphase t : Nat) : Int := ((t : Int) - (wphase : Int)).fdiv (wlen : Int)
/-- End of window `k`, low 48 bits. -/
def windowEnd (wlen wphase : Nat) (k : Int) : BitVec 48 := BitVec.ofInt 48 ((wphase : Int) + (k + 1) * (wlen : Int))
/-- End of window `k` as an instant of the 64-bit device time. -/
def windowEndTime (wlen wphase : Nat) (k : Int) : Int := (wphase : Int) + (k + 1) * (wlen : Int)
/-- The live subscribed entries of a mask. -/
def Ctx.liveSubs (x : Ctx) (subs : Word) : List Nat :=
  (List.range 64).filter (fun i => subs.getLsbD i && ((x.sources[i]?).map (·.live)).getD false)
/-- Whether a subscribed entry, live or retired, holds a source (R220). -/
def Ctx.holds (x : Ctx) (subs : Word) (src : BitVec 16) : Bool :=
  (x.sources.mapIdx (fun i e => e.id == src && subs.getLsbD i)).any id
/-- The source table entry that holds a source; 64 stands for all others (R206). -/
def Ctx.entryOf (x : Ctx) (src : BitVec 16) : Nat :=
  match (x.sources.mapIdx (fun i e => (i, e))).find? (fun p => p.2.id == src) with
  | some p => p.1
  | none => 64
/-- Live subscribed entries whose tidemark is before the end of a window (R217). -/
def laggards (x : Ctx) (subs : Word) (tm : FMap (BitVec 48)) (e : BitVec 48) : List Nat :=
  (x.liveSubs subs).filter (fun i => tsBefore (tm.getD i 0) e)

/-! ### Receiving (R210, R223, R224) -/

/-- A queue of the issuing core that is bound for the task's context, else `ILLEGAL_INSTRUCTION`. -/
def myQueue (q : BitVec 4) (ok : Queue → Bool) : M Queue := fun s =>
  match (s.core s.myCore).queues.find q.toNat with
  | some u => if u.ctx = s.me.ctx.toNat ∧ ok u then .ok (u, s) else .error (.trap (illegalTrap s))
  | none => .error (.trap (illegalTrap s))
/-- A follower takes the leader's gd and ev registers (R232). -/
def takeLeader (d : BitVec 5) (evs : Bool) : M Unit := fun s =>
  match s.me.bundles with
  | b :: _ => match b.result with
    | some x => retG d x (if evs then s.modMe (fun t => { t with ev := b.ev }) else s)
    | none => .error (.wait .gang s)
  | [] => .error (.wait .gang s)
/-- What `read_head` of R223 reads: gd, the ev registers in 64-bit words, and the stamp. -/
def State.headWords (s : State) (u : Queue) : List Word :=
  let (r, n) := s.ringRec s.myCore u u.head
  BitVec.ofNat 64 (1 + (if n = 4 then 2 else 0) + u.head % 2 ^ u.size * 2 ^ 16) ::
    (r.evs.toList.flatMap (fun e => [e.setWidth 64, BitVec.ofNat 64 (e.toNat / 2 ^ 64)])) ++ [r.ts.setWidth 64]
/-- `read_head` of R223. -/
def readHead (d : BitVec 5) (l : List Word) : M Unit := fun s =>
  let w (i : Nat) : Word := (l[i]?).getD 0
  retG d (w 0) (s.modMe (fun t =>
    { t with
      ev := Vector.ofFn (fun i : Fin 4 => BitVec.ofNat 128 ((w (2 * i.val + 1)).toNat + (w (2 * i.val + 2)).toNat * 2 ^ 64))
      tsinh := (w 9).setWidth 48 }))

/-- `RECV`: waits for a record; illegal in the service slot (R181). -/
def execRecv (q : BitVec 4) (d : BitVec 5) (s : State) : Host.Outcome State Fault Refusal :=
  if s.follower then runM (takeLeader d true) s
  else runM (do
    let s ← get
    if s.mySlot = 4 then illegal
    else
      let u ← myQueue q (·.poll)
      let l ← obtained (fun s => if u.tail = u.head then .error (.wait .recv s) else .ok (s.headWords u, s))
      readHead d l) s

/-- `RPEEK`. -/
def execRpeek (q : BitVec 4) (d : BitVec 5) (s : State) : Host.Outcome State Fault Refusal :=
  if s.follower then runM (takeLeader d true) s
  else runM (do
    let u ← myQueue q (·.poll)
    let l ← obtained (fun s => .ok (if u.tail = u.head then [] else s.headWords u, s))
    if l.isEmpty then retG d 0 else readHead d l) s

/-- `RACK`: head moves past the record; a window close that it frees is consumed (R213). -/
def execRack (q : BitVec 4) (s : State) : Host.Outcome State Fault Refusal :=
  if s.follower then .next s.advance
  else runM (do
    let u ← myQueue q (·.poll)
    let s ← get
    if u.tail = u.head then done
    else
      let (r, n) := s.ringRec s.myCore u u.head
      let s := s.modCore s.myCore (fun k =>
        { k with queues := k.queues.set q.toNat { u with head := (u.head + n) % 2 ^ (u.size + 1) } })
      set (if r.kind = 5 then s.consumeClose s.myCore q.toNat r.ts else s)
      done) s

/-- `QSTAT`: the selectors of R224. -/
def execQstat (q : BitVec 4) (sl d : BitVec 5) (s : State) : Host.Outcome State Fault Refusal :=
  if s.follower then runM (takeLeader d false) s
  else runM (do
    let u ← myQueue q (fun _ => true)
    let n := 2 ^ u.size
    retOnce d (BitVec.ofNat 64 (match sl.toNat with
      | 0 => u.head % n + (if u.ovfPending then 2 ^ 16 else 0) + u.tail % n * 2 ^ 32 + u.free * 2 ^ 48
      | 1 => u.drops.toNat + u.lateDrops.toNat * 2 ^ 32
      | _ => u.lateCount.toNat))) s

/-! ### Emitting (R225 to R227) -/

/-- The destination of R226, or `LOCAL_BOUNDS`. -/
def emitTarget (a : Word) : M Target := fun s =>
  let n := a.toNat
  let c := bits n 5 9
  let dev := bits n 14 2
  let bad : Except Stop (Target × State) := .error (.trap ⟨Cause.localBounds, 2, a.setWidth 48⟩)
  if n ≥ 2 ^ 16 ∨ (bits n 4 1 = 1 ∧ bits n 3 1 = 1) then bad
  else if dev ≠ s.dev.toNat then .ok (.device dev (a.setWidth 16), s)
  else if !s.myCtx.has c then bad
  else if bits n 4 1 = 1 then .ok (.stream (coveOf c) (bits n 0 3), s)
  else .ok (.queue c (bits n 0 4), s)
def Target.agent : Target → Nat
  | .queue c q => Agent.queue c q
  | .stream v n => Agent.tileStream v n
  | .device d _ => Agent.device d
/-- A record leaves; the status comes when the destination accepts it, or when `EMITTO` has passed (R226). -/
def emit (a : Word) (payload : Nat) (ext : List (BitVec 128)) (d : BitVec 5) : M Unit := do
  let t ← emitTarget a
  let s ← get
  let ts := s.me.tsinh
  let go ← outbound a (ts.setWidth 64 :: BitVec.ofNat 64 payload ::
    ext.flatMap (fun e => [e.setWidth 64, BitVec.ofNat 64 (e.toNat / 2 ^ 64)]))
  let s ← get
  let late := tsBefore ts (s.toutOf s.myCore s.me.ctx.toNat)
  let r : Rec := ⟨mkRec ts (s.srcId 1 s.myCore) 2 ((if late then 1 else 0) + (if ext.isEmpty then 0 else 4)) payload, ext⟩
  if go then set (s.post (Agent.slot s.myCore s.mySlot) t.agent
    (.record r s.me.ctx.toNat t (.slot s.myCore s.mySlot s.me.taskid) false))
  replyLater d s.msgSeq
  modify (fun s : State => s.modMe (fun t => { t with started := s.dtime.toNat, life := .stalled .emit }))

/-- `EMIT`: a short record with payload gb[47:0]. -/
def execEmit (b a d : BitVec 5) (s : State) : Host.Outcome State Fault Refusal :=
  runM (do
    let x ← getG a
    let y ← getG b
    emit x (y.toNat % 2 ^ 48) [] d) s

/-- `EMITL`: a long record from vb. -/
def execEmitl (b a d : BitVec 5) (s : State) : Host.Outcome State Fault Refusal :=
  runM (do
    let x ← getG a
    let s ← get
    let v := (s.rv b).toNat
    emit x (bits v 384 48) [BitVec.ofNat 128 v, BitVec.ofNat 128 (v / 2 ^ 128), BitVec.ofNat 128 (v / 2 ^ 256)] d) s

/-- `TIDE` (R228), an outbound effect sent once, moving both cores of a pair. -/
def execTide (a : BitVec 5) (s : State) : Host.Outcome State Fault Refusal :=
  if s.follower then .next s.advance
  else runM (do
    let x ← getG a
    let _ ← outbound 0 [x]
    modify (fun s : State => s.raiseTout s.myCore s.me.ctx.toNat (x.setWidth 48))
    done) s

/-- The value of a selector of R229. -/
def tsValue (sl : Nat) (x : Word) : M Word := do
  let s ← get
  if sl = 0 then pure ((s.toutOf s.myCore s.me.ctx.toNat).setWidth 64)
  else if sl > 3 then illegal
  else
    let q := if sl = 1 then bits x.toNat 8 4 else bits x.toNat 0 4
    let u ← myQueue (BitVec.ofNat 4 q) (fun u => u.wlen != 0)
    let e := bits x.toNat 0 6
    if sl = 1 then
      if e ≥ s.myCtx.sources.length ∨ !u.subs.getLsbD e then illegal else pure ((u.tm.getD e 0).setWidth 64)
    else if sl = 2 then pure ((u.lastClosed.getD 0).setWidth 64)
    else pure ((windowEnd u.wlen u.wphase u.window).setWidth 64)
/-- `TSREAD`. -/
def execTsread (sl a d : BitVec 5) (s : State) : Host.Outcome State Fault Refusal :=
  runM (do
    let x ← getG a
    let v ← tsValue sl.toNat x
    retOnce d v) s

/-- `TSINH` (R230). -/
def execTsinh (a d : BitVec 5) (s : State) : Host.Outcome State Fault Refusal :=
  .next (((s.wg d (s.me.tsinh.setWidth 64)).modMe (fun t => { t with tsinh := tsMax s.me.tsinh ((s.rg a).setWidth 48) })).advance)

end Sys2Proof.Machine
end

