-- ==== Sys2Proof/Machine/TileOps.lean ====
section
/-! DEFINITION. Tile streams as data, and the tile instructions (11_tile.md R233, R238, R242 to R249). -/

namespace Sys2Proof.Machine

/-! ### Descriptor fields (Table 11.1) -/

def TileStream.f (t : TileStream) (w lo n : Nat) : Nat := bits (((t.d[w]?).getD 0).toNat) lo n
def TileStream.side (t : TileStream) : Nat := 8 * 2 ^ t.f 0 46 2
def TileStream.halo (t : TileStream) : Nat := t.f 0 44 2
def TileStream.channels (t : TileStream) : Nat := 1 + t.f 0 43 1
def TileStream.fmt (t : TileStream) : Nat := t.f 0 41 2
def TileStream.wlen (t : TileStream) : Nat := t.f 3 32 32
def TileStream.wphase (t : TileStream) : Nat := t.f 3 0 32
def TileStream.subs (t : TileStream) : Word := (t.d[4]?).getD 0
def TileStream.stale (t : TileStream) : Nat := t.f 5 32 32
/-- Cells per row of a tile with its halo (R238). -/
def TileStream.edge (t : TileStream) : Nat := t.side + 2 * t.halo
/-- Data bytes of a tile (Table 11.3). -/
def TileStream.dataBytes (t : TileStream) : Nat :=
  match t.fmt with
  | 2 => 2 * t.channels * t.edge ^ 2
  | 3 => 2048
  | _ => t.channels * t.edge ^ 2
/-- Blocks of a tile (R238). -/
def TileStream.tileBlocks (t : TileStream) : Nat := (32 + t.dataBytes + 1023) / 1024
def Breakwater.stream (b : Breakwater) (n : Nat) : TileStream := b.streams.getD n { ctx := 0, d := [] }

/-! ### Tiles -/

/-- Buffer address of byte `i` of a tile. -/
def Tile.at_ (t : Tile) (cove i : Nat) : Nat := tileAt cove (1024 * (t.blocks[i / 1024]?).getD 0 + i % 1024)
def State.tileNum (s : State) (cove : Nat) (t : Tile) (i n : Nat) : Nat :=
  leNat ((List.range n).map (fun k => s.byte (t.at_ cove (i + k))))
def State.putTile (s : State) (cove : Nat) (t : Tile) (i : Nat) (l : List Byte) : State :=
  { s with mem := Mem.puts s.mem (l.mapIdx (fun k x => (t.at_ cove (i + k), x))) }
def Breakwater.tile (b : Breakwater) (num : Nat) : Option Tile := b.tiles.find? (fun t => t.num == num)
def Breakwater.setTile (b : Breakwater) (t : Tile) : Breakwater :=
  { b with tiles := b.tiles.map (fun o => if o.num = t.num then t else o) }
/-- A tile's handle (Table 11.2): first block, and its sequence. -/
def Breakwater.handle (b : Breakwater) (t : Tile) : Nat := t.blocks.headD 0 + b.seqs.getD (t.blocks.headD 0) 0 * 2 ^ 10
/-- The tile that a handle names, unless the handle is stale (R242). -/
def Breakwater.named (b : Breakwater) (h : Nat) : Option Tile :=
  b.tiles.find? (fun t => t.state != .freeing && b.handle t == h)
/-- Whether a handle bears its first block's present sequence (R242). -/
def Breakwater.current (b : Breakwater) (h : Nat) : Bool := b.seqs.getD (h % 2 ^ 10) 0 == h / 2 ^ 10
/-- Free blocks of the buffer. -/
def Breakwater.freeBlocks (b : Breakwater) : Nat := 1024 - (b.tiles.map (fun t => t.blocks.length)).sum
def Breakwater.heldBy (b : Breakwater) (n : Nat) : Nat := ((b.tiles.filter (fun t => t.stream == n)).map (fun t => t.blocks.length)).sum

/-! ### Instructions (R245 to R248) -/

/-- A stream of the issuing core's cove that is bound for the task's context. -/
def myStream (n : BitVec 3) : M TileStream := fun s =>
  match (s.cove (coveOf s.myCore)).bw.streams.find n.toNat with
  | some t => if t.ctx = s.me.ctx.toNat then .ok (t, s) else .error (.trap (illegalTrap s))
  | none => .error (.trap (illegalTrap s))
/-- A handle operand: bits [63:16] must be 0. -/
def handleArg (a : BitVec 5) : M Nat := fun s =>
  if (s.rg a).toNat ≥ 2 ^ 16 then .error (.trap (illegalTrap s)) else .ok ((s.rg a).toNat, s)

/-- `TFLUSH`: one FIFO step, awaited; illegal in the service slot (R181). -/
def execTflush (n : BitVec 3) (d : BitVec 5) (s : State) : Host.Outcome State Fault Refusal :=
  runM (leaderOnly d (do
    let s ← get
    if s.mySlot = 4 then illegal
    else
      let _ ← myStream n
      let go ← outbound n.toNat []
      let s ← get
      if go then set (s.post (Agent.slot s.myCore s.mySlot) (Agent.tileStream (coveOf s.myCore) n.toNat)
        (.flush (coveOf s.myCore) n.toNat s.myCore s.mySlot s.me.ctx.toNat s.me.taskid))
      replyLater d s.msgSeq)) s

/-- Status of `TGET` (R246) for a handle. -/
def tgetStatus (s : State) (h : Nat) : Nat × Option Tile :=
  let b := (s.cove (coveOf s.myCore)).bw
  match b.named h with
  | none => (if b.current h then 3 else 1, none)
  | some t =>
    let mine := t.claimer == some (s.myCore, s.mySlot, s.me.taskid)
    if t.ctx ≠ s.me.ctx.toNat then (4, none)
    else if t.state = .claimed ∧ !mine then (2, none)
    else if t.state ≠ .dispatched ∧ t.state ≠ .claimed then (3, none)
    else if t.state = .dispatched ∧ (b.tiles.filter (fun o => decide (o.state = .claimed) &&
        o.claimer == some (s.myCore, s.mySlot, s.me.taskid))).length ≥ 4 then (5, none)
    else (0, some t)

/-- The issuing task claims a tile. -/
def State.claimTile (s : State) (t : Tile) : State :=
  let t := { t with state := .claimed, claimer := some (s.myCore, s.mySlot, s.me.taskid) }
  s.modCove (coveOf s.myCore) (fun k => { k with bw := k.bw.setTile t })
/-- `TGET`: claims the tile and starts its copy to local memory. -/
def execTget (b a d : BitVec 5) (s : State) : Host.Outcome State Fault Refusal :=
  runM (leaderOnly d (do
    let h ← handleArg a
    let y ← getG b
    if y.toNat % 64 ≠ 0 then misaligned 64 y
    else
      let go ← outbound y [BitVec.ofNat 64 h]
      let s ← get
      match tgetStatus s h with
      | (0, some t) => if go then localRange y y.toNat (32 + ((s.cove (coveOf s.myCore)).bw.stream t.stream).dataBytes) true
      | _ => pure ()
      let r ← obtained (do
        let s ← get
        match tgetStatus s h with
        | (0, some t) =>
          set (s.claimTile t)
          pure [0, BitVec.ofNat 64 t.num, BitVec.ofNat 64 (32 + ((s.cove (coveOf s.myCore)).bw.stream t.stream).dataBytes)]
        | (st, _) => pure [BitVec.ofNat 64 st])
      match r with
      | [0, num, n] =>
        localRange y y.toNat n.toNat true
        let s ← get
        replyLater d s.msgSeq
        modify (fun s : State => s.modMe (fun u => { u with copying := some (num.toNat, y.toNat, n <<< 16) }))
      | st :: _ => retG d st
      | [] => retG d 0)) s

/-- Status of `TREL` (R247). -/
def trelStatus (s : State) (h : Nat) : Nat × Option Tile :=
  match (s.cove (coveOf s.myCore)).bw.named h with
  | none => (if (s.cove (coveOf s.myCore)).bw.current h then 3 else 1, none)
  | some t =>
    if t.ctx ≠ s.me.ctx.toNat then (4, none)
    else if t.state = .claimed then
      if t.claimer == some (s.myCore, s.mySlot, s.me.taskid) then (0, some t) else (2, none)
    else if t.state = .dispatched then (0, some t)
    else (3, none)

/-- `TREL`: frees a dispatched tile or one that the task has claimed. -/
def execTrel (a d : BitVec 5) (s : State) : Host.Outcome State Fault Refusal :=
  runM (leaderOnly d (do
    let h ← handleArg a
    let _ ← outbound h []
    let r ← obtained (do
      let s ← get
      let (st, t) := trelStatus s h
      match t with
      | some t => set (s.modCove (coveOf s.myCore) (fun k => { k with bw := k.bw.release (fun o => o.num == t.num) }))
      | none => pure ()
      pure [BitVec.ofNat 64 st])
    retG d ((r.head?).getD 0))) s

/-- `TSTAT` with selectors 0 to 2 (R248). -/
def execTstat (n : BitVec 3) (sl d : BitVec 5) (s : State) : Host.Outcome State Fault Refusal :=
  runM (leaderOnly d (do
    let t ← myStream n
    let s ← get
    let b := (s.cove (coveOf s.myCore)).bw
    let of (p : TileState → Bool) : Nat := (b.tiles.filter (fun o => o.stream == n.toNat && p o.state)).length
    retOnce d (BitVec.ofNat 64 (match sl.toNat with
      | 0 => of (fun x => x != .collecting && x != .freeing) + of (· == .collecting) * 2 ^ 16 + b.heldBy n.toNat * 2 ^ 32 +
          b.freeBlocks * 2 ^ 48
      | 1 => t.late.toNat + t.outside.toNat * 2 ^ 32
      | _ => t.fifo.toNat + t.pressure.toNat * 2 ^ 32)))) s

/-- `TSTAT` with selector 3, on a handle (R248). -/
def execTstatHandle (a d : BitVec 5) (s : State) : Host.Outcome State Fault Refusal :=
  runM (leaderOnly d (do
    let h ← handleArg a
    let s ← get
    let b := (s.cove (coveOf s.myCore)).bw
    retOnce d (BitVec.ofNat 64 (match b.named h with
      | none => 0
      | some t =>
        (match t.state with
          | .collecting => 1
          | .sealed => 2
          | .dispatched => 3
          | .claimed => 4
          | .inJob => 5
          | .freeing => 0) + t.cause * 2 ^ 4 + (if t.early then 2 ^ 8 else 0) + t.home * 2 ^ 16)))) s

end Sys2Proof.Machine
end

