-- ==== Sys2Proof/Machine/Job.lean ====
section
/-! DEFINITION. Job descriptors, the matrix engine's arithmetic and memory, and its instructions and events (12_job.md R250 to R272). -/

namespace Sys2Proof.Machine

/-! ### Descriptor fields (Table 12.1) -/

def Job.f (j : Job) (w lo n : Nat) : Nat := bits (((j.d[w]?).getD 0).toNat) lo n
def Job.conv (j : Job) : Bool := j.f 0 62 2 == 1
def Job.acc (j : Job) : Nat := j.f 0 60 2
def Job.nodr (j : Job) : Bool := j.f 0 59 1 == 1
def Job.dfmt (j : Job) : Nat := j.f 0 50 5
def Job.cscope (j : Job) : Nat := j.f 0 47 3
def Job.cq (j : Job) : Nat := j.f 0 43 4
def Job.ccore (j : Job) : Nat := j.f 0 34 9
def Job.norec (j : Job) : Bool := j.f 0 33 1 == 1
def Job.accoff (j : Job) : Nat := j.f 0 25 7
def Job.n (j : Job) : Nat := j.f 1 32 16
/-- The job among the accesses that wait for a page (R346). -/
def Job.who (j : Job) : Nat := engineWho 0 j.id.toNat
/-- First word of operand A or B. -/
def opWord (b : Bool) : Nat := if b then 5 else 2
def Job.loc (j : Job) (b : Bool) : Nat := j.f (opWord b) 61 3
def Job.fmt (j : Job) (b : Bool) : Nat := j.f (opWord b) 56 5
def Job.addrOf (j : Job) (b : Bool) : Nat := j.f (opWord b) 0 48
def Job.rs (j : Job) (b : Bool) : Nat := j.f (opWord b + 1) 32 32
def Job.coreOf (j : Job) (b : Bool) : Nat := j.f (opWord b + 1) 23 9
def Job.bankOf (j : Job) (b : Bool) : Nat := j.f (opWord b + 1) 20 3
def Job.iloc (j : Job) (b : Bool) : Nat := j.f (opWord b + 1) 18 2
def Job.scs (j : Job) (b : Bool) : Nat := j.f (opWord b + 2) 48 16
def Job.scaddr (j : Job) (b : Bool) : Nat := j.f (opWord b + 2) 0 48
def Job.dloc (j : Job) : Nat := j.f 8 61 3
def Job.daddr (j : Job) : Nat := j.f 8 0 48
def Job.drs (j : Job) : Nat := j.f 9 32 32
def Job.dcore (j : Job) : Nat := j.f 9 23 9
def Job.ks (j : Job) : Nat := j.f 10 25 3
def Job.stride (j : Job) : Nat := j.f 10 23 2 + 1
def Job.pad (j : Job) : Nat := j.f 10 21 2
def Job.spn (j : Job) : Nat := j.f 12 62 2
def Job.spo (j : Job) : Bool := j.f 12 61 1 == 1
/-- Whether the job runs its check: every job of a paired context does (R266). -/
def State.jobPaired (s : State) (j : Job) : Bool := j.f 0 58 1 == 1 || (s.ctx j.ctx).pair
/-- A job's number within its engine's identifiers. -/
def Mxe.job (m : Mxe) (id : Nat) : Option Job := m.jobs.find? (fun j => j.id.toNat == id)
def Mxe.setJob (m : Mxe) (j : Job) : Mxe := { m with jobs := m.jobs.map (fun o => if o.id = j.id then j else o) }
def State.setJob (s : State) (v : Nat) (j : Job) : State := s.modCove v (fun c => { c with mxe := c.mxe.setJob j })
/-- Final states (Table 12.4). -/
def JobState.final : JobState → Bool
  | .done => true
  | .faulted => true
  | .cancelled => true
  | _ => false
/-- A job that is final and holds no record to send is finished (R260). -/
def Job.finished (j : Job) : Bool := j.state.final && j.recorded

/-! ### Geometry (R254, R255) -/

/-- The image of a CONV: height, width, channels, row, pixel and channel strides. -/
structure Image where
  h : Nat
  w : Nat
  c : Nat
  rs : Nat
  xs : Nat
  cs : Nat
  /-- bytes before pixel (0, 0), and how far a window may read beyond the image -/
  base : Nat
  halo : Nat
  deriving DecidableEq, Repr
def State.tileOf (s : State) (v : Nat) (j : Job) : Option (Tile × TileStream) :=
  j.tile.bind (fun n => ((s.cove v).bw.tile n).map (fun t => (t, (s.cove v).bw.stream t.stream)))
/-- The image of a job: the descriptor's, or the tile's that replaces it. -/
def State.image (s : State) (v : Nat) (j : Job) : Image :=
  match (if j.loc false = 3 then s.tileOf v j else none) with
  | some (_, t) =>
    let b := if t.fmt = 2 then 2 else 1
    { h := t.side, w := t.side, c := t.channels, rs := t.edge * b, xs := b, cs := t.edge ^ 2 * b,
      base := 32 + (t.halo * t.edge + t.halo) * b, halo := t.halo }
  | none =>
    { h := j.f 10 52 12 + 1, w := j.f 10 40 12 + 1, c := j.f 10 28 12 + 1, rs := j.rs false, xs := j.f 11 48 16,
      cs := j.f 11 0 32, base := 0, halo := 0 }
def outSide (n pad ks st : Nat) : Nat := (n + 2 * pad - ks) / st + 1
/-- Output rows M of a job. -/
def State.rowsOf (s : State) (v : Nat) (j : Job) : Nat :=
  if j.conv then
    let i := s.image v j
    outSide i.h j.pad j.ks j.stride * outSide i.w j.pad j.ks j.stride
  else j.f 1 48 16
/-- Depth K of a job. -/
def State.depthOf (s : State) (v : Nat) (j : Job) : Nat :=
  if j.conv then j.ks ^ 2 * (s.image v j).c else j.f 1 0 24
/-- The side that a codebook operand sampled. -/
def State.sideOf (s : State) (j : Job) (b : Bool) : Option (Nat × Side) :=
  (j.sides.find? (fun x => x.1 == if b then 1 else 0)).map (fun x => (x.2.1, ((s.core x.2.1).bank x.2.2.1).side x.2.2.2))
/-- The element type that an operand supplies: its own, its tile's or its bank's. -/
def State.elemType (s : State) (j : Job) (b : Bool) : Nat :=
  if j.loc b = 4 then ((s.sideOf j b).map (·.2.et)).getD 0 else j.fmt b
def isInt (t : Nat) : Bool := decide (t < 8)
/-- Types that the MXE reads (R253). -/
def mxeType (t : Nat) : Bool := decide (t < 8) || t == 8 || t == 11 || t == 12 || t == 13 || t == 14
/-- Slot depth (Table 12.2). -/
def State.slotDepth (s : State) (j : Job) : Nat :=
  match max (typeBits (s.elemType j false)) (typeBits (s.elemType j true)) with
  | 4 => 128
  | 16 => 32
  | 32 => 8
  | 64 => 2
  | _ => 64
/-- Positions kept of each 64 (R256). -/
def Job.kept (j : Job) : Nat := match j.spn with
  | 1 => 32
  | 2 => 16
  | _ => 64
/-- Slots along K for each output block (R264). -/
def State.depthSlots (s : State) (v : Nat) (j : Job) : Nat :=
  let kd := s.depthOf v j * j.kept / 64
  (kd + s.slotDepth j - 1) / s.slotDepth j
/-- Compute slots of one run. -/
def State.runSlots (s : State) (v : Nat) (j : Job) : Nat :=
  ((s.rowsOf v j + 63) / 64) * ((j.n + 63) / 64) * s.depthSlots v j
/-- Compute slots of the whole job: two runs under the paired check (R266). -/
def State.totalSlots (s : State) (v : Nat) (j : Job) : Nat := s.runSlots v j * (if s.jobPaired j then 2 else 1)

/-! ### Filling the TLBs (R340, R341) -/

/-- Core TLB and cove TLB sizes, directory size (R340, R341). -/
def coreTlbSize : Nat := 64
def coveTlbSize : Nat := 1024
def directorySize : Nat := 16384
/-- A TLB takes an entry; where it is full, an entry of no stated choice gives way. -/
def tlbPut (l : List TlbEntry) (size draw : Nat) (t : TlbEntry) : List TlbEntry × Option TlbEntry :=
  let l := l.filter (fun x => !(x.ctx == t.ctx && x.va == t.va && x.size == t.size))
  if l.length < size then (l ++ [t], none) else (l.eraseIdx (draw % size) ++ [t], l[draw % size]?)
/-- A cove drops entries of its TLB from its core TLBs too. -/
def State.dropCore (s : State) (v : Nat) (t : TlbEntry) : State :=
  (List.range 8).foldl (fun s q => s.modCore (coreAt v q) (fun k => { k with tlb := k.tlb.filter (· != t) })) s
/-- The result of a walk fills the directory, the cove TLB and the requesters' core TLBs. -/
def State.fillTlb (s : State) (v : Nat) (t : TlbEntry) (cores : List Nat) : State :=
  let (l, out) := tlbPut (s.cove v).tlb coveTlbSize (Config.freeNat s.free) t
  let s := { s with free := s.free + 1 }.modCove v (fun k => { k with tlb := l })
  let s := match out with
    | some x => s.dropCore v x
    | none => s
  let s := cores.foldl (fun s c =>
    let n := Config.freeNat s.free
    { s with free := s.free + 1 }.modCore c (fun k => { k with tlb := (tlbPut k.tlb coreTlbSize n t).1 })) s
  let d := v / 32
  let bit : BitVec 32 := BitVec.ofNat 32 (2 ^ (v % 32))
  let same (e : DirEntry) : Bool := e.ctx == t.ctx && e.va == t.va && e.size == t.size
  { s with dies := s.dies.mapFinIdx (fun i k _ => if i ≠ d then k else
      { k with dir := if k.dir.any same then k.dir.map (fun e => if same e then { e with coves := e.coves ||| bit } else e)
                 else k.dir ++ [{ entry := t.entry, ctx := t.ctx, va := t.va, size := t.size, coves := bit }] }) }
/-- Whether the directory of the cove's die takes an entry without another giving way. -/
def State.dirRoom (s : State) (v : Nat) (t : TlbEntry) : Bool :=
  let dir := ((s.dies[v / 32]?).getD {}).dir
  decide (dir.length < directorySize) || dir.any (fun e => e.ctx == t.ctx && e.va == t.va && e.size == t.size)
/-- With a full directory on the cove's die, an entry of no stated choice, but none of `keep`, is invalidated before a new
one fills it (R341): the state in which that has begun; `none` where there is room, or nothing can give way. -/
def State.makeRoom (s : State) (v : Nat) (t : TlbEntry) (keep : List TlbEntry := []) : Option State :=
  if s.dirRoom v t then none
  else if s.invals.any (fun i => i.coves.any (fun w => w / 32 == v / 32)) then some s
  else
    let l := ((s.dies[v / 32]?).getD {}).dir.filter (fun e => !keep.any (fun t => e.ctx == t.ctx && e.va == t.va && e.size == t.size))
    (l[Config.freeNat s.free % l.length]?).map (fun e =>
      let coves := (List.range 32).filterMap (fun b => if e.coves.getLsbD b then some (v / 32 * 32 + b) else none)
      { s with free := s.free + 1, invals := s.invals ++ [⟨e.ctx, e.va, e.va + e.size, coves⟩] })
/-- The entries that an engine's walks bring, `all` of them, fill its cove TLB and the directory in turn (R340, R341): the
state, and whether each that still stands in the list has its place. Where all that the directory holds are entries of this
one operation, the rest take none (log 89). -/
def State.fillWalks (s : State) (v : Nat) (all : List TlbEntry) : List TlbEntry → State × Bool
  | [] => (s, true)
  | t :: l => match s.makeRoom v t all with
    | some u => (u, false)
    | none => State.fillWalks (if s.dirRoom v t then s.fillTlb v t [] else s) v all l
/-- An engine's accesses go on with the entries that their walks brought, once the directory has room for them. -/
def State.withWalks (s : State) (v : Nat) (new : List TlbEntry) (f : State → State) : State :=
  let r := s.fillWalks v new new
  if r.2 then f r.1 else r.1

/-! ### Reading (R251, R252, R256) -/

/-- Where a byte of a location stands: local, cove or global (R251). A local page is entered in the turn of the job that
`who` names (R346). -/
def State.jobByte (s : State) (who v ctx loc core a : Nat) (k : Acc) : Except JobStop Nat :=
  let at_ (c la : Nat) : Except JobStop Nat := match s.local? c ctx la with
    | .here _ x => if (s.core c).mayEnter ctx (la / 2 ^ 14) who then .ok x else .error (.absent c (la / 2 ^ 14))
    | .absent p => .error (.absent c p)
    | .failed _ => .error (.fault 7 a)
    | .outside => .error (.fault 2 a)
  match loc with
  | 0 => at_ core a
  | 1 =>
    let c := coreAt v (a / 2 ^ 7 % 8)
    if a ≥ 8 * (s.ctx ctx).sws ∨ !(s.ctx ctx).has c then .error (.fault 2 a) else at_ c (a / 2 ^ 10 * 2 ^ 7 + a % 2 ^ 7)
  | _ => match s.coveVa v ctx a k with
    | .ok x => if s.heldBack (coreAt v 0) x then .error .held else .ok x
    | .error e => .error e
/-- Core and local address of a local or cove address of an engine's location (R251). -/
def engineLocal (v loc core a : Nat) : Option (Nat × Nat) :=
  match loc with
  | 0 => some (core, a)
  | 1 => some (coreAt v (a / 2 ^ 7 % 8), a / 2 ^ 10 * 2 ^ 7 + a % 2 ^ 7)
  | _ => none
/-- An engine's access to a page that is there stamps its frame, and a write marks it dirty (R344). -/
def State.touchPage (s : State) (c ctx p : Nat) (store : Bool) : State :=
  s.modCore c (fun k => match k.frameOf ctx p with
    | some (f, _) => k.touch f store
    | none => k)
/-- An engine's read of `n` bytes from a local address stamps the frames of their pages. -/
def State.touchRead (s : State) (c ctx la n : Nat) : State :=
  ([la / 2 ^ 14, (la + n - 1) / 2 ^ 14].dedup).foldl (fun s p => s.touchPage c ctx p false) s
/-- An engine's write to a local or cove address marks its frame (Table 17.3). -/
def State.dirtied (s : State) (v ctx loc core a : Nat) : State :=
  match engineLocal v loc core a with
  | some (c, la) => s.touchPage c ctx (la / 2 ^ 14) true
  | none => s
/-- A byte as it stood in a page that an operand was read from before (R251). -/
def Job.keptByte (j : Job) (v loc core a : Nat) : Option (Option Byte) :=
  match j.reads with
  | [] => none
  | l => (engineLocal v loc core a).bind (fun q =>
      (l.find? (fun k => k.1 == q.1 && k.2.1 == q.2 / 2 ^ 14)).map (fun k => (k.2.2[q.2 % 2 ^ 14]?).getD none))
/-- A byte that a job reads: from a page that it has read from before, or where it stands. -/
def State.jobRead (s : State) (v : Nat) (j : Job) (loc core a : Nat) : Except JobStop Byte :=
  match j.keptByte v loc core a with
  | some (some x) => .ok x
  | some none => .error (.fault 7 a)
  | none => do
    let x ← s.jobByte j.who v j.ctx loc core a .load
    if s.poisoned x 1 then .error (.fault 7 a) else .ok (s.byte x)
/-- `n` bytes from a location, as a number. -/
def State.jobNum (s : State) (v : Nat) (j : Job) (loc core a n : Nat) : Except JobStop Nat :=
  match n with
  | 0 => .ok 0
  | n + 1 => do
    let x ← s.jobRead v j loc core a
    let t ← s.jobNum v j loc core (a + 1) n
    .ok (x.toNat + 256 * t)
/-- The field of `w` bits at bit `lo` of a byte string that starts at `a`. -/
def State.jobBits (s : State) (v : Nat) (j : Job) (loc core a lo w : Nat) : Except JobStop Nat := do
  let x ← s.jobNum v j loc core (a + lo / 8) ((lo % 8 + w + 7) / 8)
  .ok (x / 2 ^ (lo % 8) % 2 ^ w)
/-- A pattern of an element type as a value. -/
def elemValue (t p : Nat) : Fp := if isInt t then Fp.ofInt (readInt p t) else Fp.read (fmtOf t) p
/-- An E8M0 scale applied (R50). -/
def scaleBy (sc : Nat) (x : Fp) : Fp := if sc = 255 then .nan false false else x.scale ((sc : Int) - 127)
/-- The stored position of uncompressed k in a row, or none where the map clears it (R256). -/
def State.sparsePos (s : State) (v : Nat) (j : Job) (b : Bool) (r k depth : Nat) : Except JobStop (Option Nat) := do
  let a := j.f 12 0 48 + 8 * (r * (depth / 64) + k / 64)
  let m ← s.jobNum v j (j.loc b) (j.coreOf b) a 8
  if popcount 64 m ≠ j.kept then .error (.fault 5 a)
  else if m / 2 ^ (k % 64) % 2 = 0 then .ok none
  else .ok (some (k / 64 * j.kept + popcount (k % 64) m))
/-- Element (r, k) of an operand stored as rows; none where sparsity removes it. -/
def State.rowElem (s : State) (v : Nat) (j : Job) (b : Bool) (r k depth : Nat) : Except JobStop (Option Fp) := do
  let t := s.elemType j b
  let row := j.addrOf b + r * j.rs b
  let pos ← if j.spn ≠ 0 ∧ j.spo = b then s.sparsePos v j b r k depth else .ok (some k)
  match pos with
  | none => .ok none
  | some p =>
    let w := typeBits t
    let x ← s.jobBits v j (j.loc b) (j.coreOf b) row (p * w) w
    if j.scs b ≠ 0 ∧ (t = 8 ∨ t = 11 ∨ t = 12) then
      let sc ← s.jobNum v j (j.loc b) (j.coreOf b) (j.scaddr b + r * j.scs b + k / 32) 1
      .ok (some (scaleBy sc (elemValue t x)))
    else .ok (some (elemValue t x))
/-- Element (r, k) of a codebook operand (R252). -/
def State.codeElem (s : State) (v : Nat) (j : Job) (b : Bool) (r k : Nat) : Except JobStop (Option Fp) := do
  match s.sideOf j b with
  | none => .error (.fault 4 0)
  | some (c, d) =>
    let w := typeBits (j.fmt b)
    let l := 2 ^ d.el
    let row := j.addrOf b + r * j.rs b
    let i ← s.jobBits v j (j.iloc b) (j.coreOf b) row (k / l * w) w
    if i ≥ d.cnt then .error (.fault 3 (row + k / l * w / 8))
    else if s.entryBad c d i then .error (.fault 7 (s.sideAddr c d (d.entryBits * i / 8) - poolAt c 0))
    else .ok (some (elemValue d.et (s.entry c d i / 2 ^ (typeBits d.et * (k % l)) % 2 ^ typeBits d.et)))
/-- `conv_a` of R254, with the inside test of R255 for a tile. -/
def State.convElem (s : State) (v : Nat) (j : Job) (r k : Nat) : Except JobStop (Option Fp) := do
  let i := s.image v j
  let ow := outSide i.w j.pad j.ks j.stride
  let y : Int := (r / ow * j.stride : Nat) - (j.pad : Int) + (k / (j.ks * i.c) : Nat)
  let x : Int := (r % ow * j.stride : Nat) - (j.pad : Int) + (k / i.c % j.ks : Nat)
  let t := j.fmt false
  let n := typeBits t / 8
  let h : Int := i.halo
  if y < -h ∨ y > i.h + h - 1 ∨ x < -h ∨ x > i.w + h - 1 then .ok (some (.fin false 0 0))
  else
    let off := ((i.base : Int) + y * i.rs + x * i.xs + (k % i.c * i.cs : Nat)).toNat
    if j.loc false = 3 then
      match s.tileOf v j with
      | some (tl, _) =>
        if (List.range n).any (fun q => s.poisoned (tl.at_ v (off + q)) 1) then .error (.fault 7 off)
        else .ok (some (elemValue t (s.tileNum v tl off n)))
      | none => .error (.fault 8 0)
    else
      let p ← s.jobNum v j (j.loc false) (j.coreOf false) (j.addrOf false + off) n
      .ok (some (elemValue t p))
/-- A(m, k) or B(k, n) by row and k. -/
def State.elem (s : State) (v : Nat) (j : Job) (b : Bool) (r k depth : Nat) : Except JobStop (Option Fp) :=
  if j.loc b = 4 then s.codeElem v j b r k
  else if j.conv && !b then s.convElem v j r k
  else s.rowElem v j b r k depth

/-! ### Arithmetic (R63, R258) -/

/-- The exact sum of the products of k from `k0`, `n` of them (R63), with the flags of its invalid operations;
where a NaN stands among opposite infinities `NV` follows this order of the terms (DESIGN CHOICE, log 80). -/
def State.exactSum (s : State) (v : Nat) (j : Job) (m c depth : Nat) : Nat → Nat → Except JobStop (Fp × Flags)
  | _, 0 => .ok (.fin false 0 0, 0)
  | k, n + 1 => do
    let x ← s.elem v j false m k depth
    let y ← s.elem v j true c k depth
    let (r, g) ← s.exactSum v j m c depth (k + 1) n
    match x, y with
    | some x, some y =>
      let (p, g1) := Fp.mulExact x y
      let (q, g2) := Fp.addExact 0 r p
      .ok (q, g ||| g1 ||| g2)
    | _, _ => .ok (r, g)
/-- An exact integer value. -/
def Fp.int : Fp → Int
  | .fin n m x => (if n then -1 else 1) * ((m : Int) * 2 ^ x.toNat)
  | _ => 0
/-- A block sum enters an accumulator of 32 bits: f32, or s32 modulo 2^32. -/
def accumulate (int : Bool) (acc : Nat × Flags) (b : Fp × Flags) : Nat × Flags :=
  if int then (wrapInt ((acc.1 : Int) + b.1.int) 32, acc.2)
  else
    let (p, g) := fpFinish (fmtOf 15) 0 (Fp.addExact 0 (Fp.read (fmtOf 15) acc.1) b.1)
    (p, acc.2 ||| b.2 ||| g)
/-- Blocks of 32 along K from `k0` up to `k1`, entered in order. -/
def State.sumBlocks (s : State) (v : Nat) (j : Job) (m c depth k1 : Nat) (int : Bool) :
    Nat → Nat → Nat × Flags → Except JobStop (Nat × Flags)
  | 0, _, acc => .ok acc
  | fuel + 1, k0, acc =>
    if k0 ≥ k1 then .ok acc
    else do
      let b ← s.exactSum v j m c depth k0 (min 32 (k1 - k0))
      s.sumBlocks v j m c depth k1 int fuel (k0 + 32) (accumulate int acc b)
/-- Whether an operand's kind is integer; none for a codebook whose sample found no side. -/
def State.kindOf (s : State) (j : Job) (b : Bool) : Option Bool :=
  if j.loc b = 4 ∧ (s.sideOf j b).isNone then none else some (isInt (s.elemType j b))
/-- Whether the job's operands are integer (R253). -/
def State.jobInt (s : State) (j : Job) : Bool := (((s.kindOf j false).or (s.kindOf j true))).getD false
/-- Accumulator element `i` of a job's region, and its write. -/
def State.accGet (s : State) (v : Nat) (j : Job) (i : Nat) : Nat := s.num (accAt v (4096 * j.accoff + 4 * i)) 4
def State.accPut (s : State) (v : Nat) (j : Job) (i x : Nat) : State := s.putNum (accAt v (4096 * j.accoff + 4 * i)) 4 x
/-- An accumulator element read by a slot: fault 7 where its bytes are bad (R259). -/
def State.accRead (s : State) (v : Nat) (j : Job) (i : Nat) : Except JobStop Nat :=
  if s.poisoned (accAt v (4096 * j.accoff + 4 * i)) 4 then .error (.fault 7 0) else .ok (s.accGet v j i)
/-- Width in bits of an element of D. -/
def Job.dbits (j : Job) : Nat := typeBits j.dfmt
/-- Starting bits of element `i` (R258): zero, the region's, or D's widened exactly. A signalling NaN that is widened
is an invalid operation (R61). -/
def State.startBits (s : State) (v : Nat) (j : Job) (i : Nat) : Except JobStop (Nat × Flags) :=
  match j.acc with
  | 1 => (s.accRead v j i).map (fun x => (x, 0))
  | 2 => do
    let w := j.dbits
    let x ← s.jobBits v j j.dloc j.dcore (j.daddr + i / j.n * j.drs) (i % j.n * w) w
    .ok (if s.jobInt j then (wrapInt (readInt x j.dfmt) 32, 0) else if j.dfmt = 15 then (x, 0)
      else (((Fp.read (fmtOf j.dfmt) x).toPat (fmtOf 15) 0).1, snan (Fp.read (fmtOf j.dfmt) x)))
  | _ => .ok (0, 0)
/-- The elements of one compute slot's output block, with its range of K. -/
def State.slotBlock (s : State) (v : Nat) (j : Job) (i : Nat) : List (Nat × Nat) × Nat × Nat :=
  let nk := s.depthSlots v j
  let nb := (j.n + 63) / 64
  let blk := i / nk
  let span := s.slotDepth j * (64 / j.kept)
  let k0 := i % nk * span
  ((List.range 64).flatMap (fun r => (List.range 64).filterMap (fun c =>
    let m := blk / nb * 64 + r
    let n := blk % nb * 64 + c
    if m < s.rowsOf v j ∧ n < j.n then some (m, n) else none)), k0, min (k0 + span) (s.depthOf v j))
/-- What slot `i` of the job leaves in its accumulators: element numbers with their bits, the flags, and the starting
bits of the whole region, each with its flags above bit 31, when the slot begins a run. -/
def State.slotResult (s : State) (v : Nat) (j : Job) (i : Nat) : Except JobStop (List (Nat × Nat) × Flags × List Word) := do
  let per := s.runSlots v j
  let first := i % per == 0
  let start ← if first then
      (if i = 0 then (List.range (s.rowsOf v j * j.n)).mapM (fun e => (s.startBits v j e).map (fun q => BitVec.ofNat 64 (q.1 + q.2.toNat * 2 ^ 32)))
       else .ok j.start)
    else .ok []
  let (cells, k0, k1) := s.slotBlock v j (i % per)
  let out ← cells.mapM (fun p => do
    let e := p.1 * j.n + p.2
    let a ← if first then .ok (((start[e]?).getD 0).toNat % 2 ^ 32) else s.accRead v j e
    let (x, g) ← s.sumBlocks v j p.1 p.2 (s.depthOf v j) k1 (s.jobInt j) (k1 + 1) k0 (a, 0)
    .ok ((e, x), g))
  .ok (out.map (·.1), start.foldl (fun f (w : Word) => f ||| (w >>> 32).setWidth 5) (out.foldl (fun f q => f ||| q.2) 0), start)

/-- The slot's result, with the entries that the MXE's walks bring. -/
def State.slotReached (s : State) (v : Nat) (j : Job) (i : Nat) :
    Except JobStop ((List (Nat × Nat) × Flags × List Word) × List TlbEntry) :=
  s.reach v (fun u => u.slotResult v j i)

/-! ### Draining (R258) -/

/-- The drained pattern of an accumulator, with its flags. -/
def State.drainElem (s : State) (j : Job) (i acc : Nat) : Nat × Flags :=
  let sat := j.f 0 55 1 == 1
  if s.jobInt j then
    let x := readInt acc 2
    if j.dfmt = 2 then (acc, 0) else (wrapInt (if sat then saturate x 0 else x) 8, 0)
  else if j.dfmt = 15 then (acc, 0)
  else
    let x := Fp.read (fmtOf 15) acc
    match j.f 0 56 2 with
    | 2 => convertSr (fmtOf j.dfmt) sat ((j.d[13]?).getD 0) i x
    | m => convert (fmtOf j.dfmt) m sat x
/-- The bytes of D by address, and the drain's flags. -/
def State.drainBytes (s : State) (v : Nat) (j : Job) : List (Nat × Byte) × Flags :=
  let w := j.dbits
  let rows := (List.range (s.rowsOf v j)).map (fun m =>
    let l := (List.range j.n).map (fun n => s.drainElem j (m * j.n + n) (s.accGet v j (m * j.n + n)))
    ((leBytes ((j.n * w + 7) / 8) (pack w (l.map (·.1)))).mapIdx (fun i x => (j.daddr + m * j.drs + i, x)),
     l.foldl (fun f q => f ||| q.2) 0))
  (rows.flatMap (·.1), rows.foldl (fun f q => f ||| q.2) 0)

/-! ### Checks at admission (R259) -/

/-- Reserved fields and ranges of Table 12.1. With `NODR` = 1, `RND` is ignored, and D is unused except by load
(R258). -/
def Job.fieldsOk (j : Job) : Bool :=
  decide (j.f 0 62 2 < 2) && j.acc != 3 && (j.nodr || j.f 0 56 2 != 3) && decide (1 ≤ j.cscope) && decide (j.cscope ≤ 4) &&
    j.f 0 32 1 == 0 && j.f 0 0 25 == 0 && j.f 1 24 8 == 0 && j.n != 0 &&
    [false, true].all (fun b => decide (j.loc b ≤ 4) && j.f (opWord b) 48 8 == 0 && j.f (opWord b + 1) 0 18 == 0 &&
      j.iloc b != 3) &&
    ((j.nodr && j.acc != 2) || decide (j.dloc ≤ 2)) && j.f 8 48 13 == 0 && j.f 9 0 23 == 0 && j.f 10 0 21 == 0 && j.f 11 32 16 == 0 &&
    j.spn != 3 && j.f 12 48 13 == 0 && j.f 14 6 58 == 0 && j.f 15 0 64 == 0 &&
    (if j.conv then j.f 1 48 16 == 0 && j.f 1 0 24 == 0 && j.ks != 0
     else j.f 1 48 16 != 0 && j.f 1 0 24 != 0 && j.f 10 0 64 == 0 && j.f 11 0 64 == 0)
/-- The rules of an operand (R251 to R253). -/
def State.operandOk (s : State) (v : Nat) (j : Job) (b : Bool) : Bool :=
  let t := s.elemType j b
  let mine (c : Nat) : Bool := decide (coveOf c = v) && (s.ctx j.ctx).has c
  match j.loc b with
  | 3 => mxeType (j.fmt b) && j.addrOf b == 0
  | 4 =>
    decide (18 ≤ j.fmt b) && decide (j.fmt b ≤ 22) && j.scs b == 0 && (j.iloc b != 0 || mine (j.coreOf b)) &&
      ((s.sideOf j b).isNone || mxeType t) &&
      (j.fmt b != 22 || (j.addrOf b % 2 == 0 && j.rs b % 2 == 0))
  | l => mxeType (j.fmt b) && (l != 0 || mine (j.coreOf b)) &&
    (let n := typeBits (j.fmt b) / 8
     n == 0 || (j.addrOf b % n == 0 && j.rs b % n == 0))
/-- The rules of a CONV, of sparsity, of the drain and of the check (R254, R256, R258, R266). -/
def State.shapeOk (s : State) (v : Nat) (j : Job) : Bool :=
  let i := s.image v j
  let used := !j.nodr || j.acc == 2
  let types := if s.jobInt j then [2, 0] else [15, 14, 13, 12, 11, 8]
  let known : Bool := (s.kindOf j false).isSome || (s.kindOf j true).isSome
  (!((s.kindOf j false).isSome && (s.kindOf j true).isSome) || s.kindOf j false == s.kindOf j true) &&
    (!j.conv || (decide (i.h + 2 * j.pad ≥ j.ks) && decide (i.w + 2 * j.pad ≥ j.ks) && j.scs false == 0 &&
      j.loc false != 4 && (j.loc false == 3 || decide (8 ≤ typeBits (j.fmt false))))) &&
    (j.spn == 0 || (s.depthOf v j % 64 == 0 && decide (j.loc j.spo ≤ 2) && (!j.conv || j.spo))) &&
    (!used || ((types.contains j.dfmt || (!known && (j.dfmt == 0 || j.dfmt == 2 || j.dfmt == 8 || (decide (11 ≤ j.dfmt) && decide (j.dfmt ≤ 15))))) && (let n := j.dbits / 8
      n == 0 || (j.daddr % n == 0 && j.drs % n == 0)))) &&
    (j.dloc != 0 || !used || (decide (coveOf j.dcore = v) && (s.ctx j.ctx).has j.dcore)) &&
    (!s.jobPaired j || (j.acc != 1 && !j.nodr && decide (s.rowsOf v j * ((j.n * j.dbits + 7) / 8) ≤ 65536)))
/-- The DESC check of a job; one that Breakwater submits also needs `TPRIO` within the context's band (R261). -/
def State.descOk (s : State) (v : Nat) (j : Job) : Bool :=
  let x := s.ctx j.ctx
  j.fieldsOk && s.operandOk v j false && s.operandOk v j true && s.shapeOk v j &&
    (j.tile.isNone || (decide (x.pmin ≤ j.prio) && decide (j.prio ≤ x.pmax)))
/-- The chunks of a job's region (R257). -/
def State.chunks (s : State) (v : Nat) (j : Job) : List Nat :=
  (List.range ((s.rowsOf v j * j.n + 1023) / 1024)).map (fun i => j.accoff + i)
/-- Whether a chunk of the region passes the memory or is another context's. -/
def State.regionBad (s : State) (v : Nat) (j : Job) : Bool :=
  decide (j.accoff + (s.rowsOf v j * j.n + 1023) / 1024 > 128) ||
    (s.chunks v j).any (fun c => match (s.cove v).mxe.owners.find c with
      | some x => x != j.ctx
      | none => false)
/-- Fault 8 (R255): a tile operand where none may stand, a LIST tile, or a format that is not the tile's. -/
def State.tileBad (s : State) (v : Nat) (j : Job) : Bool :=
  j.loc true == 3 || (j.loc false == 3 && (!j.conv || match s.tileOf v j with
    | some (_, t) => match t.fmt with
      | 0 => j.fmt false != 4
      | 1 => j.fmt false != 0
      | 2 => j.fmt false != 5
      | _ => true
    | none => true))

/-! ### The end of a job (R257, R260, R267) -/

/-- A job's record is accepted, rejected or not due: its tile, its sides and its place are given up. The last 256 to
finish are kept, in the order in which they finished (R267). -/
def State.jobOver (s : State) (v : Nat) (j : Job) : State :=
  let s := (s.setJob v { j with recorded := true, sides := [] }).leaveAll j.who
  let s := j.sides.foldl (fun s x => s.readerDone x.2.1 x.2.2.1 x.2.2.2) s
  let s := match j.tile with
    | some n => s.modCove v (fun c => { c with bw := c.bw.giveUp n })
    | none => s
  let s := s.modCove v (fun c =>
    let count := (c.mxe.jobs.filter Job.finished).length
    let byEnd := c.mxe.jobs.filter (fun x => x.id != j.id) ++ c.mxe.jobs.filter (fun x => x.id == j.id)
    { c with mxe := { c.mxe with jobs := (byEnd.foldl (fun (a : List Job × Nat) x =>
        if x.finished && decide (a.2 > 256) then (a.1, a.2 - 1) else (a.1 ++ [x], a.2)) ([], count)).1 } })
  s.sendEngineTides v j.ctx
/-- The JOBDONE record (R267). -/
def State.jobRecord (s : State) (v : Nat) (j : Job) : Rec :=
  let st := match j.state with
    | .faulted => 1
    | .cancelled => 2
    | _ => 0
  let pay := j.id.toNat + st * 2 ^ 32 + j.code * 2 ^ 35 + j.flags.toNat * 2 ^ 40 + (if j.checked then 2 ^ 45 else 0)
  let ext := match s.tileOf v j with
    | some (t, _) => [BitVec.ofNat 128 (s.tileNum v t 0 16), 0, 0]
    | none => []
  ⟨mkRec j.stamp (s.srcId 2 (4 * v)) 4 ((if j.late then 1 else 0) + (if ext.isEmpty then 0 else 4)) pay, ext⟩
/-- The job takes its final state; its region ends as R257 gives, and its record goes out unless it has none. A job that
ends while it is still queued has claimed no region: the memory of the region and its owner stay (DESIGN CHOICE, log 93). -/
def State.endJob (s : State) (v : Nat) (j : Job) (st : JobState) (code addr : Nat) (rec : Bool) : State :=
  let held := decide (j.state ≠ .queued)
  let j := { j with state := st, code := code, addr := addr, reads := [] }
  let s := (s.setJob v j).leaveAll j.who
  let keep := j.nodr && decide (st = .done)
  let s := if held && !keep then
      { s with mem := Mem.clear s.mem (accAt v (4096 * j.accoff)) (4096 * (s.chunks v j).length) } else s
  let s := if held && !j.nodr then
      s.modCove v (fun c => { c with mxe := { c.mxe with owners := c.mxe.owners.filter (fun o => !(s.chunks v j).contains o.1) } })
    else s
  if j.norec || !rec then s.jobOver v j
  else
    let t := Target.queue j.ccore j.cq
    (s.setJob v { j with sent := true }).post (Agent.mxe v) (Agent.queue j.ccore j.cq)
      (.record (s.jobRecord v j) j.ctx t (.mxe v j.id.toNat) false)
/-- A fault: a paired-check mismatch is told to Headland (R266), and so is an ECC error (R389). -/
def State.faultJob (s : State) (v : Nat) (j : Job) (code addr : Nat) : State :=
  let s := s.endJob v j .faulted code addr true
  if code = 9 then s.report 1 j.core j.ctx else if code = 7 then s.report 3 j.core j.ctx else s

/-! ### Submission (R261) -/

/-- `submit` of R261: the identifier, or 0. A codebook operand whose bank's core stands outside the cove samples no side,
and meets an empty bank (R278). -/
def State.submit (s : State) (v : Nat) (j : Job) : Word × State :=
  let m := (s.cove v).mxe
  if (m.jobs.filter (fun j => !j.finished)).length ≥ 32 ∨ (s.ctx j.ctx).stopped then (0, s)
  else
    let id := v * 2 ^ 26 + m.seq
    let books := [false, true].filter (fun b => j.loc b == 4)
    let ops := books.filter (fun b => decide (coveOf (j.coreOf b) = v))
    let j := { j with id := BitVec.ofNat 32 id, sampling := ops.length, noSide := decide (ops.length < books.length) }
    let s := s.modCove v (fun c => { c with mxe := { c.mxe with
      jobs := c.mxe.jobs ++ [j], seq := if c.mxe.seq + 1 ≥ 2 ^ 26 then 1 else c.mxe.seq + 1 } })
    let s := ops.foldl (fun s b => s.post (Agent.mxe v) (Agent.owner (j.coreOf b))
      (.sample v id (if b then 1 else 0) (j.coreOf b) (j.bankOf b))) s
    (BitVec.ofNat 64 id, s.sendEngineTides v j.ctx)
/-! ### Instructions (R269 to R271) -/

/-- The descriptor of `n` bytes at a local address, after a release at `.cove` and a pair's comparison (R269, R353). -/
def descriptor (ga : Word) (n : Nat) : M (List Word × Bool) := do
  if ga.toNat % n ≠ 0 then misaligned n ga
  else
    let a ← localAddr ga ga.toNat n false
    release 1
    let s ← get
    if s.poisoned a n then stopTrap (eccTrap ga)
    else
      let d := (List.range (n / 8)).map (fun i => BitVec.ofNat 64 (s.num (a + 8 * i) 8))
      let go ← outbound ga d
      pure (d, go)
/-- Whether a task's time lies before its core's T_out (R214). -/
def State.lateNow (s : State) : Bool := tsBefore s.me.tsinh (s.toutOf s.myCore s.me.ctx.toNat)

/-- `MXQ`. Whether the job is LATE (R214) is seen as the instruction issues, with its core's T_out (DESIGN CHOICE, log 93). -/
def execMxq (a d : BitVec 5) (s : State) : Host.Outcome State Fault Refusal :=
  runM (do
    let ga ← getG a
    let (w, go) ← descriptor ga 128
    let s ← get
    if go then set (s.post (Agent.slot s.myCore s.mySlot) (Agent.mxe (coveOf s.myCore))
      (.mxq w s.me.ctx.toNat s.me.tsinh s.lateNow s.me.prio.toNat s.me.taskid s.myCore s.mySlot))
    replyLater d s.msgSeq) s
/-- A job identifier operand: bits [63:32] must be 0. -/
def jobArg (a : BitVec 5) : M (BitVec 32) := fun s =>
  if (s.rg a).toNat ≥ 2 ^ 32 then .error (.trap (illegalTrap s)) else .ok ((s.rg a).setWidth 32, s)
/-- A job that answers to the issuing task: of its context, in its cove (R268). -/
def State.myJob (s : State) (id : BitVec 32) : Option Job :=
  (s.cove (coveOf s.myCore)).mxe.jobs.find? (fun j => j.id == id && j.ctx == s.me.ctx.toNat)
def JobState.code : JobState → Nat
  | .queued => 0
  | .admitted => 1
  | .running => 2
  | .draining => 3
  | .done => 4
  | .faulted => 5
  | .cancelled => 6
/-- The status of R270. -/
def jobStatus (j : Option Job) : Word :=
  match j with
  | none => 7
  | some j => BitVec.ofNat 64 (j.state.code + j.code * 2 ^ 3 + j.flags.toNat * 2 ^ 8 + (if j.checked then 2 ^ 13 else 0))
/-- `MXPOLL`. -/
def execMxpoll (a d : BitVec 5) (s : State) : Host.Outcome State Fault Refusal :=
  runM (do
    let id ← jobArg a
    let r ← obtained (fun s => .ok ([jobStatus (s.myJob id)], s))
    retG d (r.headD 0)) s
/-- `MXWAIT`. -/
def execMxwait (a d : BitVec 5) (s : State) : Host.Outcome State Fault Refusal :=
  runM (do
    let id ← jobArg a
    let s ← get
    if s.mySlot = 4 then illegal
    else
      let r ← obtained (fun s => match s.myJob id with
        | some j =>
          if j.state.final then .ok ([jobStatus (some j), BitVec.ofNat 64 j.cscope, BitVec.ofNat 64 j.addr], s)
          else .error (.wait .job s)
        | none => .ok ([7, 0, 0], s))
      let st := r.headD 0
      if st.toNat % 8 = 5 then stopTrap ⟨Cause.jobFault, st, ((r[2]?).getD 0).setWidth 48⟩
      else
        if st.toNat % 8 = 4 then acquire ((r[1]?).getD 0).toNat else pure ()
        retG d st) s
/-- `MXCAN`. -/
def execMxcan (a d : BitVec 5) (s : State) : Host.Outcome State Fault Refusal :=
  runM (do
    let id ← jobArg a
    let go ← outbound 0 [id.setWidth 64]
    let s ← get
    if go then set (s.post (Agent.slot s.myCore s.mySlot) (Agent.mxe (coveOf s.myCore))
      (.mxcan id s.me.ctx.toNat s.myCore s.mySlot s.me.taskid))
    replyLater d s.msgSeq) s

/-! ### Events of the matrix engine -/

/-- `MXE_ACCEPT`: a submission reaches the MXE (R261). -/
def execMxeAccept (msg : Nat) (s : State) : Host.Outcome State Fault Refusal :=
  match s.take msg with
  | some (m, s') => match m.body with
    | .mxq d ctx stamp late prio task core slot =>
      let v := coveOf core
      let (id, s') := s'.submit v { id := 0, d := d, ctx := ctx, stamp := stamp, late := late, prio := prio, task := task, core := core }
      .next ((s'.giveReply core slot task msg id).getD s)
    | _ => .next s
  | none => .next s

/-- `JOB_BANK_SAMPLE`: a job's sample at the bank's core (R276). -/
def execJobBankSample (msg : Nat) (s : State) : Host.Outcome State Fault Refusal :=
  match s.take msg with
  | some (m, s') => match m.body with
    | .sample v id op core bank => match (s'.cove v).mxe.job id with
      | some j =>
        if j.state = .cancelled then .next (s'.setJob v { j with sampling := j.sampling - 1 })
        else
          let (s', r) := s'.sampleFor core bank j.ctx
          .next (s'.setJob v (match r with
            | some sd => { j with sampling := j.sampling - 1, sides := j.sides ++ [(op, core, bank, sd)] }
            | none => { j with sampling := j.sampling - 1, noSide := true }))
      | none => .next s'
    | _ => .next s
  | none => .next s

/-- Whether an earlier unfinished job of its context overlaps a job's region (R262). -/
def State.overlapped (s : State) (v : Nat) (j : Job) : Bool :=
  ((s.cove v).mxe.jobs.takeWhile (fun o => o.id != j.id)).any (fun o =>
    !o.finished && o.ctx == j.ctx && (s.chunks v o).any (fun c => (s.chunks v j).contains c))
/-- `MXE_ADMIT`: admission in acceptance order, past jobs that wait for an overlap (R262). -/
def execMxeAdmit (cove job : Nat) (s : State) : Host.Outcome State Fault Refusal :=
  let m := (s.cove cove).mxe
  match m.job job with
  | none => .next s
  | some j =>
    let earlier := m.jobs.takeWhile (fun o => o.id != j.id)
    if j.state ≠ .queued ∨ j.sampling ≠ 0 ∨
        earlier.any (fun o => o.state == .queued && !s.overlapped cove o) ∨ s.overlapped cove j then .next s
    else if !s.descOk cove j then .next (s.faultJob cove j 1 0)
    else if s.regionBad cove j then .next (s.faultJob cove j 6 0)
    else
      let s := s.modCove cove (fun c => { c with mxe := { c.mxe with
        owners := (s.chunks cove j).foldl (fun o k => o.set k j.ctx) c.mxe.owners } })
      .next (s.setJob cove { j with state := .admitted })

/-- The pages that a job's operands wait in line for and that are there are read, and wait no longer: a slot may need more
pages than its cores have frames (R251). -/
def State.keepPages (s : State) (j : Job) : State × Job :=
  let here := s.cores.flatMap (fun k => (k.2.waits.filter (fun w => w.2.2 == j.who && k.2.mayEnter w.1 w.2.1 j.who)).filterMap (fun w =>
    match s.local? k.1 w.1 (2 ^ 14 * w.2.1) with
    | .here _ x => some (k.1, w.2.1, x)
    | _ => none))
  (here.foldl (fun s p => (s.touchPage p.1 j.ctx p.2.1 false).modCore p.1 (fun k => k.entered j.ctx p.2.1 j.who)) s,
   { j with reads := j.reads ++ here.map (fun p => (p.1, p.2.1, (List.range (2 ^ 14)).map (fun i =>
      if s.poisoned (p.2.2 + i) 1 then none else some (s.byte (p.2.2 + i))))) })
/-- `MXE_OPERAND_ARRIVE`: the operands of a job's next slot, or of the one after it, are there (R264). A local page
that is not resident is requested, what is there is read meanwhile, and the operands come later. -/
def execMxeOperandArrive (cove job : Nat) (s : State) : Host.Outcome State Fault Refusal :=
  match (s.cove cove).mxe.job job with
  | none => .next s
  | some j =>
    if (j.state ≠ .admitted ∧ j.state ≠ .running) ∨ j.arrived ≥ min (s.totalSlots cove j) (j.slots + 2) then .next s
    else
      let got (s : State) : State := (s.leaveAll j.who).setJob cove { j with arrived := j.arrived + 1 }
      match s.slotReached cove j j.arrived with
      | .error (.absent c p) => .next (let r := s.keepPages j
          (r.1.setJob cove r.2).waitPage c j.ctx p j.who)
      | .error .held => .next s
      | .ok (_, new) => .next (s.withWalks cove new got)
      | .error _ => .next (got s)

/-- The local pages that a slot of a job reads: those without which it would stop at an absent page. -/
def State.slotPages (s : State) (v : Nat) (j : Job) (i : Nat) : List (Nat × Nat) :=
  ((List.range 8).map (coreAt v)).flatMap (fun c => ((s.core c).frames.filter (fun f => f.2.ctx == j.ctx)).filterMap (fun f =>
    match (s.modCore c (fun k => { k with frames := k.frames.del f.1 })).slotReached v j i with
    | .error (.absent d p) => if d = c ∧ p = f.2.page then some (c, p) else none
    | _ => none))
/-- What the next slot of a job waits for that its prefetch had brought: a page that has left since; or `some none`, a
crossing or a translation. -/
def State.unready (s : State) (v : Nat) (j : Job) : Option (Option (Nat × Nat)) :=
  if (j.state = .admitted ∨ j.state = .running) ∧ j.slots < j.arrived then
    match s.slotReached v j j.slots with
    | .error (.absent c p) => some (some (c, p))
    | .error .held => some none
    | .ok (_, new) => if (s.fillWalks v new new).2 then none else some none
    | _ => none
  else none
/-- A job whose prefetched slot cannot run now has its operands come again, so that waiting costs no slot (R251, R264).
Every job is judged before any page is asked for, which might take another's; the pages are `leftPages`. -/
def State.settleArrivals (s : State) (v : Nat) : State :=
  ((s.cove v).mxe.jobs.filter (fun j => (s.unready v j).isSome)).foldl (fun s j => s.setJob v { j with arrived := j.slots }) s
def State.leftPages (s : State) (v : Nat) : List (Job × Nat × Nat) :=
  (s.cove v).mxe.jobs.filterMap (fun j => match s.unready v j with
    | some (some p) => some (j, p)
    | _ => none)
def State.askLeft (s : State) (l : List (Job × Nat × Nat)) : State :=
  l.foldl (fun s p => s.waitPage p.2.1 p.1.ctx p.2.2 p.1.who) s
/-- Whether a context's state grants slots to a job (Table 8.3). -/
def State.granted (s : State) (j : Job) : Bool :=
  match (s.ctx j.ctx).state with
  | .ready => true
  | .quotaHeld => decide (40 ≤ j.prio)
  | .faulted => true
  | .draining => true
  | _ => false
/-- The jobs R of `grant` (R264). -/
def State.readyJobs (s : State) (v : Nat) : List Job :=
  (s.cove v).mxe.jobs.filter (fun j => (j.state == .admitted || j.state == .running) && !j.cancel &&
    decide (j.slots < j.arrived) && s.granted j)
/-- The job of highest priority, the earliest accepted among equals. -/
def bestJob : List Job → Option Job
  | [] => none
  | j :: l => match bestJob l with
    | some b => if j.prio ≥ b.prio then some j else some b
    | none => some j
/-- The context of least `used × 256 / WEIGHT`, ties to the lower. -/
def State.leastUsed (s : State) (v : Nat) (r : List Job) : Option Nat :=
  ((List.range 16).filter (fun c => r.any (fun j => j.ctx == c))).foldl (fun a c => match a with
    | none => some c
    | some b => if (s.cove v).mxe.used.getD c 0 * 256 * (s.ctx b).weight < (s.cove v).mxe.used.getD b 0 * 256 * (s.ctx c).weight
        then some c else a) none
/-- `grant` of R264 for the slot of number `n`. -/
def State.grant (s : State) (v n : Nat) : Option Job :=
  let r := s.readyJobs v
  let j := if n % 8 = 0 then r.filter (fun j => decide (40 ≤ j.prio) && decide (j.prio ≤ 47))
    else match (((s.cove v).mxe.table[n % 64]?).getD none) with
      | some c => r.filter (fun j => j.ctx == c)
      | none => []
  if j.isEmpty then (s.leastUsed v r).bind (fun c => bestJob (r.filter (fun j => j.ctx == c))) else bestJob j
/-- The frame's table as firmware fills it (R263). -/
def State.fillTable (s : State) (v : Nat) : State :=
  let cs := (List.range 16).filter (fun c => (s.ctx c).state != .free && (s.ctx c).state != .released &&
    (List.range 8).any (fun q => (s.ctx c).has (coreAt v q)))
  let total : Int := ((cs.map (fun c => (s.ctx c).weight)).sum : Nat)
  let step (acc : List (Option Nat) × FMap Int) (n : Nat) : List (Option Nat) × FMap Int :=
    if n % 8 = 0 then (acc.1 ++ [none], acc.2)
    else
      let cur := cs.foldl (fun f c => f.set c (f.getD c 0 + (s.ctx c).weight)) acc.2
      match cs.foldl (fun (a : Option Nat) c => match a with
        | none => some c
        | some b => if cur.getD c 0 > cur.getD b 0 then some c else a) none with
      | some c => (acc.1 ++ [some c], cur.set c (cur.getD c 0 - total))
      | none => (acc.1 ++ [none], cur)
  s.modCove v (fun k => { k with mxe := { k.mxe with table := ((List.range 64).foldl step ([], [])).1 } })
/-- Clock of a step, in units of 200 MHz (R13). -/
def stepClock (st : BitVec 2) : Nat := 6 - st.toNat
/-- Boundaries that the idle-start stagger idles (R265). -/
def State.staggerSlots (s : State) (v ctx : Nat) : Nat :=
  let d := (s.ctx ctx).step * ((v % 8 + v / 8 % 4) % 8)
  (d * stepClock ((s.dies[v / 32]?).getD {}).step + 6 * 32 - 1) / (6 * 32)
/-- One slot of a job runs: the accumulators and flags change, a run of a checked job ends in its check buffer, and
the last slot leaves the job draining; or the job faults. Of several causes in one slot the first is that of the operand byte
first reached, rows before columns and K innermost, and in a job 1 before 6, 8, 4 and the rest (DESIGN CHOICE, log 93). -/
def State.runSlot (s : State) (v : Nat) (j : Job) : State :=
  if s.tileBad v j then s.faultJob v j 8 0
  else if j.noSide then s.faultJob v j 4 0
  else match s.slotReached v j j.slots with
    | .error (.fault c a) => s.faultJob v j c a
    | .error _ => s.setJob v { j with arrived := j.slots }
    | .ok ((cells, g, start), new) => s.withWalks v new fun s =>
      let per := s.runSlots v j
      let s := (s.slotPages v j j.slots).foldl (fun s p => s.touchPage p.1 j.ctx p.2 false) s
      let s := (start.zipIdx).foldl (fun s e => s.accPut v j e.2 (e.1.toNat % 2 ^ 32)) s
      let s := cells.foldl (fun s e => s.accPut v j e.1 e.2) s
      let j := { j with state := .running, slots := j.slots + 1, flags := j.flags ||| g, reads := []
                        start := if j.slots = 0 then start else j.start }
      let j := if j.slots = s.totalSlots v j then { j with state := .draining }
        else if j.slots = per then
          let (b, g2) := s.drainBytes v j
          { j with drain := (j.flags ||| g2).setWidth 8 :: b.map (·.2), flags := 0 }
        else j
      s.setJob v j

/-- `MXE_SLOT_BOUNDARY` (R263 to R265): cancels take effect, and the slot is granted or idles. -/
def execMxeSlotBoundary (cove : Nat) (s : State) : Host.Outcome State Fault Refusal :=
  let m := (s.cove cove).mxe
  let n := m.slot
  let s := (m.jobs.filter (fun j => j.cancel && j.state == .running)).foldl (fun s j => s.endJob cove j .cancelled 0 0 true) s
  let s := s.modCove cove (fun c => { c with mxe := { c.mxe with
    slot := (n + 1) % 64, used := if n % 64 = 0 then [] else c.mxe.used } })
  let idle (s : State) : State := s.modCove cove (fun c => { c with mxe := { c.mxe with idle := c.mxe.idle + 1 } })
  let run (s : State) (j : Job) : State :=
    ((s.modCove cove (fun c => { c with mxe := { c.mxe with
      idle := 0, used := c.mxe.used.set j.ctx (c.mxe.used.getD j.ctx 0 + 1) } })).meter j.ctx (Config.mxeEnergy s.free)).runSlot cove j
  if m.hold > 1 then .next (idle (s.modCove cove (fun c => { c with mxe := { c.mxe with hold := m.hold - 1 } })))
  else
    let s := s.modCove cove (fun c => { c with mxe := { c.mxe with hold := 0 } })
    let left := s.leftPages cove
    let s := s.settleArrivals cove
    match s.grant cove n with
    | none => .next (idle (s.askLeft left))
    | some j =>
      let k := s.staggerSlots cove j.ctx
      if m.hold = 0 ∧ m.idle ≥ n % 64 + 64 ∧ k > 0 then
        .next (idle ((s.modCove cove (fun c => { c with mxe := { c.mxe with hold := k } })).askLeft left))
      else .next ((run s j).askLeft left)

/-- The stored addresses of the leading bytes of a list that are there for a job's drain, and what the next one meets. -/
def State.drainPlaces (s : State) (v : Nat) (j : Job) : List (Nat × Byte) → List Nat × Option JobStop
  | [] => ([], none)
  | p :: l => match s.jobByte j.who v j.ctx j.dloc j.dcore p.1 .engineWrite with
    | .ok x =>
      let r := s.drainPlaces v j l
      (x :: r.1, r.2)
    | .error e => ([], some e)
/-- Bytes of D written, with the frames that they mark. -/
def State.drainWrite (s : State) (v : Nat) (j : Job) (l : List ((Nat × Byte) × Nat)) : State :=
  l.foldl (fun s p => (s.setByte p.2 p.1.2).dirtied v j.ctx j.dloc j.dcore p.1.1) s
/-- A drain whose bytes `l` are still to be written meets an absent page, and may need more pages than its cores have
frames: every page is brought once before the first write, so that a fault comes before it (Table 12.4); then what is
there is written, and the drain waits for the page (R251, log 95). -/
def State.drainPart (s : State) (v : Nat) (j k : Job) (l : List (Nat × Byte)) : State :=
  let probing := decide (j.probed < j.written + l.length)
  let todo := if probing then l.drop (j.probed - j.written) else l
  let (places, stop) := s.drainPlaces v j todo
  let t := if places.isEmpty then s
    else ((if probing then s else s.drainWrite v j (todo.zip places)).leaveAll j.who).setJob v
      (if probing then { j with probed := j.probed + places.length } else { j with written := j.written + places.length })
  match stop with
  | some (.absent c p) => t.waitPage c j.ctx p j.who
  | some (.fault c a) => s.faultJob v k c a
  | _ => t
/-- `MXE_DRAIN_END`: every page of D is checked, the second drain is compared with the first, and the writes are
performed; a page that is not resident is requested first (R258, R259, R266). -/
def execMxeDrainEnd (cove job : Nat) (s : State) : Host.Outcome State Fault Refusal :=
  match (s.cove cove).mxe.job job with
  | none => .next s
  | some j =>
    if j.state ≠ .draining ∨ j.sent then .next s
    else if j.nodr then .next (s.setJob cove { j with sent := true })
    else if s.poisoned (accAt cove (4096 * j.accoff)) (4 * (s.rowsOf cove j * j.n)) then .next (s.faultJob cove j 7 0)
    else
      let (b, g) := s.drainBytes cove j
      let k := { j with flags := j.flags ||| g, checked := s.jobPaired j }
      let rest := b.drop j.written
      match s.reach cove (fun u => rest.mapM (fun p => u.jobByte j.who cove j.ctx j.dloc j.dcore p.1 .engineWrite)) with
      | .error (.absent ..) => .next (if k.checked && k.drain != k.flags.setWidth 8 :: b.map (·.2) then s.faultJob cove k 9 0
          else s.drainPart cove j k rest)
      | .error (.fault c a) => .next (s.faultJob cove k c a)
      | .error _ => .next s
      | .ok (places, new) => .next <| s.withWalks cove new fun s =>
        let s := (s.leaveAll j.who).meter j.ctx (Config.mxeEnergy s.free)
        if k.checked && k.drain != k.flags.setWidth 8 :: b.map (·.2) then s.faultJob cove k 9 0
        else
          let s := s.drainWrite cove j (rest.zip places)
          s.setJob cove { k with sent := true, lines := if j.dloc = 2 then (places.map (· / 256)).dedup else [] }

/-- `MXE_JOB_DONE`: the writes are performed at `CSCOPE`; the job is done and sends its record (R267). -/
def execMxeJobDone (cove job : Nat) (s : State) : Host.Outcome State Fault Refusal :=
  match (s.cove cove).mxe.job job with
  | none => .next s
  | some j => 
    if j.state = .draining ∧ j.sent then
      .next ((s.tagLines j.lines j.cscope j.core j.ctx).endJob cove { j with sent := false } .done 0 0 true)
    else .next s

/-- Whether a submission of the core is still before message `id` in the net. -/
def State.submitAhead (s : State) (id core : Nat) : Bool :=
  (s.net.takeWhile (fun x => x.id != id)).any (fun x => match x.body with
    | .mxq _ _ _ _ _ _ c _ => c == core
    | _ => false)
/-- `MXE_CANCEL`: an `MXCAN` reaches the MXE after the core's earlier `MXQ` (R271). -/
def execMxeCancel (msg : Nat) (s : State) : Host.Outcome State Fault Refusal :=
  match s.take msg with
  | some (m, s') => match m.body with
    | .mxcan id ctx core slot task =>
      let v := coveOf core
      if s.submitAhead msg core then .next s
      else
        let answer (s' : State) (x : Word) : Host.Outcome State Fault Refusal := .next ((s'.giveReply core slot task msg x).getD s)
        match (s'.cove v).mxe.jobs.find? (fun j => j.id == id && j.ctx == ctx) with
        | none => answer s' 3
        | some j =>
          match j.state with
          | .draining => answer s' 2
          | .running => answer (s'.setJob v { j with cancel := true }) 0
          | .queued => answer (s'.endJob v j .cancelled 0 0 true) 0
          | .admitted => answer (s'.endJob v j .cancelled 0 0 true) 0
          | _ => answer s' 1
    | _ => .next s
  | none => .next s

/-- The context enters draining: its queued jobs are cancelled with no record (Table 12.4). -/
def State.drainMxe (s : State) (v x : Nat) : State :=
  ((s.cove v).mxe.jobs.filter (fun j => j.ctx == x && j.state == .queued)).foldl (fun s j => s.endJob v j .cancelled 0 0 false) s

end Sys2Proof.Machine
end

