-- ==== Sys2Proof/Machine/TaskOps.lean ====
section
/-! DEFINITION. Creating, moving and joining tasks (09_kernel_task.md R190 to R197). -/

namespace Sys2Proof.Machine

/-! ### Run-time checks (R191, R196) -/

/-- A core named in bits [56:48] of an address that is given to the context; bits [63:57] must be 0 (R191). Bits
[47:0] are not looked at (DEDUCED, log 97). -/
def targetCore (a : Word) (x : Nat) : M Nat := fun s =>
  let c := bits a.toNat 48 9
  if a.toNat ≥ 2 ^ 57 ∨ !(s.ctx x).has c then .error (.trap ⟨Cause.localBounds, 2, a.setWidth 48⟩) else .ok (c, s)
/-- The handler index must be below `NH`. -/
def handlerArg (x h : Nat) : M Unit := fun s =>
  if h ≥ (s.ctx x).handlers.length then .error (.trap (illegalTrap s)) else .ok ((), s)
/-- The priority must lie in the context's range. -/
def prioArg (x p : Nat) : M Unit := fun s =>
  if p < (s.ctx x).pmin ∨ (s.ctx x).pmax < p then .error (.trap (illegalTrap s)) else .ok ((), s)
/-- Whether two cores run one task of the issuing context: the same core, or a pair (R314). -/
def State.sameCore (s : State) (a b : Nat) : Bool := a == b || (s.paired && primaryOf a == primaryOf b)
/-- The checks of R196 on a join counter; `own` where its core must be the issuing core. -/
def counterArg (a : Word) (own : Bool) : M (Nat × Nat) := do
  if a.toNat % 8 ≠ 0 then misaligned 8 a
  else
    let (c, la) ← ownerCheck a 8
    let s ← get
    if own && !s.sameCore c s.myCore then bounds 2 a else pure (c, la)
/-- The stored address of a counter; a page that is not resident, and the slot's own posted decrements, are waited for
(R136). -/
def counterAt (c la : Nat) : M Nat := do
  afterAtomics false la 8
  fun s => match s.local? c s.me.ctx.toNat la with
  | .here f a =>
    let x := s.me.ctx.toNat
    if (s.core c).mayEnter x (la / 2 ^ 14) s.mySlot then
      .ok (a, s.modCore c (fun k => (k.touch f true).entered x (la / 2 ^ 14) s.mySlot))
    else .error (.wait .page (s.modCore c (fun k => k.await x (la / 2 ^ 14) s.mySlot)))
  | .absent p => .error (.wait .page (s.modCore c (fun k => (k.request s.me.ctx.toNat p).await s.me.ctx.toNat p s.mySlot)))
  | _ => .error (.trap ⟨Cause.eccUncorrectable, 0, BitVec.ofNat 48 la⟩)
/-- A counter moves by an integer. -/
def State.addCounter (s : State) (a : Nat) (x : Word) : State := s.putNum a 8 ((s.num a 8 + x.toNat) % 2 ^ 64)

/-! ### Spawning (R192) -/

/-- The entry that a spawn creates. -/
def State.spawnStart (s : State) (h p : Nat) (j : Word) (id : BitVec 32) : Start :=
  let t := s.me
  { handler := h, ctx := t.ctx.toNat, prio := p, limit := (s.myCtx.handler h).budget, id := id,
    args := #v[t.rg 1, t.rg 2, t.rg 3, t.rg 4], g5 := t.taskid.setWidth 64, tsinh := t.tsinh, join := j }
/-- What every spawn and active message carries of its sender: g1 to g4 and `TSINH` (R192, R193). -/
def State.sent (s : State) : List Word := [s.rg 1, s.rg 2, s.rg 3, s.rg 4, s.me.tsinh.setWidth 64]
/-- Pushes an entry onto a core's deque, if it has room. -/
def State.pushDeque (s : State) (c : Nat) (st : Start) : State × Bool :=
  let h := s.homeOf c st.ctx
  if (s.core h).dequeLen ≥ (s.core h).dequeRoom then (s, false) else (s.offerItem h .deque st, true)
/-- A spawn onto the issuing core's deque: the counter first, and back when the deque is full. -/
def spawnHere (h p : Nat) (j : Word) (d : BitVec 5) : M Unit := do
  let ca ← (if j = 0 then pure none else do
    let (c, la) ← counterArg j true
    let a ← counterAt c la
    pure (some a))
  let s ← get
  let _ ← outbound 0 (BitVec.ofNat 64 h :: BitVec.ofNat 64 p :: j :: s.sent)
  let r ← obtained (do
    let s ← get
    let (id, s) := s.nextTaskId s.myCore
    let up := match ca with
      | some a => s.addCounter a 1
      | none => s
    let (s', ok) := up.pushDeque s.myCore (s.spawnStart h p j id)
    set (if ok then s' else s)
    pure [if ok then id.setWidth 64 else 0])
  retG d ((r.head?).getD 0)
/-- The priority that `PR` gives a spawn. -/
def State.spawnPrio (s : State) (p : BitVec 6) : Nat := if p = 63 then s.me.prio.toNat else p.toNat

/-- `SPAWN`. -/
def execSpawn (p : BitVec 6) (b a d : BitVec 5) (s : State) : Host.Outcome State Fault Refusal :=
  runM (do
    let x ← getG a
    let j ← getG b
    let s ← get
    handlerArg s.me.ctx.toNat (x.toNat % 2 ^ 16)
    prioArg s.me.ctx.toNat (s.spawnPrio p)
    spawnHere (x.toNat % 2 ^ 16) (s.spawnPrio p) j d) s

/-- `SPAWNR`: to another core, whose reply is awaited, and lowers the counter again where the spawn was refused;
illegal in the service slot (R181). -/
def execSpawnr (p : BitVec 6) (b a d : BitVec 5) (s : State) : Host.Outcome State Fault Refusal :=
  runM (do
    let x ← getG a
    let j ← getG b
    let s ← get
    let h := x.toNat % 2 ^ 16
    if s.mySlot = 4 then illegal
    else
      handlerArg s.me.ctx.toNat h
      prioArg s.me.ctx.toNat (s.spawnPrio p)
      let c ← targetCore x s.me.ctx.toNat
      if s.sameCore c s.myCore then spawnHere h (s.spawnPrio p) j d
      else
        let ca ← (if j = 0 then pure none else do
          let (c, la) ← counterArg j true
          let a ← counterAt c la
          pure (some a))
        let go ← outbound x (BitVec.ofNat 64 (s.spawnPrio p) :: j :: s.sent)
        let v ← askFor .reply (fun s =>
          if go then
            let (id, s) := s.nextTaskId s.myCore
            let s := match ca with
              | some a => s.addCounter a 1
              | none => s
            s.post (Agent.slot s.myCore s.mySlot) (Agent.owner c)
              (.spawnr (s.spawnStart h (s.spawnPrio p) j id) s.myCore s.mySlot s.me.taskid)
          else s)
        retG d v) s

/-- `AMSG` (R193): posted when d = g0, else its result is awaited. -/
def execAmsg (b a d : BitVec 5) (s : State) : Host.Outcome State Fault Refusal :=
  runM (do
    let x ← getG a
    let y ← getG b
    let s ← get
    let h := y.toNat % 2 ^ 16
    if s.mySlot = 4 ∧ d ≠ 0 then illegal
    else
      handlerArg s.me.ctx.toNat h
      let c ← targetCore x s.me.ctx.toNat
      let go ← outbound x (y :: s.me.prio.setWidth 64 :: s.sent)
      let send (s : State) : State :=
        if go then
          let t := s.me
          s.post (Agent.slot s.myCore s.mySlot) (Agent.owner c)
            (.amsg { handler := h, ctx := t.ctx.toNat, prio := t.prio.toNat, limit := 256, id := 0,
                     args := #v[t.rg 1, t.rg 2, t.rg 3, t.rg 4], g5 := BitVec.ofNat 64 (x.toNat % 2 ^ 48), tsinh := t.tsinh }
              s.myCore s.mySlot t.taskid (d != 0))
        else s
      if d = 0 then
        postRoom
        modify send
        done
      else
        let v ← askFor .reply send
        retG d v) s

/-! ### Migration (R194) -/

/-- Whether a job that the task submitted with `MXQ` or `EBQ` is unfinished. -/
def State.hasJob (s : State) (task : BitVec 32) : Bool :=
  let open_ (j : JobState) : Bool := j != .done && j != .faulted && j != .cancelled
  s.coves.any (fun p => p.2.mxe.jobs.any (fun j => j.task == task && open_ j.state) ||
    p.2.ebb.jobs.any (fun j => j.fetch.isNone && j.task == task && open_ j.state))
/-- The mask of R194. -/
def State.unfit (s : State) : Nat :=
  let t := s.me
  (if t.gang then 1 else 0) + (if s.mySlot = 4 then 2 else 0) + (if t.mbFull != 0 then 4 else 0) +
    (if s.hasJob t.taskid then 8 else 0)
/-- What leaves with the task, its registers as the bundle's tail leaves them. -/
def State.carried (s : State) (scope : Nat) (d : BitVec 5) : Carried :=
  let t := s.cur.tail.getD s.me
  { g := t.g, m := t.m, ev := s.me.ev, pc := s.nextPc, fctl := BitVec.ofNat 4 (s.me.rm.toNat + s.me.avt.toNat * 4)
    fflags := t.fflags ||| s.me.fflags
    gctl := BitVec.ofNat 4 (s.me.tie.toNat + (if s.me.nfq then 4 else 0) + (if t.nfs then 8 else 0))
    gstat := t.gstat, unord := s.me.unord, emitto := s.me.emitto, hintdrop := s.me.hintdrop, barto := s.me.barto
    left := s.me.left.toNat, limit := s.me.limit.toNat, origin := s.me.origin, gd := d, scope := scope }

/-- The state that leaves as the comparator sees it (R78, R315); the two cores' `LEFT` need not agree. -/
def Carried.words (k : Carried) : List Word :=
  k.g.toList ++ k.m.toList ++ k.ev.toList.flatMap (fun e => [e.setWidth 64, BitVec.ofNat 64 (e.toNat / 2 ^ 64)]) ++
    [k.pc, k.gstat, k.fctl.setWidth 64, k.fflags.setWidth 64, k.gctl.setWidth 64, k.unord.toNat, k.emitto.setWidth 64,
      k.hintdrop.setWidth 64, k.barto.setWidth 64, k.limit]
/-- `MIGRATE`. To the issuing core it only writes 0 to gd, from the service slot too (R194; DEDUCED, log 97). -/
def execMigrate (a d : BitVec 5) (s : State) : Host.Outcome State Fault Refusal :=
  runM (do
    let x ← getG a
    let s ← get
    let c ← targetCore x s.me.ctx.toNat
    if s.sameCore c s.myCore then retG d 0
    else if s.unfit ≠ 0 then stopTrap ⟨Cause.migrateState, BitVec.ofNat 64 s.unfit, x.setWidth 48⟩
    else if !s.me.loads.isEmpty then waitFor .load
    else
      let sc := scopeOf s.myCore c
      let go ← outbound x ((s.carried sc d).words ++ [s.me.tsinh.setWidth 64, s.me.join, s.me.taskid.setWidth 64])
      release sc
      modify (fun s : State =>
        let t := s.me
        let st : Start := { handler := t.handler, ctx := t.ctx.toNat, prio := t.prio.toNat, limit := t.limit.toNat,
                            id := t.taskid, tsinh := t.tsinh, join := t.join }
        let k := s.carried sc d
        let s := if go then s.post (Agent.slot s.myCore s.mySlot) (Agent.owner (s.homeOf c t.ctx.toNat)) (.migrate st k) else s
        (s.freeSlot s.myCore s.mySlot).afterFree s.myCore s.mySlot t.ctx.toNat)) s

/-! ### Launches (R195) -/

/-- The priority of a launch: `PR`, the handler's, or the context's least (R191). -/
def Ctx.launchPrio (x : Ctx) (p : BitVec 6) (h : Nat) : Nat :=
  if p ≠ 63 then p.toNat else if (x.handler h).prio = 0xFF then x.pmin else (x.handler h).prio
/-- A launch makes a pending item on a core; the identifier is the target core's (R178). -/
def State.launch (s : State) (c x h p : Nat) (args : Vector Word 4) (g5 : Word) : State × BitVec 32 :=
  let (id, s) := s.nextTaskId c
  let st : Start := { handler := h, ctx := x, prio := p, limit := ((s.ctx x).handler h).budget, id := id, args := args, g5 := g5 }
  (s.offerItem c .launch st, id)

/-- `LAUNCH`: reserved to firmware (R190). -/
def execLaunch (p : BitVec 6) (b a d : BitVec 5) (s : State) : Host.Outcome State Fault Refusal :=
  runM (do
    let x ← getG a
    let y ← getG b
    let s ← get
    if !s.isFw s.myCore then raise Cause.privilege (s.cur.word.setWidth 64) (s.wordPc.setWidth 48)
    else
      let h := y.toNat % 2 ^ 16
      let n := bits y.toNat 16 4
      handlerArg n h
      prioArg n ((s.ctx n).launchPrio p h)
      let c ← targetCore x n
      let (s', id) := s.launch c n h ((s.ctx n).launchPrio p h) #v[s.rg 1, s.rg 2, s.rg 3, s.rg 4]
        (BitVec.ofNat 64 (x.toNat % 2 ^ 48))
      set s'
      retG d (id.setWidth 64)) s

/-! ### Join counters (R196, R197) -/

/-- `wake_waiters` of R197: when the counter is not positive, the slots of its core, or its pair, that wait on it test it
again. -/
def State.wakeCounter (s : State) (c x la a : Nat) : State :=
  let v := s.num a 8
  if 0 < v ∧ v < 2 ^ 63 then s
  else (if (s.ctx x).pair then [c, twinOf c] else [c]).foldl (fun s c => s.modCore c (fun k => { k with slots := k.slots.map (fun t =>
    if t.life = .stalled .join ∧ t.joinOn = some la ∧ t.ctx.toNat = x then { t with life := .running, joinOn := none } else t) })) s

/-- `JOIN`. -/
def execJoin (b a : BitVec 5) (s : State) : Host.Outcome State Fault Refusal :=
  runM (do
    let x ← getG a
    let y ← getG b
    let (c, la) ← counterArg x true
    let p ← counterAt c la
    let go ← outbound x [y]
    if go then modify (fun s : State => (s.addCounter p y).wakeCounter c s.me.ctx.toNat la p)
    done) s

/-- `JDONE`: release, then a posted decrement at the owner. -/
def execJdone (a : BitVec 5) (s : State) : Host.Outcome State Fault Refusal :=
  runM (do
    let x ← getG a
    let (c, la) ← counterArg x false
    let go ← outbound x []
    let s ← get
    release (scopeOf s.myCore c)
    postRoom
    if go then modify (fun s : State => s.post (Agent.slot s.myCore s.mySlot) (Agent.owner c)
      (.jdone s.me.ctx.toNat la s.myCore s.mySlot s.me.taskid))
    done) s

/-- `JWAIT`: waits while the counter is positive; illegal in the service slot. -/
def execJwait (a d : BitVec 5) (s : State) : Host.Outcome State Fault Refusal :=
  runM (do
    let x ← getG a
    let s ← get
    if s.mySlot = 4 then illegal
    else
      let (c, la) ← counterArg x true
      let p ← counterAt c la
      let r ← obtained (do
        let s ← get
        let v := s.num p 8
        if 0 < v ∧ v < 2 ^ 63 then do
          modify (fun s : State => s.modMe (fun t => { t with joinOn := some la }))
          waitFor .join
        else pure [BitVec.ofNat 64 v])
      acquire 3
      retG d ((r.head?).getD 0)) s

end Sys2Proof.Machine
end

