-- ==== Sys2Proof/Machine/Control.lean ====
section
/-! DEFINITION. Control transfer, system group, prefix, CSR access and mailboxes (02_instruction_word.md R22, R35; 05_scalar_instructions.md R96 to R109). -/

namespace Sys2Proof.Machine

/-! ### Control transfer (R96 to R100) -/

/-- Address `n` words from the branch word (R24). -/
def State.branchTo (s : State) (n : Int) : Word := s.wordPc + BitVec.ofInt 64 (4 * n)
/-- Branch or fall through. -/
def State.branchIf (s : State) (p : Bool) (n : Int) : State := if p then s.goto (s.branchTo n) else s.advance

/-- `NOP` (R22). -/
def execNop (s : State) : Host.Outcome State Fault Refusal := .next s.advance

/-- `BR` (R96). -/
def execBr (o : BitVec 24) (s : State) : Host.Outcome State Fault Refusal := .next (s.goto (s.branchTo o.toInt))

/-- `BRL` (R96): g31 links. -/
def execBrl (o : BitVec 24) (s : State) : Host.Outcome State Fault Refusal :=
  .next ((s.wg 31 s.nextPc).goto (s.branchTo o.toInt))

/-- A jump target that is no multiple of 4 (R97). -/
def jumpTrap (a : Word) : Trap := ⟨Cause.misaligned, 4, a.setWidth 48⟩

/-- `JR` (R97). Only a gang's leader jumps by its register, and so traps on it (R83). -/
def execJr (a : BitVec 5) (s : State) : Host.Outcome State Fault Refusal :=
  if (s.rg a).toNat % 4 ≠ 0 ∧ !s.follower then .next (takeTrap s (jumpTrap (s.rg a))) else .next (s.goto (s.rg a))

/-- `JRL` (R97), as `JR` in a gang; every member links (R83). -/
def execJrl (a d : BitVec 5) (s : State) : Host.Outcome State Fault Refusal :=
  if (s.rg a).toNat % 4 ≠ 0 ∧ !s.follower then .next (takeTrap s (jumpTrap (s.rg a)))
  else .next ((s.wg d s.nextPc).goto (s.rg a))

/-- Conditions of Table 2.10. -/
def branchTaken (c : BitVec 3) (x y : Word) : Bool :=
  match c.toNat with
  | 0 => x == y
  | 1 => x != y
  | 2 => x.slt y
  | 3 => !x.slt y
  | 4 => x.ult y
  | 5 => !x.ult y
  | 6 => x &&& y != 0
  | _ => x &&& y == 0

/-- `BCC` (R98). -/
def execBcc (o : BitVec 11) (c : BitVec 3) (b a : BitVec 5) (s : State) : Host.Outcome State Fault Refusal :=
  .next (s.branchIf (branchTaken c (s.rg a) (s.rg b)) o.toInt)

/-- Conditions of `BMASK` (R99); 4 and 5 are reserved. -/
def maskTaken (c : BitVec 3) (x y : Word) : Bool :=
  match c.toNat with
  | 0 => x == y
  | 1 => x != y
  | 2 => x &&& y == y
  | 3 => x &&& y != y
  | 6 => x &&& y != 0
  | _ => x &&& y == 0

/-- `BMASK` (R99). -/
def execBmask (o : BitVec 11) (c : BitVec 3) (b a : BitVec 5) (s : State) : Host.Outcome State Fault Refusal :=
  .next (s.branchIf (maskTaken c (s.rmask a.toNat) (s.rmask b.toNat)) o.toInt)

/-- `LOOP` (R100). -/
def execLoop (i : BitVec 19) (c : BitVec 5) (s : State) : Host.Outcome State Fault Refusal :=
  if s.rg c = 0 then .next s.advance
  else .next ((s.wg c (s.rg c - 1)).branchIf (s.rg c - 1 != 0) i.toInt)

/-! ### System group (R101 to R105) -/

/-- `PFX` (R35): the latch takes `word[31:8]` and stays pending for the next word. A `PFX` issues alone. -/
def execPfx (r : BitVec 2) (sc : BitVec 3) (y x : BitVec 1) (g : BitVec 4) (k : BitVec 3) (b a : BitVec 5) (s : State) :
    Host.Outcome State Fault Refusal :=
  .next (s.advance.modMe (fun t => { t with pfxp := true, latch := r ++ sc ++ y ++ x ++ g ++ k ++ b ++ a }))

/-- `HALT` (R102): the task ends, with its join decrement (R197). -/
def execHalt (s : State) : Host.Outcome State Fault Refusal :=
  runM (do
    joinDone
    modify (fun s : State => s.haltTask s.myCore s.mySlot)) s

/-- The retained entry of slot `j` takes the named banks that the context holds, pinned (R186). -/
def Core.retain (k : Core) (j x h order : Nat) (m : Word) : Core :=
  let k := k.dropRetained j
  let held := BitVec.ofNat 64 (pack 1 ((List.range 64).map (fun b =>
    if m.getLsbD b && !(k.bankPages x (BitVec.ofNat 64 (2 ^ b))).isEmpty then 1 else 0)))
  let k := (k.bankPages x held).foldl (fun k p => k.pinPage x p) k
  { k with retained := k.retained.set j ⟨held, h, x, order⟩ }

/-- `HALTR` (R103): as `HALT`, with the named banks kept for the successor handler. Illegal in the service slot
(R181) and in a gang (R310, where R83 ends the task on each member; DESIGN CHOICE, log 83). -/
def execHaltr (b a : BitVec 5) (s : State) : Host.Outcome State Fault Refusal :=
  runM (do
    let m ← getG a
    let h ← getG b
    let s ← get
    if s.mySlot = 4 ∨ s.me.gang ∨ h.toNat ≥ s.myCtx.handlers.length then illegal
    else
      joinDone
      modify (fun s : State =>
        let x := s.me.ctx.toNat
        let keep (c : Nat) (s : State) : State :=
          s.modCore c (fun k => { k.retain s.mySlot x h.toNat k.itemSeq m with itemSeq := k.itemSeq + 1 })
        (keep s.myCore s).haltTask s.myCore s.mySlot)) s

/-- `BRK` (R104). -/
def execBrk (c : BitVec 15) (s : State) : Host.Outcome State Fault Refusal :=
  .next (takeTrap s ⟨Cause.breakpoint, c.setWidth 64, 0⟩)

/-- `SYS` (R105): a request to the firmware column, whose reply is awaited. Illegal in the service slot (R181); it
takes effect at a gang's leader only (R83) and is an outbound effect of a pair. -/
def execSys (sv a d : BitVec 5) (s : State) : Host.Outcome State Fault Refusal :=
  if s.follower then .next s.advance
  else runM (do
    let x ← getG a
    let s ← get
    if s.mySlot = 4 then illegal
    else
      let go ← outbound 0 [x]
      let v ← askFor .reply (fun s => if go then
        s.post (Agent.slot s.myCore s.mySlot) Agent.firmware
          (.sys sv.toNat s.me.ctx.toNat s.myCore s.mySlot s.me.taskid x) else s)
      retG d v) s

/-! ### CSRs (R74 to R77, R106) -/

/-- `COREID` (Table 4.4). -/
def coreId (dev : BitVec 2) (c j : Nat) : Word := BitVec.ofNat 64 (c + coveOf c * 2 ^ 16 + j * 2 ^ 24 + dev.toNat * 2 ^ 30)
/-- `STATUS` (Table 4.3) of slot `j` of core `c`. -/
def State.status (s : State) (c j : Nat) : Word :=
  let t := s.slot c j
  let bit (p : Bool) (i : Nat) : Nat := if p then 2 ^ i else 0
  BitVec.ofNat 64 (t.prio.toNat + ((s.dies[c / 256]?).getD {}).step.toNat * 2 ^ 6 + bit t.unord 10 + bit (j == 4) 11 +
    bit t.gang 12 + bit (s.ctx t.ctx.toNat).pair 13 + bit t.pfxp 14 + bit (s.isFw c) 15)
def Slot.laneId (t : Slot) : Word := BitVec.ofNat 64 (t.lane.toNat + t.gk.toNat * 2 ^ 4)
def Slot.fctl (t : Slot) : Word := BitVec.ofNat 64 (t.rm.toNat + t.avt.toNat * 4)
def Slot.gctl (t : Slot) : Word := BitVec.ofNat 64 (t.tie.toNat + (if t.nfq then 4 else 0) + (if t.nfs then 8 else 0))
def Slot.budget (t : Slot) : Word := BitVec.ofNat 64 (t.left.toNat + t.limit.toNat * 2 ^ 32)
/-- `ENRG` as the core last received it (Table 4.6, R169). `PERIOD` counts the device's periods, one count for all
contexts: what R161 clears at a creation is OVER and QLEFT (DESIGN CHOICE, log 93). -/
def State.enrg (s : State) (c x : Nat) : Word :=
  let e := (s.core c).enrg.getD x {}
  BitVec.ofNat 64 (e.qleft.toNat + s.period.toNat * 2 ^ 32 + (if e.spentOut then 2 ^ 48 else 0))
def Core.cbgen (k : Core) : Word := BitVec.ofNat 64 (pack 8 ((List.range 8).map (fun b => (k.bank b).gen.toNat)))
/-- The value of a CSR as slot `j` of core `c` reads it (Tables 4.2 and 4.9, R359); `none` for an absent number. -/
def State.csr (s : State) (c j n : Nat) : Option Word :=
  let t := s.slot c j
  let k := s.core c
  if n < 0x800 then
    match n with
    | 0x000 => some (s.status c j)
    | 0x001 => some (t.taskid.setWidth 64)
    | 0x002 => some (coreId s.dev c j)
    | 0x003 => some (t.ctx.setWidth 64)
    | 0x004 => some t.laneId
    | 0x008 => some s.dtime
    | 0x009 => some (t.tsinh.setWidth 64)
    | 0x010 => some (k.b0.setWidth 64)
    | 0x011 => some (k.b1.setWidth 64)
    | 0x012 => some (k.b2.setWidth 64)
    | 0x018 => some t.fctl
    | 0x019 => some (t.fflags.setWidth 64)
    | 0x020 => some t.gctl
    | 0x021 => some t.gstat
    | 0x028 => some k.cbgen
    | 0x040 => some (t.tcause.setWidth 64)
    | 0x041 => some t.tval
    | 0x042 => some (t.tepc.setWidth 64)
    | 0x043 => some (t.ttile.setWidth 64)
    | 0x044 => some (t.ttask.setWidth 64)
    | 0x045 => some (t.taddr.setWidth 64)
    | 0x050 => some t.budget
    | 0x051 => some (s.enrg c t.ctx.toNat)
    | 0x058 => some (t.emitto.setWidth 64)
    | 0x060 => some (s.capptr.setWidth 64)
    | 0x070 => some (t.hintdrop.setWidth 64)
    | 0x078 => some (t.barto.setWidth 64)
    | 0x079 => some (BitVec.ofNat 64 ((s.ctx t.ctx.toNat).step % 256))
    | _ => none
  else if 0x880 ≤ n ∧ n < 0x8A0 then
    some (BitVec.ofNat 64 (pack 16 ((List.range 4).map (fun i =>
      (k.shadow.getD (4 * (n - 0x880) + i) (s.region (4 * (n - 0x880) + i))).toNat))))
  else match n with
    | 0x8C0 => some (k.regionState.setWidth 64)
    | 0x8C8 => some (k.pbtgt.setWidth 64)
    | 0x8C9 => some (k.pbnew0.setWidth 64)
    | 0x8CA => some (k.pbnew1.setWidth 64)
    | 0x8CB => some (k.pbnew2.setWidth 64)
    | 0x8CC => some (k.pbstate.setWidth 64)
    | _ => none

/-- Bits [11:0] of a boundary read zero (Table 4.9). -/
def boundary (x : Word) : BitVec 22 := BitVec.ofNat 22 (x.toNat % 2 ^ 22 / 2 ^ 12 * 2 ^ 12)
/-- A write of a slot-scope CSR's RW and W1C fields; `none` for a reserved field value (R106). `w` is the mask of
the W1C fields. -/
def Slot.csrWrite (t : Slot) (n : Nat) (new w : Word) : Option Slot :=
  match n with
  | 0x000 => some { t with unord := t.unord && !w.getLsbD 10 }
  | 0x009 => some { t with tsinh := new.setWidth 48 }
  | 0x018 => some { t with rm := new.setWidth 2, avt := BitVec.ofNat 2 (new.toNat / 4) }
  | 0x019 => some { t with fflags := new.setWidth 5 }
  | 0x020 =>
    if new.toNat % 4 = 3 then none
    else some { t with tie := new.setWidth 2, nfq := new.getLsbD 2, nfs := t.nfs && !w.getLsbD 3 }
  | 0x021 => some { t with gstat := new }
  | 0x058 => some { t with emitto := new.setWidth 32 }
  | 0x070 => some { t with hintdrop := new.setWidth 32 }
  | 0x078 => some { t with barto := new.setWidth 32 }
  | _ => some t
/-- A write of a firmware CSR of a core (Table 4.9, R73, R359). A write of 1 starts a commit unless one is running. -/
def Core.csrWrite (k : Core) (n : Nat) (new : Word) : Core :=
  if 0x880 ≤ n ∧ n < 0x8A0 then
    { k with shadow := (List.range 4).foldl (fun f i =>
        f.set (4 * (n - 0x880) + i) (BitVec.ofNat 16 (new.toNat / 2 ^ (16 * i)) &&& 0xC03F)) k.shadow }
  else match n with
    | 0x8C0 => if new.toNat % 4 = 1 ∧ k.regionState ≠ 1 then { k with regionState := 1 } else k
    | 0x8C8 => { k with pbtgt := new.setWidth 9 }
    | 0x8C9 => { k with pbnew0 := boundary new }
    | 0x8CA => { k with pbnew1 := boundary new }
    | 0x8CB => { k with pbnew2 := boundary new }
    | 0x8CC => if new.toNat % 4 = 1 ∧ k.pbstate ≠ 1 then { k with pbstate := 1 } else k
    | _ => k

/-- A write of a firmware CSR of core `c`; one that starts a boundary commit sends it with the values of that moment, one
after another (R73). -/
def State.csrWrite (s : State) (c n : Nat) (new : Word) : State :=
  let k := s.core c
  let s := s.setCore c (k.csrWrite n new)
  if n = 0x8CC ∧ new.toNat % 4 = 1 ∧ k.pbstate ≠ 1 then
    { s with commits := s.commits ++ [(c, k.pbtgt.toNat, k.pbnew0, k.pbnew1, k.pbnew2)] }
  else s
/-- Functions of the CSR group. -/
inductive CsrOp where
  | write | set | clear
  deriving DecidableEq, Repr
/-- CSRs that name the core they are read on: the two cores of a pair read their own. -/
def ownCsr (n : Nat) : Bool := n == 0x002 || n == 0x043
/-- The CSR group (R106), with the checks of R74 and R75 in their order. -/
def csrAccess (op : CsrOp) (sr : BitVec 5) (c : BitVec 12) (d : BitVec 5) : M Unit := do
  let s ← get
  let n := c.toNat
  let w := s.rg sr
  if n ≥ 0x800 ∧ !s.isFw s.myCore then raise Cause.privilege (s.cur.word.setWidth 64) (s.wordPc.setWidth 48)
  else match s.csr s.myCore s.mySlot n with
    | none => illegal
    | some x =>
      let old ← if ownCsr n then pure x else readOnce (fun _ => x)
      let new := match op with
        | .write => w
        | .set => old ||| w
        | .clear => old &&& ~~~w
      let s ← get
      if op ≠ .write ∧ sr = 0 then retG d old
      else if n ≥ 0x800 then do
        set (s.csrWrite s.myCore n new)
        retG d old
      else match s.me.csrWrite n new w with
        | none => illegal
        | some t => do
          set (s.setMe t)
          retG d old

/-- `CSRRW` (R106). -/
def execCsrrw (sr : BitVec 5) (c : BitVec 12) (d : BitVec 5) (s : State) : Host.Outcome State Fault Refusal :=
  runM (csrAccess .write sr c d) s
/-- `CSRRS` (R106). -/
def execCsrrs (sr : BitVec 5) (c : BitVec 12) (d : BitVec 5) (s : State) : Host.Outcome State Fault Refusal :=
  runM (csrAccess .set sr c d) s
/-- `CSRRC` (R106). -/
def execCsrrc (sr : BitVec 5) (c : BitVec 12) (d : BitVec 5) (s : State) : Host.Outcome State Fault Refusal :=
  runM (csrAccess .clear sr c d) s

/-! ### Mailboxes (R108, R109) -/

def Slot.mailbox (t : Slot) (n : Nat) : Word := (t.mb[n % 4]?).getD 0
def Slot.clearFull (t : Slot) (n : Nat) : Slot := { t with mbFull := t.mbFull &&& ~~~(BitVec.ofNat 4 (2 ^ (n % 4))) }

/-- `MBTAKE` (R108). A deposit in its landing cycle sets the full bit afterwards (R109). -/
def execMbtake (b a d : BitVec 5) (s : State) : Host.Outcome State Fault Refusal :=
  runM (do
    let l ← obtained (fun s => .ok ([s.me.mailbox a.toNat, if s.me.mbFull.getLsbD (a.toNat % 4) then 1 else 0], s))
    modify (fun s : State => ((s.wg d (l.headD 0)).wg b ((l[1]?).getD 0)).modMe (fun t => t.clearFull a.toNat))
    done) s

/-- `MBCLR` (R108). -/
def execMbclr (a : BitVec 5) (s : State) : Host.Outcome State Fault Refusal :=
  .next ((s.modMe (fun t => t.clearFull a.toNat)).advance)

end Sys2Proof.Machine
end

