-- ==== Sys2Proof/Machine/TrapOps.lean ====
section
/-! DEFINITION. Frame entries, and the trap instructions (04_task_state.md R69, R70; 19_trap.md R380 to R384). -/

namespace Sys2Proof.Machine

/-! ### Frame entries (R70, R381) -/

/-- CSR numbers of the entries from offset 0x0A00. -/
def frameCsrs : List Nat :=
  [0x000, 0x001, 0x003, 0x004, 0x009, 0x018, 0x019, 0x020, 0x021, 0x040, 0x041, 0x042, 0x043, 0x044, 0x045, 0x050, 0x058,
   0x070, 0x078]
/-- Whether an offset names an entry that may be read; the probe apart. -/
def frameOffset (o : Nat) : Bool := o % 8 == 0 && (decide (o < 0x9B8) || (decide (0xA00 ≤ o) && decide (o < 0xA98)))
/-- The 8-byte entry at an offset of the frame of slot `j` of core `c`. -/
def State.frameEntry (s : State) (c j o : Nat) : Word :=
  let t := s.slot c j
  if o < 0x100 then t.rg (BitVec.ofNat 5 (o / 8))
  else if o < 0x900 then BitVec.ofNat 64 (laneW 64 (t.rv (BitVec.ofNat 5 ((o - 0x100) / 64))) ((o - 0x100) % 64 / 8))
  else if o < 0x940 then t.rm' ((o - 0x900) / 8)
  else if o < 0x980 then BitVec.ofNat 64 (((t.ev[(o - 0x940) / 16]?).getD 0).toNat / 2 ^ (64 * ((o - 0x940) / 8 % 2)))
  else if o < 0x9A0 then t.mailbox ((o - 0x980) / 8)
  else if o = 0x9A0 then t.mbFull.setWidth 64
  else if o = 0x9A8 then BitVec.ofNat 64 (t.pc.toNat % 2 ^ 48)
  else if o = 0x9B0 then t.latch.setWidth 64
  else match frameCsrs[(o - 0xA00) / 8]? with
    | some n => (s.csr c j n).getD 0
    | none => 0
/-- Whether a value may be written at an offset (R381). -/
def frameValueOk (o : Nat) (x : Word) : Bool :=
  if o = 0x9A8 then x.toNat % 4 == 0 && decide (x.toNat < 2 ^ 48)
  else if o = 0xA38 then x.toNat % 4 != 3
  else true
/-- An entry written under the masks of R381. -/
def Slot.putEntry (t : Slot) (o : Nat) (x : Word) : Slot :=
  if o < 0x100 then t.wg (BitVec.ofNat 5 (o / 8)) x
  else if o < 0x900 then
    let r : BitVec 5 := BitVec.ofNat 5 ((o - 0x100) / 64)
    t.wv r (setLane 64 (t.rv r) ((o - 0x100) % 64 / 8) x.toNat)
  else if o < 0x940 then t.wm ((o - 0x900) / 8) x
  else match o with
    | 0x9A8 => { t with pc := BitVec.ofNat 64 (x.toNat % 2 ^ 48), got := none }
    | 0x9B0 => { t with latch := x.setWidth 24 }
    | 0xA00 => { t with pfxp := x.getLsbD 14 }
    | 0xA20 => { t with tsinh := x.setWidth 48 }
    | 0xA28 => { t with rm := x.setWidth 2, avt := BitVec.ofNat 2 (x.toNat / 4) }
    | 0xA30 => { t with fflags := x.setWidth 5 }
    | 0xA38 => { t with tie := x.setWidth 2, nfq := x.getLsbD 2, nfs := x.getLsbD 3 }
    | 0xA40 => { t with gstat := x }
    | 0xA80 => { t with emitto := x.setWidth 32 }
    | 0xA88 => { t with hintdrop := x.setWidth 32 }
    | 0xA90 => { t with barto := x.setWidth 32 }
    | _ => t

/-! ### At the target (R380 to R383) -/

/-- A live target: a trapped task of the context with the identifier. -/
def State.liveTarget (s : State) (x c j : Nat) (task : BitVec 32) : Bool :=
  let t := s.slot c j
  t.life == .trapped && t.ctx.toNat == x && t.taskid == task
/-- A stopped slot returns to running, or to waiting for its reply (R379, R382). -/
def Slot.resumed (t : Slot) : Slot :=
  { t with life := if t.reply.isSome then .stalled .reply else .running, frozen := false, thaw := false, stopAt := none }
/-- A slot and its group resume; frozen ones at their release (R382). -/
def State.resumeTask (s : State) (c j : Nat) (left : Nat) : State :=
  ((c, j) :: s.group c j).foldl (fun s p =>
    ((s.dropReader p.1 p.2).modSlot p.1 p.2 (fun t =>
      let t := if left ≠ 0 then { t with left := BitVec.ofNat 24 (min left t.limit.toNat) } else t
      if t.frozen then { t with thaw := true } else if t.life = .trapped then t.resumed else { t with stopAt := none })).acquireAt p.1 3) s
/-- A trap instruction's effect at its target, and its result: 0 `TINSP`, 1 its write form, 2 `TRESUME`, 3 `TKILL`. -/
def State.trapOpAt (s : State) (op x c j : Nat) (task : BitVec 32) (arg data : Word) : State × Word :=
  let live := s.liveTarget x c j task
  match op with
  | 0 =>
    if arg.toNat = 0xFF8 then (s, if !live then 0 else if (s.slot c j).frozen then 2 else 1)
    else (s, if live then s.frameEntry c j arg.toNat else 0)
  | 1 =>
    if !live then (s, 0)
    else
      let s' := s.modSlot c j (fun t => t.putEntry arg.toNat data)
      (if (s.ctx x).pair then s'.modSlot (twinOf c) j (fun t => t.putEntry arg.toNat data) else s', 0)
  | 2 =>
    if !live then (s, 1)
    else (s.resumeTask c j (arg.toNat % 2 ^ 24), if (s.slot c j).frozen then 2 else 0)
  | _ => if !live then (s, 1) else (s.killTask c j, 0)

/-! ### Instructions -/

/-- `RAISE`. -/
def execRaise (a : BitVec 5) (s : State) : Host.Outcome State Fault Refusal :=
  .next (takeTrap s ⟨Cause.software, s.rg a, 0⟩)

/-- The target word of R380: core, slot and identifier. -/
def trapTarget (a : Word) : M (Nat × Nat) := fun s =>
  let n := a.toNat
  let c := bits n 48 9
  if n ≥ 2 ^ 57 ∨ bits n 35 13 ≠ 0 ∨ bits n 32 3 > 4 then .error (.trap (illegalTrap s))
  else if !s.myCtx.has c then .error (.trap ⟨Cause.localBounds, 2, a.setWidth 48⟩)
  else .ok ((c, bits n 32 3), s)
/-- The effect at the target: at once on the issuing core, else by a message whose answer is awaited (R384). -/
def reachTarget (op : Nat) (a arg data : Word) (d : BitVec 5) : M Unit := do
  let (c, j) ← trapTarget a
  let s ← get
  if op ≥ 2 then let _ ← outbound a [arg] else pure ()
  if op = 2 then release 3 else pure ()
  if c = s.myCore ∨ (s.paired ∧ primaryOf c = primaryOf s.myCore) then
    let r ← obtained (do
      let s ← get
      let (s', v) := s.trapOpAt op s.me.ctx.toNat c j (a.setWidth 32) arg data
      set s'
      pure [v])
    retG d ((r.head?).getD 0)
  else
    let go := !s.paired || s.myCore % 2 == 0
    let v ← askFor .reply (fun s => if go then
      s.post (Agent.slot s.myCore s.mySlot) (Agent.owner c)
        (.trapOp op a arg data s.me.ctx.toNat s.myCore s.mySlot s.me.taskid) else s)
    retG d v

/-- `TINSP`: reads a frame entry, or probes (R381). -/
def execTinsp (b a d : BitVec 5) (s : State) : Host.Outcome State Fault Refusal :=
  runM (leaderOnly d (do
    let x ← getG a
    let o ← getG b
    let _ ← trapTarget x
    if frameOffset o.toNat ∨ o.toNat = 0xFF8 then reachTarget 0 x o 0 d else illegal)) s

/-- `TINSP` with `W` = 1: writes a frame entry (R381). -/
def execTinspW (b a sr : BitVec 5) (s : State) : Host.Outcome State Fault Refusal :=
  if s.follower then .next s.advance
  else runM (do
    let x ← getG a
    let o ← getG b
    let v ← getG sr
    let _ ← trapTarget x
    if frameOffset o.toNat ∧ frameValueOk o.toNat v then reachTarget 1 x o v 0 else illegal) s

/-- `TRESUME` (R382). -/
def execTresume (b a d : BitVec 5) (s : State) : Host.Outcome State Fault Refusal :=
  runM (leaderOnly d (do
    let x ← getG a
    let y ← getG b
    let _ ← trapTarget x
    if y.toNat ≥ 2 ^ 24 then illegal else reachTarget 2 x y 0 d)) s

/-- `TKILL` (R383). -/
def execTkill (a d : BitVec 5) (s : State) : Host.Outcome State Fault Refusal :=
  runM (leaderOnly d (do
    let x ← getG a
    reachTarget 3 x 0 0 d)) s

end Sys2Proof.Machine
end

