-- ==== Sys2Proof/Machine/Arrive.lean ====
section
/-! DEFINITION. Device events of the mesh: budgets, returning loads, accesses and atomics at their owners, replies, services, steals, spawns, messages and migrations (04, 05, 07, 09). An event that is not enabled leaves the state unchanged (R6). -/

namespace Sys2Proof.Machine

/-- An event that acts on the oldest message `id` of its channel: nothing happens unless the body's event is enabled. -/
def onMessage (id : Nat) (s : State) (f : Msg → State → Option State) : Host.Outcome State Fault Refusal :=
  match s.take id with
  | some (m, s') => .next ((f m s').getD s)
  | none => .next s

/-! ### Budgets and returning loads (R82, R129, R182) -/

/-- `TASK_BUDGET` (R182): a running or stalled task whose count has reached zero; a gang's counts at its leader (R310). -/
def execTaskBudget (core slot : Nat) (s : State) : Host.Outcome State Fault Refusal :=
  let t := s.slot core slot
  if t.going ∧ t.left = 0 ∧ t.leader = none ∧ !t.frozen ∧ s.phase = .running then
    .next (s.trapSlot core slot ⟨Cause.taskBudget, t.limit.setWidth 64, 0⟩)
  else .next s

/-- The loads of a slot with their lanes, numbered from 0: load, lane, and the lane's place or message. -/
def Slot.lanesOut (t : Slot) : List (Nat × Nat × Nat) :=
  (t.loads.mapIdx (fun i l => l.pend.map (fun p => (i, p.1, p.2)))).flatten
/-- Lane `n` of load `i` has returned with its bytes; a complete load writes its register (R82, R373). -/
def Slot.laneBack (t : Slot) (i n : Nat) (bs : List Byte) : Slot :=
  match t.loads[i]? with
  | none => t
  | some l =>
    let l := { l with pend := l.pend.filter (fun p => p.1 != n), back := l.back.set n bs }
    if l.pend.isEmpty then { t with loads := t.loads.eraseIdx i }.putLoad l.dest l.form l.size l.back
    else { t with loads := t.loads.set i l }
/-- Whether an earlier lane of the slot still waits for one of the bytes: two loads of a location never return its
values in reverse (R139). -/
def Slot.earlier (t : Slot) (idx a n : Nat) : Bool :=
  (t.lanesOut.take idx).any (fun p => match t.loads[p.1]? with
    | some l => !l.cove && decide (p.2.2 < a + n) && decide (a < p.2.2 + l.size)
    | none => false)
/-- `GLOBAL_LOAD_RETURN`: lane `idx` of the slot's outstanding loads. A global lane fills its sector into L1; a `.c`
lane brings what its access read. In a pair both cores receive it (R314). Its data were checked for errors as it issued,
and none arise in them on the way (R112, log 43). -/
def execGlobalLoadReturn (core slot idx : Nat) (s : State) : Host.Outcome State Fault Refusal :=
  let t := s.slot core slot
  match t.lanesOut[idx]? with
  | none => .next s
  | some (i, n, a) => match t.loads[i]? with
    | none => .next s
    | some l =>
      let pair := (s.ctx t.ctx.toNat).pair
      let u := s.slot (twinOf core) slot
      let twinOk := !pair || (core % 2 == 0 && (match u.loads[i]? with
        | some k => k.pend.any (fun p => p.1 == n)
        | none => u.life == .free))
      let both (s : State) (bs : List Byte) : State :=
        let s := s.modSlot core slot (fun t => t.laneBack i n bs)
        if pair then s.modSlot (twinOf core) slot (fun t => t.laneBack i n bs) else s
      if !twinOk || (!l.cove && crossDie core a && s.rowShut (core / 16 % 16)) then .next s
      else if l.cove then match l.data.find n with
        | some bs => .next (both s bs)
        | none => .next s
      else if t.earlier idx a l.size then .next s
      else
        let s := s.fillSector core a
        .next (both s ((List.range l.size).map (fun k => s.seen core (a + k))))

/-! ### Accesses at a core of the cove (R137, R138) -/

/-- The first page of the bytes at a core that is not there for an access, or that an earlier access waits for still. -/
def State.missing (s : State) (c x la n who : Nat) : Option Where :=
  let at_ (a : Nat) : Where := match s.local? c x a with
    | .here f b => if (s.core c).mayEnter x (a / 2 ^ 14) who then .here f b else .absent (a / 2 ^ 14)
    | w => w
  if n = 0 then none
  else (([la, la + n - 1] ++ (List.range (n / 2 ^ 14)).map (fun i => la + 2 ^ 14 * i)).map at_).find? (fun w => match w with
    | .here .. => false
    | _ => true)
/-- What an access whose page is absent leaves: the request (R345), and its place among those that wait. -/
def State.askPage (s : State) (c x la n who : Nat) : State :=
  match s.missing c x la n who with
  | some (.absent p) => s.modCore c (fun k => (k.request x p).await x p who)
  | _ => s
/-- An access that has its pages leaves those that wait. -/
def State.leave (s : State) (c who : Nat) : State := s.modCore c (fun k => k.leave who)
/-- Whether no fill can serve the access: it lies outside the context's local space, or in a frame whose fill failed. -/
def State.unservable (s : State) (c x la n who : Nat) : Bool :=
  match s.missing c x la n who with
  | some .outside => true
  | some (.failed _) => true
  | _ => false
/-- The bytes that a `.c` load read reach the load of the sending slot, at the lane that names the message. -/
def Slot.coveData (t : Slot) (id : Nat) (bs : List Byte) : Slot :=
  { t with loads := t.loads.map (fun l => match l.pend.find? (fun p => l.cove && p.2 == id) with
      | some p => { l with data := l.data.set p.1 bs }
      | none => l) }

/-- Whether a boundary commit runs at a core, so that what arrives is turned away (R73). -/
def State.shut (s : State) (c : Nat) : Bool := (s.core c).committing.isSome
/-- A delivery that a core in a commit turns away, as an unbound queue does a record: it has no effect there, and a
sender that waits has its answer; where that is a value, it is free (R73, log 74). -/
def State.turnAway (s : State) (m : Msg) : State :=
  let x : Word := BitVec.ofNat 64 (Config.freeNat s.free)
  let t : State := { s with free := s.free + 1 }
  match m.body with
  | .coveLoad _ d j _ n => t.modSlot d j (fun u => u.coveData m.id (leBytes n (Config.freeNat s.free)))
  | .atomic a => t.post m.dst (Agent.slot a.core a.slot) (.reply .atomic a.core a.slot a.task m.id (if a.op = 0x0F then 2 else x))
  | .jdone _ _ c j task => s.post m.dst (Agent.slot c j) (.reply .atomic c j task m.id 0)
  | .waitq _ _ c j task _ => (t.giveAnswer c j task m.id x).getD t
  | .wake _ _ c j task _ => s.post m.dst (Agent.slot c j) (.reply .atomic c j task m.id 0)
  | .spawnr st c j task => s.post m.dst (Agent.slot c j) (.unspawn c j task m.id st.ctx st.join)
  | .amsg _ c j task waits =>
    if waits then s.answerMsg (m.dst / 8) (some (c, j, task, m.id)) (BitVec.allOnes 64)
    else s.post m.dst (Agent.slot c j) (.reply .atomic c j task m.id 0)
  | _ => s
/-- An access of the cove whose page has gone since it left: it asks for the page and waits; one that meets a failed fill
asks again once the frame is free (log 43). -/
def State.awaitPage (s : State) (c x la n who : Nat) : State :=
  if s.unservable c x la n who then s.leave c who else s.askPage c x la n who
/-- `COVE_ACCESS_ARRIVE`: a store, a scatter's bytes or a load, one event at its target core. Its page was there as it left
its slot, and a window page stays (R344). -/
def execCoveAccessArrive (msg : Nat) (s : State) : Host.Outcome State Fault Refusal :=
  match s.take msg with
  | none => .next s
  | some (m, s') =>
    let c := m.dst / 8
    let w := msgWho msg
    if s.shut c then .next (s'.turnAway m)
    else match m.body with
    | .coveStore x _ _ la n data =>
      if (s'.missing c x la n w).isSome then .next (s.awaitPage c x la n w)
      else .next ((s'.putLocal c x la (leBytes n data.toNat)).leave c w)
    | .coveScatter x _ bytes =>
      (match bytes.find? (fun p => (s'.missing c x p.1 1 w).isSome) with
        | some p => .next (s.awaitPage c x p.1 1 w)
        | none => .next ((bytes.foldl (fun s p => s.putLocal c x p.1 [p.2]) s').leave c w))
    | .coveLoad x d j la n =>
      if (s'.missing c x la n w).isSome then .next (s.awaitPage c x la n w)
      else
        let bs := s'.localBytes c x la n
        let s' := match s'.local? c x la with
          | .here f _ => s'.modCore c (fun k => k.touch f false)
          | _ => s'
        .next ((s'.leave c w).modSlot d j (fun t => t.coveData msg bs))
    | _ => .next s

/-! ### Write-backs (R141) -/

/-- Whether two write-backs carry one byte. -/
def WriteBack.meets (a b : WriteBack) : Bool := a.bytes.any (fun p => b.bytes.any (fun q => q.1 == p.1))

/-- `WRITEBACK_ACK`: write-back `idx` of a core is performed; write-backs of one byte keep their order. -/
def execWritebackAck (core idx : Nat) (s : State) : Host.Outcome State Fault Refusal :=
  let l := (s.core core).wb
  match l[idx]? with
  | none => .next s
  | some w =>
    if (l.take idx).any (fun o => o.meets w) || (w.held && s.regionFrom.isSome) ||
        (s.rowShut (core / 16 % 16) && w.bytes.any (fun b => crossDie core b.1)) then .next s
    else .next ((s.modCore core (fun k => { k with wb := l.eraseIdx idx })).performWb core w)

/-! ### Atomics at the owner (R109, R143, R151 to R155) -/

/-- Whether the owner performs items of a sender now: its service slot is free with nothing waiting, and its context's
service slot is not frozen; a service task's own items do not wait for it (R143, R158). -/
def State.ownerReady (s : State) (c x sender slot : Nat) : Bool :=
  (s.ctx x).state != .frozen &&
    (((s.slot c 4).life == .free && (s.core c).svc.isEmpty) || (sender == c && slot == 4))
/-- What one atomic does to the bytes at a stored address: the new bytes, the reply value and the flags (Table 7.4). -/
def atomicAt (a : Atomic) (old : List Byte) : List Byte × Word × Flags :=
  let o := leNat old
  if a.op = 0x0D then
    let (x, f) := xaccAdd (BitVec.ofNat 512 o) (Fp.read (fmtOf a.width) (a.operand.toNat % 2 ^ typeBits a.width))
    (leBytes 64 x.toNat, 0, f)
  else if a.op = 0x0E then
    let r := (List.range (lanes a.width)).map (fun i =>
      xaccAdd (BitVec.ofNat 512 (leNat ((old.drop (64 * i)).take 64))) (Fp.read (fmtOf a.width) (lane a.width a.vec i)))
    (r.flatMap (fun p => leBytes 64 p.1.toNat), 0, r.foldl (fun f p => f ||| p.2) 0)
  else
    let (x, f) := amoNew a.op a.width o a.operand.toNat a.compare.toNat
    (leBytes a.width x, BitVec.ofNat 64 o, f)
/-- The reply or acknowledgement of an atomic (R155). -/
def State.replyAtomic (s : State) (m : Msg) (a : Atomic) (v : Word) : State :=
  s.post m.dst (Agent.slot a.core a.slot) (.reply .atomic a.core a.slot a.task m.id v)
/-- A deposit in its landing cycle lands: the value and the full bit (R109). -/
def Slot.land (t : Slot) : Slot :=
  { t with
    mb := Vector.ofFn (fun i : Fin 4 => if t.mbLanding.getLsbD i.val then t.mbNew[i] else t.mb[i])
    mbFull := t.mbFull ||| t.mbLanding, mbLanding := 0 }
/-- A deposit arrives at mailbox `n` of a slot, after any that was still landing. -/
def Slot.deposit (t : Slot) (n : Nat) (x : Word) : Slot :=
  let t := t.land
  { t with mbLanding := BitVec.ofNat 4 (2 ^ (n % 4)), mbNew := t.mbNew.setIfInBounds (n % 4) x }
/-- `AMO.DEP` at its core: its result, and the deposit (R154); a pair receives it on both cores. -/
def State.depositAt (s : State) (c : Nat) (a : Atomic) : Word × State :=
  let j := bits a.la 4 3
  let n := bits a.la 0 2
  let t := s.slot c j
  if t.life = .free ∨ t.ctx.toNat ≠ a.ctx then (2, s)
  else (if (t.land).mbFull.getLsbD n then 1 else 0,
    (s.mirrors c j).foldl (fun s p => s.modSlot p.1 p.2 (fun t => t.deposit n a.operand)) s)
/-- The owner's flag word of a context takes an atomic's flags (R153). -/
def Core.orFlags (k : Core) (x : Nat) (f : Flags) : Core :=
  if f = 0 then k else { k with flagWords := k.flagWords.set x (k.flagWords.getD x 0 ||| f) }
/-- The owner's steps at an uncorrectable error (R155). -/
def State.atomicError (s : State) (m : Msg) (a : Atomic) : State :=
  let c := m.dst / 8
  let s := s.report 3 (if a.glob then a.core else c) a.ctx
  let t : Trap := ⟨Cause.eccUncorrectable, 0, BitVec.ofNat 48 a.la⟩
  (s.sendTrapRec (if a.glob then a.core else c) a.ctx (trapRec s a.core a.slot t 0 a.task true)).replyAtomic m a
    (BitVec.allOnes 64)

/-- The clean copies of the bytes that a `.g` atomic has written leave its sender's L1, so that no later load of the
sender finds an older value there (R136, R139). -/
def State.forget (s : State) (a : Atomic) : State :=
  (s.both a.core a.ctx).foldl (fun s c => s.modCore c (fun k => { k with l1 := k.l1.filter (fun p =>
    p.2.dirty || !(decide (a.la ≤ p.1) && decide (p.1 < a.la + a.bytes))) })) s
/-- `ATOMIC_PERFORM`. The line of a `.g` atomic enters no memory-side cache by it (DESIGN CHOICE, log 24). -/
def execAtomicPerform (msg : Nat) (s : State) : Host.Outcome State Fault Refusal :=
  match s.take msg with
  | none => .next s
  | some (m, s') => match m.body with
    | .atomic a =>
      if a.glob then
        if s'.poisoned a.la a.bytes then .next (s'.atomicError m a)
        else
          let (l, v, _) := atomicAt a (s'.bytes a.la a.bytes)
          .next (((s'.putBytes a.la l).forget a).replyAtomic m a v)
      else
        let c := m.dst / 8
        if s.shut c then .next (s'.turnAway m)
        else if !s'.ownerReady c a.ctx a.core a.slot then .next s
        else if a.op = 0x0F then
          let (v, s') := s'.depositAt c a
          .next (s'.replyAtomic m a v)
        else if a.op = 0x10 then
          let f := (s'.core c).flagWords.getD a.ctx 0
          .next ((s'.modCore c (fun k => { k with flagWords := k.flagWords.del a.ctx })).replyAtomic m a (f.setWidth 64))
        else if s'.unservable c a.ctx a.la a.bytes (msgWho msg) then .next ((s'.leave c (msgWho msg)).atomicError m a)
        else if (s'.missing c a.ctx a.la a.bytes (msgWho msg)).isSome then .next (s.askPage c a.ctx a.la a.bytes (msgWho msg))
        else if (List.range a.bytes).any (fun i => match s'.localByte c a.ctx (a.la + i) with
            | some p => s'.poisoned p 1
            | none => false) then .next ((s'.leave c (msgWho msg)).atomicError m a)
        else
          let (l, v, f) := atomicAt a (s'.localBytes c a.ctx a.la a.bytes)
          .next (((s'.putLocal c a.ctx a.la l).modCore c (fun k => (k.orFlags a.ctx f).leave (msgWho msg))).replyAtomic m a v)
    | _ => .next s

/-! ### Replies to slots -/

/-- `ATOMIC_REPLY`: a reply, or the acknowledgement of a posted item (R155). -/
def execAtomicReply (msg : Nat) (s : State) : Host.Outcome State Fault Refusal :=
  onMessage msg s (fun m s => match m.body with
    | .reply .atomic c j task ask v => s.giveReply c j task ask v
    | _ => none)

/-! ### Services of the firmware column (R105, R391) -/

/-- A service's reply leaves. -/
def State.replySys (s : State) (m : Msg) (c j : Nat) (task : BitVec 32) (v : Word) : State :=
  s.post Agent.firmware (Agent.slot c j) (.reply .sys c j task m.id v)
/-- Whether a context's heartbeat is overdue (R391). -/
def State.missDue (s : State) (x : Nat) : Bool :=
  let k := s.ctx x
  k.hbwatch != 0 && (k.state == .ready || k.state == .quotaHeld || k.state == .faulted || k.state == .draining) &&
    decide (s.dtime.toNat ≥ k.hbLast + k.hbwatch + 1)

/-- `SYS_HEARTBEAT`: a miss that is due is taken first. -/
def execSysHeartbeat (msg : Nat) (s : State) : Host.Outcome State Fault Refusal :=
  onMessage msg s (fun m s => match m.body with
    | .sys 0 x c j task v =>
      let k := s.ctx x
      if k.hbwatch = 0 then some (s.replySys m c j task 1)
      else if s.missDue x then none
      else if k.hbSeq.toNat < v.toNat % 2 ^ 32 then
        some ((s.setCtx x { k with hbSeq := v.setWidth 32, hbLast := s.dtime.toNat, hbAt := s.dtime.setWidth 32 }).replySys m c j task 0)
      else some (s.replySys m c j task 2)
    | _ => none)

/-- `SYS_TRACE`: at most 4,096 values; the reply counts the drops since the last, its own value's among them
(DESIGN CHOICE, log 84). -/
def execSysTrace (msg : Nat) (s : State) : Host.Outcome State Fault Refusal :=
  onMessage msg s (fun m s => match m.body with
    | .sys 1 x c j task v =>
      let k := s.ctx x
      let full := decide (k.trace.length ≥ 4096)
      let drops := min (k.traceDrops + (if full then 1 else 0)) (2 ^ 32 - 1)
      some ((s.setCtx x { k with trace := if full then k.trace else k.trace ++ [v], traceDrops := 0 }).replySys m c j task
        (BitVec.ofNat 64 drops))
    | _ => none)

/-- `SYS_REPLY`. -/
def execSysReply (msg : Nat) (s : State) : Host.Outcome State Fault Refusal :=
  onMessage msg s (fun m s => match m.body with
    | .reply .sys c j task ask v => s.giveAnswer c j task ask v
    | _ => none)

/-! ### Stealing (R188) -/

/-- Whether a context lets a core steal from another. -/
def State.reaches (s : State) (x victim thief : Nat) : Bool :=
  (s.ctx x).has thief && decide (scopeOf victim thief ≤ (s.ctx x).domain + 1)
/-- `offer` of R188. -/
def State.offer (s : State) (v thief : Nat) : Option Item :=
  let k := s.core v
  if (List.range 4).any (fun j => (k.slot j).life == .free) then none
  else
    let e := k.items.filter (fun i => i.kind == .deque && s.reaches i.start.ctx v thief &&
      (s.stateAt thief i.start.ctx).dispatches i.start.prio false)
    e.foldl (fun a i => match a with
      | none => some i
      | some b => if b.start.prio < i.start.prio || (b.start.prio == i.start.prio && decide (i.num < b.num)) then some i else some b) none

/-- `STEAL_PROBE`: the victim serves its own free slots first, then offers. -/
def execStealProbe (msg : Nat) (s : State) : Host.Outcome State Fault Refusal :=
  onMessage msg s (fun m s => match m.body with
    | .stealProbe thief slot victim =>
      let s := s.schedule victim
      let e := s.offer victim thief
      let s := match e with
        | some i => s.dropItem victim i
        | none => s
      some (s.post (Agent.owner victim) (Agent.slot thief slot) (.stealReply thief slot e))
    | _ => none)

/-- A stolen entry becomes pending on the thief for the slot that probed; it takes a place of the thief's deque
(R188; DESIGN CHOICE, log 86). A thief in a boundary commit drops it, as an unbound queue does a record (R73, log 74). -/
def State.takeStolen (s : State) (c j : Nat) (st : Start) : State :=
  let h := s.homeOf c st.ctx
  if s.shut c || s.shut h then s
  else
    let n := (s.core h).itemSeq
    let s := (s.addItem h .deque st).modCore h (fun k =>
      { k with items := k.items.map (fun i => if i.num = n then { i with forSlot := some j } else i) })
    (s.wakeThieves h).schedule h
/-- `STEAL_REPLY`: an entry becomes pending on the thief; else the round goes on, or its retry is set. -/
def execStealReply (msg : Nat) (s : State) : Host.Outcome State Fault Refusal :=
  onMessage msg s (fun m s => match m.body with
    | .stealReply c j e =>
      match e with
      | some i => some ((s.modSlot c j (fun t => { t with stealing := false, probes := [] })).takeStolen c j i.start)
      | none =>
        let t := s.slot c j
        if t.life ≠ .free then some s
        else if (s.pick c j).isSome ∨ !t.stealing then
          some ((s.modSlot c j (fun t => { t with stealing := false, probes := [] })).schedule c)
        else if t.probes = [] then some (s.modSlot c j (fun t => { t with started := s.dtime.toNat + 1 }))
        else some (s.probeNext c j)
    | _ => none)

/-- `STEAL_RETRY`: 1 µs after the last probe of the round has returned. -/
def execStealRetry (core slot : Nat) (s : State) : Host.Outcome State Fault Refusal :=
  let t := s.slot core slot
  if t.life = .free ∧ t.stealing ∧ t.probes = [] ∧ t.started ≠ 0 ∧ t.started + 999 ≤ s.dtime.toNat then
    .next ((s.modSlot core slot (fun t => { t with stealing := false, started := 0 })).schedule core)
  else .next s

/-! ### Spawns, messages and migrations (R163, R192 to R197) -/

/-- Whether a context takes new items. -/
def State.takesItems (s : State) (x : Nat) : Bool :=
  let k := s.ctx x
  !k.stopped && k.state != .free && k.state != .loading

/-- `SPAWNR_ARRIVE`: the entry is pushed, or refused; the reply says which. -/
def execSpawnrArrive (msg : Nat) (s : State) : Host.Outcome State Fault Refusal :=
  onMessage msg s (fun m s => match m.body with
    | .spawnr st c j task =>
      if s.shut (m.dst / 8) then some (s.turnAway m)
      else
      let (s, ok) := s.pushDeque (m.dst / 8) st
      some (s.post m.dst (Agent.slot c j)
        (if ok then .reply .spawnr c j task m.id (st.id.setWidth 64) else .unspawn c j task m.id st.ctx st.join))
    | _ => none)

/-- A counter that a refused spawn has raised falls again, whether or not the spawning slot still waits (R192, R199);
its page is asked for where it is absent. -/
def State.lowerCounter (s s0 : State) (x : Nat) (join : Word) : State :=
  if join = 0 then s
  else
    let o := ownerOf join
    match s.local? o.1 x o.2 with
    | .here f a => (s.modCore o.1 (fun k => k.touch f true)).addCounter a (BitVec.allOnes 64)
    | .absent p => s0.modCore o.1 (fun k => k.request x p)
    | _ => s.report 3 o.1 x
/-- `SPAWNR_REPLY`. -/
def execSpawnrReply (msg : Nat) (s : State) : Host.Outcome State Fault Refusal :=
  onMessage msg s (fun m u => match m.body with
    | .reply .spawnr c j task ask v => u.giveAnswer c j task ask v
    | .unspawn c j task ask x join => (u.giveAnswer c j task ask 0).map (fun v => v.lowerCounter s x join)
    | _ => none)

/-- `AMSG_ARRIVE`: the item waits behind the owner's earlier ones (R143); a posted message is acknowledged. One that
its draining context discards answers its waiting sender with all ones. -/
def execAmsgArrive (msg : Nat) (s : State) : Host.Outcome State Fault Refusal :=
  onMessage msg s (fun m s => match m.body with
    | .amsg st c j task waits =>
      if s.shut (m.dst / 8) then some (s.turnAway m)
      else
      let o := s.homeOf (m.dst / 8) st.ctx
      let ack (s : State) : State := if waits then s else s.post m.dst (Agent.slot c j) (.reply .atomic c j task m.id 0)
      if !s.takesItems st.ctx then
        some ((ack s).answerMsg o (if waits then some (c, j, task, m.id) else none) (BitVec.allOnes 64))
      else
        let (id, s) := s.nextTaskId o
        let item : SvcItem := { num := (s.core o).itemSeq, start := { st with id := id }, answer := if waits then some (c, j, task, m.id) else none }
        some ((ack (s.modCore o (fun k => { k.activate st.ctx with svc := k.svc ++ [item], itemSeq := k.itemSeq + 1 }))).startService o)
    | _ => none)

/-- `AMSG_REPLY`. -/
def execAmsgReply (msg : Nat) (s : State) : Host.Outcome State Fault Refusal :=
  onMessage msg s (fun m s => match m.body with
    | .reply .amsg c j task ask v => s.giveAnswer c j task ask v
    | _ => none)

/-- `MIGRATE_ARRIVE`: the task becomes a pending item. -/
def execMigrateArrive (msg : Nat) (s : State) : Host.Outcome State Fault Refusal :=
  onMessage msg s (fun m s => match m.body with
    | .migrate st k => some (if s.shut (m.dst / 8) then s else s.offerItem (m.dst / 8) (.migration k) st)
    | _ => none)

/-- `JDONE_PERFORM`: one event at the owner (R197). -/
def execJdonePerform (msg : Nat) (s : State) : Host.Outcome State Fault Refusal :=
  match s.take msg with
  | none => .next s
  | some (m, s') => match m.body with
    | .jdone x la c j task =>
      let o := m.dst / 8
      let ack (s : State) : State := s.post m.dst (Agent.slot c j) (.reply .atomic c j task m.id 0)
      if s.shut o then .next (s'.turnAway m)
      else if !s'.ownerReady o x c j then .next s
      else if s'.unservable o x la 8 (msgWho msg) then .next (ack ((s'.leave o (msgWho msg)).report 3 o x))
      else if (s'.missing o x la 8 (msgWho msg)).isSome then .next (s.askPage o x la 8 (msgWho msg))
      else match s'.local? o x la with
        | .here f a =>
          let s' := s'.modCore o (fun k => (k.touch f true).leave (msgWho msg))
          .next (ack ((s'.addCounter a (BitVec.allOnes 64)).wakeCounter o x la a))
        | _ => .next s
    | _ => .next s

/-! ### Traps' targets and tile copies (R246, R249, R384) -/

/-- `TRAP_TARGET_ARRIVE`: the effect at the target, and its reply. -/
def execTrapTargetArrive (msg : Nat) (s : State) : Host.Outcome State Fault Refusal :=
  onMessage msg s (fun m s => match m.body with
    | .trapOp op target arg data x c j task =>
      let (s, v) := s.trapOpAt op x (m.dst / 8) (bits target.toNat 32 3) (target.setWidth 32) arg data
      s.giveAnswer c j task m.id v
    | _ => none)

/-- The bytes of a tile's header and data. -/
def State.tileBytes (s : State) (v : Nat) (t : Tile) : List Byte :=
  (List.range (32 + ((s.cove v).bw.stream t.stream).dataBytes)).map (fun i => s.byte (t.at_ v i))

/-- A tile's bytes go to local addresses of a core, on both cores of a pair, once their pages are there; `none` where
they ask for one. -/
def State.tileCopy (s : State) (c x la who : Nat) (t : Tile) : State × Bool :=
  let l := s.tileBytes (coveOf c) t
  let cores := if (s.ctx x).pair then [c, twinOf c] else [c]
  match cores.find? (fun c => (s.missing c x la l.length who).isSome) with
  | some c => (s.askPage c x la l.length who, false)
  | none => (cores.foldl (fun s c => (s.putLocal c x la l).leave c who) s, true)
/-- The copy of a `TGET` whose task has ended (R383); it is over where its context's local space has gone. -/
def State.lateCopy (s : State) (c j x num la : Nat) : State :=
  let ended (s : State) : State := (s.modCore c (fun k => { k with copies := k.copies.erase (j, x, num, la) })).leaveAll (engineWho 1 j)
  match (s.cove (coveOf c)).bw.tile num with
  | none => ended s
  | some t => match s.tileCopy c x la (engineWho 1 j) t with
    | (u, true) => ended u
    | (u, false) => if (s.ctx x).stopped || s.unservable c x la (s.tileBytes (coveOf c) t).length (engineWho 1 j) then ended s else u
/-- `TGET_COPY_DONE`: the bytes stand at the issuing core, on both cores of a pair, and the reply writes gd. -/
def execTgetCopyDone (core slot : Nat) (s : State) : Host.Outcome State Fault Refusal :=
  let t := s.slot core slot
  match (s.core core).copies.find? (fun p => p.1 == slot) with
  | some (_, x, num, la) => .next (s.lateCopy core slot x num la)
  | none => match t.copying, t.reply with
    | some (num, la, v), some (_, ask) =>
      if (s.ctx t.ctx.toNat).pair ∧ core % 2 = 1 then .next s
      else match (s.cove (coveOf core)).bw.tile num with
        | none => .next s
        | some u => match s.tileCopy core t.ctx.toNat la slot u with
          | (s', true) => .next ((s'.giveReply core slot t.taskid ask v).getD s)
          | (s', false) => .next s'
    | _, _ => .next s

end Sys2Proof.Machine
end

