-- ==== Sys2Proof/Machine/Barrier.lean ====
section
/-! DEFINITION. Barriers and wait queues (16_barrier.md R320 to R334). -/

namespace Sys2Proof.Machine

/-! ### Barriers as data (R320 to R325) -/

/-- The instance of a domain that holds core `c` (Table 16.1). -/
def domainInstance (dom c : Nat) : Nat :=
  match dom with
  | 0 => c / 256 * 16 + c / 16 % 16
  | 1 => c / 256 * 16 + c % 16
  | 2 => c / 256
  | _ => 0
/-- A barrier's number: context, channel, domain, instance. -/
def barrierKey (x ch dom inst : Nat) : Nat := ((x * 4 + ch) * 4 + dom) * 64 + inst
def keyCtx (k : Nat) : Nat := k / 1024
def keyChan (k : Nat) : Nat := k / 256 % 4
def keyDom (k : Nat) : Nat := k / 64 % 4
def keyInst (k : Nat) : Nat := k % 64
/-- The cores of a domain instance. -/
def instanceCores (dom inst : Nat) : List Nat := (List.range 512).filter (fun c => domainInstance dom c == inst)
/-- The participants of an episode that opens now (R322). -/
def State.participants (s : State) (k : Nat) : List Nat :=
  let x := s.ctx (keyCtx k)
  (instanceCores (keyDom k) (keyInst k)).filter (fun c =>
    x.has c && !s.walled c && !(s.core c).parked && (!x.pair || c % 2 == 0))
/-- A barrier, one that nothing has used yet at its first episode, or at the next once its context drains (R325). -/
def State.barrier (s : State) (k : Nat) : Barrier :=
  s.barriers.getD k (if (s.ctx (keyCtx k)).barsDrained then { episode := 1, drained := some 0 } else {})
def Barrier.members (b : Barrier) (s : State) (k : Nat) : List Nat := b.participants.getD (s.participants k)
/-- A core arrives at the episode in force (R323, R325). -/
def State.arrive (s : State) (k c : Nat) : State :=
  let b := s.barrier k
  let p := b.members s k
  let b := { b with participants := some p }
  let b := if b.completing then b
    else if p.isEmpty then { b with completing := true }
    else if !p.contains c || b.flags.contains c then b
    else
      let f := b.flags ++ [c]
      { b with flags := f, completing := p.all (fun q => f.contains q) }
  { s with barriers := s.barriers.set k b }
/-- Arm key of a channel and domain. -/
def armKey (ch dom : Nat) : Nat := 4 * ch + dom
/-- Whether `a` is the episode in force or an earlier one, modulo 2^32 (R328). -/
def armHolds (a e : BitVec 32) : Bool := decide ((e - a).toNat < 2 ^ 31)
/-- The implied scope of a domain (Table 16.1). -/
def domainScope (dom : BitVec 2) : Nat := if dom = 3 then 3 else 2
/-- The barrier that the issuing core names. -/
def State.myBarrier (s : State) (dom ch : BitVec 2) : Nat :=
  barrierKey s.me.ctx.toNat ch.toNat dom.toNat
    (domainInstance dom.toNat (if s.paired then primaryOf s.myCore else s.myCore))

/-! ### Instructions (R327 to R330) -/

/-- Arriving: release unless `.ns`, compared in a pair whose primary's arrival is sent once, then the arm (R331). -/
def arriveNow (dom ch : BitVec 2) (ns : BitVec 1) : M (BitVec 32) := do
  let s ← get
  let k := s.myBarrier dom ch
  let _ ← outbound (BitVec.ofNat 64 (armKey ch.toNat dom.toNat)) []
  if ns = 0 then release (domainScope dom) else pure ()
  let r ← obtained (do
    let s ← get
    set (s.arrive k s.myCore)
    pure [(s.barrier k).episode.setWidth 64])
  let e : BitVec 32 := ((r.head?).getD 0).setWidth 32
  modify (fun s : State => s.modMe (fun t => { t with arms := t.arms.set (armKey ch.toNat dom.toNat) e }))
  pure e

/-- `BARA`. -/
def execBara (o c : BitVec 2) (n : BitVec 1) (d : BitVec 5) (s : State) : Host.Outcome State Fault Refusal :=
  runM (do
    let s ← get
    let k := s.myBarrier o c
    if s.mySlot = 4 then illegal
    else if s.me.arms.find (armKey c.toNat o.toNat) = some (s.barrier k).episode then waitFor .episode
    else
      let e ← arriveNow o c n
      retG d (e.setWidth 64)) s

/-- `BARW`: arrives unless the slot's arm stands, then waits while the armed episode is in force; one that draining
completed answers 1 and acquires nothing. Its timeout counts from its issue (R329). -/
def execBarw (o c : BitVec 2) (n : BitVec 1) (d : BitVec 5) (s : State) : Host.Outcome State Fault Refusal :=
  runM (do
    let s ← get
    let k := s.myBarrier o c
    let ak := armKey c.toNat o.toNat
    if s.mySlot = 4 then illegal
    else
      modify (fun s : State => s.modMe (fun t => { t with started := if t.started = 0 then s.dtime.toNat + 1 else t.started }))
      let _ ← outbound (BitVec.ofNat 64 (armKey c.toNat o.toNat)) []
      let e := (s.barrier k).episode
      let a ← match s.me.arms.find ak with
        | some a => if armHolds a e then pure a else arriveNow o c n
        | none => arriveNow o c n
      let s ← get
      if a = (s.barrier k).episode ∨ s.me.awaiting.contains k then
        modify (fun s : State => s.modMe (fun t => { t with awaiting := if t.awaiting.contains k then t.awaiting else k :: t.awaiting }))
        waitFor .barrier
      else
        let drained := (s.barrier k).drained == some a
        if n = 0 ∧ !drained then acquire (domainScope o) else pure ()
        modify (fun s : State => s.modMe (fun t => { t with arms := t.arms.del ak }))
        retG d (if drained then 1 else 0)) s

/-- The missing set's word `i` (R330). -/
def missingWord (m : List Nat) (i : Nat) : Word :=
  BitVec.ofNat 64 (pack 1 ((List.range 64).map (fun b => if m.contains (64 * i + b) then 1 else 0)))

/-- `BART`. -/
def execBart (o c : BitVec 2) (a d : BitVec 5) (s : State) : Host.Outcome State Fault Refusal :=
  runM (do
    let x ← getG a
    let s ← get
    let b := s.barrier (s.myBarrier o c)
    if x.toNat > 8 then illegal
    else if x = 0 then
      let free := match s.me.arms.find (armKey c.toNat o.toNat) with
        | none => true
        | some e => e != b.episode
      retOnce d (BitVec.ofNat 64 (b.episode.toNat * 2 ^ 32 + (if b.missing.isSome then 2 else 0) + (if free then 1 else 0)))
    else retOnce d (missingWord (b.missing.getD []) (x.toNat - 1))) s

/-! ### Wait queues (R332, R333) -/

/-- The checks of R151 on a wait cell. -/
def cellArg (a : Word) : M (Nat × Nat) := if a.toNat % 16 ≠ 0 then misaligned 16 a else ownerCheck a 16

/-- `WAITQ`: one event at the owner; illegal in the service slot. A slot that is linked waits until woken. -/
def execWaitq (b a d : BitVec 5) (s : State) : Host.Outcome State Fault Refusal :=
  runM (do
    let x ← getG a
    let y ← getG b
    let s ← get
    if s.mySlot = 4 then illegal
    else
      let (c, la) ← cellArg x
      modify (fun s : State => s.modMe (fun t => { t with wq := some (d, s.nextPc) }))
      let go ← outbound x [y]
      let v ← askFor .linked (fun s => if go then
        s.post (Agent.slot s.myCore s.mySlot) (Agent.owner c) (.waitq s.me.ctx.toNat la s.myCore s.mySlot s.me.taskid y) else s)
      if v ≠ 0 then acquire 3 else pure ()
      retG d v) s

/-- `WAKE`: release at `.dev`, then one event at the owner; posted when d = g0. -/
def execWake (b a d : BitVec 5) (s : State) : Host.Outcome State Fault Refusal :=
  runM (do
    let x ← getG a
    let y ← getG b
    let (c, la) ← cellArg x
    let go ← outbound x [y]
    release 3
    if d = 0 then postRoom
    let s ← get
    if go then set (s.post (Agent.slot s.myCore s.mySlot) (Agent.owner c)
      (.wake s.me.ctx.toNat la s.myCore s.mySlot s.me.taskid y))
    if d = 0 then done else replyLater d s.msgSeq) s

end Sys2Proof.Machine
end

