-- ==== Sys2Proof/Machine/Digest.lean ====
section
/-! DEFINITION. The digest SHA-512 that the image and its attestation use (21_boot_power.md R395, R399 name the algorithm; its definition stands outside the spec, log 7). -/

namespace Sys2Proof.Machine

/-! ### The constants, as fractions of roots of primes -/

/-- The greatest number whose `k`th power is at most `x`, of those that keep the bits of `r` above the lowest `n`. -/
def rootBelow (k x r : Nat) : Nat → Nat
  | 0 => r
  | n + 1 => rootBelow k x (if (r + 2 ^ n) ^ k ≤ x then r + 2 ^ n else r) n
/-- The first 64 bits of the fraction of a prime's `k`th root. -/
def rootFraction (k p : Nat) : Word := BitVec.ofNat 64 (rootBelow k (p * 2 ^ (64 * k)) 0 70)
/-- The first eighty primes. -/
def digestPrimes : List Nat :=
  (List.range 410).filter (fun n => 2 ≤ n && (List.range 21).all (fun d => d < 2 || n ≤ d || n % d != 0))

/-! ### Mixing a block into the hash value -/

/-- A word turned right by each distance of `turns`, joined with `rest` by exclusive or. -/
def turned (turns : List Nat) (x rest : Word) : Word :=
  turns.foldl (fun y n => y ^^^ (x >>> n ||| x <<< (64 - n))) rest
/-- What a round works on: the eight working words, and the sixteen words of the message's schedule from this round's on. -/
structure Mixing where
  work : List Word
  next : List Word
  deriving DecidableEq, Repr
/-- A round under a constant: the words move up one place, two of them changed; a word enters the schedule as one leaves. -/
def Mixing.round (m : Mixing) (constant : Word) : Mixing :=
  let work (n : Nat) : Word := (m.work[n]?).getD 0
  let next (n : Nat) : Word := (m.next[n]?).getD 0
  let choice : Word := work 6 ^^^ (work 4 &&& (work 5 ^^^ work 6))
  let majority : Word := (work 0 &&& (work 1 ||| work 2)) ||| (work 1 &&& work 2)
  let into : Word := constant + next 0 + work 7 + choice + turned [14, 18, 41] (work 4) 0
  let entering : Word :=
    next 0 + next 9 + turned [1, 8] (next 1) (next 1 >>> 7) + turned [19, 61] (next 14) (next 14 >>> 6)
  { work := (into + majority + turned [28, 34, 39] (work 0) 0) :: (m.work.take 7).set 3 (work 3 + into)
    next := m.next.drop 1 ++ [entering] }
/-- A hash value with a block of sixteen words mixed in. -/
def mixBlock (constants hash block : List Word) : List Word :=
  List.zipWith (· + ·) hash (constants.foldl Mixing.round { work := hash, next := block }).work

/-! ### Padding and the digest -/

/-- The words of a byte string, eight bytes each, the most significant byte first. -/
def bigWords (l : List Byte) : List Word :=
  (List.range (l.length / 8)).map (fun i => BitVec.ofNat 64 (pack 8 (((l.drop (8 * i)).take 8).reverse.map (·.toNat))))
/-- What is appended to a message of `n` bytes: a one bit, zeros, and the message's length in bits, up to a whole block. -/
def padding (n : Nat) : List Byte :=
  let used : Nat := (n + 17) % 128
  0x80 :: List.replicate ((128 - used) % 128) 0 ++ (leBytes 16 (8 * n)).reverse
/-- The hash value after the first `n` blocks of a message's words. -/
def mixBlocks (constants hash words : List Word) : Nat → List Word
  | 0 => hash
  | n + 1 => mixBlocks constants (mixBlock constants hash (words.take 16)) (words.drop 16) n
/-- The SHA-512 digest of a byte string, its first byte lowest, as it stands in a report (Table 21.3). -/
def sha512 (l : List Byte) : BitVec 512 :=
  let words := bigWords (l ++ padding l.length)
  let hash := mixBlocks (digestPrimes.map (rootFraction 3)) ((digestPrimes.take 8).map (rootFraction 2)) words (words.length / 16)
  BitVec.ofNat 512 (pack 8 (hash.flatMap (fun w => (leBytes 8 w.toNat).reverse.map (·.toNat))))

end Sys2Proof.Machine
end

