-- ==== Sys2Proof/Machine/Hart.lean ====
section
/-! DEFINITION. A RISC-V hart of Headland: RV32I with M, C and Zicsr in machine mode, as its manuals give it (20_headland.md R385; log 12): decoding, what an instruction asks of the memory and of the CSRs outside the hart, and the hart after it. -/

namespace Sys2Proof.Machine

/-! ### Instructions (RISC-V unprivileged ISA 20191213) -/

/-- Operations of `OP` and `OP-IMM`. -/
inductive RvAlu where
  | add | sub | sll | slt | sltu | xor | srl | sra | or | and
  deriving DecidableEq, Repr
/-- Operations of the M extension. -/
inductive RvMul where
  | mul | mulh | mulhsu | mulhu | div | divu | rem | remu
  deriving DecidableEq, Repr
/-- Conditions of a branch. -/
inductive RvCond where
  | eq | ne | lt | ge | ltu | geu
  deriving DecidableEq, Repr
/-- Instructions of a hart; compressed ones are those that they expand to. -/
inductive Rv where
  | lui (rd : BitVec 5) (imm : BitVec 32)
  | auipc (rd : BitVec 5) (imm : BitVec 32)
  | jal (rd : BitVec 5) (off : BitVec 32)
  | jalr (rd rs1 : BitVec 5) (off : BitVec 32)
  | branch (k : RvCond) (rs1 rs2 : BitVec 5) (off : BitVec 32)
  | load (bytes : Nat) (signed : Bool) (rd rs1 : BitVec 5) (off : BitVec 32)
  | store (bytes : Nat) (rs1 rs2 : BitVec 5) (off : BitVec 32)
  | opImm (k : RvAlu) (rd rs1 : BitVec 5) (imm : BitVec 32)
  | op (k : RvAlu) (rd rs1 rs2 : BitVec 5)
  | mul (k : RvMul) (rd rs1 rs2 : BitVec 5)
  | fence | ecall | ebreak | mret | wfi
  | csr (k : CsrKind) (imm : Bool) (rd src : BitVec 5) (num : BitVec 12)
  deriving DecidableEq, Repr

/-! ### Decoding of 32-bit instructions -/

/-- Bits `lo` up of a word, as a number. -/
def rvBits {w : Nat} (x : BitVec w) (lo n : Nat) : Nat := x.toNat / 2 ^ lo % 2 ^ n
def rdOf (w : BitVec 32) : BitVec 5 := w.extractLsb' 7 5
def rs1Of (w : BitVec 32) : BitVec 5 := w.extractLsb' 15 5
def rs2Of (w : BitVec 32) : BitVec 5 := w.extractLsb' 20 5
def immI (w : BitVec 32) : BitVec 32 := (w.extractLsb' 20 12).signExtend 32
def immS (w : BitVec 32) : BitVec 32 := (w.extractLsb' 25 7 ++ w.extractLsb' 7 5).signExtend 32
def immB (w : BitVec 32) : BitVec 32 :=
  (w.extractLsb' 31 1 ++ w.extractLsb' 7 1 ++ w.extractLsb' 25 6 ++ w.extractLsb' 8 4 ++ (0 : BitVec 1)).signExtend 32
def immU (w : BitVec 32) : BitVec 32 := w &&& 0xFFFFF000
def immJ (w : BitVec 32) : BitVec 32 :=
  (w.extractLsb' 31 1 ++ w.extractLsb' 12 8 ++ w.extractLsb' 20 1 ++ w.extractLsb' 21 10 ++ (0 : BitVec 1)).signExtend 32

/-- The operation that a function code names; `alt` is bit 30 where it selects. -/
def rvAlu (f : Nat) (alt : Bool) : RvAlu :=
  match f with
  | 0 => if alt then .sub else .add
  | 1 => .sll
  | 2 => .slt
  | 3 => .sltu
  | 4 => .xor
  | 5 => if alt then .sra else .srl
  | 6 => .or
  | _ => .and
def rvMul (f : Nat) : RvMul :=
  match f with
  | 0 => .mul
  | 1 => .mulh
  | 2 => .mulhsu
  | 3 => .mulhu
  | 4 => .div
  | 5 => .divu
  | 6 => .rem
  | _ => .remu
/-- The instruction that a 32-bit word encodes. -/
def rvWide (w : BitVec 32) : Option Rv :=
  let f := rvBits w 12 3
  let f7 := rvBits w 25 7
  let rd := rdOf w
  let a := rs1Of w
  let b := rs2Of w
  match rvBits w 0 7 with
  | 0x37 => some (.lui rd (immU w))
  | 0x17 => some (.auipc rd (immU w))
  | 0x6F => some (.jal rd (immJ w))
  | 0x67 => if f = 0 then some (.jalr rd a (immI w)) else none
  | 0x63 => match f with
    | 0 => some (.branch .eq a b (immB w))
    | 1 => some (.branch .ne a b (immB w))
    | 4 => some (.branch .lt a b (immB w))
    | 5 => some (.branch .ge a b (immB w))
    | 6 => some (.branch .ltu a b (immB w))
    | 7 => some (.branch .geu a b (immB w))
    | _ => none
  | 0x03 => match f with
    | 0 => some (.load 1 true rd a (immI w))
    | 1 => some (.load 2 true rd a (immI w))
    | 2 => some (.load 4 true rd a (immI w))
    | 4 => some (.load 1 false rd a (immI w))
    | 5 => some (.load 2 false rd a (immI w))
    | _ => none
  | 0x23 => match f with
    | 0 => some (.store 1 a b (immS w))
    | 1 => some (.store 2 a b (immS w))
    | 2 => some (.store 4 a b (immS w))
    | _ => none
  | 0x13 =>
    if f = 1 then (if f7 = 0 then some (.opImm .sll rd a (b.setWidth 32)) else none)
    else if f = 5 then (if f7 = 0 ∨ f7 = 0x20 then some (.opImm (rvAlu 5 (f7 == 0x20)) rd a (b.setWidth 32)) else none)
    else some (.opImm (rvAlu f false) rd a (immI w))
  | 0x33 =>
    if f7 = 0 then some (.op (rvAlu f false) rd a b)
    else if f7 = 0x20 ∧ (f = 0 ∨ f = 5) then some (.op (rvAlu f true) rd a b)
    else if f7 = 1 then some (.mul (rvMul f) rd a b)
    else none
  | 0x0F => if f = 0 then some .fence else none
  | 0x73 =>
    let n := w.extractLsb' 20 12
    match f with
    | 0 => if w = 0x00000073 then some .ecall else if w = 0x00100073 then some .ebreak else if w = 0x30200073 then some .mret
           else if w = 0x10500073 then some .wfi else none
    | 1 => some (.csr .write false rd a n)
    | 2 => some (.csr .set false rd a n)
    | 3 => some (.csr .clear false rd a n)
    | 5 => some (.csr .write true rd a n)
    | 6 => some (.csr .set true rd a n)
    | 7 => some (.csr .clear true rd a n)
    | _ => none
  | _ => none

/-! ### Decoding of 16-bit instructions (C extension) -/

/-- One of registers x8 to x15. -/
def cReg (c : BitVec 16) (lo : Nat) : BitVec 5 := BitVec.ofNat 5 (8 + rvBits c lo 3)
/-- The six-bit signed immediate of `C.ADDI`, `C.LI`, `C.LUI` and `C.ANDI`. -/
def cImm6 (c : BitVec 16) : BitVec 32 := (c.extractLsb' 12 1 ++ c.extractLsb' 2 5).signExtend 32
/-- The offset of `C.LW` and `C.SW`. -/
def cOffW (c : BitVec 16) : BitVec 32 := BitVec.ofNat 32 (rvBits c 5 1 * 64 + rvBits c 10 3 * 8 + rvBits c 6 1 * 4)
/-- The offset of `C.J` and `C.JAL`. -/
def cOffJ (c : BitVec 16) : BitVec 32 :=
  (c.extractLsb' 12 1 ++ c.extractLsb' 8 1 ++ c.extractLsb' 9 2 ++ c.extractLsb' 6 1 ++ c.extractLsb' 7 1 ++ c.extractLsb' 2 1 ++
    c.extractLsb' 11 1 ++ c.extractLsb' 3 3 ++ (0 : BitVec 1)).signExtend 32
/-- The offset of `C.BEQZ` and `C.BNEZ`. -/
def cOffB (c : BitVec 16) : BitVec 32 :=
  (c.extractLsb' 12 1 ++ c.extractLsb' 5 2 ++ c.extractLsb' 2 1 ++ c.extractLsb' 10 2 ++ c.extractLsb' 3 2 ++ (0 : BitVec 1)).signExtend 32
/-- The immediate of `C.ADDI16SP`. -/
def cImmSp (c : BitVec 16) : BitVec 32 :=
  (c.extractLsb' 12 1 ++ c.extractLsb' 3 2 ++ c.extractLsb' 5 1 ++ c.extractLsb' 2 1 ++ c.extractLsb' 6 1 ++ (0 : BitVec 4)).signExtend 32
/-- Quadrant 0. -/
def rvQ0 (c : BitVec 16) : Option Rv :=
  match rvBits c 13 3 with
  | 0 =>
    let imm := rvBits c 7 4 * 64 + rvBits c 11 2 * 16 + rvBits c 5 1 * 8 + rvBits c 6 1 * 4
    if imm = 0 then none else some (.opImm .add (cReg c 2) 2 (BitVec.ofNat 32 imm))
  | 2 => some (.load 4 true (cReg c 2) (cReg c 7) (cOffW c))
  | 6 => some (.store 4 (cReg c 7) (cReg c 2) (cOffW c))
  | _ => none
/-- Quadrant 1. -/
def rvQ1 (c : BitVec 16) : Option Rv :=
  let r : BitVec 5 := c.extractLsb' 7 5
  let a := cReg c 7
  match rvBits c 13 3 with
  | 0 => some (.opImm .add r r (cImm6 c))
  | 1 => some (.jal 1 (cOffJ c))
  | 2 => some (.opImm .add r 0 (cImm6 c))
  | 3 =>
    if cImm6 c = 0 then none
    else if r = 2 then some (.opImm .add 2 2 (cImmSp c)) else some (.lui r (cImm6 c <<< 12))
  | 4 => match rvBits c 10 2 with
    | 0 => if rvBits c 12 1 = 1 then none else some (.opImm .srl a a (BitVec.ofNat 32 (rvBits c 2 5)))
    | 1 => if rvBits c 12 1 = 1 then none else some (.opImm .sra a a (BitVec.ofNat 32 (rvBits c 2 5)))
    | 2 => some (.opImm .and a a (cImm6 c))
    | _ =>
      if rvBits c 12 1 = 1 then none
      else match rvBits c 5 2 with
        | 0 => some (.op .sub a a (cReg c 2))
        | 1 => some (.op .xor a a (cReg c 2))
        | 2 => some (.op .or a a (cReg c 2))
        | _ => some (.op .and a a (cReg c 2))
  | 5 => some (.jal 0 (cOffJ c))
  | 6 => some (.branch .eq a 0 (cOffB c))
  | _ => some (.branch .ne a 0 (cOffB c))
/-- Quadrant 2. -/
def rvQ2 (c : BitVec 16) : Option Rv :=
  let r : BitVec 5 := c.extractLsb' 7 5
  let b : BitVec 5 := c.extractLsb' 2 5
  match rvBits c 13 3 with
  | 0 => if rvBits c 12 1 = 1 then none else some (.opImm .sll r r (b.setWidth 32))
  | 2 => if r = 0 then none else some (.load 4 true r 2 (BitVec.ofNat 32 (rvBits c 2 2 * 64 + rvBits c 12 1 * 32 + rvBits c 4 3 * 4)))
  | 4 =>
    if rvBits c 12 1 = 0 then
      if b ≠ 0 then some (.op .add r 0 b) else if r = 0 then none else some (.jalr 0 r 0)
    else if b ≠ 0 then some (.op .add r r b)
    else if r = 0 then some .ebreak else some (.jalr 1 r 0)
  | 6 => some (.store 4 2 b (BitVec.ofNat 32 (rvBits c 7 2 * 64 + rvBits c 9 4 * 4)))
  | _ => none
/-- Whether an instruction that begins with a parcel is of 32 bits. -/
def rvIsWide (w : BitVec 32) : Bool := rvBits w 0 2 == 3
/-- The instruction of a fetched word, a 16-bit one in its low half. -/
def rvDecode (w : BitVec 32) : Option Rv :=
  match rvBits w 0 2 with
  | 0 => rvQ0 (w.setWidth 16)
  | 1 => rvQ1 (w.setWidth 16)
  | 2 => rvQ2 (w.setWidth 16)
  | _ => rvWide w

/-! ### Arithmetic -/

/-- A value of an `OP` or `OP-IMM` operation. -/
def RvAlu.eval (k : RvAlu) (a b : BitVec 32) : BitVec 32 :=
  let n := rvBits b 0 5
  match k with
  | .add => a + b
  | .sub => a - b
  | .sll => a <<< n
  | .slt => if a.toInt < b.toInt then 1 else 0
  | .sltu => if a.toNat < b.toNat then 1 else 0
  | .xor => a ^^^ b
  | .srl => a >>> n
  | .sra => a.sshiftRight n
  | .or => a ||| b
  | .and => a &&& b
/-- A product or a quotient; a division by zero gives all ones or the dividend, and an overflow wraps. -/
def RvMul.eval (k : RvMul) (a b : BitVec 32) : BitVec 32 :=
  let high (x : Int) : BitVec 32 := BitVec.ofInt 32 (x / 2 ^ 32)
  match k with
  | .mul => a * b
  | .mulh => high (a.toInt * b.toInt)
  | .mulhsu => high (a.toInt * b.toNat)
  | .mulhu => high (a.toNat * b.toNat)
  | .div => if b = 0 then -1 else BitVec.ofInt 32 (a.toInt.tdiv b.toInt)
  | .divu => if b = 0 then -1 else BitVec.ofNat 32 (a.toNat / b.toNat)
  | .rem => if b = 0 then a else BitVec.ofInt 32 (a.toInt.tmod b.toInt)
  | .remu => if b = 0 then a else BitVec.ofNat 32 (a.toNat % b.toNat)
def RvCond.holds (k : RvCond) (a b : BitVec 32) : Bool :=
  match k with
  | .eq => a == b
  | .ne => a != b
  | .lt => decide (a.toInt < b.toInt)
  | .ge => !decide (a.toInt < b.toInt)
  | .ltu => decide (a.toNat < b.toNat)
  | .geu => !decide (a.toNat < b.toNat)

/-! ### Registers, exceptions and CSRs of the hart (RISC-V privileged architecture 20211203) -/

/-- Register `r`; `x0` reads zero. -/
def Hart.rx (h : Hart) (r : BitVec 5) : BitVec 32 := if r = 0 then 0 else h.x[r.toNat]
/-- A write of register `r`; one of `x0` is discarded. -/
def Hart.wx (h : Hart) (r : BitVec 5) (v : BitVec 32) : Hart := if r = 0 then h else { h with x := h.x.set r.toNat v }
/-- An exception or an interrupt: `mepc`, `mcause` and `mtval` say which, the interrupt enable is stacked, and the hart
goes to its handler; an interrupt's is offset in vectored mode. -/
def Hart.trap (h : Hart) (irq : Bool) (code : Nat) (tval : BitVec 32) : Hart :=
  let base := h.mtvec &&& 0xFFFFFFFC
  { h with
    mepc := h.pc, mcause := BitVec.ofNat 32 ((if irq then 2 ^ 31 else 0) + code), mtval := tval, mpie := h.mie, mie := false
    pc := if irq && h.mtvec.getLsbD 0 then base + BitVec.ofNat 32 (4 * code) else base }
/-- Whether the machine external interrupt is taken before the next instruction. -/
def Hart.interrupted (h : Hart) (irq : Bool) : Bool := irq && h.mie && h.meie
/-- A CSR that reads zero in every bit and ignores a write: the event counters and selectors, and `mstatush`. -/
def hartZero (n : Nat) : Bool :=
  n == 0x310 || (decide (0x323 ≤ n) && decide (n ≤ 0x33F)) || (decide (0xB03 ≤ n) && decide (n ≤ 0xB1F)) ||
    (decide (0xB83 ≤ n) && decide (n ≤ 0xB9F)) || (decide (0xF11 ≤ n) && decide (n ≤ 0xF15))
/-- A CSR of the hart as read; `none` where it stands outside the hart, or nowhere. -/
def Hart.csr (h : Hart) (irq : Bool) (n : Nat) : Option (BitVec 32) :=
  let bit (p : Bool) (i : Nat) : Nat := if p then 2 ^ i else 0
  match n with
  | 0x300 => some (BitVec.ofNat 32 (0x1800 + bit h.mpie 7 + bit h.mie 3))
  | 0x301 => some 0x40001104
  | 0x304 => some (BitVec.ofNat 32 (bit h.meie 11))
  | 0x305 => some h.mtvec
  | 0x340 => some h.mscratch
  | 0x341 => some h.mepc
  | 0x342 => some h.mcause
  | 0x343 => some h.mtval
  | 0x344 => some (BitVec.ofNat 32 (bit irq 11))
  | _ => if hartZero n then some 0 else none
/-- A write of a CSR of the hart. -/
def Hart.putCsr (h : Hart) (n : Nat) (v : BitVec 32) : Hart :=
  match n with
  | 0x300 => { h with mie := v.getLsbD 3, mpie := v.getLsbD 7 }
  | 0x304 => { h with meie := v.getLsbD 11 }
  | 0x305 => { h with mtvec := v &&& 0xFFFFFFFD }
  | 0x340 => { h with mscratch := v }
  | 0x341 => { h with mepc := v &&& 0xFFFFFFFE }
  | 0x342 => { h with mcause := v }
  | 0x343 => { h with mtval := v }
  | _ => h
/-- What a CSR instruction makes of the old value. -/
def CsrKind.value (k : CsrKind) (old src : BitVec 32) : BitVec 32 :=
  match k with
  | .write => src
  | .set => old ||| src
  | .clear => old &&& ~~~src
/-- Operand of a CSR instruction. -/
def Hart.csrSrc (h : Hart) (imm : Bool) (src : BitVec 5) : BitVec 32 := if imm then src.setWidth 32 else h.rx src
/-- Whether a CSR instruction writes its CSR, and whether it reads it. -/
def csrWrites (k : CsrKind) (src : BitVec 5) : Bool := k == .write || src != 0
def csrReads (k : CsrKind) (rd : BitVec 5) : Bool := k != .write || rd != 0

/-! ### One instruction -/

/-- What an instruction asks of what stands outside the hart; a misaligned access, and a write of a read-only number,
ask nothing. -/
def Hart.asks (h : Hart) (irq : Bool) (i : Rv) : HartReq :=
  match i with
  | .load n _ _ a off => let p := h.rx a + off; if p.toNat % n = 0 then .load p n else .idle
  | .store n a b off => let p := h.rx a + off; if p.toNat % n = 0 then .store p n (h.rx b) else .idle
  | .csr k imm rd src n =>
    if (csrWrites k src && decide (0xC00 ≤ n.toNat)) || (h.csr irq n.toNat).isSome then .idle
    else .csr n (csrReads k rd) (csrWrites k src) k (h.csrSrc imm src)
  | _ => .idle
/-- What the hart asks for in its next instruction. -/
def Hart.request (h : Hart) (irq : Bool) (word : Option (BitVec 32)) : HartReq :=
  if h.interrupted irq then .idle
  else match word.bind rvDecode with
    | some i => h.asks irq i
    | none => .idle
/-- The value of a load from the bytes that it read. -/
def loadValue (n : Nat) (signed : Bool) (v : BitVec 32) : BitVec 32 :=
  match n, signed with
  | 1, true => (v.setWidth 8).signExtend 32
  | 1, false => v &&& 0xFF
  | 2, true => (v.setWidth 16).signExtend 32
  | 2, false => v &&& 0xFFFF
  | _, _ => v
/-- The hart after instruction `i`, of `len` bytes and encoded by `w`. -/
def Hart.exec (h : Hart) (i : Rv) (w : BitVec 32) (len : BitVec 32) (irq : Bool) (answer : Option (BitVec 32)) : Hart :=
  let on (h : Hart) : Hart := { h with pc := h.pc + len }
  match i with
  | .lui rd v => on (h.wx rd v)
  | .auipc rd v => on (h.wx rd (h.pc + v))
  | .jal rd off => { h.wx rd (h.pc + len) with pc := h.pc + off }
  | .jalr rd a off => { h.wx rd (h.pc + len) with pc := (h.rx a + off) &&& 0xFFFFFFFE }
  | .branch k a b off => { h with pc := h.pc + if k.holds (h.rx a) (h.rx b) then off else len }
  | .load n sg rd a off =>
    let p := h.rx a + off
    if p.toNat % n ≠ 0 then h.trap false 4 p
    else match answer with
      | some v => on (h.wx rd (loadValue n sg v))
      | none => h.trap false 5 p
  | .store n a _ off =>
    let p := h.rx a + off
    if p.toNat % n ≠ 0 then h.trap false 6 p
    else if answer.isSome then on h else h.trap false 7 p
  | .opImm k rd a v => on (h.wx rd (k.eval (h.rx a) v))
  | .op k rd a b => on (h.wx rd (k.eval (h.rx a) (h.rx b)))
  | .mul k rd a b => on (h.wx rd (k.eval (h.rx a) (h.rx b)))
  | .fence => on h
  | .wfi => on h
  | .ecall => h.trap false 11 0
  | .ebreak => h.trap false 3 h.pc
  | .mret => { h with pc := h.mepc, mie := h.mpie, mpie := true }
  | .csr k imm rd src n =>
    if csrWrites k src ∧ 0xC00 ≤ n.toNat then h.trap false 2 w
    else match h.csr irq n.toNat with
      | some old =>
        let h' := h.wx rd old
        on (if csrWrites k src then h'.putCsr n.toNat (k.value old (h.csrSrc imm src)) else h')
      | none => match answer with
        | some old => on (h.wx rd old)
        | none => h.trap false 2 w
/-- The hart after its next instruction: the interrupt, a fetch that faults or a word that encodes none traps. -/
def Hart.next (h : Hart) (g : HartIn) : Hart :=
  if h.interrupted g.irq then h.trap true 11 0
  else match g.word with
    | none => h.trap false 1 g.badAt
    | some w =>
      let len : BitVec 32 := if rvIsWide w then 4 else 2
      let w := if rvIsWide w then w else w &&& 0xFFFF
      match rvDecode w with
      | none => h.trap false 2 w
      | some i => h.exec i w len g.irq g.answer
/-- Whether the next instruction retires: it neither traps nor gives way to the interrupt. -/
def Hart.retires (h : Hart) (g : HartIn) : Bool :=
  !h.interrupted g.irq && (match g.word.bind rvDecode with
    | none => false
    | some .ecall => false
    | some .ebreak => false
    | some (.load n _ _ a off) => decide ((h.rx a + off).toNat % n = 0) && g.answer.isSome
    | some (.store n a _ off) => decide ((h.rx a + off).toNat % n = 0) && g.answer.isSome
    | some (.csr k _ _ src n) =>
      !(csrWrites k src && decide (0xC00 ≤ n.toNat)) && ((h.csr g.irq n.toNat).isSome || g.answer.isSome)
    | some _ => true)

end Sys2Proof.Machine
end

