-- ==== Sys2Proof/Machine/Ebb.lean ====
section
/-! DEFINITION. Translation walks and invalidation, local page transfers, the Ebb engine's jobs, and codebook loads, saves and restores (17_page.md R335 to R355; 13_codebook.md R279 to R284; 09_kernel_task.md R185). -/

namespace Sys2Proof.Machine

/-! ### Walks and invalidation (R340 to R342) -/

/-- `PAGE_WALK_DONE`: a walk completes, filling the TLBs or failing every merged access; hints act on it (R340). With a full
directory, an entry of no stated choice is invalidated first (R341). -/
def execPageWalkDone (cove idx : Nat) (s : State) : Host.Outcome State Fault Refusal :=
  match (s.cove cove).walks[idx]? with
  | none => .next s
  | some w =>
    let drop (s : State) : State :=
      let s := s.modCove cove (fun k => { k with walks := k.walks.eraseIdx idx })
      match (s.cove cove).misses with
      | [] => s
      | m :: l => (s.modCove cove (fun k => { k with misses := l })).enterWalk cove m
    if w.again then .next (s.modCove cove (fun k => { k with walks := k.walks.set idx { w with again := false } }))
    else match s.walk w.ctx w.va with
      | .error st => .next ((w.waiters.foldl (fun s p => s.modSlot p.1 p.2.1 (fun t =>
          if t.life = .stalled .walk then { t with walkFail := some (p.2.2 / 2 ^ 14, st) } else t)) (drop s)).endHints w.hints none)
      | .ok t => .next ((s.makeRoom cove t).getD
          (((drop s).fillTlb cove t (w.waiters.map (·.1) ++ w.hints.map (·.core)).dedup).endHints w.hints (some t)))

/-- Whether a stored address lies in the frames that an entry maps. -/
def State.mapsTo (s : State) (t : TlbEntry) (a : Nat) : Bool :=
  let base := bits t.entry.toNat 14 34 * 2 ^ 14
  (List.range ((t.size + 2 ^ 30 - 1) / 2 ^ 30)).any (fun g =>
    let lo := s.stored (base + g * 2 ^ 30)
    decide (lo ≤ a) && decide (a < lo + min t.size (2 ^ 30)))
/-- Whether a core's dirty bytes of an entry's frames cannot cross the dies now (R156, R356). -/
def State.flushHeld (s : State) (c : Nat) (t : TlbEntry) : Bool :=
  (s.core c).l1.any (fun p => p.2.dirty && s.mapsTo t p.1 && s.heldBack c p.1)
/-- A core's dirty bytes of an entry's frames are written back outside a release, and leave L1 (R146). -/
def State.flushFrames (s : State) (c : Nat) (t : TlbEntry) : State :=
  let hit : FMap L1Byte := (s.core c).l1.filter (fun p => s.mapsTo t p.1)
  let out : List (Nat × L1Byte) := List.filter (fun p : Nat × L1Byte => p.2.dirty) hit
  let s := { s with mem := Mem.puts s.mem (out.map (fun p : Nat × L1Byte => (p.1, p.2.data))) }
  let s := (out.map (fun p : Nat × L1Byte => p.1 / 256)).dedup.foldl (fun s a => s.mscSet a {}) s
  s.modCore c (fun k => { k with l1 := k.l1.filter (fun p => !s.mapsTo t p.1) })
/-- Whether an access of a cove that an entry translated is still to be performed: a write-back, a load or an atomic
(R342). -/
def State.translates (s : State) (v : Nat) (t : TlbEntry) : Bool :=
  ((List.range 8).map (coreAt v)).any (fun c =>
    (s.core c).wb.any (fun w => w.bytes.any (fun p => s.mapsTo t p.1)) ||
    (s.core c).slots.toList.any (fun u => u.loads.any (fun l => !l.cove && l.pend.any (fun p => s.mapsTo t p.2)))) ||
  s.net.any (fun m => match m.body with
    | .atomic a => a.glob && coveOf a.core == v && s.mapsTo t a.la
    | _ => false)
/-- Whether a codebook load or a copy of the cove still goes by a translation that `hit` names, made at its start: its
entry may have left the cove TLB since. -/
def State.keeps (s : State) (v : Nat) (hit : TlbEntry → Bool) : Bool :=
  ((List.range 8).map (coreAt v)).any (fun c =>
    (s.core c).banks.toList.any (fun b => b.loaders.any (fun l => l.pages.any (fun p => hit p.2)))) ||
  (s.cove v).ebb.jobs.any (fun j => j.state == .running && !j.moved && j.pages.any (fun p => hit p.2))
/-- `TLB_INVALIDATE`: a cove drops the entries of a range, writes back, waits for what they translated, and
acknowledges, and its directory lists it for the range no longer; the invalidation ends when every cove has (R342). -/
def execTlbInvalidate (cove idx : Nat) (s : State) : Host.Outcome State Fault Refusal :=
  match s.invals[idx]? with
  | none => .next s
  | some n =>
    if !n.coves.contains cove then .next s
    else
      let hit (t : TlbEntry) : Bool := t.ctx == n.ctx && decide (t.va < n.hi) && decide (n.lo < t.va + t.size)
      let gone := (s.cove cove).tlb.filter hit
      let cores := (List.range 8).map (coreAt cove)
      if gone.any (s.translates cove) || s.keeps cove hit || cores.any (fun c => gone.any (s.flushHeld c)) then .next s
      else
        let s := s.modCove cove (fun k =>
          { k with tlb := k.tlb.filter (fun t => !hit t)
                   walks := k.walks.map (fun w => if w.ctx = n.ctx ∧ n.lo ≤ w.va ∧ w.va < n.hi then { w with again := true } else w) })
        let s := cores.foldl (fun s c =>
          let s := gone.foldl (fun s t => s.flushFrames c t) s
          s.modCore c (fun k => { k with tlb := k.tlb.filter (fun t => !hit t) })) s
        let n' := { n with coves := n.coves.filter (· != cove) }
        .next { s with
          invals := if n'.coves.isEmpty then s.invals.eraseIdx idx else s.invals.set idx n'
          dies := s.dies.mapFinIdx (fun i d _ => if i ≠ cove / 32 then d else { d with dir := d.dir.filterMap (fun e =>
            if e.ctx = n.ctx ∧ e.va < n.hi ∧ n.lo < e.va + e.size then
              (let m : BitVec 32 := e.coves &&& ~~~(BitVec.ofNat 32 (2 ^ (cove % 32)))
               if m = 0 then none else some { e with coves := m })
            else some e) }) }

/-! ### Classes of transfers (R347) -/

/-- The context whose command a frame's transfer is: a fill's own, a spill's requester. -/
def Frame.payer (f : Frame) : Nat := match f.state, f.next with
  | .spilling, some r => r.ctx
  | _, _ => f.ctx
/-- The commands of a frozen context pause at a chunk boundary. -/
def State.paused (s : State) (ctx : Nat) : Bool := (s.ctx ctx).state == .frozen
/-- Whether a page transfer of a class below `n` is due. -/
def State.pageDue (s : State) (v n : Nat) : Bool :=
  ((List.range 8).map (coreAt v)).any (fun c => (s.core c).frames.any (fun f => !s.paused f.2.payer && (match f.2.state with
    | .filling => !f.2.fault && decide (f.2.cls < n)
    | .spilling => decide (1 < n)
    | .resident => false)))

/-! ### The spill area (R343) -/

/-- Virtual address of side `sd` of bank `b` of a core. -/
def Ctx.bankVa (x : Ctx) (c b sd : Nat) : Nat :=
  x.spill + 16384 * (1 + x.coreCount * x.lpages) + 262144 * (16 * x.rank c + 2 * b + sd)
/-- The stored addresses of the sectors of `n` chunks of 1 KiB from virtual address `va`, within a page of the spill area,
as the engine of cove `v` reaches them through a context's tables (R340, R347). -/
def State.sectors (s : State) (v ctx va n : Nat) (k : Acc) : Except JobStop (List Nat) :=
  (s.coveAllows v ctx va k).map (fun t => (List.range (8 * n)).map (fun i => s.through t (va + 128 * i)))
/-- Sectors copied one by one. -/
def State.copySectors (s : State) (l : List (Nat × Nat)) : State :=
  { s with mem := l.foldl (fun m p => Mem.copy m p.1 p.2 128) s.mem }
/-- The sectors of `n` chunks of a frame, from chunk `i`. -/
def State.frameSectors (s : State) (c f i n : Nat) : List Nat :=
  (List.range (8 * n)).map (fun q => poolAt c ((s.core c).frameOff f + 1024 * i + 128 * q))
/-- The sectors of `n` chunks of a frame's page in the spill area, from chunk `i`, with the entries that the engine's walks
bring; none of them may be across a crossing that is held or shut (R156, R356). -/
def State.homeSectors (s : State) (c : Nat) (fr : Frame) (i n : Nat) (k : Acc) : Except JobStop (List Nat × List TlbEntry) := do
  let r ← s.reach (coveOf c) (fun u => u.sectors (coveOf c) fr.ctx ((s.ctx fr.ctx).pageVa c fr.page + 1024 * i) n k)
  if r.1.any (s.heldBack c) then .error .held else .ok r

/-- Local pages that stay pinned on a core: the shared window's and its rings' (R204, R344). -/
def Ctx.fixedPages (x : Ctx) (c : Nat) : List Nat :=
  (List.range ((x.sws + 2 ^ 14 - 1) / 2 ^ 14) ++ (x.binds.filter (fun b : Nat × Queue => b.1 / 16 == c)).flatMap (fun b : Nat × Queue =>
    (List.range ((b.2.ring + 16 * 2 ^ b.2.size - 1) / 2 ^ 14 + 1 - b.2.ring / 2 ^ 14)).map (fun i => b.2.ring / 2 ^ 14 + i))).dedup
/-- The pins of a page as it becomes resident: its own, its retained banks' and, while its context loads, a fixed page's
(R186, R344). -/
def State.newPins (s : State) (c : Nat) (fr : Frame) : Nat :=
  fr.pins + (s.core c).bankPins fr.ctx fr.page +
    (if (s.ctx fr.ctx).state = .loading ∧ ((s.ctx fr.ctx).fixedPages c).contains fr.page then 1 else 0)
/-! ### Codebook banks passing between contexts (R279, R280) -/

/-- `BANK_CLAIM_PASS`: the bank passes to the oldest claim (R279). -/
def execBankClaimPass (core bank : Nat) (s : State) : Host.Outcome State Fault Refusal :=
  let y := (s.core core).bank bank
  match y.holder, y.claims with
  | some d, x :: l =>
    if s.bankIdle core bank d ∧ bank < 8 then
      let out := if (y.side 0).used || (y.side 1).used then some d else none
      .next (s.modCore core (fun k =>
        let k' := k.setBank bank { y.bump with holder := some x, claims := l, since := k.stamp, passing := out }
        { k' with stamp := k.stamp + 1 }))
    else .next s
  | _, _ => .next s
/-- The saved form of a side (R280). -/
def Side.saved (d : Side) (i : Nat) : Saved :=
  { side := i, live := decide (d.state = .live), clean := d.clean, cnt := d.cnt, et := d.et, el := d.el, src := d.src, mode := d.mode }
/-- Where the engine of core `c`'s cove reaches a byte of a context, unless it cannot cross the dies now. -/
def State.engineAt (s : State) (c ctx va : Nat) (k : Acc) : Except JobStop Nat := do
  let a ← s.coveVa (coveOf c) ctx va k
  if s.heldBack c a then .error .held else .ok a
/-- Where the engine reaches `n` bytes of a context from a virtual address. -/
def State.engineRun (s : State) (c ctx va n : Nat) (k : Acc) : Except JobStop (List Nat) :=
  (List.range n).mapM (fun i => s.engineAt c ctx (va + i) k)
/-- Bytes of a saved side. -/
def Saved.bytes (v : Saved) : Nat := sideBytes v.cnt v.et v.el
/-- Units that a saved side fills. -/
def Saved.units (v : Saved) : Nat := (v.bytes + 1023) / 1024
/-- The chunks of 1 KiB of saved sides, in order, each with its side (R347). -/
def savedChunks (l : List Saved) : List (Saved × Nat) := l.flatMap (fun v => (List.range v.units).map (fun k => (v, k)))
/-- Bytes of chunk `k` of a saved side. -/
def Saved.chunkBytes (v : Saved) (k : Nat) : Nat := min 1024 (v.bytes - 1024 * k)
/-- The saved forms of a bank's sides. -/
def Bank.savedSides (y : Bank) : List Saved :=
  (([0, 1].map (fun i => (i, y.side i))).filter (fun p => p.2.used)).map (fun p => p.2.saved p.1)
/-- A bank's sides are saved: its units are free, and a claim that waits is served (R279, R280). -/
def State.endSave (s : State) (c b d : Nat) : State :=
  let y := (s.core c).bank b
  let s := s.modCtx d (fun x => { x with saved := x.saved.set (cbKey c b) y.savedSides })
  let y := { (y.mod 0 Side.emptied).mod 1 Side.emptied with moved := 0 }
  s.modCore c (fun k => k.setBank b (match y.holder, y.claims with
    | none, x :: l => { y with passing := none, holder := some x, claims := l, since := k.stamp }
    | _, _ => { y with passing := none }))
/-- `BANK_SAVE`: the Ebb engine moves the next chunk of the modified sides of a passing bank to the spill area; the last
frees their units. A clean side's save is its descriptor (R280, R347). An uncorrectable error in a side is neither looked
for nor reported: its bytes go as they are (DESIGN CHOICE, log 93). -/
def execBankSave (core bank : Nat) (s : State) : Host.Outcome State Fault Refusal :=
  let y := (s.core core).bank bank
  match y.passing with
  | none => .next s
  | some d =>
    if s.paused (y.holder.getD d) || s.pageDue (coveOf core) 3 then .next s
    else
      let l := savedChunks (y.savedSides.filter (fun v => !v.clean))
      match l[y.moved]? with
      | none => .next (s.endSave core bank d)
      | some (v, k) =>
        match s.reach (coveOf core) (fun u => u.engineRun core d ((u.ctx d).bankVa core bank v.side + 1024 * k) (v.chunkBytes k) .engineWrite) with
        | .error _ => .next s
        | .ok (as, new) => .next <| s.withWalks (coveOf core) new fun s =>
          let s := { s with mem := Mem.puts s.mem (as.mapIdx (fun i a => (a, s.byte (s.sideAddr core (y.side v.side) (1024 * k + i))))) }
          if y.moved + 1 = l.length then s.endSave core bank d
          else s.modCore core (fun c => c.setBank bank { c.bank bank with moved := y.moved + 1 })
/-- Where a saved side's bytes are read: its source, or the spill area. -/
def State.savedVa (s : State) (c b x : Nat) (v : Saved) : Nat := if v.clean then v.src else (s.ctx x).bankVa c b v.side
/-- The units of the sides that a restore fills are taken. -/
def State.beginRestore (s : State) (c b : Nat) (l : List Saved) : State :=
  l.foldl (fun s v => s.modCore c (fun k => k.setBank b ((k.bank b).setSide v.side
    { state := .loading, units := k.freeUnits.take v.units, cnt := v.cnt, et := v.et, el := v.el, clean := v.clean, src := v.src, mode := v.mode }))) s
/-- A restore is over: each side that met no error has its role, and the image waits no longer. -/
def State.endRestore (s : State) (c b x : Nat) (l : List Saved) : State :=
  let s := s.modCtx x (fun k => { k with saved := k.saved.del (cbKey c b) })
  s.modCore c (fun k => k.setBank b (({ l.foldl (fun (y : Bank) v => if (y.side v.side).state = .loading then
    y.mod v.side (fun d => { d with state := if v.live then .live else .standby }) else y) (k.bank b) with moved := 0 } : Bank).bump.settle))
/-- One chunk of a saved side is refilled; an uncorrectable error leaves the side empty and is reported. -/
def State.restoreChunk (s : State) (c b x : Nat) (v : Saved) (k : Nat) (l : List Nat) : State :=
  let d := ((s.core c).bank b).side v.side
  if d.state ≠ .loading then s
  else if l.any (fun a => s.poisoned a 1) then
    (s.modCore c (fun q => q.setBank b ((q.bank b).mod v.side Side.emptied))).report 3 c x
  else { s with mem := Mem.puts s.mem (l.mapIdx (fun i a => (s.sideAddr c d (1024 * k + i), s.byte a))) }
/-- Before a restore that finds too few free units, the bank that was claimed longest ago and that no task names is
saved (R280). -/
def State.vacateOldest (s : State) (core x : Nat) : State :=
  let cand := (List.range 8).filter (fun b => let z := (s.core core).bank b
    match z.holder with
    | some d => d != x && s.bankIdle core b d && ((z.side 0).used || (z.side 1).used)
    | none => false)
  match cand.foldl (fun (a : Option Nat) b => match a with
    | none => some b
    | some o => if ((s.core core).bank b).since < ((s.core core).bank o).since then some b else a) none with
  | some b => s.modCore core (fun k => k.vacate b)
  | none => s
/-- Whether a bank's restore has begun, or finds its units free. -/
def State.restorable (s : State) (core bank : Nat) (l : List Saved) : Bool :=
  ((s.core core).bank bank).moved != 0 || decide ((l.map Saved.units).sum ≤ (s.core core).freeUnits.length)
/-- `BANK_RESTORE`: the next chunk of a saved image is refilled; the first takes the units of its sides (R280, R347). -/
def execBankRestore (core bank : Nat) (s : State) : Host.Outcome State Fault Refusal :=
  let y := (s.core core).bank bank
  match y.holder with
  | none => .next s
  | some x =>
    match (s.ctx x).saved.find (cbKey core bank), y.passing with
    | some l, none =>
      if s.paused x || s.pageDue (coveOf core) 3 then .next s
      else if !s.restorable core bank l then .next (s.vacateOldest core x)
      else match (savedChunks l)[y.moved]? with
        | none => .next (s.endRestore core bank x l)
        | some (v, k) =>
          match s.reach (coveOf core) (fun u => u.engineRun core x (u.savedVa core bank x v + 1024 * k) (v.chunkBytes k) .load) with
          | .error _ => .next s
          | .ok (as, new) => .next <| s.withWalks (coveOf core) new fun s =>
            let s := if y.moved = 0 then s.beginRestore core bank l else s
            let s := s.restoreChunk core bank x v k as
            if y.moved + 1 = (savedChunks l).length then s.endRestore core bank x l
            else s.modCore core (fun c => c.setBank bank { c.bank bank with moved := y.moved + 1 })
    | _, _ => .next s

/-! ### Codebook loads (R283, R284) -/

/-- `CB_LOAD_START`: a waiting `CBLD` whose claim is served and whose shadow is free goes on; as it next issues it checks
its range, takes the units and begins its copy (R283). -/
def execCbLoadStart (core slot : Nat) (s : State) : Host.Outcome State Fault Refusal :=
  let t := s.slot core slot
  match t.cbreq with
  | none => .next s
  | some r =>
    let y := (s.core core).bank r.bank
    if slot < 5 ∧ !t.frozen ∧ (t.life = .stalled .claim ∨ t.life = .stalled .side) ∧
        s.holdsBank core r.bank t.ctx.toNat ∧ !(y.side y.shadow).busy then
      .next (s.modSlot core slot (fun t => { t with life := .running }))
    else .next s

/-- A load among the accesses that wait for a page. -/
def loadWho (c b side : Nat) : Nat := engineWho 3 (16 * c + 2 * b + side)
/-- Why a load's copy cannot end now, or where its bytes are read. -/
def State.loadSource (s : State) (c b ctx : Nat) (l : Loading) : Except JobStop (List Nat) :=
  (List.range l.len).mapM (fun i =>
    let a := l.src + i
    match l.mode with
    | 2 => match l.pages.find? (fun p => p.1 == a / 2 ^ 14) with
      | some p => if s.heldBack c (s.through p.2 a) then .error .held else .ok (s.through p.2 a)
      | none => .error (.fault 2 a)
    | m => s.jobByte (loadWho c b l.side) (coveOf c) ctx m c a .load)
/-- The local pages that a load reads. -/
def Loading.sourcePages (l : Loading) (c : Nat) : List (Nat × Nat) :=
  match l.mode with
  | 0 => (List.range ((l.src + l.len - 1) / 2 ^ 14 + 1 - l.src / 2 ^ 14)).map (fun i => (c, l.src / 2 ^ 14 + i))
  | 1 => ((List.range ((l.src + l.len + 127) / 128 - l.src / 128)).map (fun i =>
      let a := coveAddr c ((l.src / 128 + i) * 128)
      (a.1, a.2 / 2 ^ 14))).dedup
  | _ => []
/-- A job of the Ebb engine changes. -/
def State.modEbbJob (s : State) (v id : Nat) (f : EbbJob → EbbJob) : State :=
  s.modCove v (fun k => { k with ebb := { k.ebb with jobs := k.ebb.jobs.map (fun j => if j.id.toNat = id then f j else j) } })
/-- A CBFETCH ends; it posts no record (R284). -/
def EbbJob.ended (j : EbbJob) (code addr : Nat) : EbbJob :=
  if j.state.final then j
  else { j with state := if code = 0 then .done else .faulted, code := code, addr := addr, recorded := true }
/-- Whether another bank still loads for a CBFETCH (R291). -/
def State.fetching (s : State) (v id : Nat) : Bool :=
  (List.range 8).any (fun q => (s.core (coreAt v q)).banks.toList.any (fun b => b.loaders.any (fun l => l.job == some id)))
/-- The status of a load reaches its slot or its job. -/
def State.loadEnds (s : State) (c : Nat) (l : Loading) (status code addr : Nat) : State :=
  match l.slot, l.job with
  | some j, _ => s.modSlot c j (fun t =>
      if t.taskid = l.task ∧ t.life ≠ .free then t.deliver (BitVec.ofNat 64 status) else t)
  | none, some id =>
    if code = 0 ∧ s.fetching (coveOf c) id then s else s.modEbbJob (coveOf c) id (fun j => j.ended code addr)
  | none, none => s
/-- Whether a page of a context is resident on every core given. -/
def State.residentOn (s : State) (cores : List Nat) (x p : Nat) : Bool :=
  cores.all (fun c => match (s.core c).frameOf x p with
    | some (_, fr) => fr.state == .resident
    | none => false)
/-- Those of an engine's pages that are there, and not pinned for it yet, are pinned. -/
def State.pinNew (s : State) (x : Nat) (old l : List (Nat × Nat)) : State × List (Nat × Nat) :=
  let new := l.filter (fun p => s.residentOn [p.1] x p.2 && !old.contains p)
  (new.foldl (fun s p => s.modCore p.1 (fun k => k.pinPage x p.2)) s, old ++ new)
/-- Pages that an engine has pinned are let go. -/
def State.unpinAll (s : State) (x : Nat) (l : List (Nat × Nat)) : State :=
  l.foldl (fun s p => s.modCore p.1 (fun k => (k.unpinPage x p.2).retryFills)) s
/-- The part of a load that its next chunk of 1 KiB moves (R347). -/
def Loading.part (l : Loading) : Loading := { l with src := l.src + l.pos, len := min 1024 (l.len - l.pos) }
/-- A load in progress changes. -/
def State.setLoading (s : State) (c b : Nat) (l : Loading) : State :=
  s.modCore c (fun k => k.setBank b { k.bank b with loaders := (k.bank b).loaders.map (fun o => if o.side = l.side then l else o) })
/-- The source pages of an engine's next chunk are pinned as they are there, till the load ends (R344). -/
def State.pinLoad (s : State) (c b ctx : Nat) (l : Loading) : State × Loading :=
  let (s, pins) := s.pinNew ctx l.pins (l.part.sourcePages c)
  let l := { l with pins := pins }
  (s.setLoading c b l, l)
/-- A page that a load's chunk meets absent is asked for. Where no frame of its core can be had, the pages there that the
chunk does not read are let go, which the load has pinned itself (log 88). -/
def State.loadAbsent (s : State) (core b ctx : Nat) (l : Loading) (c p : Nat) : State :=
  let s := s.waitPage c ctx p (loadWho core b l.side)
  if (s.core c).fills.any (fun r => r.ctx == ctx && r.page == p) then
    let go := l.pins.filter (fun q => q.1 == c && !(l.part.sourcePages core).contains q)
    (s.unpinAll ctx go).setLoading core b { l with pins := l.pins.filter (fun q => !go.contains q) }
  else s
/-- Whether a store or atomic of a slot is on its way, or one of its loads: a load of its task reads after them (R136,
R138, R139). -/
def State.storing (s : State) (c j : Nat) : Bool :=
  !(s.slot c j).loads.isEmpty || s.net.any (fun m => m.src == Agent.slot c j && match m.body with
    | .coveStore .. => true
    | .coveScatter .. => true
    | .atomic _ => true
    | .jdone .. => true
    | .wake .. => true
    | _ => false)
/-- The load of the other core of a pair that goes with a load of `.c` or `.g` bytes: the primary reads them once for both
(R314). -/
def State.mateOf (s : State) (core bank ctx : Nat) (l : Loading) : Option Loading :=
  if (s.ctx ctx).pair && l.mode != 0 then
    ((s.core (twinOf core)).bank bank).loaders.find? (fun o => o.slot == l.slot && o.job == l.job && o.src == l.src && o.len == l.len && o.pos == l.pos)
  else none
/-- A load is over: its side, its status, its pins. -/
def State.loadOver (s : State) (core bank ctx : Nat) (l : Loading) (f : Side → Side) (status code a : Nat) : State :=
  let s := s.modCore core (fun k => k.setBank bank (((k.bank bank).mod l.side f).loaded l.side).settle)
  ((s.loadEnds core l status code a).unpinAll ctx l.pins).leaveAll (loadWho core bank l.side)
/-- The next chunk of a load moves, if it can, and the last ends it: its state, and whether it has. A task's load of global
bytes finds those in its core's L1, the primary's for a pair, which have no error (R139, R314). -/
def State.loadStep (s : State) (core bank ctx : Nat) (l : Loading) : State × Bool :=
  let mate := s.mateOf core bank ctx l
  if (mate.isSome && core % 2 == 1) || (l.job.isSome && (s.paused ctx || s.pageDue (coveOf core) 3)) || l.slot.any (s.storing core) then (s, false)
  else
    let (s, l) := if l.job.isSome then s.pinLoad core bank ctx l else (s, l)
    let both : List (Nat × Loading) := (core, l) :: (match mate with
      | some o => [(twinOf core, o)]
      | none => [])
    let bad (s : State) (a : Nat) : State × Bool :=
      ((both.foldl (fun s p => s.loadOver p.1 bank ctx p.2 Side.emptied 2 7 a) s).report 3 core ctx, true)
    match s.loadSource core bank ctx l.part with
    | .error (.absent c p) => (s.loadAbsent core bank ctx l c p, false)
    | .error (.fault _ a) => bad s a
    | .error _ => (s, false)
    | .ok as =>
      let near := if (s.ctx ctx).pair then primaryOf core else core
      let hit (a : Nat) : Option Byte := if l.slot.isSome && l.mode == 2 then s.l1Get near a else none
      match (as.zipIdx).find? (fun p => s.poisoned p.1 1 && (hit p.1).isNone) with
      | some p => bad s (l.src + l.pos + p.2)
      | none =>
        let bytes := as.map (fun a => (hit a).getD (s.byte a))
        let s := both.foldl (fun s p =>
          let d := ((s.core p.1).bank bank).side p.2.side
          { s with mem := Mem.puts s.mem (bytes.mapIdx (fun i x => (s.sideAddr p.1 d (l.pos + i), x))) }) s
        let s := (l.part.sourcePages core).foldl (fun s p => s.touchPage p.1 ctx p.2 false) s
        let s := if l.job.isSome then s.meter ctx (Config.ebbEnergy s.free) else s
        if l.pos + as.length = l.len then
          (both.foldl (fun s p => s.loadOver p.1 bank ctx p.2 (fun d => { d with state := .standby }) 0 0 0) s, true)
        else (both.foldl (fun s p => (s.setLoading p.1 bank { p.2 with pos := l.pos + as.length }).leaveAll (loadWho p.1 bank p.2.side)) s, true)
/-- `CB_LOAD_DONE`: the next chunk of a load's copy moves; the last leaves its side standby, or an uncorrectable error
leaves it empty (R283, R347). Of two loads of one bank, the one begun first that can go on does (DESIGN CHOICE, log 93). -/
def execCbLoadDone (core bank : Nat) (s : State) : Host.Outcome State Fault Refusal :=
  match ((s.core core).bank bank).holder with
  | some ctx => .next (((s.core core).bank bank).loaders.foldl (fun (r : State × Bool) l =>
      if r.2 then r else r.1.loadStep core bank ctx l) (s, false)).1
  | none => .next s

/-- The translations of these addresses' pages for an engine of cove `v`, or the first fault (Table 12.3). -/
def State.pageEntries (s : State) (v ctx : Nat) (k : Acc) (l : List Nat) : Except JobStop (List (Nat × TlbEntry)) :=
  l.mapM (fun p => (s.coveAllows v ctx p k).map (fun t => (p / 2 ^ 14, t)))
/-- The first address of a range on each of its pieces of `unit` bytes. -/
def pieceStarts (a n unit : Nat) : List Nat :=
  (List.range ((a + n - 1) / unit + 1 - a / unit)).map (fun i => max a ((a / unit + i) * unit))
/-- A range that an engine reaches whole: the translations of a global one's pages; or its fault, with the least address
that fails. A `COPY`'s global addresses wrap (R251, R349). -/
def State.rangeCheck (s : State) (v ctx loc a n : Nat) (k : Acc) : Except JobStop (List (Nat × TlbEntry)) :=
  let x := s.ctx ctx
  match loc with
  | 0 => if a + n ≤ 2 ^ 14 * x.lpages ∧ a + n ≤ 2 ^ 23 then .ok [] else .error (.fault 2 (max a (2 ^ 14 * x.lpages)))
  | 1 => match (pieceStarts a n 128).find? (fun p => !(decide (p < 8 * x.sws) && x.has (coreAt v (p / 2 ^ 7 % 8)))) with
    | some p => .error (.fault 2 p)
    | none => .ok []
  | _ => s.pageEntries v ctx k ((pieceStarts a n (2 ^ 14)).map (· % 2 ^ 48))
/-- The check of a CBFETCH's source; a global one does not wrap (R284, R335). -/
def State.fetchCheck (s : State) (v ctx mode a n : Nat) : Except JobStop (List (Nat × TlbEntry)) :=
  if mode = 2 then s.pageEntries v ctx .load (pieceStarts a n (2 ^ 14)) else s.rangeCheck v ctx mode a n .load
/-- Whether a core's bank can take a load of a context now: no other context holds it, or its image is in place, and no
load or reader has its shadow. -/
def State.bankOpen (s : State) (c b x : Nat) : Bool :=
  let y := (s.core c).bank b
  (s.holdsBank c b x || (y.holder.isNone && y.passing.isNone && !s.imageWaits c b x)) && !(y.side y.shadow).busy
/-- The cores on which a CBFETCH fills its bank: both of a pair (R291). -/
def State.fetchCores (s : State) (j : EbbJob) (c : Nat) : List Nat :=
  if (s.ctx j.ctx).pair then [primaryOf c, primaryOf c + 1] else [c]
/-- `CBFETCH`: the Ebb engine claims the bank, waits for its shadow, checks the range and starts the copy; in a paired
context on both cores (R284, R291). The code of a load that finds too few units is not stated: a free value. -/
def execCbfetch (cove job : Nat) (s : State) : Host.Outcome State Fault Refusal :=
  match (s.cove cove).ebb.jobs.find? (fun j => j.id.toNat == job) with
  | none => .next s
  | some j => match j.fetch with
    | none => .next s
    | some (c, bank, src, mode, fmt) =>
      if j.state ≠ .queued ∨ s.paused j.ctx ∨ s.pageDue cove 3 then .next s
      else
        let cores := s.fetchCores j c
        let s := cores.foldl (fun s c => s.ownBank c bank j.ctx) s
        if !cores.all (fun c => s.holdsBank c bank j.ctx && s.bankOpen c bank j.ctx) then .next s
        else match s.reach cove (fun u => u.fetchCheck cove j.ctx mode src (formatBytes fmt)) with
          | .error (.fault code a) =>
            let s := cores.foldl (fun s c => s.modCore c (fun k => k.setBank bank ((k.bank bank).mod (k.bank bank).shadow Side.emptied))) s
            .next ((if code = 7 then s.report 3 c j.ctx else s).modEbbJob cove job (fun j => j.ended code a))
          | .error _ => .next s
          | .ok (pages, new) => .next <| s.withWalks cove new fun s =>
            let clean := mode == 2 && pages.all (fun p => !p.2.allows .engineWrite)
            let (s, short) := cores.foldl (fun (r : State × Bool) c =>
              let (s', f) := r.1.beginLoad c ⟨bank, mode, src, fmt, false⟩ none (some job) pages clean
              (s', r.2 || f.isSome)) (s, false)
            let mine (s : State) (c : Nat) : List Loading := ((s.core c).bank bank).loaders.filter (fun l => l.job = some job)
            if short then
              let s := cores.foldl (fun s c => s.modCore c (fun k =>
                k.setBank bank ((mine s c).foldl (fun b l => (b.mod l.side Side.emptied).loaded l.side) (k.bank bank)))) s
              { s with free := s.free + 1 }.modEbbJob cove job (fun j => { j.ended 2 0 with code := Config.freeNat s.free % 32 })
            else
              let s := cores.foldl (fun s c => (mine s c).foldl (fun s l => (s.pinLoad c bank j.ctx l).1) s) s
              s.modEbbJob cove job (fun j => { j with state := .running })

/-! ### Footprints (R185) -/

/-- The local pages of a handler's footprint (R184). -/
def Handler.footPages (h : Handler) : List Nat := (h.pages.flatMap (fun r => (List.range r.2).map (fun k => r.1 + k))).dedup
/-- Whether a pending footprint is still to be asked for: a later one waits for it (R185). -/
def State.unasked (s : State) (f : Footprint) : Bool :=
  let h := (s.ctx f.start.ctx).handler f.start.handler
  !f.asked && !f.served && !(h.pages.isEmpty && h.cbm == 0) && !s.paused f.start.ctx
/-- `EBB_FOOTPRINT`: resident pages of a pending item's footprint are pinned, absent ones requested, in the order in which
items became pending, and its banks claimed; once all are there the item is served, and the core decides (R185). -/
def execEbbFootprint (core item : Nat) (s : State) : Host.Outcome State Fault Refusal :=
  match (s.core core).footprint item with
  | none => .next s
  | some f =>
    let x := f.start.ctx
    if f.served ∨ s.paused x ∨ ((s.core core).earlier item).any s.unasked then .next s
    else
      let cores := s.both core x
      let h := (s.ctx x).handler f.start.handler
      let new := h.footPages.filter (fun p => !f.pins.contains p)
      let here := new.filter (s.residentOn cores x)
      let s := cores.foldl (fun s c => s.modCore c (fun k =>
        let k := here.foldl (fun k p => k.pinPage x p) k
        (new.filter (fun p => !here.contains p)).foldl (fun k p => k.request x p 2) k)) s
      let banks := (List.range 8).filter (fun b => h.cbm.getLsbD b)
      let s := cores.foldl (fun s c => banks.foldl (fun s b => s.ownBank c b x) s) s
      let served := here.length == new.length && cores.all (fun c => banks.all (fun b => s.holdsBank c b x))
      let s := s.modCore core (fun k => k.setFootprint item { f with asked := true, served := served, pins := f.pins ++ here })
      .next (if served then (s.schedule core).startService core else s)

/-! ### Class-4 jobs (R348 to R351) -/

def EbbJob.f (j : EbbJob) (w lo n : Nat) : Nat := bits (((j.d[w]?).getD 0).toNat) lo n
def EbbJob.cmd (j : EbbJob) : Nat := j.f 0 60 4
def EbbJob.len (j : EbbJob) : Nat := j.f 3 0 24
def EbbJob.n1 (j : EbbJob) : Nat := j.f 3 32 16
def EbbJob.n2 (j : EbbJob) : Nat := j.f 3 48 16
def EbbJob.cscope (j : EbbJob) : Nat := if j.fetch.isSome then 1 else j.f 0 55 3
/-- The job among the accesses that wait for a page (R346). -/
def EbbJob.who (j : EbbJob) : Nat := engineWho 2 j.id.toNat
def EbbJob.class4 (j : EbbJob) : Bool := j.fetch.isNone
def EbbJob.finished (j : EbbJob) : Bool := j.state.final && j.recorded
/-- The DESC check (R348, R350, R351). -/
def State.ebbDescOk (s : State) (v : Nat) (j : EbbJob) : Bool :=
  let x := s.ctx j.ctx
  decide (j.cmd ≤ 2) && j.f 0 58 2 != 3 && decide (1 ≤ j.f 0 55 3) && decide (j.f 0 55 3 ≤ 4) && j.f 0 0 41 == 0 &&
    j.f 1 48 4 == 0 && decide (j.f 1 61 3 ≤ 2) && j.n1 != 0 && j.n2 != 0 && j.f 3 24 8 == 0 && j.len != 0 &&
    j.f 6 0 64 == 0 && j.f 7 0 64 == 0 && (j.f 0 58 2 != 0 || (j.n1 == 1 && j.n2 == 1)) && (j.f 0 58 2 != 1 || j.n2 == 1) &&
    (if j.cmd = 0 then
      j.f 2 48 4 == 0 && decide (j.f 2 61 3 ≤ 2) && [1, 2].all (fun w => j.f w 61 3 != 0 || x.has (j.f w 52 9))
     else
      j.f 1 61 3 == 0 && j.f 2 0 64 == 0 && x.has (j.f 1 52 9) && decide (coveOf (j.f 1 52 9) = v) &&
        j.f 1 0 48 % 2 ^ 14 == 0 && decide (j.len ≤ 512) && decide (j.f 1 0 48 / 2 ^ 14 + j.len ≤ x.lpages))
/-- Address of byte `off` of run (i1, i2) on a side: 1 source, 2 destination (R349). -/
def EbbJob.at_ (j : EbbJob) (side i1 i2 off : Nat) : Nat :=
  let st (lo : Nat) : Int := (BitVec.ofNat 32 (j.f (side + 3) lo 32)).toInt
  ((((j.f side 0 48 : Nat) : Int) + i1 * st 0 + i2 * st 32 + off) % 2 ^ 48).toNat
/-- The check of both sides: the translations that its pages have before the first byte moves, or the first fault (R349). -/
def State.copyCheck (s : State) (v : Nat) (j : EbbJob) : Except JobStop (List (Nat × TlbEntry)) :=
  (([1, 2].flatMap (fun w => (List.range j.n2).flatMap (fun i2 => (List.range j.n1).map (fun i1 => (w, i1, i2))))).mapM
    (fun r => s.rangeCheck v j.ctx (j.f r.1 61 3) (j.at_ r.1 r.2.1 r.2.2 0) j.len (if r.1 = 1 then .load else .engineWrite))).map
    (fun l => l.flatten.dedup)
/-- Whether a CBFETCH that is queued can start now. -/
def State.fetchDue (s : State) (v : Nat) (j : EbbJob) : Bool :=
  match j.fetch with
  | some (c, bank, src, mode, fmt) => j.state == .queued && !s.paused j.ctx &&
      (s.fetchCores j c).all (fun c => s.bankOpen c bank j.ctx) &&
      (match s.reach v (fun u => u.fetchCheck v j.ctx mode src (formatBytes fmt)) with
        | .error .held => false
        | _ => true)
  | none => false
/-- Class-3 transfers that are due in a cove: a bank's save, a restore that has its units, a load whose source is there, a
CBFETCH that can start. -/
def State.bankDue (s : State) (v : Nat) : Bool :=
  ((List.range 8).map (coreAt v)).any (fun c => (s.core c).banks.toList.zipIdx.any (fun b =>
    match b.1.passing, b.1.holder with
    | some d, h => !s.paused (h.getD d)
    | none, some x => !s.paused x && ((match (s.ctx x).saved.find (cbKey c b.2) with
        | some l => s.restorable c b.2 l
        | none => false) ||
        b.1.loaders.any (fun l => l.job.isSome && (match s.loadSource c b.2 x l.part with
          | .error (.absent ..) => false
          | .error .held => false
          | _ => true)))
    | none, none => false)) || (s.cove v).ebb.jobs.any (s.fetchDue v)
/-! ### Local pages (Table 17.3, R347) -/

/-- Whether a page is filled for a `FILL` of a context whose quota is spent: it waits unless the job's priority is 40 to 47
(R347). -/
def State.fillHeld (s : State) (v : Nat) (f : Frame) : Bool :=
  f.state == .filling && f.cls == 4 && (s.ctx f.ctx).state == .quotaHeld &&
    !(s.cove v).ebb.jobs.any (fun j => j.ctx == f.ctx && j.state == .running && decide (40 ≤ j.prio))
/-- Whether another page transfer of the same class has begun in a cove: the engine carries out one at a time (R347). -/
def State.pageBegun (s : State) (c f cls : Nat) : Bool :=
  ((List.range 8).map (coreAt (coveOf c))).any (fun d => (s.core d).frames.any (fun x => !(d == c && x.1 == f) &&
    decide (0 < x.2.pos) && !x.2.fault && !s.paused x.2.payer && !s.fillHeld (coveOf c) x.2 &&
    (match x.2.state with
      | .filling => x.2.cls == cls
      | .spilling => cls == 1
      | .resident => false)))
/-- Whether the transfer of a frame waits for one that goes first: of a higher class, or begun before it. -/
def State.pageYields (s : State) (c f : Nat) (fr : Frame) : Bool :=
  let cls := if fr.state = .spilling then 1 else fr.cls
  s.paused fr.payer || s.fillHeld (coveOf c) fr || s.pageDue (coveOf c) cls || (cls == 4 && s.bankDue (coveOf c)) || s.pageBegun c f cls
/-- A frame's fill meets an uncorrectable error (Table 17.3). -/
def State.fillFails (s : State) (c f : Nat) (fr : Frame) : State :=
  (s.modCore c (fun k => { k with frames := k.frames.set f { fr with fault := true } })).report 3 c fr.ctx
/-- The next `n` chunks of a frame's page move, from or to the spill area, and then `f` holds. -/
def State.moveChunks (s : State) (c f : Nat) (fr : Frame) (n : Nat) (after : State → State) : State :=
  let go (l : List Nat) (new : List TlbEntry) (put : State → State) : State :=
    if fr.state = .filling ∧ l.any (fun a => s.poisoned a 128) then s.fillFails c f fr
    else s.withWalks (coveOf c) new (fun s => after (put s))
  match s.homeSectors c fr fr.pos n (if fr.state = .filling then .load else .engineWrite) with
  | .ok (l, new) => go l new (fun s =>
      let here := s.frameSectors c f fr.pos n
      s.copySectors (if fr.state = .filling then l.zip here else here.zip l))
  | .error (.fault 7 _) => if fr.state = .filling then s.fillFails c f fr else s
  | .error _ => s
/-- One chunk of a page moves; its last chunk is moved by the event that ends the transfer. -/
def State.moveChunk (s : State) (core frame : Nat) : State :=
  match (s.core core).frames.find frame with
  | none => s
  | some fr =>
    if fr.state = .resident ∨ fr.fault ∨ 15 ≤ fr.pos ∨ s.pageYields core frame fr then s
    else s.moveChunks core frame fr 1 (fun s => s.modCore core (fun k => { k with frames := k.frames.set frame { fr with pos := fr.pos + 1 } }))
/-- `LOCAL_PAGE_FILL_DONE`: the chunks that remain move, and the page is there; with an uncorrectable error its stalled
accesses trap and an engine's access faults, and then the frame is freed. -/
def execLocalPageFillDone (core frame : Nat) (s : State) : Host.Outcome State Fault Refusal :=
  match (s.core core).frames.find frame with
  | none => .next s
  | some fr =>
    if fr.fault then
      if (s.core core).waits.any (fun w => w.1 == fr.ctx && w.2.1 == fr.page) then .next s
      else .next (s.modCore core (fun k => { k with frames := k.frames.del frame }.retryFills))
    else if fr.state ≠ .filling ∨ s.pageYields core frame fr then .next s
    else .next (s.moveChunks core frame fr (16 - fr.pos) (fun s =>
      s.modCore core (fun k => { k with
        stamp := k.stamp + 1
        frames := k.frames.set frame { fr with
          state := .resident, dirty := false, pos := 0, pins := s.newPins core fr, stamp := k.stamp + 1 } }.retryFills)))

/-- `LOCAL_PAGE_SPILL_DONE`: the last write is acknowledged; the frame goes to its requester, or stays with its page
where an access came meanwhile, and the requester picks another victim. -/
def execLocalPageSpillDone (core frame : Nat) (s : State) : Host.Outcome State Fault Refusal :=
  match (s.core core).frames.find frame with
  | none => .next s
  | some fr =>
    if fr.state ≠ .spilling ∨ s.pageYields core frame fr then .next s
    else .next (s.moveChunks core frame fr (16 - fr.pos) (fun s =>
      s.modCore core (fun k =>
        if fr.demand then
          let kept := { fr with state := .resident, dirty := false, demand := false, next := none, pos := 0,
                                pins := s.newPins core fr, stamp := k.stamp + 1 }
          let k := { k with stamp := k.stamp + 1, frames := k.frames.set frame kept }
          match fr.next with
          | some r => (k.obtain r).getD { k with fills := r :: k.fills }
          | none => k
        else match fr.next with
          | some r => { k with frames := k.frames.set frame r.frame }
          | none => { k with frames := k.frames.del frame }.retryFills)))

/-! ### Steps of class-4 jobs (R347 to R350) -/

/-- The job that the engine runs or takes next: a running one, else by priority and acceptance order (R347). -/
def State.ebbTurn (s : State) (v : Nat) : Option EbbJob :=
  let l := (s.cove v).ebb.jobs.filter (fun j => j.class4 && !j.moved && (j.state == .queued || j.state == .running) &&
    (match (s.ctx j.ctx).state with
      | .frozen => false
      | .quotaHeld => decide (40 ≤ j.prio)
      | _ => true))
  match l.find? (fun j => j.state == .running) with
  | some j => some j
  | none => l.foldl (fun a j => match a with
    | none => some j
    | some b => if b.prio < j.prio then some j else a) none
/-- The transfer of a job ends, with a fault's code and address or none; `EBB_JOB_DONE` ends the job. -/
def State.ebbMoved (s : State) (v : Nat) (j : EbbJob) (code addr : Nat) : State :=
  ((s.unpinAll j.ctx j.pins).leaveAll j.who).modEbbJob v j.id.toNat (fun j =>
    { j with state := .running, moved := true, code := code, addr := addr, pins := [] })
/-- A job's next step, if it is its turn, its command is `cmd` and no transfer of a higher class is due (R347); a bad
descriptor is found before any transfer. -/
def ebbStep (cmd cove job : Nat) (s : State) (f : EbbJob → State) : State :=
  match s.ebbTurn cove with
  | some j =>
    if s.pageDue cove 4 || s.bankDue cove then s
    else if j.id.toNat ≠ job ∨ (j.cmd ≠ cmd ∧ !(cmd = 0 ∧ 2 < j.cmd)) then s
    else if j.state = .queued ∧ !s.ebbDescOk cove j then s.ebbMoved cove j 1 0
    else f j
  | none => s

/-- The core and local address of byte `off` of run `run` on a side, for a local or cove one. -/
def EbbJob.home (j : EbbJob) (v run w off : Nat) : Option (Nat × Nat) :=
  let a := j.at_ w (run % j.n1) (run / j.n1) off
  match j.f w 61 3 with
  | 0 => some (j.f w 52 9, a)
  | 1 => some (coreAt v (a / 2 ^ 7 % 8), a / 2 ^ 10 * 2 ^ 7 + a % 2 ^ 7)
  | _ => none
/-- What stands for a byte through the job, its stored address `x`: a local byte keeps its place when its page moves. -/
def EbbJob.key (j : EbbJob) (v run w off x : Nat) : Nat :=
  match j.home v run w off with
  | some (c, la) => 2 ^ 60 + c * 2 ^ 48 + la
  | none => x
/-- What the job has written at a place: the byte before the job, and the run that wrote it last. -/
def EbbJob.wrote (j : EbbJob) (p : Nat) : Option (Byte × Nat) := (j.undo.find? (fun q => q.1 == p)).map (fun q => q.2)
/-- The byte that run `r` copies from place `p` stored at `x`: where the job has written there, freely the byte before the
job or the one that another run wrote (R349; free value, log 17). -/
def EbbJob.source (j : EbbJob) (s : State) (r p x i : Nat) : Byte :=
  match j.wrote p with
  | none => s.byte x
  | some (old, w) => if w = r ∨ Config.freeNat (s.free + i) % 2 = 0 then old else s.byte x
/-- Whether `q`, which another run of the job has written, freely keeps that run's byte: runs have no order (R349). -/
def EbbJob.keeps (j : EbbJob) (s : State) (r q i : Nat) : Bool :=
  match j.wrote q with
  | none => false
  | some (_, w) => w != r && Config.freeNat (s.free + i) / 2 % 2 == 1
/-- The bytes that run `r` writes, by place and stored address, of pairs of a destination and a source. -/
def EbbJob.copied (j : EbbJob) (s : State) (r : Nat) (l : List ((Nat × Nat) × Nat × Nat)) : List ((Nat × Nat) × Byte) :=
  l.zipIdx.filterMap (fun e => if j.keeps s r e.1.1.1 e.2 then none else some (e.1.1, j.source s r e.1.2.1 e.1.2.2 e.2))
/-- What the job has written once run `r` has written at these places too. -/
def EbbJob.undone (j : EbbJob) (s : State) (r : Nat) (l : List (Nat × Nat)) : List (Nat × Byte × Nat) :=
  (j.undo.map (fun q => if l.any (fun p => p.1 == q.1) then (q.1, q.2.1, r) else q)) ++
    (l.filter (fun p => (j.wrote p.1).isNone)).map (fun p => (p.1, s.byte p.2, r))

/-- Where byte `off` of run `run` stands on a side: a global one through the translation made at the start. -/
def EbbJob.place (j : EbbJob) (s : State) (v run w off : Nat) : Except JobStop Nat :=
  let a := j.at_ w (run % j.n1) (run / j.n1) off
  if j.f w 61 3 = 2 then match j.pages.find? (fun p => p.1 == a / 2 ^ 14) with
    | some p => if s.heldBack (coreAt v 0) (s.through p.2 a) then .error .held else .ok (s.through p.2 a)
    | none => .error (.fault 2 a)
  else s.jobByte j.who v j.ctx (j.f w 61 3) (j.f w 52 9) a (if w = 1 then .load else .engineWrite)
/-- The local pages of a side that the chunk of `n` bytes at `off` moves. -/
def EbbJob.sidePages (j : EbbJob) (v run off n w : Nat) : List (Nat × Nat) :=
  ((List.range n).filterMap (fun k => (j.home v run w (off + k)).map (fun p => (p.1, p.2 / 2 ^ 14)))).dedup
/-- The local pages of a job's chunk that are there are pinned till the job ends (R344). -/
def State.pinChunk (s : State) (v : Nat) (j : EbbJob) (l : List (Nat × Nat)) : State × EbbJob :=
  let (s, pins) := s.pinNew j.ctx j.pins l
  (s.modEbbJob v j.id.toNat (fun k => { k with pins := pins }), { j with pins := pins })
/-- A page that a job's chunk meets absent is asked for. Where no frame of its core can be had, the pages there that the
chunk does not move are let go, which the job has pinned itself (log 88). -/
def State.chunkAbsent (s : State) (v : Nat) (j : EbbJob) (need : List (Nat × Nat)) (c p : Nat) : State :=
  let s := s.waitPage c j.ctx p j.who
  if (s.core c).fills.any (fun r => r.ctx == j.ctx && r.page == p) then
    let go := j.pins.filter (fun q => q.1 == c && !need.contains q)
    (s.unpinAll j.ctx go).modEbbJob v j.id.toNat (fun k => { k with pins := k.pins.filter (fun q => !go.contains q) })
  else s
/-- `EBB_COPY`: a copy's pages are translated and checked, or a chunk of at most 1 KiB moves (R347, R349). -/
def execEbbCopy (cove job : Nat) (s : State) : Host.Outcome State Fault Refusal :=
  .next (ebbStep 0 cove job s (fun j =>
    if j.state = .queued then
      match s.reach cove (fun u => u.copyCheck cove j) with
      | .error (.fault c a) => (if c = 7 then s.report 3 j.core j.ctx else s).ebbMoved cove j c a
      | .error _ => s
      | .ok (pages, new) => s.withWalks cove new fun s =>
        s.modEbbJob cove job (fun j => { j with state := .running, pages := pages })
    else
      let run := j.pos / j.len
      let off := j.pos % j.len
      let n := min 1024 (j.len - off)
      let need := (j.sidePages cove run off n 1 ++ j.sidePages cove run off n 2).dedup
      let (s, j) := s.pinChunk cove j need
      let place (w k : Nat) : Except JobStop (Nat × Nat) :=
        (j.place s cove run w (off + k)).map (fun x => (j.key cove run w (off + k) x, x))
      match (do
        let a ← (List.range n).mapM (place 1)
        let b ← (List.range n).mapM (place 2)
        match (a.zipIdx).find? (fun p => s.poisoned p.1.2 1) with
        | some p => .error (.fault 7 (j.at_ 1 (run % j.n1) (run / j.n1) (off + p.2)))
        | none => .ok (a, b) : Except JobStop (List (Nat × Nat) × List (Nat × Nat))) with
      | .error (.absent c p) => s.chunkAbsent cove j need c p
      | .error (.fault c a) => (if c = 7 then s.report 3 j.core j.ctx else s).ebbMoved cove j c a
      | .error _ => s
      | .ok (a, b) =>
        let cells : List ((Nat × Nat) × Byte) := j.copied s run (b.zip a)
        let undo := j.undone s run (cells.map (·.1))
        let s := ({ s with mem := Mem.puts s.mem (cells.map (fun e : (Nat × Nat) × Byte => (e.1.2, e.2))), free := s.free + n }).leaveAll j.who
        let touch (s : State) (w : Nat) : State :=
          (j.sidePages cove run off n w).foldl (fun s p => s.touchPage p.1 j.ctx p.2 (w == 2)) s
        let s := (touch (touch s 1) 2).meter j.ctx (Config.ebbEnergy s.free)
        let ends := decide (j.pos + n = j.len * j.n1 * j.n2)
        (if ends then s.unpinAll j.ctx j.pins else s).modEbbJob cove job (fun j => { j with
          pos := j.pos + n, undo := undo, moved := ends, pins := if ends then [] else j.pins
          lines := if j.f 2 61 3 = 2 then (j.lines ++ b.map (fun x : Nat × Nat => x.2 / 256)).dedup else j.lines })))

/-- `EBB_FILL`: the next page of a `FILL` is there, or is requested (R350). -/
def execEbbFill (cove job : Nat) (s : State) : Host.Outcome State Fault Refusal :=
  .next (ebbStep 1 cove job s (fun j =>
    let c := j.f 1 52 9
    let p := j.f 1 0 48 / 2 ^ 14 + j.pos
    match s.local? c j.ctx (p * 2 ^ 14) with
    | .here _ _ => ((s.leaveAll j.who).meter j.ctx (Config.ebbEnergy s.free)).modEbbJob cove job (fun j =>
        { j with state := .running, pos := j.pos + 1, moved := decide (j.pos + 1 = j.len) })
    | .absent p => (s.modEbbJob cove job (fun j => { j with state := .running })).waitPage c j.ctx p j.who 4
    | .failed _ => s.ebbMoved cove j 7 (p * 2 ^ 14)
    | .outside => s.ebbMoved cove j 2 (p * 2 ^ 14)))

/-- `EBB_SPILL`: the next page of a `SPILL`, if resident and dirty, goes to the spill area by chunks of 1 KiB, and is clean
once copied, unless stored to meanwhile; `pos` counts bytes (R347, R350). -/
def execEbbSpill (cove job : Nat) (s : State) : Host.Outcome State Fault Refusal :=
  .next (ebbStep 2 cove job s (fun j =>
    let c := j.f 1 52 9
    let p := j.f 1 0 48 / 2 ^ 14 + j.pos / 2 ^ 14
    let i := j.pos % 2 ^ 14 / 1024
    let on (s : State) (n : Nat) (pins : List (Nat × Nat)) : State := s.modEbbJob cove job (fun j =>
      { j with state := .running, pos := j.pos + n, pins := pins, moved := decide (j.pos + n = 2 ^ 14 * j.len) })
    match (s.core c).frameOf j.ctx p with
    | some (f, fr) =>
      if fr.state = .resident ∧ (fr.dirty ∨ 0 < i) then
        (if s.poisoned (poolAt c ((s.core c).frameOff f + 1024 * i)) 1024 then (s.report 3 c j.ctx).ebbMoved cove j 7 (p * 2 ^ 14 + 1024 * i)
         else match s.homeSectors c fr i 1 .engineWrite with
          | .error (.fault k _) => s.ebbMoved cove j k (p * 2 ^ 14 + 1024 * i)
          | .error _ => s
          | .ok (l, new) => s.withWalks cove new fun s =>
            let s := (s.copySectors ((s.frameSectors c f i 1).zip l)).touchPage c j.ctx p false
            let s := s.meter j.ctx (Config.ebbEnergy s.free)
            if i = 0 then on (s.modCore c (fun k => match k.frames.find f with
                | some fr => { k with frames := k.frames.set f { fr with copied := true, pins := fr.pins + 1 } }
                | none => k)) 1024 [(c, p)]
            else if i = 15 then on ((s.modCore c (fun k => match k.frames.find f with
                | some fr => { k with frames := k.frames.set f { fr with dirty := fr.dirty && !fr.copied, copied := false } }
                | none => k)).unpinAll j.ctx j.pins) 1024 []
            else on s 1024 j.pins)
      else on s (2 ^ 14) []
    | none => on s (2 ^ 14) []))

/-- A job's record is accepted or rejected, or none is due. -/
def State.ebbOver (s : State) (v id : Nat) : State :=
  match (s.cove v).ebb.jobs.find? (fun j => j.id.toNat == id) with
  | some j => (s.modEbbJob v id (fun j => { j with recorded := true })).sendEngineTides v j.ctx
  | none => s
/-- `EBB_JOB_DONE`: a class-4 job ends done or faulted and sends its JOBDONE record (R351). -/
def execEbbJobDone (cove job : Nat) (s : State) : Host.Outcome State Fault Refusal :=
  match (s.cove cove).ebb.jobs.find? (fun j => j.id.toNat == job) with
  | none => .next s
  | some j =>
    if !j.class4 ∨ !j.moved ∨ j.state.final then .next s
    else
      let s := if j.code = 0 then s.tagLines j.lines j.cscope j.core j.ctx else s
      let s := s.modEbbJob cove job (fun j => { j with state := if j.code = 0 then .done else .faulted })
      if j.f 0 41 1 = 1 then .next (s.ebbOver cove job)
      else
        let q := j.f 0 51 4
        let c := j.f 0 42 9
        let pay := j.id.toNat + (if j.code = 0 then 0 else 2 ^ 32) + j.code * 2 ^ 35
        let r : Rec := ⟨mkRec j.stamp (s.srcId 2 (4 * cove + 2)) 4 (if j.late then 1 else 0) pay, []⟩
        .next ((s.modEbbJob cove job (fun j => { j with sent := true })).post (Agent.engine cove 2) (Agent.queue c q)
          (.record r j.ctx (.queue c q) (.ebb cove job) false))
/-- The context enters draining: queued jobs are dropped, and the running one stops, with no record (R351). -/
def State.drainEbb (s : State) (v x : Nat) : State :=
  let s := ((s.cove v).ebb.jobs.filter (fun j => j.ctx == x && !j.state.final)).foldl (fun s j => (s.unpinAll x j.pins).leaveAll j.who) s
  (s.modCove v (fun k => { k with ebb := { k.ebb with
    jobs := k.ebb.jobs.filter (fun j => !(j.ctx == x && !j.state.final)) } })).sendEngineTides v x

/-! ### Instructions (R284, R353, R354) -/

/-- A command enters the engine's queue: its identifier. -/
def State.enqueueEbb (s : State) (v : Nat) (j : EbbJob) : Word × State :=
  let e := (s.cove v).ebb
  let id := v * 2 ^ 26 + e.seq
  let j := { j with id := BitVec.ofNat 32 id }
  (BitVec.ofNat 64 id, (s.modCove v (fun k => { k with ebb := { k.ebb with
    jobs := k.ebb.jobs.filter (fun o => o.id != j.id) ++ [j], seq := if e.seq + 1 ≥ 2 ^ 26 then 1 else e.seq + 1 } })).sendEngineTides v j.ctx)
/-- A job as the issuing task submits it. -/
def State.newEbb (s : State) (d : List Word) : EbbJob :=
  { id := 0, d := d, ctx := s.me.ctx.toNat, stamp := s.me.tsinh, late := s.lateNow, prio := s.me.prio.toNat,
    task := s.me.taskid, core := s.myCore }

/-- `EBQ`. -/
def execEbq (a d : BitVec 5) (s : State) : Host.Outcome State Fault Refusal :=
  runM (do
    let ga ← getG a
    let (w, _) ← descriptor ga 64
    let r ← obtained (fun s =>
      let v := coveOf s.myCore
      if ((s.cove v).ebb.jobs.filter (fun j => j.class4 && !j.finished)).length ≥ 32 ∨ s.myCtx.state = .draining then .ok ([0], s)
      else
        let (id, s) := s.enqueueEbb v (s.newEbb w)
        .ok ([id], s))
    retG d (r.headD 0)) s
/-- `CBLDA`: the load goes to the Ebb engine as a CBFETCH command. -/
def execCblda (m : BitVec 2) (k : BitVec 3) (b a d : BitVec 5) (s : State) : Host.Outcome State Fault Refusal :=
  runM (do
    bankArg k
    let q ← loadArgs m k b a
    release 1
    let _ ← outbound (BitVec.ofNat 64 q.src) [BitVec.ofNat 64 q.fmt]
    let r ← obtained (fun s =>
      if s.myCtx.state = .draining then .ok ([0], s)
      else
        let (id, s) := s.enqueueEbb (coveOf s.myCore) { s.newEbb [] with fetch := some (s.myCore, q.bank, q.src, q.mode, q.fmt) }
        .ok ([id], s))
    retG d (r.headD 0)) s
/-- The status of R354. -/
def ebbStatus (j : Option EbbJob) : Word :=
  match j with
  | none => 7
  | some j => BitVec.ofNat 64 ((match j.state with
    | .queued => 0
    | .admitted => 0
    | .running => 2
    | .draining => 2
    | .done => 4
    | .faulted => 5
    | .cancelled => 7) + (if j.state.final then j.code * 2 ^ 3 else 0))
def State.myEbb (s : State) (id : BitVec 32) : Option EbbJob :=
  (s.cove (coveOf s.myCore)).ebb.jobs.find? (fun j => j.id == id && j.ctx == s.me.ctx.toNat)
/-- `EBWAIT`. -/
def execEbwait (a d : BitVec 5) (s : State) : Host.Outcome State Fault Refusal :=
  runM (do
    let id ← jobArg a
    let s ← get
    if s.mySlot = 4 then illegal
    else
      let r ← obtained (fun s => match s.myEbb id with
        | some j =>
          if j.state.final then .ok ([ebbStatus (some j), BitVec.ofNat 64 j.cscope, BitVec.ofNat 64 j.addr], s)
          else .error (.wait .ebb s)
        | none => .ok ([7, 0, 0], s))
      let st := r.headD 0
      if st.toNat % 8 = 5 then stopTrap ⟨Cause.jobFault, st, ((r[2]?).getD 0).setWidth 48⟩
      else
        if st.toNat % 8 = 4 then acquire ((r[1]?).getD 0).toNat else pure ()
        retG d st) s
/-- `EBWAIT.NW`. -/
def execEbwaitNw (a d : BitVec 5) (s : State) : Host.Outcome State Fault Refusal :=
  runM (do
    let id ← jobArg a
    let r ← obtained (fun s => .ok ([ebbStatus (s.myEbb id)], s))
    retG d (r.headD 0)) s

end Sys2Proof.Machine
end

