-- ==== Sys2Proof/Machine/Record.lean ====
section
/-! DEFINITION. Records at their queues, windows, tidemarks, emit outcomes and timers (10_queue.md R205 to R226; 19_trap.md R374; 18_link.md R365). -/

namespace Sys2Proof.Machine

/-! ### Context fault events (R161, Table 8.2) -/

/-- A fault event of a context: it becomes faulted and Headland is told; while frozen it is recorded. -/
def State.faultEvent (s : State) (core x : Nat) : State :=
  let k := s.ctx x
  match k.state with
  | .ready => (s.setCtx x { k with state := .faulted }).report 8 core x
  | .quotaHeld => (s.setCtx x { k with state := .faulted }).report 8 core x
  | .frozen => s.setCtx x { k with faultRecorded := true }
  | _ => s

/-! ### Rings (R205, R314) -/

def sat32 (n : Nat) : BitVec 32 := BitVec.ofNat 32 (min n (2 ^ 32 - 1))
def bump (x : BitVec 32) : BitVec 32 := sat32 (x.toNat + 1)
/-- The cores that hold a context's queue on core `c`: both of a pair. -/
def State.queueCores (s : State) (c x : Nat) : List Nat :=
  if (s.ctx x).pair then [primaryOf c, primaryOf c + 1] else [c]
/-- A change of a queue, on each core that holds it. -/
def State.modQueue (s : State) (c q x : Nat) (f : Queue → Queue) : State :=
  (s.queueCores c x).foldl (fun s d => match (s.core d).queues.find q with
    | some u => s.modCore d (fun k => { k with queues := k.queues.set q (f u) })
    | none => s) s
/-- Free entries of a queue: in a pair, of the ring that has fewer. -/
def State.roomOf (s : State) (c q x : Nat) : Nat :=
  ((s.queueCores c x).map (fun d => match (s.core d).queues.find q with
    | some u => u.free
    | none => 0)).foldl min (2 ^ 13)
def Rec.entries (r : Rec) : List (BitVec 128) := if r.isLong then (r.head :: r.ext ++ [0, 0, 0]).take 4 else [r.head]
/-- A record is written at the tail, which then moves; in dispatch mode it becomes a pending item (R205, R209). -/
def State.place (s : State) (c q x : Nat) (r : Rec) : State :=
  let l := r.entries
  let h := s.homeOf c x
  match (s.core h).queues.find q with
  | none => s
  | some u0 =>
    let s := (s.queueCores c x).foldl (fun s d => match (s.core d).queues.find q with
      | some u =>
        let s := (l.mapIdx (fun i e => (i, e))).foldl (fun s p => s.putBytes (s.ringAt d u (u.tail + p.1)) (leBytes 16 p.2.toNat)) s
        s.modCore d (fun k => { k with queues := k.queues.set q { u with tail := (u.tail + l.length) % 2 ^ (u.size + 1) } })
      | none => s) s
    if u0.poll then s
    else
      let hd := (s.ctx x).handler u0.handler
      let (id, s) := s.nextTaskId h
      s.offerItem h (.record q u0.tail l.length)
        { handler := u0.handler, ctx := x, prio := hd.prio, limit := hd.budget, id := id }

/-! ### Windows (R216 to R218) -/

/-- Windows from the one that ends at `e` whose end a tidemark has reached. -/
def windowsReached (tm e : BitVec 48) (wlen : Nat) : Nat := if tsBefore tm e then 0 else (tm - e).toNat / wlen + 1
/-- Closes of `n` windows from `k`, at most 4,096 to a record, in order. -/
def closeRuns (k : Int) (n : Nat) (late : Bool) (mask : Word) : List (Int × Nat × Bool × Word) :=
  (List.range ((n + 4095) / 4096)).map (fun i =>
    let m := min 4096 (n - 4096 * i)
    (k + 4096 * i + m - 1, m, late, mask))
/-- Windows that close normally now: every live subscribed tidemark has reached their ends. -/
def normalCount (x : Ctx) (subs : Word) (tm : FMap (BitVec 48)) (wlen wphase : Nat) (k : Int) : Nat :=
  match (x.liveSubs subs).map (fun i => windowsReached (tm.getD i 0) (windowEnd wlen wphase k) wlen) with
  | [] => 0
  | a :: l => l.foldl min a
/-- Windows without a live subscribed entry that `DTIME` has ended (R217). -/
def endedCount (t : Nat) (wlen wphase : Nat) (k : Int) : Nat := ((t - windowEndTime wlen wphase k).fdiv wlen + 1).toNat
/-- Windows that close by timeout in one record: due, and with the laggards of the first. -/
def timeoutCount (x : Ctx) (subs : Word) (tm : FMap (BitVec 48)) (wlen wphase stale t : Nat) (k : Int) : Nat :=
  let e := windowEnd wlen wphase k
  let due := ((t - stale - windowEndTime wlen wphase k).fdiv wlen + 1).toNat
  ((x.liveSubs subs).filter (fun i => !tsBefore (tm.getD i 0) e)).foldl
    (fun a i => min a (windowsReached (tm.getD i 0) e wlen)) (min due 4096)
/-- The mask of laggards. -/
def lagMask (l : List Nat) : Word := BitVec.ofNat 64 ((l.map (fun i => 2 ^ i)).sum)
/-- `n` windows of a queue close. -/
def Queue.close (u : Queue) (n : Nat) (late : Bool) (mask : Word) : Queue :=
  if n = 0 then u
  else { u with closes := u.closes ++ closeRuns u.window n late mask, window := u.window + n
                lastClosed := some (windowEnd u.wlen u.wphase (u.window + n - 1)) }
/-- A queue's windows that close normally, with no laggard. -/
def Queue.closeNormal (u : Queue) (x : Ctx) : Queue :=
  if u.wlen = 0 then u else u.close (normalCount x u.subs u.tm u.wlen u.wphase u.window) false 0
/-- A tidemark of a source at a queue (R206, R215). -/
def Queue.tide (u : Queue) (x : Ctx) (src : BitVec 16) (v : BitVec 48) : Queue :=
  { u with tm := (x.sources.mapIdx (fun i e => (i, e))).foldl (fun f p =>
      if p.2.id == src && u.subs.getLsbD p.1 then f.set p.1 (tsMax (f.getD p.1 0) v) else f) u.tm }

/-! ### What a sender learns (R207, R208) -/

/-- Breakwater's tidemark for a context (R214): the least of what its sources have promised and of the stamps that it
still holds; none without a subscribed source. -/
def State.bwTide (s : State) (v x : Nat) : Option (BitVec 48) :=
  let b := (s.cove v).bw
  let k := s.ctx x
  let tides := (b.streams.filter (fun p => p.2.ctx == x)).flatMap (fun p => (k.liveSubs p.2.subs).map (fun i => p.2.tm.getD i 0))
  let held := (b.tiles.filter (fun t => t.ctx == x && !t.fresh && (decide (t.state = .collecting) || decide (t.state = .sealed)))).map (·.ts)
  match tides with
  | [] => none
  | a :: l => some ((l ++ held).foldl tsMin a)
/-- It is sent when it has changed (R215). -/
def State.sendBwTide (s : State) (v x : Nat) : State :=
  match s.bwTide v x with
  | none => s
  | some a =>
    if (s.cove v).bw.tides.getD x 0 = a then s
    else (s.modCove v (fun k => { k with bw := { k.bw with tides := k.bw.tides.set x a } })).sendTides (Agent.engine v 1) x
      (s.srcId 2 (4 * v + 1)) a

/-- A tile's TILE record is accepted, or rejected (R243). -/
def State.tileSent (s : State) (v num : Nat) (ok : Bool) : State :=
  s.modCove v (fun k =>
    match k.bw.tile num with
    | none => k
    | some t =>
      if t.state ≠ .sealed then k
      else if ok then { k with bw := k.bw.setTile { t with state := .dispatched, sent := true } }
      else
        let b := (k.bw.setTile { t with state := .dispatched }).release (fun o => o.num == num)
        { k with bw := { b with rejected := b.rejected.set t.stream (bump (b.rejected.getD t.stream 0)) } })
/-- The outcome of a record for its sender: 0 accepted, 1 expired, 2 rejected, 3 refused. -/
def State.tell (s : State) (m : Msg) (w : Sender) (code : Nat) : State :=
  match w with
  | .slot c j task => s.post m.dst (Agent.slot c j) (.reply .emit c j task m.id (BitVec.ofNat 64 code))
  | .stream n =>
    if code = 2 then
      let t := s.streams.getD n {}
      { s with streams := s.streams.set n { t with rejected := bump t.rejected } }
    else s
  | .mxe v id =>
    let s := if code = 2 then s.modCove v (fun k => { k with mxe := { k.mxe with rejected := bump k.mxe.rejected } }) else s
    (match (s.cove v).mxe.job id with
      | some j => s.jobOver v j
      | none => s)
  | .ebb v id =>
    let s := if code = 2 then s.modCove v (fun k => { k with ebb := { k.ebb with rejected := bump k.ebb.rejected } }) else s
    s.ebbOver v id
  | .tile v num =>
    match (s.cove v).bw.tile num with
    | some t => (s.tileSent v num (code = 0)).sendBwTide v t.ctx
    | none => s
  | .system => s

/-! ### Arrival (R206, R207) -/

/-- What becomes of a record at its queue. `blocked`: an OVERFLOW or a close goes first, or its sender sends again. -/
inductive Outcome where
  | accepted (s : State)
  | rejected (s : State)
  | full (s : State)
  | blocked

/-- Entries of a queue's next close record. -/
def closeSize (u : Queue) : Nat := match u.closes with
  | (_, _, true, _) :: _ => 4
  | _ :: _ => 1
  | [] => 0
/-- Whether an OVERFLOW or a close is to be written before any other record (R207, R219); a stopped
context's queues take none (R163). -/
def State.owes (s : State) (x : Nat) (u : Queue) : Bool :=
  (u.ovfPending || !u.closes.isEmpty) && !(s.ctx x).stopped
/-- Whether a waiting OVERFLOW or close has room, and so goes first (R207, R219). -/
def State.goesFirst (s : State) (c q x : Nat) (u : Queue) : Bool :=
  s.owes x u && ((u.ovfPending && decide (s.roomOf c q x ≥ 1)) || (!u.ovfPending && !u.closes.isEmpty && decide (s.roomOf c q x ≥ closeSize u)))
/-- `arrive` of R206 for a record bound for queue `q` of core `c`; a core in a boundary commit rejects it (R73). -/
def State.arriveRec (s : State) (c q : Nat) (r : Rec) (x : Nat) : Outcome :=
  let k := s.ctx x
  if (s.both c x).any s.shut then .rejected s
  else match (s.core (s.homeOf c x)).queues.find q with
  | none => .rejected s
  | some u =>
    let trapQ := decide (s.homeOf k.trapcore x = s.homeOf c x) && k.trapq == q
    if u.ctx ≠ x then .rejected s
    else if k.stopped ∧ !(trapQ && r.kind == 7) then
      .rejected (s.modQueue c q x (fun u => { u with drops := bump u.drops }))
    else if s.goesFirst c q x u then .blocked
    else if r.kind = 7 ∧ trapQ ∧ !k.store.isEmpty then .full s
    else
      let n := r.entries.length
      let late := u.wlen != 0 && k.holds u.subs r.src && (match u.lastClosed with
        | some e => tsBefore r.ts e
        | none => false)
      if late ∧ u.latep then .accepted (s.modQueue c q x (fun u => { u with lateDrops := bump u.lateDrops }))
      else
        let r := if late then r.setLate else r
        let e := k.entryOf r.src
        let ts := match u.last.find e with
          | some l => tsMax r.ts l
          | none => r.ts
        let r := r.setTs ts
        let s := s.modQueue c q x (fun u =>
          { u with last := u.last.set e ts, lateCount := if late then bump u.lateCount else u.lateCount })
        if s.roomOf c q x < n ∨ s.owes x u then
          if r.cls = 0 ∨ r.kind = 6 then
            let s := s.modQueue c q x (fun u =>
              { u with drops := bump u.drops, ovfPending := u.ovfPending || r.cls == 0, ovfStamp := if r.cls = 0 then ts else u.ovfStamp })
            .accepted s
          else .full s
        else
          let s := s.place c q x r
          .accepted (if r.cls = 0 ∨ (r.cls = 1 ∧ r.device ≠ s.dev) then s.modQueue c q x (fun u => (u.tide k r.src ts).closeNormal k) else s)
/-- A TRAP record that its queue cannot hold goes to the trap store, and is a fault event (R374). -/
def State.storeTrap (s : State) (x : Nat) (r : Rec) : State :=
  let k := s.ctx x
  let s := if k.store.length ≥ 64 then { s with trapDrops := s.trapDrops.set x (bump (s.trapDrops.getD x 0)) }
    else s.setCtx x { k with store := k.store ++ [r] }
  s.faultEvent (bits r.head.toNat 48 9) x
/-- Whether a waiting sender's `EMITTO` is 0: it then has its status at once (R181, R226). -/
def State.hasty (s : State) (c j : Nat) : Bool := j == 4 || (s.slot c j).emitto == 0
/-- A record that the queue cannot hold, by its class (R207). A core record whose sender has had its answer, as one of
another device has at its link, is lost where `OVF` is 1. -/
def State.refuse (s : State) (m : Msg) (c q : Nat) (r : Rec) (x : Nat) (w : Sender) : Option State :=
  if r.kind = 7 then some (s.storeTrap x r)
  else if r.cls ≠ 1 then none
  else match (s.core (s.homeOf c x)).queues.find q with
    | none => none
    | some u =>
      if u.ovf then some (s.tell m w 3)
      else if (match w with
        | .slot d j _ => s.hasty d j
        | _ => false) then some (s.tell m w 1)
      else if u.waiters.length < 16 then some (s.modQueue c q x (fun u => { u with waiters := u.waiters ++ [m] }))
      else some { s with retries := s.retries ++ [(s.dtime.toNat + 1000, m)] }

/-- `RECORD_ARRIVE`: a record reaches its queue. An engine's record that finds no room stays with the engine (R207). -/
def execRecordArrive (msg : Nat) (s : State) : Host.Outcome State Fault Refusal :=
  onMessage msg s (fun m s => match m.body with
    | .record r x (.queue c q) w _ =>
      match s.arriveRec c q r x with
      | .accepted s' => some (s'.tell m w 0)
      | .rejected s' => some (s'.tell m w 2)
      | .full s' => s'.refuse m c q r x w
      | .blocked => none
    | _ => none)

/-- A record of a wait list or a retry is sent again: the state, or none while there is no room. -/
def State.sendAgain (s : State) (m : Msg) : Option State :=
  match m.body with
  | .record r x (.queue c q) w _ =>
    match s.arriveRec c q r x with
    | .accepted s' => some (s'.tell m w 0)
    | .rejected s' => some (s'.tell m w 2)
    | _ => none
  | _ => none

/-- `RECORD_RESEND`: the trap store delivers first (R374), then the oldest waiting sender (R207). -/
def execRecordResend (core q : Nat) (s : State) : Host.Outcome State Fault Refusal :=
  match (s.core core).queues.find q with
  | none => .next s
  | some u =>
    let x := u.ctx
    let k := s.ctx x
    if s.homeOf core x ≠ core ∨ s.goesFirst core q x u ∨ s.owes x u then .next s
    else match (if decide (s.homeOf k.trapcore x = core) && k.trapq == q then k.store else []) with
      | r :: l =>
        if s.roomOf core q x < 4 then .next s
        else
          let s := s.setCtx x { k with store := l }
          .next (s.place core q x { r with head := r.head ||| BitVec.ofNat 128 (2 ^ 100) })
      | [] => match u.waiters with
        | [] => .next s
        | m :: l =>
          let s' := s.modQueue core q x (fun u => { u with waiters := l })
          match s'.sendAgain m with
          | some s'' => .next s''
          | none => .next s

/-- `RECORD_RESEND_RETRY`: 1 µs after the sender found the wait list full. -/
def execRecordResendRetry (idx : Nat) (s : State) : Host.Outcome State Fault Refusal :=
  match s.retries[idx]? with
  | none => .next s
  | some (due, m) =>
    if s.dtime.toNat < due then .next s
    else
      let s' := { s with retries := s.retries.eraseIdx idx }
      match m.body with
      | .record r x (.queue c q) w _ =>
        (match s'.arriveRec c q r x with
          | .accepted s'' => .next (s''.tell m w 0)
          | .rejected s'' => .next (s''.tell m w 2)
          | .full s'' => .next ((s''.refuse m c q r x w).getD s)
          | .blocked => .next s)
      | _ => .next s

/-- `OVERFLOW_RECORD`: the drops since the last one, before any other record (R207). -/
def execOverflowRecord (core q : Nat) (s : State) : Host.Outcome State Fault Refusal :=
  match (s.core core).queues.find q with
  | none => .next s
  | some u =>
    if !u.ovfPending ∨ (s.ctx u.ctx).stopped ∨ s.homeOf core u.ctx ≠ core ∨ s.roomOf core q u.ctx < 1 then .next s
    else
      let r : Rec := ⟨mkRec u.ovfStamp (s.srcId 3 core) 0x0C 0 (u.drops - u.dropsSent).toNat, []⟩
      let s := s.modQueue core q u.ctx (fun u => { u with ovfPending := false, dropsSent := u.drops })
      .next (s.place core q u.ctx r)

/-! ### Emit outcomes (R226) -/

/-- `EMIT_ACCEPT`: the status reaches the slot, or its frame. -/
def execEmitAccept (msg : Nat) (s : State) : Host.Outcome State Fault Refusal :=
  onMessage msg s (fun m s => match m.body with
    | .reply .emit c j task ask v => s.giveReply c j task ask v
    | _ => none)

/-- A record that its destination has not taken is withdrawn, wherever it waits. -/
def State.withdraw (s : State) (id : Nat) : Option State :=
  let clear (u : Queue) : Queue := { u with waiters := u.waiters.filter (fun m => m.id != id) }
  let cores : FMap Core := s.cores.map (fun p : Nat × Core =>
    (p.1, { p.2 with queues := p.2.queues.map (fun q : Nat × Queue => (q.1, clear q.2)) }))
  let s' := { s with net := s.net.filter (fun m => m.id != id), retries := s.retries.filter (fun r => r.2.id != id), cores := cores }
  if s' = s then none else some s'

/-- `EMIT_TIMEOUT`: `EMITTO` ns have passed since the issue and the record is not accepted. -/
def execEmitTimeout (core slot : Nat) (s : State) : Host.Outcome State Fault Refusal :=
  let t := s.slot core slot
  match t.reply with
  | none => .next s
  | some (_, id) =>
    let isEmit := (s.net ++ s.retries.map (·.2) ++ s.cores.flatMap (fun p => p.2.queues.flatMap (fun q => q.2.waiters))).any
      (fun m => m.id == id && m.src == Agent.slot core slot && (match m.body with
        | .record .. => true
        | _ => false))
    if !isEmit ∨ s.dtime.toNat < t.started + t.emitto.toNat then .next s
    else match s.withdraw id with
      | some s' => .next ((s'.giveReply core slot t.taskid id 1).getD s)
      | none => .next s

/-! ### Tidemarks at queues, and closes (R212, R215, R217 to R219) -/

def State.stream (s : State) (n : Nat) : Stream := s.streams.getD n {}
/-- The port of a stream, as QUERY 2 numbers links (R366, R367). -/
def portOf (n : Nat) : Nat := if n < 64 then 7 + n / 8 else 15 + (n - 64)
def State.portUp (s : State) (n : Nat) : Bool := decide (((s.links.getD (portOf n) {}).state) = .up)
/-- `SENSOR_HEARTBEAT`: an idle stream promises the present device time. -/
def execSensorHeartbeat (stream : Nat) (s : State) : Host.Outcome State Fault Refusal :=
  match s.streams.find stream with
  | none => .next s
  | some t =>
    if !t.en ∨ t.cut ∨ !s.portUp stream ∨ s.dtime.toNat < t.lastSend + 1000 * t.hbeat then .next s
    else
      let s := { s with streams := s.streams.set stream { t with lastSend := s.dtime.toNat } }
      .next (s.sendTides (Agent.stream stream) t.ctx (s.srcId 0 stream) s.now48)

/-- Whether a record of the source, sent earlier to the destination, has not been taken yet (R215). -/
def State.recordAhead (s : State) (m : Msg) (src : BitVec 16) : Bool :=
  let of_ (o : Msg) : Bool := o.dst == m.dst && decide (o.id < m.id) && (match o.body with
    | .record r .. => r.src == src
    | _ => false)
  s.net.any of_ || s.retries.any (fun r => of_ r.2) ||
    s.cores.any (fun p => p.2.queues.any (fun q => q.2.waiters.any of_))

/-- `TIDEMARK_UPDATE_ARRIVE`: at a queue, whose windows may close, but for a core in a boundary commit, where it is as for
an unbound queue (R73); at a tile stream, as a FIFO item while there is
room (R235). -/
def execTidemarkUpdateArrive (msg : Nat) (s : State) : Host.Outcome State Fault Refusal :=
  onMessage msg s (fun m s => match m.body with
    | .tidemark target x src v =>
      if s.recordAhead m src then none
      else match target with
        | .queue c q => some (if s.shut c then s else s.modCore c (fun k => match k.queues.find q with
          | some u => if u.ctx = x then { k with queues := k.queues.set q ((u.tide (s.ctx x) src v).closeNormal (s.ctx x)) } else k
          | none => k))
        | .stream cove n =>
          let b := (s.cove cove).bw
          (match b.streams.find n with
            | some t =>
              if t.ctx ≠ x then some s
              else if b.fifo.length ≥ 256 then none
              else some (s.modCove cove (fun k => { k with bw := { k.bw with fifo := k.bw.fifo ++ [.tidemark n src v] } }))
            | none => some s)
        | .device .. => some s
    | _ => none)

/-- `WINDOW_TIMEOUT`: the lowest open window, and those after it that are due with the same laggards. -/
def execWindowTimeout (core q : Nat) (s : State) : Host.Outcome State Fault Refusal :=
  match (s.core core).queues.find q with
  | none => .next s
  | some u =>
    let x := s.ctx u.ctx
    let lag := laggards x u.subs u.tm (windowEnd u.wlen u.wphase u.window)
    if u.wlen = 0 ∨ u.stale = 0 ∨ lag = [] ∨ (s.dtime.toNat : Int) < windowEndTime u.wlen u.wphase u.window + u.stale then .next s
    else
      let n := timeoutCount x u.subs u.tm u.wlen u.wphase u.stale s.dtime.toNat u.window
      .next (s.modQueue core q u.ctx (fun u => (u.close n true (lagMask lag)).closeNormal x))

/-- `WINDOW_END_CLOSE`: windows with no live subscribed entry close as `DTIME` reaches their ends. -/
def execWindowEndClose (core q : Nat) (s : State) : Host.Outcome State Fault Refusal :=
  match (s.core core).queues.find q with
  | none => .next s
  | some u =>
    if u.wlen = 0 ∨ (s.ctx u.ctx).liveSubs u.subs ≠ [] then .next s
    else
      let n := endedCount s.dtime.toNat u.wlen u.wphase u.window
      .next (s.modQueue core q u.ctx (fun u => u.close n false 0))

/-- The WCLOSE record of R218. -/
def State.closeRec (s : State) (c q : Nat) (u : Queue) (k : Int) (n : Nat) (late : Bool) (mask : Word) : Rec :=
  { head := mkRec (windowEnd u.wlen u.wphase k) (s.srcId 3 c) 5 (if late then 8 + 4 else 0)
      (q + (n - 1) * 2 ^ 4 + (BitVec.ofInt 32 k).toNat * 2 ^ 16)
    ext := if late then [mask.setWidth 128, 0, 0] else [] }

/-- `WCLOSE_WRITE`: the oldest close stands in the ring, after a pending OVERFLOW. -/
def execWcloseWrite (core q : Nat) (s : State) : Host.Outcome State Fault Refusal :=
  match (s.core core).queues.find q with
  | none => .next s
  | some u =>
    match u.closes with
    | [] => .next s
    | (k, n, late, mask) :: l =>
      if u.ovfPending ∨ (s.ctx u.ctx).stopped ∨ s.homeOf core u.ctx ≠ core ∨ s.roomOf core q u.ctx < closeSize u then .next s
      else
        let r := s.closeRec core q u k n late mask
        .next ((s.modQueue core q u.ctx (fun u => { u with closes := l })).place core q u.ctx r)

/-! ### Timers (R365) -/

/-- `TIMER_EXPIRY`: a TIMER record leaves for the timer's queue, and the next period begins. -/
def execTimerExpiry (idx : Nat) (s : State) : Host.Outcome State Fault Refusal :=
  match s.timers[idx]? with
  | none => .next s
  | some t =>
    if s.dtime.toNat < t.due then .next s
    else
      let n := t.count + 1
      let r : Rec := ⟨mkRec s.now48 (s.srcId 3 s.firstFw) 6 0 (t.num + n.toNat * 2 ^ 16), []⟩
      let s := { s with timers := s.timers.set idx { t with count := n, due := t.due + 1000 * t.period } }
      .next (s.post Agent.firmware (Agent.queue t.core t.queue) (.record r t.ctx (.queue t.core t.queue) .system false))

end Sys2Proof.Machine
end

