-- ==== Sys2Proof/Machine/Coalesce.lean ====
section
/-! DEFINITION. The steps of a cove's Breakwater (11_tile.md R235 to R244). -/

namespace Sys2Proof.Machine

/-! ### Descriptor fields and tiles -/

def TileStream.fill (t : TileStream) : Nat := t.f 0 16 16
def TileStream.tage (t : TileStream) : Nat := t.f 1 32 32
def TileStream.maxblk (t : TileStream) : Nat := t.f 1 0 11
def TileStream.press (t : TileStream) : Bool := t.f 0 40 1 == 1
def TileStream.toJob (t : TileStream) : Bool := t.f 0 32 1 == 1
/-- Tiles of the image in one direction (R233). -/
def TileStream.grid (t : TileStream) (n : Nat) : Nat := (n + t.side - 1) / t.side
def TileStream.width (t : TileStream) : Nat := t.f 2 16 16
def TileStream.height (t : TileStream) : Nat := t.f 2 0 16
/-- A change of a stream. -/
def State.modStream (s : State) (v n : Nat) (f : TileStream → TileStream) : State :=
  s.modCove v (fun k => match k.bw.streams.find n with
    | some t => { k with bw := { k.bw with streams := k.bw.streams.set n (f t) } }
    | none => k)
def State.putTileState (s : State) (v : Nat) (t : Tile) : State :=
  s.modCove v (fun k => { k with bw := k.bw.setTile t })
/-- A tile's header (Table 11.2). -/
def tileHeader (b : Breakwater) (t : Tile) : List Byte :=
  leBytes 2 (b.handle t) ++ leBytes 1 t.stream ++ leBytes 1 (t.cause + (if t.early then 8 else 0)) ++ leBytes 2 t.tx ++
    leBytes 2 t.ty ++ leBytes 4 (BitVec.ofInt 32 t.win).toNat ++ leBytes 2 t.home ++ leBytes 2 t.nent ++ leBytes 6 t.t0.toNat ++
    leBytes 6 t.ts.toNat ++ leBytes 4 0
/-- A tile is updated, and its header with it. -/
def State.keepTile (s : State) (v : Nat) (t : Tile) : State :=
  let s := s.putTileState v t
  s.putTile v t 0 (tileHeader (s.cove v).bw t)
/-- A collecting tile seals (R239). -/
def State.seal (s : State) (v : Nat) (t : Tile) (cause : Nat) (early : Bool) : State :=
  let n := (s.cove v).bw.sealSeq
  let s := s.modCove v (fun k => { k with bw := { k.bw with sealSeq := n + 1 } })
  s.keepTile v { t with state := .sealed, cause := cause, early := early, order := n }
/-- A tile that a step frees itself: its blocks return at once (R242). -/
def State.freeTile (s : State) (v num : Nat) : State :=
  s.modCove v (fun k =>
    match k.bw.tile num with
    | none => k
    | some t =>
      let b := t.blocks.headD 0
      { k with bw := { k.bw with tiles := k.bw.tiles.filter (fun o => o.num != num)
                                 seqs := k.bw.seqs.set b ((k.bw.seqs.getD b 0 + 1) % 64) } })
/-- A tile, with a draw, in its place by window among tiles that stand so; among equal windows the draws decide. -/
def byWindow (t : Tile × Nat) : List (Tile × Nat) → List (Tile × Nat)
  | [] => [t]
  | o :: l => if t.1.win < o.1.win ∨ (t.1.win = o.1.win ∧ Config.freeNat t.2 ≤ Config.freeNat o.2) then t :: o :: l
    else o :: byWindow t l
/-- Every collecting tile among those chosen seals when it has home records, and is freed when it is halo-only; windows
in increasing order (R216, R236), the tiles of one window in no stated order (free value, log 94). -/
def State.sealAll (s : State) (v : Nat) (p : Tile → Bool) (cause : Nat) : State :=
  let l := (s.cove v).bw.tiles.filter (fun t => decide (t.state = .collecting) && p t)
  ((l.zipIdx.map (fun t => (t.1, s.free + t.2))).foldr byWindow []).foldl (fun s t =>
    if t.1.home ≥ 1 then s.seal v t.1 cause false else s.freeTile v t.1.num) { s with free := s.free + l.length }
/-! ### Windows of a stream (R236) -/

/-- The window that takes a record, or none where it is late. -/
def TileStream.windowOf (t : TileStream) (ts : BitVec 48) : Option Int :=
  if t.wlen = 0 then some 0
  else
    let start := windowEnd t.wlen t.wphase (t.window - 1)
    if tsBefore ts start then (if t.window = t.first then some t.first else none)
    else some (t.window + ((ts - start).toNat / t.wlen : Nat))
/-- `n` windows of a stream close: their tiles seal. -/
def State.closeTiles (s : State) (v st n cause : Nat) : State :=
  match (s.cove v).bw.streams.find st with
  | none => s
  | some t =>
    if n = 0 then s
    else (s.sealAll v (fun o => o.stream == st && decide (t.window ≤ o.win) && decide (o.win < t.window + n)) cause).modStream v st
      (fun t => { t with window := t.window + n })
/-- The windows that close normally now. -/
def State.closeStream (s : State) (v st : Nat) : State :=
  match (s.cove v).bw.streams.find st with
  | none => s
  | some t =>
    if t.wlen = 0 then s
    else s.closeTiles v st (normalCount (s.ctx t.ctx) t.subs t.tm t.wlen t.wphase t.window) 2
/-- A source's tidemark at a stream. -/
def TileStream.tide (t : TileStream) (x : Ctx) (src : BitVec 16) (v : BitVec 48) : TileStream :=
  { t with tm := (x.sources.mapIdx (fun i e => (i, e))).foldl (fun f p =>
      if p.2.id == src && t.subs.getLsbD p.1 then f.set p.1 (tsMax (f.getD p.1 0) v) else f) t.tm }

/-! ### Opening tiles, and pressure (R237, R241) -/

/-- `n` of the free blocks; the spec states no choice among them, log 6. -/
def takeBlocks : Nat → List Nat → Nat → List Nat
  | 0, _, _ => []
  | n + 1, l, draw =>
    let b := (l[Config.freeNat draw % l.length]?).getD 0
    b :: takeBlocks n (l.filter (· != b)) (draw + 1)
/-- The collecting tile of a position and window. -/
def Breakwater.collecting (b : Breakwater) (st tx ty : Nat) (k : Int) : Option Tile :=
  b.tiles.find? (fun t => decide (t.state = .collecting) && t.stream == st && t.tx == tx && t.ty == ty && decide (t.win = k))
/-- Whether a tile of a stream may be opened. -/
def Breakwater.opens (b : Breakwater) (st : Nat) (t : TileStream) : Bool :=
  decide (b.freeBlocks ≥ t.tileBlocks) && decide (b.heldBy st + t.tileBlocks ≤ t.maxblk)
/-- Halo-only tiles of the stream are freed, oldest first, until a tile can be opened (R241 step 1). -/
def State.relieve (s : State) (v st : Nat) (t : TileStream) (spare : List (Nat × Nat)) (k : Int) : List Tile → State
  | [] => s
  | o :: l =>
    if (s.cove v).bw.opens st t then s
    else if o.stream == st && decide (o.state = .collecting) && o.home == 0 && !(decide (o.win = k) && spare.contains (o.tx, o.ty)) then
      (s.freeTile v o.num).relieve v st t spare k l
    else s.relieve v st t spare k l
/-- `open_tile`. -/
def State.openTile (s : State) (v st : Nat) (t : TileStream) (tx ty : Nat) (k : Int) (spare : List (Nat × Nat)) : State × Bool :=
  let s := s.relieve v st t spare k (s.cove v).bw.tiles
  let b := (s.cove v).bw
  if !b.opens st t then (s, false)
  else
    let used := b.tiles.flatMap (·.blocks)
    let blocks := takeBlocks t.tileBlocks ((List.range 1024).filter (fun i => !used.contains i)) s.free
    let o : Tile := { num := b.tileSeq, ctx := t.ctx, stream := st, tx := tx, ty := ty, win := k, blocks := blocks,
                      t0 := if t.wlen = 0 then 0 else windowEnd t.wlen t.wphase (k - 1) }
    let s := { s with free := s.free + t.tileBlocks, mem := blocks.foldl (fun m i => Mem.clear m (tileAt v (1024 * i)) 1024) s.mem }
    let s := s.modCove v (fun c => { c with bw := { c.bw with tiles := c.bw.tiles ++ [o], tileSeq := b.tileSeq + 1 } })
    (s.keepTile v o, true)
/-- The tiles of a record, opened where none collects; false under pressure. -/
def State.openAll (s : State) (v st : Nat) (t : TileStream) (k : Int) (all : List (Nat × Nat)) : List (Nat × Nat) → State × Bool
  | [] => (s, true)
  | (tx, ty) :: l =>
    if ((s.cove v).bw.collecting st tx ty k).isSome then s.openAll v st t k all l
    else match s.openTile v st t tx ty k all with
      | (s, true) => s.openAll v st t k all l
      | (s, false) => (s, false)
/-- Pressure steps 2 and 3. -/
def State.pressed (s : State) (v st : Nat) (t : TileStream) : State :=
  let s := s.modStream v st (fun t => { t with pressure := bump t.pressure })
  if t.press then s
  else
    let l := (s.cove v).bw.tiles.filter (fun o => o.stream == st && decide (o.state = .collecting) && decide (o.home ≥ 1))
    match l.foldl (fun (a : Option Tile) o => match a with
      | none => some o
      | some b => if o.tfirst < b.tfirst then some o else some b) none with
    | some o => s.seal v o 5 true
    | none => s

/-! ### Cells (R238) -/

/-- `cell_update`: the data byte offset of the cell, and the tile with its count of entries, after the write. -/
def State.cellUpdate (s : State) (v : Nat) (t : TileStream) (o : Tile) (i j : Int) (r : Rec) (halo : Bool) : State × Tile :=
  let p := bits r.payload 32 1
  let w := bits r.payload 40 8
  let d := if tsBefore r.ts o.t0 then 0 else (r.ts - o.t0).toNat
  let h : Int := t.halo
  let idx := ((j + h) * t.edge + (i + h)).toNat
  let plane := if t.channels = 2 then p else 0
  match t.fmt with
  | 0 =>
    let a := 32 + plane * t.edge ^ 2 + idx
    (s.putTile v o a (leBytes 1 (min (s.tileNum v o a 1 + 1) 255)), o)
  | 1 =>
    let a := 32 + plane * t.edge ^ 2 + idx
    (s.putTile v o a (leBytes 1 (wrapInt (max (-128) (min 127 (sval 8 (s.tileNum v o a 1) + sval 8 w))) 8)), o)
  | 2 =>
    let a := 32 + 2 * (plane * t.edge ^ 2 + idx)
    (s.putTile v o a (leBytes 2 (max (s.tileNum v o a 2) (min (d / 2 ^ t.f 0 36 4 + 1) 0xFFFF))), o)
  | _ =>
    if o.nent ≥ 256 then (s, o)
    else
      let e := min d (2 ^ 32 - 1) * 2 ^ 32 + w * 2 ^ 24 + p * 2 ^ 23 + (if halo then 2 ^ 22 else 0) + wrapInt j 8 * 2 ^ 8 + wrapInt i 8
      (s.putTile v o (32 + 8 * o.nent) (leBytes 8 e), { o with nent := o.nent + 1 })
/-- One tile takes its copy of a record. -/
def State.store (s : State) (v st : Nat) (t : TileStream) (k : Int) (r : Rec) (xi yi : Nat) (home : Nat × Nat) (p : Nat × Nat) : State :=
  match (s.cove v).bw.collecting st p.1 p.2 k with
  | none => s
  | some o =>
    let o := if o.fresh then { o with fresh := false, ts := r.ts, t0 := if t.wlen = 0 then r.ts else o.t0 } else { o with ts := tsMax o.ts r.ts }
    let (s, o) := s.cellUpdate v t o ((xi : Int) - t.side * p.1) ((yi : Int) - t.side * p.2) r (p != home)
    let o := if p = home then
        { o with home := min (o.home + 1) 65535, tfirst := if o.home = 0 then s.dtime.toNat else o.tfirst }
      else o
    s.keepTile v o
/-- The tiles that are full at the end of a step seal (R239). -/
def State.sealFull (s : State) (v st : Nat) (t : TileStream) (k : Int) (p : Nat × Nat) : State :=
  match (s.cove v).bw.collecting st p.1 p.2 k with
  | none => s
  | some o => if o.home ≥ 1 ∧ (o.home ≥ t.fill ∨ (t.fmt = 3 ∧ o.nent ≥ 256)) then s.seal v o 0 false else s
/-- The tiles in which a record at (xi, yi) lands, in order. -/
def TileStream.landing (t : TileStream) (xi yi : Nat) : List (Nat × Nat) :=
  let near (z n : Nat) : List Nat := ((List.range 3).filterMap (fun d =>
    let c := z / t.side + d
    if c = 0 then none else some (c - 1))).filter (fun c => decide (c < n) &&
      decide (-(t.halo : Int) ≤ (z : Int) - t.side * c) && decide ((z : Int) - t.side * c ≤ t.side + t.halo - 1))
  (near yi (t.grid t.height)).flatMap (fun ty => (near xi (t.grid t.width)).map (fun tx => (tx, ty)))
/-- `bw_record` of R237. -/
def State.bwRecord (s : State) (v st : Nat) (t : TileStream) (r : Rec) : State :=
  let x := bits r.payload 0 16
  let y := bits r.payload 16 16
  let x0 := t.f 2 48 16
  let y0 := t.f 2 32 16
  if x < x0 ∨ x - x0 ≥ t.width ∨ y < y0 ∨ y - y0 ≥ t.height then s.modStream v st (fun t => { t with outside := bump t.outside })
  else match t.windowOf r.ts with
    | none => s.modStream v st (fun t => { t with late := bump t.late })
    | some k =>
      let l := t.landing (x - x0) (y - y0)
      match s.openAll v st t k l l with
      | (s, false) => s.pressed v st t
      | (s, true) =>
        let s := l.foldl (fun s p => s.store v st t k r (x - x0) (y - y0) ((x - x0) / t.side, (y - y0) / t.side) p) s
        l.foldl (fun s p => s.sealFull v st t k p) s

/-! ### Events (R235 to R244) -/

/-- The FIFO's first item is taken, and a release that waits for room enters. -/
def State.bwPop (s : State) (v : Nat) : State := s.modCove v (fun k => { k with bw := { k.bw with
  fifo := k.bw.fifo.drop 1 ++ (k.bw.relWait.take 1).map .release, relWait := k.bw.relWait.drop 1 } })

/-- `BW_RECORD_ARRIVE`: a record or a flush enters the FIFO, or is dropped, refused or rejected. -/
def execBwRecordArrive (msg : Nat) (s : State) : Host.Outcome State Fault Refusal :=
  onMessage msg s (fun m s => match m.body with
    | .record r x (.stream v n) w _ =>
      let b := (s.cove v).bw
      let bound := match b.streams.find n with
        | some t => t.ctx == x && !(s.ctx x).stopped
        | none => false
      if !bound then some (s.tell m w 2)
      else if b.fifo.length < 256 then
        some ((s.modCove v (fun k => { k with bw := { k.bw with fifo := k.bw.fifo ++ [.record n r] } })).tell m w 0)
      else if r.cls = 0 then some (s.modStream v n (fun t => { t with fifo := bump t.fifo }))
      else match w with
        | .slot c j _ => if s.hasty c j then some (s.tell m w 1) else none
        | _ => none
    | .flush v n c j x task =>
      let earlier := s.net.any (fun o => o.dst == m.dst && decide (o.id < m.id) && o.src / 8 == c)
      let b := (s.cove v).bw
      if earlier ∨ b.fifo.length ≥ 256 then none
      else some (s.modCove v (fun k => { k with bw := { k.bw with fifo := k.bw.fifo ++ [.flush n c j x task m.id] } }))
    | _ => none)

/-- `BW_RECORD_STEP`: the record lands; a sensor record advances its tidemark, and windows may close. A record that stood
in the FIFO as its context stopped is dropped, since its tiles are freed (R242; DESIGN CHOICE, log 93). A core record of
another device advances its tidemark at a queue (R361), not here (DESIGN CHOICE, log 93). What stood in the FIFO of a stream
that has been bound anew steps into the new binding, and a record that is late, outside the image or dropped under pressure
advances its tidemark all the same (R206, R235, R236; DESIGN CHOICE, log 96). -/
def execBwRecordStep (cove : Nat) (s : State) : Host.Outcome State Fault Refusal :=
  match (s.cove cove).bw.fifo with
  | .record n r :: _ =>
    let s := s.bwPop cove
    (match (s.cove cove).bw.streams.find n with
      | none => .next s
      | some t => if (s.ctx t.ctx).stopped then .next s else
        let s := s.bwRecord cove n t r
        let s := if r.cls = 0 ∧ t.wlen ≠ 0 then
            (s.modStream cove n (fun t => t.tide (s.ctx t.ctx) r.src r.ts)).closeStream cove n
          else s
        .next (s.sendBwTide cove t.ctx))
  | _ => .next s

/-- `BW_TIDEMARK_STEP`. -/
def execBwTidemarkStep (cove : Nat) (s : State) : Host.Outcome State Fault Refusal :=
  match (s.cove cove).bw.fifo with
  | .tidemark n src v :: _ =>
    let s := s.bwPop cove
    (match (s.cove cove).bw.streams.find n with
      | none => .next s
      | some t => .next (((s.modStream cove n (fun t => t.tide (s.ctx t.ctx) src v)).closeStream cove n).sendBwTide cove t.ctx))
  | _ => .next s

/-- `BW_FLUSH_STEP`: the reply counts the tiles sealed (R246). -/
def execBwFlushStep (cove : Nat) (s : State) : Host.Outcome State Fault Refusal :=
  match (s.cove cove).bw.fifo with
  | .flush n c j x task ask :: _ =>
    let s' := s.bwPop cove
    let mine (t : Tile) : Bool := t.stream == n && t.ctx == x
    let k := ((s'.cove cove).bw.tiles.filter (fun t => decide (t.state = .collecting) && mine t && decide (t.home ≥ 1))).length
    .next ((((s'.sealAll cove mine 4).sendBwTide cove x).giveReply c j task ask (BitVec.ofNat 64 k)).getD s)
  | _ => .next s

/-- Whether a `TGET` copies a tile of a cove now. -/
def State.copied (s : State) (v num : Nat) : Bool :=
  (List.range 8).any (fun q => (s.core (coreAt v q)).slots.toList.any (fun t => t.copying.any (fun p => p.1 == num)) ||
    (s.core (coreAt v q)).copies.any (fun p => p.2.2.1 == num))
/-- Whether a job reads a tile still (R260). -/
def Cove.jobHolds (k : Cove) (num : Nat) : Bool := k.mxe.jobs.any (fun j => j.tile == some num && !j.recorded)
/-- `BW_RELEASE_STEP`: a freed tile's blocks return, once no copy of it is under way; those of a tile that a job reads
still return as the job gives it up (log 90). -/
def execBwReleaseStep (cove : Nat) (s : State) : Host.Outcome State Fault Refusal :=
  match (s.cove cove).bw.fifo with
  | .release num :: _ =>
    if s.copied cove num then .next s
    else if (s.cove cove).jobHolds num then .next (s.bwPop cove)
    else .next ((s.bwPop cove).modCove cove (fun k => { k with bw := { k.bw with tiles := k.bw.tiles.filter (fun t => t.num != num) } }))
  | _ => .next s

/-- `BW_AGE_SEAL`: T_age after the first home record. In the nanosecond in which it falls due, the FIFO's steps go
first (R240). -/
def execBwAgeSeal (cove tile : Nat) (s : State) : Host.Outcome State Fault Refusal :=
  match (s.cove cove).bw.tile tile with
  | none => .next s
  | some o =>
    let t := (s.cove cove).bw.stream o.stream
    if o.state = .collecting ∧ o.home ≥ 1 ∧ (s.dtime.toNat > o.tfirst + t.tage ∨
        (s.dtime.toNat = o.tfirst + t.tage ∧ (s.cove cove).bw.fifo.isEmpty)) then .next (s.seal cove o 1 false) else .next s

/-- `BW_WINDOW_TIMEOUT`. -/
def execBwWindowTimeout (cove stream : Nat) (s : State) : Host.Outcome State Fault Refusal :=
  match (s.cove cove).bw.streams.find stream with
  | none => .next s
  | some t =>
    let x := s.ctx t.ctx
    let lag := laggards x t.subs t.tm (windowEnd t.wlen t.wphase t.window)
    if t.wlen = 0 ∨ t.stale = 0 ∨ lag = [] ∨ (s.dtime.toNat : Int) < windowEndTime t.wlen t.wphase t.window + t.stale then .next s
    else
      let n := timeoutCount x t.subs t.tm t.wlen t.wphase t.stale s.dtime.toNat t.window
      .next (((s.closeTiles cove stream n 3).closeStream cove stream).sendBwTide cove t.ctx)

/-- `BW_WINDOW_END_CLOSE`: windows with no live subscribed entry. -/
def execBwWindowEndClose (cove stream : Nat) (s : State) : Host.Outcome State Fault Refusal :=
  match (s.cove cove).bw.streams.find stream with
  | none => .next s
  | some t =>
    if t.wlen = 0 ∨ (s.ctx t.ctx).liveSubs t.subs ≠ [] then .next s
    else .next ((s.closeTiles cove stream (endedCount s.dtime.toNat t.wlen t.wphase t.window) 2).sendBwTide cove t.ctx)

/-- The tile of a stream that is dispatched next, unless its predecessor's record is still under way. -/
def Breakwater.nextTile (b : Breakwater) (st : Nat) : Option Tile :=
  let l := b.tiles.filter (fun t => t.stream == st && decide (t.state = .sealed))
  if l.any (·.sent) then none
  else l.foldl (fun (a : Option Tile) o => match a with
    | none => some o
    | some c => if o.order < c.order then some o else some c) none
/-- The TILE record of R243. -/
def State.tileRec (s : State) (v : Nat) (t : Tile) : Rec :=
  ⟨mkRec t.ts (s.srcId 2 (4 * v + 1)) 3 (if t.early then 2 else 0)
    ((s.cove v).bw.handle t + t.stream * 2 ^ 16 + t.tx * 2 ^ 19 + t.ty * 2 ^ 28 + t.cause * 2 ^ 37 +
      (BitVec.ofInt 32 t.win).toNat % 256 * 2 ^ 40), []⟩

/-- `BW_TILE_DISPATCH`: sealed tiles leave in seal order; each waits for the one before to be accepted or rejected. -/
def execBwTileDispatch (cove stream : Nat) (s : State) : Host.Outcome State Fault Refusal :=
  let t := (s.cove cove).bw.stream stream
  if t.toJob then .next s
  else match (s.cove cove).bw.nextTile stream with
    | none => .next s
    | some o =>
      let a := ((t.d[6]?).getD 0).toNat
      let target := Target.queue (bits a 4 9) (bits a 0 4)
      .next ((s.putTileState cove { o with sent := true }).post (Agent.engine cove 1) target.agent
        (.record (s.tileRec cove o) t.ctx target (.tile cove o.num) false))

/-- `BW_JOB_SUBMIT`: the template, read at its core, with the tile in place of its tile operand (R244, R261). A job
queue that is full holds the tile. A template outside the context's local space, or in a page whose fill failed, is reported
to Headland as an ECC error, and the tile stays sealed (DESIGN CHOICE, log 93). -/
def execBwJobSubmit (cove stream : Nat) (s : State) : Host.Outcome State Fault Refusal :=
  let t := (s.cove cove).bw.stream stream
  if !t.toJob then .next s
  else match (s.cove cove).bw.nextTile stream with
    | none => .next s
    | some o =>
      let (c, la) := ownerOf ((t.d[6]?).getD 0)
      let w := 2 ^ 40 + 2 ^ 10 * cove + stream   -- the stream, among the accesses that wait for a page (R346)
      if s.unservable c t.ctx la 128 w then .next ((s.leave c w).report 3 c t.ctx)
      else if (s.missing c t.ctx la 128 w).isSome then .next (s.askPage c t.ctx la 128 w)
      else
        let bs := s.localBytes c t.ctx la 128
        let d := (List.range 16).map (fun i => BitVec.ofNat 64 (leNat ((bs.drop (8 * i)).take 8)))
        let s := s.touchRead c t.ctx la 128
        let (id, s') := s.submit cove
          { id := 0, d := d, ctx := t.ctx, stamp := o.ts, late := tsBefore o.ts (s.toutOf c t.ctx)
            prio := bits ((d[14]?).getD 0).toNat 0 6, task := 0, core := c, tile := some o.num }
        if id = 0 then .next (s.leave c w)
        else .next (((s'.leave c w).putTileState cove { o with state := .inJob }).sendBwTide cove t.ctx)

end Sys2Proof.Machine
end

