-- ==== Sys2Proof/Machine/Pages.lean ====
section
/-! DEFINITION. Page tables as firmware keeps them: mapping, unmapping and permissions, frame layouts, and the capability list (17_page.md R335 to R342; 18_link.md R365; 04_task_state.md R79, R80). -/

namespace Sys2Proof.Machine

/-! ### Leaves (R335, R365) -/

/-- A leaf entry (Table 17.1). -/
def leafEntry (pa : Nat) (perm lay : Nat) : Word := BitVec.ofNat 64 (1 + 2 + perm * 2 ^ 3 + pa + lay * 2 ^ 58)
def keyLevel (k : Nat) : Nat := k / 2 ^ 40
def keyBase (k : Nat) : Nat := k % 2 ^ 40 * leafSize (keyLevel k)
def isLeaf (e : Word) : Bool := e.getLsbD 1
def leafPa (e : Word) : Nat := bits e.toNat 14 34 * 2 ^ 14
def leafPerm (e : Word) : Nat := bits e.toNat 3 3
def leafLay (e : Word) : Nat := bits e.toNat 58 2
/-- The leaves of a table. -/
def leavesOf (pt : FMap Word) : FMap Word := pt.filter (fun p => isLeaf p.2)
/-- The entries of a table with these leaves: pointers stand where some leaf lies beneath (R365). -/
def tableOf (leaves : FMap Word) : FMap Word :=
  leaves.foldl (fun f p =>
    let va := keyBase p.1
    let l := keyLevel p.1
    let f := if l ≥ 2 then f.set (ptKey va 1) 1 else f
    let f := if l ≥ 3 then f.set (ptKey va 2) 1 else f
    f.set p.1 p.2) []
/-- The largest leaf level that alignment allows. -/
def levelFor (va pa n : Nat) : Nat :=
  if va % leafSize 1 = 0 ∧ pa % leafSize 1 = 0 ∧ leafSize 1 ≤ n then 1
  else if va % leafSize 2 = 0 ∧ pa % leafSize 2 = 0 ∧ leafSize 2 ≤ n then 2 else 3
/-- A run mapped with the largest leaves (R365); at most `fuel` leaves. -/
def mapRun : Nat → FMap Word → Nat → Nat → Nat → Nat → Nat → FMap Word
  | 0, f, _, _, _, _, _ => f
  | k + 1, f, va, pa, n, perm, lay =>
    if n = 0 then f
    else
      let l := levelFor va pa n
      mapRun k (f.set (ptKey va l) (leafEntry pa perm lay)) (va + leafSize l) (pa + leafSize l) (n - leafSize l) perm lay
def mapInto (f : FMap Word) (va pa n perm lay : Nat) : FMap Word := mapRun (n / 2 ^ 14) f va pa n perm lay
def leafMeets (p : Nat × Word) (lo n : Nat) : Bool :=
  decide (keyBase p.1 < lo + n) && decide (lo < keyBase p.1 + leafSize (keyLevel p.1))
/-- The parts of a leaf outside a range stay mapped. -/
def keepOutside (f : FMap Word) (p : Nat × Word) (lo n : Nat) : FMap Word :=
  let b := keyBase p.1
  let e := b + leafSize (keyLevel p.1)
  let put (f : FMap Word) (a z : Nat) : FMap Word := mapInto f a (leafPa p.2 + (a - b)) (z - a) (leafPerm p.2) (leafLay p.2)
  let f := if b < lo then put f b lo else f
  if lo + n < e then put f (lo + n) e else f
/-- The leaves without a range. -/
def unmapLeaves (f : FMap Word) (lo n : Nat) : FMap Word :=
  let hit := f.filter (fun p => leafMeets p lo n)
  hit.foldl (fun f p => keepOutside f p lo n) (f.filter (fun p => !leafMeets p lo n))
/-- The leaves with the permissions of a range set. -/
def protectLeaves (f : FMap Word) (lo n perm : Nat) : FMap Word :=
  let hit : FMap Word := f.filter (fun p => leafMeets p lo n)
  hit.foldl (fun f p =>
    let b := keyBase p.1
    let e := b + leafSize (keyLevel p.1)
    let a := max b lo
    mapInto f a (leafPa p.2 + (a - b)) (min e (lo + n) - a) perm (leafLay p.2)) (unmapLeaves f lo n)
def Ctx.leaves (x : Ctx) : FMap Word := leavesOf x.pt
def Ctx.setLeaves (x : Ctx) (f : FMap Word) : Ctx := { x with pt := tableOf f }

/-! ### Frame layouts (R337 to R339) -/

/-- Whether a leaf of any context, or a directory entry, gives the physical range a layout other than `lay`. -/
def State.layoutClash (s : State) (pa n lay : Nat) : Bool :=
  let bad (e : Word) (size : Nat) : Bool :=
    decide (leafPa e < pa + n) && decide (pa < leafPa e + size) && leafLay e != lay
  s.ctxs.any (fun p => p.2.leaves.any (fun l => bad l.2 (leafSize (keyLevel l.1)))) ||
    s.dies.toList.any (fun d => d.dir.any (fun e => bad e.entry e.size))
/-- Whether some leaf maps a frame. -/
def State.frameMapped (s : State) (f : Nat) : Bool :=
  s.ctxs.any (fun p => p.2.leaves.any (fun l => decide (leafPa l.2 ≤ f * 2 ^ 14) &&
    decide (f * 2 ^ 14 < leafPa l.2 + leafSize (keyLevel l.1))))
/-- The attribute of frames is set; 0 is what an unlisted frame has. The changed frames' lines leave the memory-side
cache (R339). -/
def State.setLayout (s : State) (pa n lay : Nat) : State :=
  let lo := pa / 2 ^ 14
  let hi := (pa + n) / 2 ^ 14
  let fs := if lay = 0 then s.frameLay.filter (fun p => decide (lo ≤ p.1) && decide (p.1 < hi) && p.2 != 0) |>.map (·.1)
    else (List.range (hi - lo)).map (· + lo)
  let new := fs.filter (fun f => s.frameLay.getD f 0 != lay && !s.frameMapped f)
  { s with
    frameLay := new.foldl (fun m f => if lay = 0 then m.del f else m.set f lay) s.frameLay
    msc := if new.isEmpty then s.msc else s.msc.filter (fun c =>
      !new.any (fun f => decide (s.stored (f * 2 ^ 14) ≤ c.1 * 256) && decide (c.1 * 256 < s.stored (f * 2 ^ 14) + 2 ^ 14))) }

/-! ### Requests (R342, R343, R365) -/

/-- Bytes of the spill area (R343). -/
def Ctx.spillBytes (x : Ctx) : Nat := 16384 * (1 + x.coreCount * x.lpages) + 262144 * 16 * x.coreCount
/-- Whether a range touches the spill area, whose mappings stand while the context exists. -/
def Ctx.touchesSpill (x : Ctx) (va n : Nat) : Bool :=
  x.lpages != 0 && decide (va < x.spill + x.spillBytes) && decide (x.spill < va + n)
/-- Physical frame where firmware keeps the capability list, and the address at which every context sees it (log 9). -/
def capFrame : Nat := 2 ^ 37 - 2 ^ 14
/-- Whether firmware refuses a map (R365). The frame of the capability list is its own: no context has it writable (R79). -/
def State.mapRefused (s : State) (c va pa n lay : Nat) : Bool :=
  let x := s.ctx c
  x.touchesSpill va n || decide (capFrame < pa + n ∧ pa < capFrame + 2 ^ 14) || decide (2 ^ 48 < va + n) || decide (2 ^ 37 < pa + n) ||
    x.leaves.any (fun l => leafMeets l va n) || s.layoutClash pa n lay
/-- A range is mapped. -/
def State.mapRange (s : State) (c va pa n perm lay : Nat) : State :=
  let s := s.setLayout pa n lay
  s.modCtx c (fun x => x.setLeaves (mapInto x.leaves va pa n perm lay))
/-- The coves that either directory lists for a range of a context (R342), and those that keep one of its translations for
a load or a copy (log 88). -/
def State.listedCoves (s : State) (c lo hi : Nat) : List Nat :=
  (s.dies.toList.zipIdx).flatMap (fun d => (List.range 32).filterMap (fun b =>
    if d.1.dir.any (fun e => e.ctx == c && decide (e.va < hi) && decide (lo < e.va + e.size) && e.coves.getLsbD b) ||
      s.keeps (d.2 * 32 + b) (fun t => t.ctx == c && decide (t.va < hi) && decide (lo < t.va + t.size))
    then some (d.2 * 32 + b) else none))
/-- The invalidation of a changed range begins (R342). -/
def State.invalidate (s : State) (c lo hi : Nat) : State :=
  match s.listedCoves c lo hi with
  | [] => s
  | l => { s with invals := s.invals ++ [⟨c, lo, hi, l⟩] }
/-- A range is unmapped, and its translations start to be invalidated. -/
def State.unmapRange (s : State) (c va n : Nat) : State :=
  (s.modCtx c (fun x => x.setLeaves (unmapLeaves x.leaves va n))).invalidate c va (va + n)
/-! ### The capability list (R79, R80) -/

/-- One record: header and body. -/
def capRecord (id : Nat) (body : List Byte) (more : Bool) : List Byte :=
  leBytes 8 (id + 2 ^ 16 + body.length * 2 ^ 32 + (if more then (8 + body.length) * 2 ^ 48 else 0)) ++ body
/-- The bitmap of application cores. -/
def State.appBitmap (s : State) : Nat := pack 1 ((List.range 512).map (fun c => if s.isFw c then 0 else 1))
/-- The records of Table 4.8; bytes that the table does not name are 0 (DESIGN CHOICE, log 82). -/
def State.capList (s : State) : List Byte :=
  capRecord 1 ([2, 16, s.dev.setWidth 8, BitVec.ofNat 8 s.ring, 0, 0, 0, 0] ++ leBytes 64 s.appBitmap) true ++
  capRecord 2 (leBytes 4 0x00280000 ++ leBytes 4 0x00080000 ++ leBytes 4 0x00040000 ++ leBytes 4 0x00006000) true ++
  capRecord 3 [0x07, 0x1F, 0x07, 0, 0, 0, 0, 0] true ++
  capRecord 4 [8, 0, 0xFF, 0xFF, 0x1E, 0, 0, 0] true ++
  capRecord 5 ([0x0F, 8, 0, 0] ++ leBytes 4 0x00100000) true ++
  capRecord 6 [64, 0x03, 0, 0, 0, 0, 0, 0] true ++
  capRecord 7 (leBytes 4 0x000079FF ++ [0, 0, 0, 0]) true ++
  capRecord 8 ([2, 8] ++ leBytes 2 56 ++ [0, 0, 0, 0]) true ++
  capRecord 9 [1, 0, 0, 0, 0, 0, 0, 0] true ++
  capRecord 10 [24, 20, 16, 12, 0, 0, 0, 0] false
/-- Whether a range meets the page at which contexts see the list. -/
def State.meetsCaps (s : State) (va n : Nat) : Bool :=
  decide (s.capptr.toNat < va + n) && decide (va < s.capptr.toNat + 2 ^ 14)
/-- A section's permissions are set (R174); the list stays as it is mapped. -/
def State.protectRange (s : State) (c va n perm : Nat) : State :=
  let f (x : Ctx) : FMap Word := protectLeaves x.leaves va n perm
  (s.modCtx c (fun x => x.setLeaves (if s.meetsCaps va n then mapInto (unmapLeaves (f x) s.capptr.toNat (2 ^ 14)) s.capptr.toNat capFrame (2 ^ 14) 1 0
    else f x))).invalidate c va (va + n)
/-- Firmware maps the list read-only in a new context. -/
def State.mapCaps (s : State) (c : Nat) : State :=
  let s := s.putBytes (s.stored capFrame) s.capList
  s.modCtx c (fun x => x.setLeaves (mapInto x.leaves s.capptr.toNat capFrame (2 ^ 14) 1 0))

end Sys2Proof.Machine
end

