-- ==== Sys2Proof/Machine/Sync.lean ====
section
/-! DEFINITION. Events of the pair comparator, the barrier wires and the wait queues (15_group.md R315 to R318; 16_barrier.md R325 to R334). -/

namespace Sys2Proof.Machine

/-! ### The pair comparator (R315, R316, R318) -/

/-- Whether a word is a `PAIRCHK`. -/
def isPairchk (w : BitVec 32) : Bool := match decodeWord w with
  | some (.pairchk ..) => true
  | _ => false
/-- `TVAL` bits of a mismatch (R316, R318). -/
def mismatch (a b : Copy) : Nat :=
  if isPairchk a.word && a.word == b.word then (if a.data = b.data then 0 else 16)
  else (if a.word = b.word then 0 else 1) + (if a.addr = b.addr ∧ a.lanes = b.lanes then 0 else 2) + (if a.data = b.data then 0 else 4)
/-- The mismatch trap on both cores, the report, and the context's fault event (R316); a core that has not come to the
instruction traps at its present boundary (log 38). -/
def State.redundancyTrap (s : State) (c j bits_ : Nat) (a : Word) : State :=
  let x := (s.slot c j).ctx.toNat
  let t : Trap := ⟨Cause.redundancyMismatch, BitVec.ofNat 64 bits_, a.setWidth 48⟩
  let s := s.trapSlot c j t
  let s := if (s.slot (twinOf c) j).life = .free ∨ (s.slot (twinOf c) j).taskid ≠ (s.slot c j).taskid then s
    else s.trapSlot (twinOf c) j t
  (s.report 0 c x).faultEvent c x

/-- `PAIR_COMPARE`: both copies are there. -/
def execPairCompare (core slot : Nat) (s : State) : Host.Outcome State Fault Refusal :=
  let t := s.slot core slot
  let u := s.slot (twinOf core) slot
  match t.copy, u.copy with
  | some a, some b =>
    if core % 2 = 1 ∨ t.agreed ∨ u.agreed then .next s
    else if mismatch a b = 0 then
      .next ((s.modSlot core slot (fun t => { t with agreed := true })).modSlot (twinOf core) slot (fun t => { t with agreed := true }))
    else .next (s.redundancyTrap core slot (mismatch a b) a.addr)
  | _, _ => .next s

/-- `PAIR_COMPARE_TIMEOUT`: 1,024 fabric cycles, 854 ns rounded up, after the first copy of an outbound effect. -/
def execPairCompareTimeout (core slot : Nat) (s : State) : Host.Outcome State Fault Refusal :=
  let t := s.slot core slot
  let u := s.slot (twinOf core) slot
  match t.copy with
  | some a =>
    if u.copy.isSome ∨ t.agreed ∨ isPairchk a.word ∨ s.dtime.toNat < a.since + 854 then .next s
    else .next (s.redundancyTrap core slot 8 a.addr)
  | none => .next s

/-! ### Barriers (R325, R326, R329) -/

/-- An episode ends and the next opens. -/
def State.openNext (s : State) (k : Nat) : State :=
  let b := { s.barrier k with episode := (s.barrier k).episode + 1, participants := some (s.participants k), flags := [], completing := false }
  { s with barriers := s.barriers.set k b }

/-- `BARRIER_COMPLETE`. -/
def execBarrierComplete (key : Nat) (s : State) : Host.Outcome State Fault Refusal :=
  if (s.barrier key).completing then .next (s.openNext key) else .next s

/-- The arm of a slot at a barrier. -/
def Slot.armAt (t : Slot) (k : Nat) : Option (BitVec 32) := t.arms.find (armKey (keyChan k) (keyDom k))

/-- `BARRIER_RELEASE_ARRIVE`: slots of the core whose armed episode has completed go on. -/
def execBarrierReleaseArrive (core key : Nat) (s : State) : Host.Outcome State Fault Refusal :=
  let e := (s.barrier key).episode
  .next (s.modCore core (fun k => { k with slots := k.slots.map (fun t =>
    if t.life = .stalled .barrier ∧ t.awaiting.contains key ∧ t.armAt key ≠ some e then
      { t with awaiting := t.awaiting.filter (· != key), life := .running }
    else t) }))

/-- `TVAL` of `BARRIER_TIMEOUT` (R329). -/
def barrierTval (k : Nat) (m : List Nat) : Nat :=
  let bitsOf (f : Nat → Nat) : Nat := ((List.range 16).map (fun i => if m.any (fun c => f c == i) then 2 ^ i else 0)).sum
  m.length * 2 ^ 54 + m.headD 0 * 2 ^ 45 + keyDom k * 2 ^ 38 + keyChan k * 2 ^ 36 + bitsOf (fun c => c % 16) * 2 ^ 16 +
    bitsOf (fun c => c / 16 % 16)

/-- `BARRIER_TIMEOUT`: the slot traps, and the barrier records the missing set. -/
def execBarrierTimeout (core slot : Nat) (s : State) : Host.Outcome State Fault Refusal :=
  let t := s.slot core slot
  match t.awaiting with
  | [] => .next s
  | k :: _ =>
    let b := s.barrier k
    if t.life ≠ .stalled .barrier ∨ t.barto = 0 ∨ b.completing ∨ t.armAt k ≠ some b.episode ∨
        s.dtime.toNat + 1 < t.started + t.barto.toNat then .next s
    else
      let m := (b.members s k).filter (fun c => !b.flags.contains c)
      let s := { s with barriers := s.barriers.set k { b with missing := some m } }
      .next (s.trapSlot core slot ⟨Cause.barrierTimeout, BitVec.ofNat 64 (barrierTval k m), 0⟩)

/-! ### Wait queues at the owner (R332 to R334) -/

/-- A linked waiter wakes with a value: the reply leaves, and a stop meanwhile finds the result (R334). -/
def State.wakeOne (s : State) (o : Nat) (w : Nat × BitVec 32 × Nat) (v : Word) : State :=
  let c := w.1 / 8
  let j := w.1 % 8
  let s := (s.mirrors c j).foldl (fun s p => s.modSlot p.1 p.2 (fun t =>
    if t.taskid = w.2.1 then { t with linkedAt := none, woken := some v } else t)) s
  s.post (Agent.owner o) (Agent.slot c j) (.reply .woken c j w.2.1 w.2.2 v)
/-- A wait cell is read, which stamps its frame (R344). A header that software has changed: every waiter wakes with 2, and
the cell is empty (R332). -/
def State.checkCell (s : State) (o x la : Nat) : State :=
  let s := s.touchPage o x (la / 2 ^ 14) false
  let cell := cellKey x la
  let l := (s.core o).links.getD cell []
  if leNat (s.localBytes o x (la + 8) 8) = cellHeader l then s
  else (l.foldl (fun s w => s.wakeOne o w 2) s).setWaiters o cell []

/-- `WAITQ_AT_OWNER`: one event. A slot that has stopped meanwhile is not linked. -/
def execWaitqAtOwner (msg : Nat) (s : State) : Host.Outcome State Fault Refusal :=
  match s.take msg with
  | none => .next s
  | some (m, s') => match m.body with
    | .waitq x la c j task v =>
      let o := m.dst / 8
      let t := s.slot c j
      if t.taskid ≠ task ∨ t.ask ≠ some msg then .next (s'.leave o (msgWho msg))
      else if s.shut o then .next (s'.turnAway m)
      else if !s'.ownerReady o x c j then .next s
      else if s'.unservable o x la 16 (msgWho msg) then
        .next ((((s'.leave o (msgWho msg)).report 3 o x).giveAnswer c j task msg (BitVec.allOnes 64)).getD s)
      else if (s'.missing o x la 16 (msgWho msg)).isSome then .next (s.askPage o x la 16 (msgWho msg))
      else
        let s' := (s'.leave o (msgWho msg)).checkCell o x la
        if leNat (s'.localBytes o x la 8) ≠ v.toNat then .next ((s'.giveAnswer c j task msg 0).getD s)
        else
          let cell := cellKey x la
          .next ((s'.setWaiters o cell ((s'.core o).links.getD cell [] ++ [(c * 8 + j, task, msg)])).modSlot c j
            (fun t => { t with linkedAt := some (o, cell) }))
    | _ => .next s

/-- `WAKE_AT_OWNER`: the first waiters in the order of their linking; the count returns. -/
def execWakeAtOwner (msg : Nat) (s : State) : Host.Outcome State Fault Refusal :=
  match s.take msg with
  | none => .next s
  | some (m, s') => match m.body with
    | .wake x la c j task count =>
      let o := m.dst / 8
      let reply (s : State) (v : Word) : State := s.post m.dst (Agent.slot c j) (.reply .atomic c j task msg v)
      if s.shut o then .next (s'.turnAway m)
      else if !s'.ownerReady o x c j then .next s
      else if s'.unservable o x la 16 (msgWho msg) then
        .next (reply ((s'.leave o (msgWho msg)).report 3 o x) (BitVec.allOnes 64))
      else if (s'.missing o x la 16 (msgWho msg)).isSome then .next (s.askPage o x la 16 (msgWho msg))
      else
        let s' := (s'.leave o (msgWho msg)).checkCell o x la
        let cell := cellKey x la
        let l := (s'.core o).links.getD cell []
        let k := min count.toNat l.length
        let s' := ((l.take k).foldl (fun s w => s.wakeOne o w 1) s').setWaiters o cell (l.drop k)
        .next (reply s' (BitVec.ofNat 64 k))
    | _ => .next s

/-- `WAITER_WOKEN`: the reply reaches the waiting slot. -/
def execWaiterWoken (msg : Nat) (s : State) : Host.Outcome State Fault Refusal :=
  onMessage msg s (fun m s => match m.body with
    | .reply .woken c j task ask v => s.giveAnswer c j task ask v
    | _ => none)

end Sys2Proof.Machine
end

