-- ==== Sys2Proof/Machine/Life.lean ====
section
/-! DEFINITION. The life cycle of a context: creation, kernel loading, draining, release, and boundary commits of a core's pool (08_context.md R160 to R163; 09_kernel_task.md R174 to R177, R184; 10_queue.md R204; 11_tile.md R233; 13_codebook.md R281; 17_page.md R343, R344; 04_task_state.md R72, R73). -/

namespace Sys2Proof.Machine

/-! ### The host's command (R363) -/

/-- `n` bytes of the command window as a number. -/
def State.win (s : State) (off n : Nat) : Nat := s.num (windowAt off) n
def State.cmdOp (s : State) : Nat := s.win 0 1
def State.cmdCtx (s : State) : Nat := s.win 1 1
def State.cmdLen (s : State) : Nat := s.win 4 4
def State.cmdAddr (s : State) : Nat := s.win 8 8
def State.cmdArg (s : State) : Nat := s.win 16 8
/-- Word `k` of the payload. -/
def State.payWord (s : State) (k : Nat) : Nat := s.win (32 + 8 * k) 8
/-- The code of the host's firmware request. -/
def State.requestCode (s : State) : Nat := s.payWord 0 % 256
/-- The command ends: its status stands in the header, and `MBSTAT` reads done (R363). -/
def State.endCommand (s : State) (status : Nat) : State :=
  { s.putNum (windowAt 24) 4 status with sdioBusy := false, sdioDone := true, sdioWait := false }
/-- The command ends with a reply of `bytes` in the payload. -/
def State.endReply (s : State) (bytes : List Byte) : State :=
  ((s.putBytes (windowAt 32) bytes).putNum (windowAt 4) 4 bytes.length).endCommand 0
/-- Whether a command of the operation, for the context byte, is in progress on a running device. -/
def State.serving (s : State) (op : Nat) (ctx : Option Nat) : Bool :=
  s.sdioBusy && s.phase == .running && s.cmdOp == op && (match ctx with
    | some c => s.cmdCtx == c
    | none => true)
/-- The payload of the request that Headland has posted, where firmware serves it: before the host's, but for one of the
host's that waits for an invalidation (R321, Table 20.1; log 41). -/
def State.mailed (s : State) : Option (List Word) :=
  if s.sdioWait then none else s.headland.mail.head?.map Config.mailboxWords
/-- Word `k` of the request that firmware serves. -/
def State.reqWord (s : State) (k : Nat) : Nat :=
  match s.mailed with
  | some ws => (ws.getD k 0).toNat
  | none => s.payWord k
/-- Words of the request that firmware serves. -/
def State.reqWords (s : State) : Nat :=
  match s.mailed with
  | some ws => ws.length
  | none => s.cmdLen / 8
/-- Whether firmware request `code` is in progress. -/
def State.requested (s : State) (code : Nat) : Bool :=
  match s.mailed with
  | some _ => s.phase == .running && s.reqWord 0 == code
  | none => s.serving 2 (some 0xFF) && s.requestCode == code
/-- Headland's request ends: a read of `HFWMB` returns its status. -/
def State.endMail (s : State) (status : Nat) : State :=
  { s with headland := { s.headland with
    mail := s.headland.mail.tail, fwstatus := BitVec.ofNat 32 status, mailWait := false } }
/-- The request that firmware serves ends. -/
def State.endRequest (s : State) (status : Nat) : State :=
  if s.mailed.isSome then s.endMail status else s.endCommand status
/-- The request that firmware serves waits for an invalidation. -/
def State.requestWaits (s : State) : State :=
  if s.mailed.isSome then { s with headland := { s.headland with mailWait := true } } else { s with sdioWait := true }
/-- Whether it waits so. -/
def State.reqWait (s : State) : Bool := if s.mailed.isSome then s.headland.mailWait else s.sdioWait

/-! ### Creation (R160) -/

/-- Coves of a context's cores. -/
def Ctx.coves (x : Ctx) : List Nat := ((List.range 512).filter x.has |>.map coveOf).dedup
/-- Whether firmware refuses the creation (R160). -/
def State.createRefused (s : State) (c : Nat) (x : Ctx) : Bool :=
  let cores := (List.range 512).filter x.has
  (s.ctx c).state != .free || decide (x.pmax < x.pmin) || cores.any s.walled || !x.has x.trapcore ||
    cores.any (fun k => decide (x.sws > (s.core k).b2.toNat - (s.core k).b1.toNat)) ||
    (x.pair && cores.any (fun k => !x.has (twinOf k))) || (x.hbwatch != 0 && decide (x.pmax < 40))
/-- The context is created in the loading state: `ENRG`, owner flag words and virtual times are cleared. Its quota is 0 till
the first period boundary (R169; DESIGN CHOICE, log 96). -/
def State.createContext (s : State) (c : Nat) (x : Ctx) : State :=
  let s := s.setCtx c { x with state := .loading }
  let s := { s with cores := s.cores.map (fun p : Nat × Core =>
    (p.1, { p.2 with vt := p.2.vt.del c, flagWords := p.2.flagWords.del c, enrg := p.2.enrg.del c })) }
  x.coves.foldl (fun s v => s.fillTable v) (s.mapCaps c)

/-! ### The kernel image (R174 to R177) -/

/-- The stored addresses of a virtual range, each page with the access allowed. -/
def State.vaddrs (s : State) (c va n : Nat) (k : Acc) : Option (List Nat) :=
  if n = 0 then some []
  else if va + n > 2 ^ 48 then none
  else ((List.range ((va + n + 2 ^ 14 - 1) / 2 ^ 14 - va / 2 ^ 14)).mapM (fun i =>
    let p := va / 2 ^ 14 + i
    match s.walk c (p * 2 ^ 14) with
    | .ok t => if t.allows k then
        some ((List.range (min (va + n) ((p + 1) * 2 ^ 14) - max va (p * 2 ^ 14))).map (fun j => s.through t (max va (p * 2 ^ 14) + j)))
      else none
    | .error _ => none)).map List.flatten
def State.vread (s : State) (c va n : Nat) : Option (List Byte) := (s.vaddrs c va n .load).map (fun l => l.map s.byte)
/-- Whether every page of a range is mapped for the accesses. -/
def State.vmapped (s : State) (c va n : Nat) (ks : List Acc) : Bool :=
  decide (va + n ≤ 2 ^ 48) && (List.range ((va + n + 2 ^ 14 - 1) / 2 ^ 14 - va / 2 ^ 14)).all (fun i =>
    match s.walk c ((va / 2 ^ 14 + i) * 2 ^ 14) with
    | .ok t => ks.all t.allows
    | .error _ => false)
def field (l : List Byte) (off n : Nat) : Nat := leNat ((l.drop off).take n)
/-- The 64-bit words of a descriptor. -/
def descWords (l : List Byte) : List Word := (List.range (l.length / 8)).map (fun i => BitVec.ofNat 64 (field l (8 * i) 8))
/-- Bits `lo` up of a word of a descriptor. -/
def dbits (d : List Word) (w lo n : Nat) : Nat := bits ((d[w]?).getD 0).toNat lo n
/-- Bit `c` of the 512-bit `CORES` in words 8 to 15. -/
def descCores (d : List Word) : List Nat := (List.range 512).filter (fun c => dbits d (8 + c / 64) (c % 64) 1 == 1)
/-- The kernel header's fields (Table 9.1). -/
structure Header where
  nh : Nat
  code : Nat
  codeLen : Nat
  rod : Nat
  rodLen : Nat
  data : Nat
  dataLen : Nat
  htab : Nat
  desc : Nat
  ndesc : Nat
  deriving DecidableEq, Repr
/-- The image's bytes run to the end of its last section (log 45). -/
def Header.size (h : Header) : Nat := max 64 (max (h.code + h.codeLen) (max (h.rod + h.rodLen) (h.data + h.dataLen)))
/-- Whether [off, off + n) lies in the read-only data. -/
def Header.inRod (h : Header) (off n : Nat) : Bool := decide (h.rod ≤ off) && decide (off + n ≤ h.rod + h.rodLen)
/-- The header, when magic, version and sections keep R174. -/
def readHeader (l : List Byte) : Option Header :=
  let h : Header := ⟨field l 6 2, field l 8 4, field l 12 4, field l 16 4, field l 20 4, field l 24 4, field l 28 4,
    field l 32 4, field l 36 4, field l 40 4⟩
  if field l 0 4 = 0x38384B45 ∧ field l 4 2 = 1 ∧ 1 ≤ h.nh ∧ h.code % 2 ^ 14 = 0 ∧ h.rod % 2 ^ 14 = 0 ∧ h.data % 2 ^ 14 = 0 ∧
      h.inRod h.htab (16 * h.nh) ∧ h.inRod h.desc (16 * h.ndesc) then some h
  else none
/-- A footprint (R184): its banks and its ranges of local pages. -/
def readFootprint (lpages : Nat) (d : List Word) : Option (BitVec 8 × List (Nat × Nat)) :=
  let nr := dbits d 0 0 3
  let rs := (List.range nr).map (fun k => (dbits d (k + 1) 0 32, dbits d (k + 1) 32 16))
  if dbits d 0 16 48 = 0 ∧ dbits d 0 3 5 = 0 ∧ (List.range nr).all (fun k => dbits d (k + 1) 48 16 == 0) ∧
      rs.all (fun r => r.1 % 2 ^ 14 == 0 && decide (1 ≤ r.2) && decide (r.2 ≤ 512) && decide (r.1 / 2 ^ 14 + r.2 ≤ lpages)) then
    some (BitVec.ofNat 8 (dbits d 0 8 8), rs.map (fun r => (r.1 / 2 ^ 14, r.2)))
  else none
/-- A handler (Table 9.2) with its footprint, whose pages fit the scratchpad of each core;
overlapping ranges count twice (R184; DESIGN CHOICE, log 87). -/
def readHandler (h : Header) (lpages frames : Nat) (byte : Nat → Nat → List Byte) (i : Nat) : Option Handler :=
  let e := byte (h.htab + 16 * i) 16
  let b := field e 4 3
  let p := field e 7 1
  let f := field e 8 4
  let q := field e 12 1
  if field e 0 4 % 8 = 0 ∧ field e 0 4 < h.codeLen ∧ 64 ≤ b ∧ (p ≤ 47 ∨ p = 0xFF) ∧ (q ≤ 15 ∨ q = 0xFF) ∧ field e 13 3 = 0 then
    if f = 0 then some { entry := field e 0 4, budget := b, prio := p, queue := q }
    else if f % 8 = 0 ∧ h.inRod f 64 then
      match readFootprint lpages (descWords (byte f 64)) with
      | some (m, l) =>
        if (l.map (·.2)).sum ≤ frames then some { entry := field e 0 4, budget := b, prio := p, queue := q, cbm := m, pages := l }
        else none
      | none => none
    else none
  else none
/-- Window fields of a descriptor (R204). -/
def windowOk (wlen wphase stale : Nat) (subs : Word) (sources : Nat) : Bool :=
  (wlen == 0 || decide (1000 ≤ wlen)) && (if wlen = 0 then wphase == 0 && subs == 0 && stale == 0 else decide (wphase < wlen)) &&
    (stale == 0 || decide (1000 ≤ stale)) && decide (subs.toNat < 2 ^ sources)
/-- Reserved bits of a queue descriptor (Table 10.3): one that is not 0 refuses the kernel (R204; DESIGN CHOICE, log 96). -/
def queueReserved (d : List Word) : Bool :=
  dbits d 0 44 4 != 0 || dbits d 0 36 4 != 0 || dbits d 0 30 2 != 0 || dbits d 0 25 2 != 0 || dbits d 3 0 32 != 0 ||
    (List.range 4).any (fun i => dbits d (4 + i) 0 64 != 0)
/-- A queue descriptor that keeps R204, as the bindings it makes. -/
def Ctx.readQueue (x : Ctx) (cid : Nat) (frames : Nat → Nat) (d : List Word) : Option (List (Nat × Queue)) :=
  let size := dbits d 0 32 4
  let q := dbits d 0 40 4
  let h := dbits d 0 48 16
  let ring := dbits d 0 0 24
  let poll := dbits d 0 24 1 == 1
  let subs := (d[2]?).getD 0
  let cs := descCores d
  if queueReserved d ∨ size < 6 ∨ 12 < size ∨ ring % (16 * 2 ^ size) ≠ 0 ∨ ring + 16 * 2 ^ size > 2 ^ 14 * x.lpages ∨
      cs.any (fun c => decide (ring + 16 * 2 ^ size > 2 ^ 14 * frames c)) ∨
      !windowOk (dbits d 1 32 32) (dbits d 1 0 32) (dbits d 3 32 32) subs x.sources.length ∨ cs.any (fun c => !x.has c) ∨
      (!poll ∧ (h ≥ x.handlers.length ∨ (x.handler h).prio = 0xFF ∨ ((x.handler h).queue ≠ 0xFF ∧ (x.handler h).queue ≠ q))) then none
  else
    let u : Queue := {
      ctx := cid, handler := h, size := size, ovf := dbits d 0 29 1 == 1, latep := dbits d 0 28 1 == 1
      tadv := dbits d 0 27 1 == 1, poll := poll, ring := ring, wlen := dbits d 1 32 32, wphase := dbits d 1 0 32
      subs := subs, stale := dbits d 3 32 32 }
    some (cs.map (fun c => (c * 16 + q, u)))
/-- A tile stream descriptor that keeps R233, with its number; a reserved bit that is not 0 refuses it (DESIGN CHOICE, log
96). -/
def Ctx.readStream (x : Ctx) (cid : Nat) (d : List Word) : Option (Nat × TileStream) :=
  let t : TileStream := { ctx := cid, d := d }
  let v := dbits d 0 51 6
  let tc := dbits d 6 4 9
  if dbits d 0 60 4 ≠ 0 ∨ dbits d 0 48 3 ≠ 0 ∨ dbits d 0 33 3 ≠ 0 ∨ dbits d 0 0 16 ≠ 0 ∨ dbits d 1 11 21 ≠ 0 ∨ dbits d 5 0 32 ≠ 0 ∨
      (List.range 9).any (fun i => dbits d (7 + i) 0 64 != 0) ∨ t.fill = 0 ∨ t.tage < 100 ∨ 10000000 < t.tage ∨ t.maxblk = 0 ∨
      1024 < t.maxblk ∨ t.width = 0 ∨ 4096 < t.width ∨ t.height = 0 ∨ 4096 < t.height ∨
      !windowOk t.wlen t.wphase t.stale t.subs x.sources.length ∨ !x.coves.contains v ∨ t.maxblk < t.tileBlocks then none
  else if t.toJob then
    (if dbits d 6 57 7 ≠ 0 ∨ dbits d 6 0 7 ≠ 0 ∨ !x.has (dbits d 6 48 9) ∨ coveOf (dbits d 6 48 9) ≠ v then none else some (v * 8 + dbits d 0 57 3, t))
  else if dbits d 6 13 51 ≠ 0 ∨ !x.has tc ∨ coveOf tc ≠ v then none
  else some (v * 8 + dbits d 0 57 3, t)
/-- A codebook descriptor that R281 does not refuse, as the preloads it asks for. Reserved bits are no ground
(DESIGN CHOICE, log 96). -/
def Ctx.readPreload (x : Ctx) (readable : Nat → Nat → Bool) (d : List Word) : Option (List Preload) :=
  let fmt := dbits d 0 0 24
  let bank := dbits d 0 24 3
  let src := dbits d 1 0 48
  let cs := descCores d
  if !x.cbmask.getLsbD bank ∨ cs.any (fun c => !x.has c) ∨ !formatOk (BitVec.ofNat 64 fmt) ∨ src % 64 ≠ 0 ∨
      !readable src (formatBytes fmt) then none
  else some (cs.map (fun c => ⟨c, bank, fmt, src, dbits d 0 28 1 == 1, false⟩))
/-- Kind and offset of the directory's entries (Table 9.7), when each keeps R177. -/
def readDirectory (h : Header) (byte : Nat → Nat → List Byte) : Option (List (Nat × Nat)) :=
  (List.range h.ndesc).mapM (fun i =>
    let e := byte (h.desc + 16 * i) 16
    let k := field e 0 1
    let off := field e 8 4
    if 1 ≤ k ∧ k ≤ 5 ∧ field e 1 7 = 0 ∧ field e 12 4 = 0 ∧ off % (if k = 3 then 128 else 8) = 0 ∧
        off + (if k = 5 then 64 else 128) ≤ h.size then some (k, off) else none)
/-- Frames of a core's scratchpad (R344). -/
def State.frames (s : State) (c : Nat) : Nat := (s.core c).frameCount
/-- Sections of an image: offset, length, permissions. -/
def Header.sections (h : Header) : List (Nat × Nat × Nat) := [(h.code, h.codeLen, 5), (h.rod, h.rodLen, 1), (h.data, h.dataLen, 3)]
/-- The checks that loading makes of an image (R174, R177, R184, R204, R233, R281, R343), and what it gives the
context; `none` is a load error. That a section on the spill area, whose permissions the load would change, is one too is the
model's choice (R343; DESIGN CHOICE, log 96). -/
def State.readKernel (s : State) (c va : Nat) : Option Ctx := do
  let x := s.ctx c
  if va % 2 ^ 14 ≠ 0 then none else pure ()
  let h ← (s.vread c va 64).bind readHeader
  if !s.vmapped c va h.size [.load] then none else pure ()
  let byte (off n : Nat) : List Byte := (s.vread c (va + off) n).getD []
  let lp ← (s.vread c x.spill 8).map leNat
  let x := { x with lpages := lp }
  if h.sections.any (fun p => p.2.1 != 0 &&
    x.touchesSpill (va + p.1) ((p.2.1 + 2 ^ 14 - 1) / 2 ^ 14 * 2 ^ 14)) then none else pure ()
  if lp = 0 ∨ lp > 512 ∨ x.sws > 2 ^ 14 * lp ∨ x.spill % 2 ^ 14 ≠ 0 ∨ !s.vmapped c x.spill x.spillBytes [.store] then none else pure ()
  let cores := (List.range 512).filter x.has
  let fr := cores.foldl (fun a k => min a (s.frames k)) 160
  let hs ← (List.range h.nh).mapM (readHandler h lp fr byte)
  let x := { x with handlers := hs, image := va, code := va + h.code }
  let dir ← readDirectory h byte
  let of_ (k : Nat) : List (List Word) := (dir.filter (fun e => e.1 == k)).map (fun e => descWords (byte e.2 128))
  let qs ← ((of_ 1).mapM (x.readQueue c s.frames)).map List.flatten
  let ts ← (of_ 2).mapM (x.readStream c)
  let ps ← ((of_ 4).mapM (x.readPreload (fun a n => s.vmapped c a n [.load]))).map List.flatten
  if (qs.map (·.1)).dedup.length ≠ qs.length ∨ (ts.map (·.1)).dedup.length ≠ ts.length ∨
      (ps.map (fun p => p.core * 8 + p.bank)).dedup.length ≠ ps.length ∨
      qs.any (fun q => match (s.core (q.1 / 16)).queues.find (q.1 % 16) with
        | some u => u.ctx != c
        | none => false) ∨
      ts.any (fun t => ((s.cove (t.1 / 8)).bw.streams.find (t.1 % 8)).isSome) ∨
      !qs.any (fun q => q.1 == x.trapcore * 16 + x.trapq) then none else pure ()
  let qs := if x.pair then qs.flatMap (fun q => if qs.any (fun r => r.1 == twinOf (q.1 / 16) * 16 + q.1 % 16) then [q]
    else [q, (twinOf (q.1 / 16) * 16 + q.1 % 16, q.2)]) else qs
  pure { x with binds := qs, sbinds := ts, preloads := ps, pending := some true }
/-- Firmware reads the kernel (R174): the sections take their permissions and the fixed pages are requested, or the
load will end in an error. -/
def State.beginKernel (s : State) (c va : Nat) : State :=
  match s.readKernel c va with
  | none => s.modCtx c (fun x => { x with pending := some false })
  | some x =>
    let s := s.setCtx c x
    let secs := match (s.vread c va 64).bind readHeader with
      | some h => h.sections
      | none => []
    let s := secs.foldl (fun s p => if p.2.1 = 0 then s
      else s.protectRange c (va + p.1) ((p.2.1 + 2 ^ 14 - 1) / 2 ^ 14 * 2 ^ 14) p.2.2) s
    ((List.range 512).filter x.has).foldl (fun s k => s.modCore k (fun q =>
      (x.fixedPages k).foldl (fun q p => q.request c p) q)) s

/-! ### The end of loading (Table 8.2) -/

/-- The state of a core's fixed pages: whether all are there, and whether they cannot be. -/
def State.fixedState (s : State) (c k : Nat) : Bool × Bool :=
  let x := s.ctx c
  let q := s.core k
  let pages := x.fixedPages k
  let others := (q.frames.filter (fun f => decide (0 < f.2.pins) && !(f.2.ctx == c))).length
  (pages.all (fun p => match q.frameOf c p with
    | some (_, f) => f.state == .resident && !f.fault
    | none => false),
   decide (q.frameCount - others < pages.length) || pages.any (fun p => match q.frameOf c p with
    | some (_, f) => f.fault
    | none => false))
/-- The translations of a range's pages, as firmware finds them. -/
def State.walkPages (s : State) (c a n : Nat) : List (Nat × TlbEntry) :=
  (pieceStarts a n (2 ^ 14)).filterMap (fun p => match s.walk c p with
    | .ok t => some (p / 2 ^ 14, t)
    | .error _ => none)
/-- One step of a preload (R281): the claim, the load, and what its end showed. `none`: a load error. -/
def State.preloadStep (s : State) (c : Nat) (p : Preload) : Option (State × Bool) :=
  let done_ (s : State) : State × Bool :=
    (s.modCtx c (fun x => { x with preloads := x.preloads.filter (fun o => !(o.core == p.core && o.bank == p.bank)) }), true)
  let s := s.ownBank p.core p.bank c
  let b := (s.core p.core).bank p.bank
  if !s.holdsBank p.core p.bank c ∨ !b.loaders.isEmpty then some (s, false)
  else if p.begun then
    if (b.side b.shadow).state ≠ .standby then none
    else some (done_ (if p.live then s.modCore p.core (fun k => k.setBank p.bank (k.bank p.bank).swap) else s))
  else
    let pages := s.walkPages c p.src (formatBytes p.fmt)
    let (s, f) := s.beginLoad p.core ⟨p.bank, 2, p.src, p.fmt, false⟩ none none pages (pages.all (fun q => !q.2.allows .engineWrite))
    if f.isSome then none
    else some (s.modCtx c (fun x => { x with preloads := x.preloads.map (fun o =>
      if o.core = p.core ∧ o.bank = p.bank then { o with begun := true } else o) }), false)
/-- Preloads go on in order, as far as they can. -/
def State.preload (s : State) (c : Nat) : List Preload → Option (State × Bool)
  | [] => some (s, true)
  | p :: l => match s.preloadStep c p with
    | none => none
    | some (s', true) => s'.preload c l
    | some (s', false) => some (s', false)
/-- A queue as it goes live (R206, R211, R213, R216). -/
def Queue.live (u : Queue) (t : Nat) : Queue :=
  let now : BitVec 48 := BitVec.ofNat 48 t
  { u with window := if u.wlen = 0 then 0 else windowAt' u.wlen u.wphase t
           tm := ((List.range 64).filter (fun i => u.subs.getLsbD i)).map (fun i => (i, now)), done := now }
def TileStream.live (u : TileStream) (t : Nat) : TileStream :=
  let k := if u.wlen = 0 then 0 else windowAt' u.wlen u.wphase t
  { u with window := k, first := k, tm := ((List.range 64).filter (fun i => u.subs.getLsbD i)).map (fun i => (i, BitVec.ofNat 48 t)) }
/-- The context becomes ready: its bindings go live, its outgoing tidemarks start, and its episodes open (R161, R204,
R213, R233, R323, R391). -/
def State.makeReady (s : State) (c : Nat) : State :=
  let x := s.ctx c
  let t := s.dtime.toNat
  let s := x.binds.foldl (fun s b => s.modCore (b.1 / 16) (fun k => { k with queues := k.queues.set (b.1 % 16) (b.2.live t) })) s
  let s := x.sbinds.foldl (fun s b => s.modCove (b.1 / 8) (fun k =>
    { k with bw := { k.bw with streams := k.bw.streams.set (b.1 % 8) (b.2.live t) } })) s
  let s := (x.coves.flatMap (fun v => (List.range 8).map (coreAt v))).foldl (fun s k => s.modCore k (fun q =>
    { q with tout := q.tout.set c s.now48 })) s
  let s := { s with barriers := s.barriers.filter (fun b => keyCtx b.1 != c) }
  (s.setCtx c { x with state := .ready, pending := none, binds := [], sbinds := [], hbLast := t, hbSeq := 0, barsDrained := false })
/-- The requests that asked for the load end: the host's, and Headland's. -/
def State.endLoad (s : State) (c status : Nat) : State :=
  let s := if s.serving 2 (some 0xFF) && s.requestCode == 9 && s.payWord 1 == c then s.endCommand status else s
  if s.mailed.isSome && s.requested 9 && s.reqWord 1 == c then s.endMail status else s
/-- A matrix engine's chunks that a context owns are zeroed, and are no context's (R257). -/
def State.dropChunks (s : State) (v c : Nat) : State :=
  let own := ((s.cove v).mxe.owners.filter (fun o => o.2 == c)).map (fun o => o.1)
  { s with mem := own.foldl (fun m k => Mem.clear m (accAt v (4096 * k)) 4096) s.mem }.modCove v (fun k =>
    { k with mxe := { k.mxe with owners := k.mxe.owners.filter (fun o => o.2 != c) } })
/-- The context is released; its translations are to be dropped, and its windows and banks scrubbed (Table 8.2). Its
accumulator chunks are given up, and the frames of its coves are filled without it (R257, R263). -/
def State.release (s : State) (c : Nat) : State :=
  let give (s : State) : State := (s.ctx c).coves.foldl (fun s v => (s.dropChunks v c).fillTable v) s
  (give (s.modCtx c (fun x => { x with state := .released, pending := none, preloads := [], saved := [], pt := [], trace := [], traceDrops := 0 }))).invalidate c 0 (2 ^ 48)

/-- `CONTEXT_LOAD_DONE`: the fixed pages are there and the preloads done, or the load is in error. -/
def execContextLoadDone (ctx : Nat) (s : State) : Host.Outcome State Fault Refusal :=
  let x := s.ctx ctx
  if x.state ≠ .loading then .next s
  else match x.pending with
    | none => .next s
    | some false => .next ((s.release ctx).endLoad ctx 5)
    | some true =>
      let cores := (List.range 512).filter x.has
      if cores.any (fun k => (s.fixedState ctx k).2) then .next ((s.release ctx).endLoad ctx 5)
      else if !cores.all (fun k => (s.fixedState ctx k).1) then
        .next (cores.foldl (fun s k => s.modCore k (fun q => (x.fixedPages k).foldl (fun q p => q.request ctx p) q)) s)
      else if s.invals.any (fun i => i.ctx == ctx) then .next s
      else match s.preload ctx x.preloads with
        | none => .next ((s.release ctx).endLoad ctx 5)
        | some (s, false) => .next s
        | some (s, true) => .next ((s.makeReady ctx).endLoad ctx 0)

/-! ### Draining (R163) -/

/-- What a core gives up for a context that enters draining: pending items but those of its trap queue, retained
entries, unpinned local pages and banks. -/
def State.drainCore (s : State) (c : Nat) (k : Nat) : State :=
  let x := s.ctx c
  let trapQ (q : Nat) : Bool := x.trapq == q && s.homeOf x.trapcore c == k
  let gone := (s.core k).items.filter (fun i => i.start.ctx == c && (match i.kind with
    | .record q _ _ => !trapQ q
    | _ => true))
  let s := gone.foldl (fun s i => s.dropItem k i) s
  let s := (s.core k).queues.foldl (fun s p => if p.2.ctx = c ∧ s.homeOf k c = k then
      s.modQueue k p.1 c (fun u => { u with head := if trapQ p.1 then u.head else u.tail, closes := [], ovfPending := false })
    else s) s
  let s := ((s.core k).svc.filter (fun i => i.start.ctx == c)).foldl (fun s i =>
    (s.both k c).foldl (fun s d => s.modCore d (fun q => i.pins.foldl (fun q p => q.unpinPage c p) q))
      (s.answerMsg k i.answer (BitVec.allOnes 64))) s
  let s := s.modCore k (fun q => { q with svc := q.svc.filter (fun i => i.start.ctx != c) })
  let s := s.modCore k (fun q => (q.retained.filter (fun e => e.2.ctx == c)).foldl (fun q e => q.dropRetained e.1) q)
  let free := (s.core k).frames.filter (fun f => f.2.ctx == c && f.2.pins == 0)
  let next := (List.filterMap (fun f : Nat × Frame => f.2.next) free).filter (fun r => r.ctx != c)
  let mem := (List.map (fun f : Nat × Frame => f.1) free).foldl (fun m f => Mem.clear m (poolAt k ((s.core k).frameOff f)) (2 ^ 14)) s.mem
  let s := { s with mem := mem }
  let s := s.modCore k (fun q =>
    let q := { q with frames := q.frames.filter (fun f => !(f.2.ctx == c && f.2.pins == 0)), fills := q.fills.filter (fun r => r.ctx != c), waits := q.waits.filter (fun w => w.1 != c) }
    let q := { q with frames := q.frames.map (fun f : Nat × Frame => match f.2.next with
      | some r => if r.ctx = c then (f.1, { f.2 with next := none }) else f
      | none => f) }
    (next.foldl (fun q r => q.request r.ctx r.page r.cls) q).retryFills)
  s.modCore k (fun q => (List.range 8).foldl (fun q b =>
    if (q.bank b).holder = some c then q.setBank b ({ q.bank b with dying := true } : Bank).settle else q) q)
/-- Stopped tasks of a context are killed (R163). -/
def State.killStopped (s : State) (c : Nat) (k : Nat) : State :=
  (List.range 5).foldl (fun s j =>
    let t := s.slot k j
    if t.life = .trapped ∧ t.ctx.toNat = c then s.killTask k j else s) s
/-- Every barrier of the context completes by draining (R325): the slots that wait for the episode answer 1. -/
def State.drainBarriers (s : State) (c : Nat) : State :=
  let keys := (List.map (·.1) s.barriers).filter (fun k => keyCtx k == c)
  let s := keys.foldl (fun s k =>
    let e := (s.barrier k).episode
    let s := s.openNext k
    { s with barriers := s.barriers.set k { s.barrier k with drained := some e } }) s
  s.modCtx c (fun x => { x with barsDrained := true })
/-- The context enters draining (R163). Every tile of it is freed (Table 11.5), those that a job reads too: the job runs
on, and their blocks return once it has given them up (R260, log 90). -/
def State.enterDraining (s : State) (c : Nat) : State :=
  let s := s.modCtx c (fun x => { x with state := .draining, drainRecorded := false, faultRecorded := false })
  let x := s.ctx c
  let cores := (List.range 512).filter x.has
  let s := cores.foldl (fun s k => s.drainCore c k) s
  let s := x.coves.foldl (fun s v => (s.drainMxe v c).drainEbb v c) s
  let s := x.coves.foldl (fun s v => s.modCove v (fun k => { k with bw := k.bw.release (fun t => t.ctx == c) })) s
  let s := s.drainBarriers c
  cores.foldl (fun s k => s.killStopped c k) s
/-- Whether a message carries a task or a pending effect of a context. -/
def Body.carries (b : Body) (c : Nat) : Bool :=
  match b with
  | .spawnr st _ _ _ => st.ctx == c
  | .unspawn _ _ _ _ x _ => x == c
  | .amsg st _ _ _ _ => st.ctx == c
  | .migrate st _ => st.ctx == c
  | .stealReply _ _ (some i) => i.start.ctx == c
  | .mxq _ x _ _ _ _ _ _ => x == c
  | .atomic a => a.ctx == c
  | .coveStore x _ _ _ _ _ => x == c
  | .coveScatter x _ _ => x == c
  | .coveLoad x _ _ _ _ => x == c
  | .jdone x _ _ _ _ => x == c
  | .waitq x _ _ _ _ _ => x == c
  | .wake x _ _ _ _ _ => x == c
  | _ => false
/-- Whether anything of a draining context remains (Table 8.2): a task, a job, a retained set or a stopped task. -/
def State.remains (s : State) (c : Nat) : Bool :=
  s.cores.any (fun p => p.2.slots.toList.any (fun t => decide (t.life ≠ .free) && t.ctx.toNat == c) ||
    p.2.items.any (fun i => i.start.ctx == c) || p.2.svc.any (fun i => i.start.ctx == c) ||
    p.2.retained.any (fun e => e.2.ctx == c) || p.2.banks.toList.any (fun b => b.holder == some c && !b.loaders.isEmpty) ||
    p.2.banks.toList.any (fun b => b.passing == some c || (b.holder == some c && b.moved != 0))) ||
  s.coves.any (fun v => v.2.mxe.jobs.any (fun j => j.ctx == c && !j.finished) || v.2.ebb.jobs.any (fun j => j.ctx == c && !j.finished) ||
    v.2.bw.tiles.any (fun t => t.ctx == c)) || s.net.any (fun m => m.body.carries c)

/-- `CONTEXT_DRAIN_DONE`. -/
def execContextDrainDone (ctx : Nat) (s : State) : Host.Outcome State Fault Refusal :=
  if (s.ctx ctx).state = .draining ∧ !s.remains ctx then .next (s.release ctx) else .next s

/-- A bank without a released context: it passes empty to the oldest claim. -/
def Bank.scrub (c stamp : Nat) (b : Bank) : Bank :=
  let l := b.claims.filter (· != c)
  if b.holder = some c then
    { sides := Vector.replicate 2 {}, gen := b.gen + 1, holder := l.head?, claims := l.drop 1, since := stamp }
  else { b with claims := l }
/-- A core's share of a released context is scrubbed: its frames and codebook units read zero, and its queues end. -/
def State.scrubCore (s : State) (c k : Nat) : State :=
  let q := s.core k
  let fr := (q.frames.filter (fun f => f.2.ctx == c)).map (·.1)
  let units := (q.banks.toList.filter (fun b => b.holder == some c)).flatMap (fun b => b.sides.toList.flatMap (·.units))
  let mem := fr.foldl (fun m f => Mem.clear m (poolAt k (q.frameOff f)) (2 ^ 14)) s.mem
  let mem := units.foldl (fun m u => Mem.clear m (poolAt k (q.b0.toNat + 1024 * u)) 1024) mem
  { s with mem := mem }.modCore k (fun q =>
    { q with
      frames := q.frames.filter (fun f => f.2.ctx != c)
      fills := q.fills.filter (fun r => r.ctx != c)
      waits := q.waits.filter (fun w => w.1 != c)
      queues := q.queues.filter (fun u => u.2.ctx != c)
      banks := q.banks.map (Bank.scrub c q.stamp) }.retryFills)

/-- `CONTEXT_SCRUB_DONE`: the number may be reused. -/
def execContextScrubDone (ctx : Nat) (s : State) : Host.Outcome State Fault Refusal :=
  let x := s.ctx ctx
  if x.state ≠ .released ∨ s.invals.any (fun i => i.ctx == ctx) then .next s
  else
    let s := ((List.range 512).filter x.has).foldl (fun s k => s.scrubCore ctx k) s
    let s := x.coves.foldl (fun s v => s.modCove v (fun k =>
      { k with bw := { k.bw with streams := k.bw.streams.filter (fun t => t.2.ctx != ctx), tiles := k.bw.tiles.filter (fun t => t.ctx != ctx) }
               tlb := k.tlb.filter (fun t => t.ctx != ctx), walks := k.walks.filter (fun w => w.ctx != ctx), misses := k.misses.filter (fun w => w.ctx != ctx) })) s
    let s := { s with
      ctxs := s.ctxs.del ctx
      timers := s.timers.filter (fun t => t.ctx != ctx)
      barriers := s.barriers.filter (fun b => keyCtx b.1 != ctx) }
    .next s

/-! ### Boundary commits (R72, R73) -/

/-- The limits of R72 on a core's boundaries. -/
def boundsOk (b0 b1 b2 : Nat) : Bool :=
  decide (24576 ≤ b0) && decide (b0 ≤ 65536) && b0 % 4096 == 0 && decide (b0 ≤ b1) && decide (b1 - b0 ≤ 262144) && (b1 - b0) % 4096 == 0 &&
    decide (b1 ≤ b2) && (b2 - b1) % 16384 == 0 && decide (b2 ≤ 0x280000) && decide (524288 ≤ 0x280000 - b2) && (0x280000 - b2) % 32768 == 0
/-- Whether a location of an engine's job of cove `v` names the scratchpad of core `c` (R251). -/
def locNames (v c loc core : Nat) : Bool := (loc == 0 && core == c) || (loc == 1 && coveOf c == v)
/-- Whether an MXE job names the scratchpad or the banks of a core: an operand, its indices or its bank, D, or a side that it
has sampled. -/
def Job.names (j : Job) (v c : Nat) : Bool :=
  [false, true].any (fun b => if j.loc b = 4 then j.coreOf b == c || locNames v c (j.iloc b) (j.coreOf b)
    else locNames v c (j.loc b) (j.coreOf b)) ||
  ((!j.nodr || j.acc == 2) && locNames v c j.dloc j.dcore) || j.sides.any (fun d => d.2.1 == c)
/-- Whether an Ebb job names the scratchpad or the banks of a core: a CBFETCH its bank and source, a `COPY` both its sides,
another command its pages. -/
def State.ebbNames (s : State) (v : Nat) (j : EbbJob) (c : Nat) : Bool :=
  match j.fetch with
  | some (q, _, _, mode, _) => (s.fetchCores j q).any (fun d => d == c || locNames v c mode d)
  | none => (if j.cmd = 0 then [1, 2] else [1]).any (fun w => locNames v c (j.f w 61 3) (j.f w 52 9))
/-- Whether a core is quiescent for a commit (R73). -/
def State.quiescent (s : State) (c : Nat) : Bool :=
  let k := s.core c
  k.slots.toList.all (fun t => t.life == .free) && k.retained.isEmpty && k.queues.isEmpty && k.l1.all (fun p => !p.2.dirty) &&
    k.wb.isEmpty &&
    s.coves.all (fun v => v.2.mxe.jobs.all (fun j => j.finished || !j.names v.1 c) &&
      v.2.ebb.jobs.all (fun j => j.finished || !s.ebbNames v.1 j c))
/-- The region of a pool offset (R72). -/
def regionOf (b0 b1 b2 off : Nat) : Nat := if off < b0 then 0 else if off < b1 then 1 else if off < b2 then 2 else 3
/-- Bytes of the pool whose region changes are zero. -/
def State.zeroChanged (s : State) (c : Nat) (o n : Nat × Nat × Nat) : State :=
  { s with mem := s.mem.filter (fun p => !(decide (poolAt c 0 ≤ p.1) && decide (p.1 < poolAt c 0x280000) &&
      regionOf o.1 o.2.1 o.2.2 (p.1 - poolAt c 0) != regionOf n.1 n.2.1 n.2.2 (p.1 - poolAt c 0))) }
/-- The commit that a firmware core has asked for, where it is the first of its target and none runs there (R73). -/
def State.commitDue (s : State) (f : Nat) : Option (Nat × BitVec 22 × BitVec 22 × BitVec 22) :=
  match s.commits.find? (fun q => q.1 == f) with
  | none => none
  | some (_, c, n) =>
    if s.phase = .running ∧ (s.commits.find? (fun q => q.2.1 == c)).map (·.1) = some f ∧ (s.core c).committing.isNone then some (c, n)
    else none
/-- `BOUNDARY_COMMIT`: the write of 1 to `PBCMD` of a firmware core reaches the target, which starts or refuses the
commit with the values that `PBTGT` and `PBNEW` held at the write; commits to one target go in arrival order. The banks
keep their generations (DESIGN CHOICE, log 81). -/
def execBoundaryCommit (core : Nat) (s : State) : Host.Outcome State Fault Refusal :=
  match s.commitDue core with
  | none => .next s
  | some (c, n0, n1, n2) =>
    let s := { s with commits := s.commits.filter (fun q => q.1 != core) }
    if !s.quiescent c ∨ !boundsOk n0.toNat n1.toNat n2.toNat then .next (s.modCore core (fun k => { k with pbstate := 2 }))
    else .next ((s.modCore core (fun k => { k with pbstate := 1 })).modCore c (fun k =>
      { k with committing := some (core, n0, n1, n2), l1 := [], banks := k.banks.map (fun b => { gen := b.gen }) }))
/-- `BOUNDARY_COMMIT_DONE`: the changed bytes are zero, and the new boundaries stand; no
local page stays resident (DESIGN CHOICE, log 81). -/
def execBoundaryCommitDone (core : Nat) (s : State) : Host.Outcome State Fault Refusal :=
  let k := s.core core
  match k.committing with
  | none => .next s
  | some (f, n0, n1, n2) =>
    let s := s.zeroChanged core (k.b0.toNat, k.b1.toNat, k.b2.toNat) (n0.toNat, n1.toNat, n2.toNat)
    let s := s.modCore core (fun k => { k with committing := none, b0 := n0, b1 := n1, b2 := n2, frames := [] })
    .next ((s.modCore f (fun k => { k with pbstate := 3 })).schedule core)

/-! ### Region commits (R156, R359) -/

/-- The shadow of a firmware core's region table: what it has written, over the table in force. -/
def State.shadowAt (s : State) (f i : Nat) : BitVec 16 := (s.core f).shadow.getD i (s.region i)
/-- Whether a commit is refused: two valid entries name one granule of one die, or the memory-side cache holds a line of
a range whose owner changes. -/
def State.regionRefused (s : State) (f : Nat) : Bool :=
  let l := (List.range 128).map (fun i => (i, s.region i, s.shadowAt f i))
  let valid := (l.map (fun p => p.2.2)).filter (fun e => e.getLsbD 15)
  decide (valid.dedup.length ≠ valid.length) ||
    l.any (fun p => p.2.1.getLsbD 15 && (!p.2.2.getLsbD 15 || p.2.1.getLsbD 14 != p.2.2.getLsbD 14) &&
      (let lo := s.stored (p.1 * 2 ^ 30)
       s.msc.any (fun c => decide (lo ≤ c.1 * 256) && decide (c.1 * 256 < lo + 2 ^ 30))))
/-- `REGION_COMMIT`: a write of 1 to CSR 0x8C0 of a firmware core. -/
def execRegionCommit (core : Nat) (s : State) : Host.Outcome State Fault Refusal :=
  if !s.isFw core ∨ s.phase ≠ .running ∨ s.regionFrom.isSome ∨ (s.core core).regionState ≠ 1 then .next s
  else if s.regionRefused core then .next (s.modCore core (fun k => { k with regionState := 2 }))
  else .next { s.modCore core (fun k => { k with regionState := 1 }) with
    regionFrom := some core, regionNew := (List.range 128).map (fun i => (i, s.shadowAt core i)) }
/-- Whether a cross-die request that was issued before the commit is still in flight. -/
def State.crossing (s : State) : Bool :=
  s.cores.any (fun p => p.2.wb.any (fun w => !w.held && w.bytes.any (fun b => crossDie p.1 b.1))) ||
  s.cores.any (fun p => p.2.slots.toList.any (fun t => t.loads.any (fun l => !l.cove && l.pend.any (fun x => crossDie p.1 x.2)))) ||
  s.net.any (fun m => match m.body with
    | .atomic a => a.glob && crossDie a.core a.la
    | _ => false)
/-- Where a byte that a cache or a held write-back keeps by its stored address stands once the new table is in force: its
physical address is the same (R156). -/
def State.moved (s : State) (a : Nat) : Nat :=
  if a ≥ 2 ^ 37 then a
  else match (List.range 128).find? (fun i => (s.region i).getLsbD 15 && s.stored (i * 2 ^ 30) == a / 2 ^ 30 * 2 ^ 30) with
    | none => a
    | some i =>
      let e := s.regionNew.getD i 0
      if e.getLsbD 15 then lpddr (e.toNat / 2 ^ 14 % 2) (e.toNat % 64) (a % 2 ^ 30) else a
/-- The same for a core's L1 and held write-backs. -/
def Core.moved (k : Core) (f : Nat → Nat) : Core :=
  { k with l1 := k.l1.foldl (fun m p => m.set (f p.1) p.2) []
           wb := k.wb.map (fun w => { w with bytes := w.bytes.map (fun b => (f b.1, b.2)), held := false }) }
/-- `REGION_SWITCH`: both dies switch together, and held requests go on. -/
def execRegionSwitch (s : State) : Host.Outcome State Fault Refusal :=
  match s.regionFrom with
  | none => .next s
  | some f =>
    if s.crossing then .next s
    else .next { s.modCore f (fun k => { k with regionState := 0 }) with
      regions := s.regionNew, regionFrom := none, regionNew := []
      cores := (s.modCore f (fun k => { k with regionState := 0 })).cores.map (fun p : Nat × Core => (p.1, p.2.moved s.moved))
      msc := s.msc.foldl (fun (m : FMap MscLine) p => m.set (s.moved (256 * p.1) / 256) p.2) [] }

end Sys2Proof.Machine
end

