-- ==== Sys2Proof/Machine/Headland.lean ====
section
/-! DEFINITION. Freeze and release, and the Headland safety core's registers, log, pins and faults, its two harts and their memory (08_context.md R162; 19_trap.md R378, R379; 20_headland.md R385 to R394). -/

namespace Sys2Proof.Machine

/-! ### Freeze (R378, R393) -/

/-- A frozen slot stops at its next bundle, with the trap CSRs of `FREEZE` and no record. -/
def Slot.frozenAt (t : Slot) (c j : Nat) : Slot :=
  let pc := t.pc
  { t.halted with
    tcause := Cause.freeze, tval := t.freezeNum.setWidth 64, tepc := pc.setWidth 48
    ttile := BitVec.ofNat 22 (c + coveOf c * 2 ^ 16), ttask := BitVec.ofNat 35 (t.taskid.toNat + j * 2 ^ 32), taddr := 0
    frozen := true }
/-- Slot `j` of core `c` stops by the freeze that marked it; a task whose budget has expired at that boundary traps, and
is frozen too (R378). A predicate in stage C is abandoned (R302). -/
def State.stopFrozen (s : State) (c j : Nat) : State :=
  let t := s.slot c j
  if t.left = 0 ∧ t.leader = none then
    (s.trapSlot c j ⟨Cause.taskBudget, t.limit.setWidth 64, 0⟩).modSlot c j (fun t => { t with frozen := true, thaw := false })
  else ((s.takeWokenAt c j).letGo c j).modSlot c j (fun t => t.frozenAt c j)
/-- The bundle that every member of a slot's group stops before: the furthest that any member has come to (R311, R317). -/
def State.groupBundle (s : State) (c j : Nat) : Nat :=
  (s.group c j).foldl (fun a p => max a (s.slot p.1 p.2).issued) (s.slot c j).issued
/-- A slot of a named context stops, or runs up to the bundle of its group; a slot that has trapped is marked. A member
that its group's trap already stops keeps that bundle, and stays stopped at the release (R311); one in stage C of a
predicate, or in a wait that may outlast the freeze, stops before its instruction (R302, R331, R334; log 51). -/
def State.freezeSlot (s : State) (num : BitVec 16) (c j : Nat) : State :=
  let t := s.slot c j
  if t.life = .free then s
  else if t.life = .trapped then s.modSlot c j (fun t => { t with frozen := true, freezeNum := if t.frozen then t.freezeNum else num })
  else
    let n := s.groupBundle c j
    let s := s.modSlot c j (fun t => { t with
      frozen := true, freezeNum := num, thaw := if t.frozen then t.thaw else t.stopAt.isNone })
    if t.issued < n ∧ !t.stuck then s.modSlot c j (fun t => { t with stopAt := some (t.stopAt.getD n) })
    else s.stopFrozen c j
/-- States in which a freeze takes a context (Table 8.2). -/
def CtxState.freezes : CtxState → Bool
  | .ready => true
  | .quotaHeld => true
  | .faulted => true
  | .draining => true
  | .frozen => true
  | _ => false
/-- A freeze of the contexts that `p` names. -/
def State.freeze (s : State) (p : Nat → Bool) (num : BitVec 16) : State :=
  let named := (List.range 16).filter (fun c => p c && (s.ctx c).state.freezes)
  let s := named.foldl (fun s c => s.modCtx c (fun x => if x.state = .frozen then x else
    { x with prior := x.state, faultRecorded := false, drainRecorded := x.state == .draining, state := .frozen })) s
  let s := { s with headland := { s.headland with
    relPending := s.headland.relPending &&& ~~~(BitVec.ofNat 16 (named.map (fun c => 2 ^ c)).sum) } }
  let slots := (s.cores.map (fun q : Nat × Core => q.1)).flatMap (fun c => (List.range 5).map (fun j => (c, j)))
  (slots.filter (fun q => named.contains (s.slot q.1 q.2).ctx.toNat)).foldl (fun s q => s.freezeSlot num q.1 q.2) s
def State.freezeAll (s : State) (num : BitVec 16) : State := s.freeze (fun _ => true) num
/-- `HFST.STOPPED`: every slot of a frozen context has stopped. -/
def State.stopped (s : State) : Bool :=
  s.cores.all (fun p => p.2.slots.toList.all (fun t =>
    t.life == .free || t.life == .trapped || (s.ctx t.ctx.toNat).state != .frozen))
/-- Bit c: context c is frozen. -/
def State.frozenMask (s : State) : BitVec 16 :=
  BitVec.ofNat 16 (pack 1 ((List.range 16).map (fun c => if (s.ctx c).state = .frozen then 1 else 0)))

/-! ### Release (R162, R379) -/

/-- A frozen slot at its context's release: one that did not trap goes on, one that had trapped stays so. -/
def Slot.released (t : Slot) : Slot := if t.thaw then t.resumed else { t with frozen := false }
/-- The state that R162 gives a released context. -/
def Ctx.afterFreeze (x : Ctx) : CtxState :=
  if x.drainRecorded then .draining
  else if x.prior = .faulted ∨ x.faultRecorded then .faulted
  else if x.spentOut then .quotaHeld else .ready
/-- A frozen context is released; its watch restarts (R391), and its cores decide. -/
def State.releaseFreeze (s : State) (c : Nat) : State :=
  let x := s.ctx c
  if x.state ≠ .frozen then s
  else
    let st := x.afterFreeze
    let held := (s.cores.map (fun p : Nat × Core => p.1)).flatMap (fun k => (List.range 5).map (fun j => (k, j)))
    let s := (held.filter (fun p => (s.slot p.1 p.2).life == .trapped && (s.slot p.1 p.2).frozen &&
      (s.slot p.1 p.2).ctx.toNat == c)).foldl (fun s p =>
        (if (s.slot p.1 p.2).thaw then s.dropReader p.1 p.2 else s).modSlot p.1 p.2 Slot.released) s
    let s := s.setCtx c { x with
      state := st, hbLast := s.dtime.toNat, faultRecorded := false, drainRecorded := false }
    let s := if st = .draining ∧ x.prior ≠ .draining then s.enterDraining c else s
    let s := ((List.range 512).filter x.has).foldl (fun s k => s.startService k) s
    s.scheduleAll c

/-- Contexts that a register's `ALL` and `CTX` fields name. -/
def namedBy (all : Bool) (c : BitVec 4) (k : Nat) : Bool := all || k == c.toNat
/-- A freeze of the contexts that `HFRZ` names. -/
def State.hfrzGo (s : State) : State := s.freeze (namedBy s.headland.frzAll s.headland.frzCtx) s.headland.frzNum
/-- `HFRZ_GO`: a write of `HFRZ` with `GO`, the other fields as they stand. -/
def execHfrzGo (s : State) : Host.Outcome State Fault Refusal := .next s.hfrzGo
/-- A release of the contexts that `HREL` names; ignored while `FRZ_N` is low (R392). -/
def State.hrelGo (s : State) : State :=
  let h := s.headland
  if h.pinhold then s
  else
    let m : BitVec 16 := if h.relAll then BitVec.allOnes 16 else 1#16 <<< h.relCtx.toNat
    { s with headland := { h with relPending := h.relPending ||| (m &&& s.frozenMask) } }
/-- `HREL_GO`: the release waits until every named slot has stopped. -/
def execHrelGo (s : State) : Host.Outcome State Fault Refusal := .next s.hrelGo
/-- `FREEZE_RELEASE`. -/
def execFreezeRelease (s : State) : Host.Outcome State Fault Refusal :=
  let m := s.headland.relPending
  if m = 0 ∨ s.headland.pinhold ∨ !s.stopped then .next s
  else .next (((List.range 16).filter (fun c => m.getLsbD c)).foldl (fun s c => s.releaseFreeze c)
    { s with headland := { s.headland with relPending := 0 } })

/-! ### Errors, pins and faults (R387 to R392) -/

/-- A source sets its `HERR` bit and appends an entry; a full log counts the entry lost (R389). -/
def Headland.note (h : Headland) (t : BitVec 32) (src core ctx : Nat) : Headland :=
  let h := { h with herr := h.herr ||| BitVec.ofNat 13 (2 ^ src) }
  if h.log.length ≥ 64 then { h with lost := min 127 (h.lost + 1) }
  else { h with log := h.log ++ [⟨t, h.lost, BitVec.ofNat 9 core, BitVec.ofNat 4 ctx, BitVec.ofNat 5 src⟩], lost := 0 }
/-- All four pins latch safe. -/
def State.latchPins (s : State) : State := { s with headland := { s.headland with latch := 15 } }
/-- A source reaches Headland, which acts under `HEACT`, and always for source 5 (R390). -/
def State.errorAt (s : State) (src core ctx : Nat) : State :=
  let s := { s with headland := s.headland.note (s.dtime.setWidth 32) src core ctx }
  if src = 5 ∨ (src ≤ 8 ∧ s.headland.heact.getLsbD src) then s.latchPins.freezeAll 0xFFFE else s
/-- `ERROR_REPORT`: an error report, by its message, reaches Headland. -/
def execErrorReport (idx : Nat) (s : State) : Host.Outcome State Fault Refusal :=
  onMessage idx s (fun m s => match m.body with
    | .error src core ctx => some (s.errorAt src core ctx)
    | _ => none)
/-- `HEARTBEAT_MISS` (R391): the watch restarts from the moment of the miss. -/
def execHeartbeatMiss (ctx : Nat) (s : State) : Host.Outcome State Fault Refusal :=
  if !s.missDue ctx then .next s
  else
    let s := s.modCtx ctx (fun x => { x with hbLast := x.hbLast + x.hbwatch + 1 })
    let s := { s with headland := { s.headland with hbmiss := s.headland.hbmiss ||| BitVec.ofNat 16 (2 ^ ctx) } }
    .next ((s.report 2 0 ctx).faultEvent 0 ctx)
/-- Both harts restart: the pins are latched and every context freezes first; `HERR` bits 10 to 12, the latches and the
SRAM survive, and the other registers take their reset values (R387, log 40). -/
def State.hartFault (s : State) (src : Nat) : State :=
  let s := s.latchPins.freezeAll 0xFFFD
  let h := s.headland
  let h' : Headland := { herr := h.herr &&& 0x1C00, latch := h.latch, pinhold := h.pinhold, posts := h.posts, mail := h.mail, mailWait := h.mailWait }
  { s with
    headland := h'.note (s.dtime.setWidth 32) src 0 0
    ctxs := s.ctxs.map (fun p : Nat × Ctx => (p.1, { p.2 with hbSeq := 0, hbAt := 0, hbLast := s.dtime.toNat })) }
/-- `WATCHDOG_FAULT`: `HWDOG` has counted down to zero. -/
def execWatchdogFault (s : State) : Host.Outcome State Fault Refusal :=
  if s.headland.hwdog = 0 then .next (s.hartFault 10) else .next s
/-- `LOCKSTEP_MISMATCH`. -/
def execLockstepMismatch (s : State) : Host.Outcome State Fault Refusal := .next (s.hartFault 11)
/-- `CLOCK_FAULT`. -/
def execClockFault (s : State) : Host.Outcome State Fault Refusal := .next (s.hartFault 12)
/-- `FRZ_N_ASSERT` (R392). -/
def execFrzNAssert (s : State) : Host.Outcome State Fault Refusal :=
  let s := { s with headland := { (s.headland.note (s.dtime.setWidth 32) 9 0 0) with pinhold := true, relPending := 0 } }
  .next (s.latchPins.freezeAll 0xFFFF)
/-- `FRZ_N_DEASSERT`. -/
def execFrzNDeassert (s : State) : Host.Outcome State Fault Refusal :=
  .next { s with headland := { s.headland with pinhold := false } }

/-! ### Inspection (R394) -/

/-- The frame entry that `HISEL` names, if its slot has stopped and the offset exists; else `ST`. -/
def State.inspected (s : State) : Except Nat (Nat × Nat × Nat) :=
  let h := s.headland
  let t := s.slot h.core.toNat h.slot.toNat
  if h.slot.toNat > 4 ∨ t.life ≠ .trapped then .error 1
  else if frameOffset h.off.toNat ∨ h.off.toNat = 0xFF8 then .ok (h.core.toNat, h.slot.toNat, h.off.toNat) else .error 2
/-- A read of the entry. -/
def State.hicmdRead (s : State) : State :=
  match s.inspected with
  | .error st => { s with headland := { s.headland with icst := BitVec.ofNat 2 st } }
  | .ok (c, j, o) =>
    let x : Word := if o = 0xFF8 then (if (s.slot c j).frozen then 2 else 1) else s.frameEntry c j o
    { s with headland := { s.headland with idl := x.setWidth 32, idh := (x >>> 32).setWidth 32, icst := 0 } }
/-- `HICMD_READ`. -/
def execHicmdRead (s : State) : Host.Outcome State Fault Refusal := .next s.hicmdRead
/-- A write of the entry: to a frozen slot only, under the masks of R381. -/
def State.hicmdWrite (s : State) : State :=
  match s.inspected with
  | .error st => { s with headland := { s.headland with icst := BitVec.ofNat 2 st } }
  | .ok (c, j, o) =>
    let x : Word := s.headland.idh ++ s.headland.idl
    let st (n : Nat) (s : State) : State := { s with headland := { s.headland with icst := BitVec.ofNat 2 n } }
    if o = 0xFF8 then st 2 s
    else if !(s.slot c j).frozen ∨ !frameValueOk o x then st 3 s
    else st 0 (s.modSlot c j (fun t => t.putEntry o x))
/-- `HICMD_WRITE`. -/
def execHicmdWrite (s : State) : Host.Outcome State Fault Refusal := .next s.hicmdWrite

/-! ### Registers (R388) -/

/-- An entry of `HELOG` as read. -/
def LogEntry.word (e : LogEntry) : BitVec 32 :=
  BitVec.ofNat 32 (2 ^ 31 + e.lost * 2 ^ 24 + e.core.toNat * 2 ^ 9 + e.ctx.toNat * 2 ^ 5 + e.src.toNat)
/-- The read of `HELOG` returns the oldest entry and removes it; 0 where the log is empty. -/
def State.helogPop (s : State) : State :=
  match s.headland.log with
  | [] => { s with headland := { s.headland with popped := 0 } }
  | e :: l => { s with headland := { s.headland with popped := e.word, log := l } }
/-- `HELOG_POP`. -/
def execHelogPop (s : State) : Host.Outcome State Fault Refusal := .next s.helogPop
/-- `HWDOG_RELOAD`. -/
def execHwdogReload (value : BitVec 32) (s : State) : Host.Outcome State Fault Refusal :=
  .next { s with headland := { s.headland with hwdog := value, hwFrac := 0 } }
/-- The low read of `HTIME` latches the high word. -/
def State.htimeRead (s : State) : State :=
  { s with headland := { s.headland with timeh := (s.dtime >>> 32).setWidth 32 } }
/-- `HTIME_READ`. -/
def execHtimeRead (s : State) : Host.Outcome State Fault Refusal := .next s.htimeRead
/-- A request is posted to the firmware column, which serves it as one of Table 18.3; one with no code of the table ends at
once. Which request the 32 bits stand for is not stated (log 41). -/
def State.mailPost (s : State) (req : BitVec 32) : State :=
  let h := s.headland
  match Config.mailboxWords req with
  | [] => { s with headland := { h with posts := h.posts + 1, fwstatus := 2 } }
  | w :: _ =>
    if w = 0 ∨ 9 < w.toNat then { s with headland := { h with posts := h.posts + 1, fwstatus := 2 } }
    else { s with headland := { h with posts := h.posts + 1, mail := h.mail ++ [req] } }
/-- `HFWMB_POST`. -/
def execHfwmbPost (req : BitVec 32) (s : State) : Host.Outcome State Fault Refusal := .next (s.mailPost req)
/-- Device time counts the watchdog down and `mcycle` up, at 1.2 GHz: six counts in five nanoseconds. -/
def Headland.tick (h : Headland) (ns : Nat) : Headland :=
  let n := h.hwFrac + 6 * ns
  { h with
    hwdog := h.hwdog - BitVec.ofNat 32 (min h.hwdog.toNat (n / 5)), hwFrac := n % 5
    mcycle := if h.inhibit.getLsbD 0 then h.mcycle else h.mcycle + BitVec.ofNat 64 (n / 5) }
/-- Whether a cause of the pin latches still holds (R390, log 42). -/
def Headland.latchHeld (h : Headland) : Bool := h.pinhold || (h.herr.setWidth 9 &&& (h.heact ||| 0x020)) != 0
/-- A write of a Headland register (Table 20.1); `none` where the number takes an illegal-instruction exception. -/
def State.hwrite (s : State) (n : Nat) (v : BitVec 32) : Option State :=
  let h := s.headland
  let put (h : Headland) : Option State := some { s with headland := h }
  match n with
  | 0x7C0 => put { h with frzNum := (v >>> 16).setWidth 16, frzCtx := (v >>> 2).setWidth 4, frzAll := v.getLsbD 1 }
  | 0x7C1 => put { h with relCtx := (v >>> 2).setWidth 4, relAll := v.getLsbD 1 }
  | 0x7C4 => put { h with off := (v >>> 12).setWidth 12, slot := (v >>> 9).setWidth 3, core := v.setWidth 9 }
  | 0x7C5 => put { h with idl := v }
  | 0x7C6 => put { h with idh := v }
  | 0x7C8 => put { h with hbsel := v.setWidth 4 }
  | 0x7C9 => put { h with hbmiss := h.hbmiss &&& ~~~(v.setWidth 16) }
  | 0x7D0 => put { h with herr := h.herr &&& ~~~(v.setWidth 13) }
  | 0x7D1 => put { h with hemask := v.setWidth 13 }
  | 0x7D2 => put { h with heact := v.setWidth 9 }
  | 0x7D8 => put { h with run := v.setWidth 4, latch := if h.latchHeld then h.latch else h.latch &&& ~~~((v >>> 4).setWidth 4) }
  | 0x7C7 => some s
  | 0x7DA => put { h with hwdog := v, hwFrac := 0 }
  | 0x7DC => some (s.mailPost v)
  | _ => none
/-- The value that a read of a Headland register gives (Table 20.1). -/
def State.hread (s : State) (n : Nat) : Option (BitVec 32) :=
  let h := s.headland
  let w (x : Nat) : Option (BitVec 32) := some (BitVec.ofNat 32 x)
  let bit (p : Bool) (i : Nat) : Nat := if p then 2 ^ i else 0
  match n with
  | 0x7C0 => w (h.frzNum.toNat * 2 ^ 16 + h.frzCtx.toNat * 4 + bit h.frzAll 1)
  | 0x7C1 => w (h.relCtx.toNat * 4 + bit h.relAll 1)
  | 0xFC0 => w (s.frozenMask.toNat * 2 ^ 16 + bit h.pinhold 2 + bit (s.frozenMask != 0 && s.stopped) 1 +
      bit (!s.stopped || h.relPending != 0) 0)
  | 0x7C4 => w (h.off.toNat * 2 ^ 12 + h.slot.toNat * 2 ^ 9 + h.core.toNat)
  | 0x7C5 => some h.idl
  | 0x7C6 => some h.idh
  | 0x7C7 => w (h.icst.toNat * 4)
  | 0x7C8 => w h.hbsel.toNat
  | 0xFC1 => some (s.ctx h.hbsel.toNat).hbAt
  | 0xFC2 => some (s.ctx h.hbsel.toNat).hbSeq
  | 0x7C9 => w h.hbmiss.toNat
  | 0x7D0 => w h.herr.toNat
  | 0x7D1 => w h.hemask.toNat
  | 0x7D2 => w h.heact.toNat
  | 0xFC3 => some ((h.log.head?.map (·.time)).getD 0)
  | 0xFC4 => some ((h.log.head?.map LogEntry.word).getD 0)
  | 0x7D8 => w (h.latch.toNat * 16 + h.run.toNat)
  | 0x7DA => some h.hwdog
  | 0xFC5 => some (s.dtime.setWidth 32)
  | 0xFC6 => some h.timeh
  | 0x7DC => some (if h.mail.isEmpty then h.fwstatus else Config.mailboxStatus h.posts)
  | _ => none
/-- Pin `n` is in the run state (R390). -/
def Headland.pinRuns (h : Headland) (n : Nat) : Bool := h.run.getLsbD n && !h.latch.getLsbD n
/-- What a write of a Headland register does, the command that its `GO`, `WR` or `RD` bit starts with it; `none` where the
number takes an illegal-instruction exception (R388). -/
def State.hput (s : State) (n : Nat) (v : BitVec 32) : Option State :=
  (s.hwrite n v).map (fun s =>
    if n = 0x7C0 ∧ v.getLsbD 0 then s.hfrzGo
    else if n = 0x7C1 ∧ v.getLsbD 0 then s.hrelGo
    else if n = 0x7C7 ∧ v.getLsbD 1 then s.hicmdWrite
    else if n = 0x7C7 ∧ v.getLsbD 0 then s.hicmdRead
    else s)
/-- What a read of a Headland register gives, and the machine after it. -/
def State.hget (s : State) (n : Nat) : Option (BitVec 32 × State) :=
  (s.hread n).map (fun v => (v, if n = 0xFC4 then s.helogPop else if n = 0xFC5 then s.htimeRead else s))

/-! ### The lockstep pair (R385, R386) -/

/-- Bytes of Headland's memory from an address: the ROM's, which no rule gives (log 12), or the SRAM's; `none` outside
them, and where an ECC error stands. -/
def State.hartLoad (s : State) (a : BitVec 32) (n : Nat) : Option (BitVec 32) :=
  let p := a.toNat
  if p + n ≤ 0x10000 then some (BitVec.ofNat 32 (pack 8 ((List.range n).map (fun i => (Config.romByte (p + i)).toNat))))
  else if 0x10000000 ≤ p ∧ p + n ≤ 0x10040000 then
    let q := hramAt (p - 0x10000000)
    if s.poisoned q n then none else some (BitVec.ofNat 32 (s.num q n))
  else none
/-- A store to Headland's memory, into the SRAM alone. -/
def State.hartStore (s : State) (a : BitVec 32) (n : Nat) (v : BitVec 32) : Option State :=
  let p := a.toNat
  if 0x10000000 ≤ p ∧ p + n ≤ 0x10040000 then some (s.putNum (hramAt (p - 0x10000000)) n v.toNat) else none
/-- What a fetch gives: the instruction's 16 or 32 bits, or the address at which it faults. -/
def State.hartFetch (s : State) (pc : BitVec 32) : Option (BitVec 32) × BitVec 32 :=
  match s.hartLoad pc 2 with
  | none => (none, pc)
  | some lo =>
    if !rvIsWide lo then (some lo, 0)
    else match s.hartLoad (pc + 2) 2 with
      | none => (none, pc + 2)
      | some hi => (some (hi <<< 16 ||| lo), 0)
/-- A read of a CSR outside the hart: a counter, or a register of Table 20.1. -/
def State.csrIn (s : State) (n : Nat) : Option (BitVec 32 × State) :=
  let h := s.headland
  match n with
  | 0x320 => some (h.inhibit, s)
  | 0xB00 => some (h.mcycle.setWidth 32, s)
  | 0xB80 => some ((h.mcycle >>> 32).setWidth 32, s)
  | 0xB02 => some (h.minstret.setWidth 32, s)
  | 0xB82 => some ((h.minstret >>> 32).setWidth 32, s)
  | _ => s.hget n
/-- A write of one. -/
def State.csrOut (s : State) (n : Nat) (v : BitVec 32) : Option State :=
  let h := s.headland
  let put (h : Headland) : Option State := some { s with headland := h }
  match n with
  | 0x320 => put { h with inhibit := v &&& 5 }
  | 0xB00 => put { h with mcycle := (h.mcycle >>> 32).setWidth 32 ++ v }
  | 0xB80 => put { h with mcycle := v ++ h.mcycle.setWidth 32 }
  | 0xB02 => put { h with minstret := (h.minstret >>> 32).setWidth 32 ++ v }
  | 0xB82 => put { h with minstret := v ++ h.minstret.setWidth 32 }
  | _ => s.hput n v
/-- What the main hart's request gives, and the machine after it; a request that faults changes nothing. -/
def State.hartServe (s : State) (r : HartReq) : Option (BitVec 32) × State :=
  match r with
  | .idle => (none, s)
  | .load a n => (s.hartLoad a n, s)
  | .store a n v => match s.hartStore a n v with
    | some s' => (some 0, s')
    | none => (none, s)
  | .csr n reads writes k src =>
    match (if reads then s.csrIn n.toNat else some (0, s)) with
    | none => (none, s)
    | some (old, s') =>
      if !writes then (some old, s')
      else match s'.csrOut n.toNat (k.value old src) with
        | some s'' => (some old, s'')
        | none => (none, s)
/-- Whether an enabled source raises the machine external interrupt (R388). -/
def Headland.irq (h : Headland) : Bool := h.herr &&& h.hemask != 0
/-- Whether a request writes `minstret`, which then does not count. -/
def HartReq.putsInstret (r : HartReq) : Bool :=
  match r with
  | .csr n _ w _ _ => w && (n == 0xB02 || n == 0xB82)
  | _ => false
/-- The main hart runs what a fetch has given; the checker, two instructions behind, runs what the main hart ran, and a
difference of their outputs is a lockstep mismatch. -/
def State.hartRun (s : State) (word : Option (BitVec 32)) (badAt : BitVec 32) : State :=
  let h := s.headland
  let req := h.main.request h.irq word
  let r := s.hartServe req
  let g : HartIn := ⟨h.irq, word, badAt, r.1⟩
  let s := r.2
  let n : BitVec 64 := if h.main.retires g && !h.inhibit.getLsbD 2 && !req.putsInstret then 1 else 0
  let s := { s with headland := { s.headland with
    main := h.main.next g, behind := h.behind ++ [(⟨g, h.main.pc, req⟩ : HartOut)], minstret := s.headland.minstret + n } }
  match s.headland.behind with
  | o :: a :: b :: l =>
    let k := s.headland.checker
    if k.pc = o.fetch ∧ k.request o.given.irq o.given.word = o.req then
      { s with headland := { s.headland with checker := k.next o.given, behind := a :: b :: l } }
    else s.hartFault 11
  | _ => s
/-- An instruction of the main hart, once the boot ROM has started it. -/
def State.hartStep (s : State) : State :=
  if s.phase = .running then
    let f := s.hartFetch s.headland.main.pc
    s.hartRun f.1 f.2
  else s

end Sys2Proof.Machine
end

