-- ==== Sys2Proof/Machine/Sensors.lean ====
section
/-! DEFINITION. Sensor ports and inlet transforms (18_link.md R367 to R372). -/

namespace Sys2Proof.Machine

def State.setStream (s : State) (n : Nat) (t : Stream) : State := { s with streams := s.streams.set n t }
def Stream.tgtField (t : Stream) (lo n : Nat) : Nat := bits t.tgt.toNat lo n
/-- The target of a stream on this device; the links carry no record of a sensor (R361). -/
def State.streamTarget (s : State) (t : Stream) : Option Target :=
  if t.tgtField 14 2 ≠ s.dev.toNat then none
  else if t.tgtField 4 1 = 1 then some (.stream (coveOf (t.tgtField 5 9)) (t.tgtField 0 3))
  else some (.queue (t.tgtField 5 9) (t.tgtField 0 4))
/-- A record of a stream leaves with a stamp that does not fall; one with no target counts as rejected (R208, R212). -/
def State.sendStream (s : State) (n : Nat) (at_ : BitVec 48) (kind payload : Nat) : State :=
  let t := s.stream n
  let ts := match t.last with
    | some l => tsMax l at_
    | none => at_
  let s := s.setStream n { t with
    last := some ts, lastSend := s.dtime.toNat, sent := if t.sent = BitVec.allOnes 64 then t.sent else t.sent + 1 }
  match s.streamTarget t with
  | some g => s.post (Agent.stream n) g.agent (.record ⟨mkRec ts (s.srcId 0 n) kind 0 payload, []⟩ t.ctx g (.stream n) false)
  | none => s.setStream n { s.stream n with rejected := bump t.rejected }
/-- A SENSOR record in the layout of R234. -/
def State.sense (s : State) (n : Nat) (at_ : BitVec 48) (x y p : Nat) (w : Int) : State :=
  s.sendStream n at_ 1 (x % 2 ^ 16 + y % 2 ^ 16 * 2 ^ 16 + p % 2 * 2 ^ 32 + (BitVec.ofInt 8 w).toNat * 2 ^ 40)
/-- A stream is cut off with a LENVIOL record (R370). -/
def State.lenviol (s : State) (n received : Nat) (cycles : Bool) : State :=
  let s := s.sendStream n s.now48 0x0D (n + (if cycles then 2 ^ 7 else 0) + received % 2 ^ 32 * 2 ^ 8)
  let t := s.stream n
  s.setStream n { t with cut := true, scanning := false, cuts := bump t.cuts }

/-! ### Cameras (R367, R368) -/

/-- Whether a port still delivers an event in this microsecond, and the state that counts it: 750 M events/s (R371). -/
def State.rateOk (s : State) (port : Nat) : Bool × State :=
  let us := s.dtime.toNat / 1000
  let (w, k) := s.portRate.getD port (0, 0)
  let k := if w = us then k else 0
  (decide (k < 750), { s with portRate := s.portRate.set port (us, min 750 (k + 1)) })
/-- One event of a camera. -/
def State.cameraEvent (s : State) (n : Nat) (base : Word) (dt x y p : Nat) (w : Int) : State :=
  let (ok, s) := s.rateOk (n / 8)
  if ok then s.sense n ((base + BitVec.ofNat 64 dt).setWidth 48) x y p w
  else let t := s.stream n; s.setStream n { t with rate := bump t.rate }
/-- One word of a packet: a base word, or an event. -/
def State.cameraWord (s : State) (n dtype : Nat) (v : Word) : State :=
  let t := s.stream n
  match t.base with
  | none => s
  | some b =>
    let x := v.toNat
    if dtype = 0x30 then
      if bits x 31 1 = 1 then s.setStream n { t with base := some (b + BitVec.ofNat 64 (64 * bits x 0 31)) }
      else s.cameraEvent n b (bits x 24 6) (bits x 0 12) (bits x 12 12) (bits x 30 1) (if bits x 30 1 = 1 then 1 else -1)
    else s.cameraEvent n b (bits x 48 16) (bits x 0 16) (bits x 16 16) (bits x 39 1) (BitVec.ofNat 8 (bits x 40 8)).toInt

/-- `CSI2_FRAME_START`: the base of an enabled stream is set. -/
def execCsi2FrameStart (stream : Nat) (s : State) : Host.Outcome State Fault Refusal :=
  match s.streams.find stream with
  | some t =>
    if stream ≥ 64 ∨ !t.en ∨ !s.portUp stream then .next s
    else .next (s.setStream stream { t with base := some (s.dtime - BitVec.ofNat 64 t.offset) })
  | none => .next s

/-- `CSI2_PACKET`: counted and dropped; discarded and counted, by a stream that is cut off, enabled or not, and by one with
no base (R368, R370); or transformed word by word up to `MAXB`. -/
def execCsi2Packet (port vc dtype : Nat) (words : List (BitVec 64)) (s : State) : Host.Outcome State Fault Refusal :=
  let n := 8 * port + vc
  if port ≥ 8 ∨ !s.portUp (8 * port) then .next s
  else if vc > 7 then .next { s with portBadVc := s.portBadVc.set port (bump (s.portBadVc.getD port 0)) }
  else if dtype ≠ 0x30 ∧ dtype ≠ 0x31 then
    .next { s with portBadType := s.portBadType.set port (bump (s.portBadType.getD port 0)) }
  else
    let t := s.stream n
    let u := s.setStream n { t with discarded := bump t.discarded }
    if t.cut then .next u
    else if !t.en then .next (if t.base = none then u else s)
    else
      let s := if t.base = none then u else s
      let size := if dtype = 0x30 then 4 else 8
      let k := t.maxb / size
      let s := (words.take k).foldl (fun s v => s.cameraWord n dtype v) s
      .next (if words.length * size ≤ t.maxb then s else s.lenviol n ((k + 1) * size) false)

/-! ### Taxels (R369, R370) -/

/-- Device time at which a frame that began at `t0` passes `MAXC` fabric cycles of 5/6 ns. -/
def maxcEnd (t0 maxc : Nat) : Nat := t0 + (5 * maxc + 5) / 6
/-- `DECODER_WATCHDOG`: a packet, or a taxel frame, has passed `MAXC`. -/
def execDecoderWatchdog (stream received : Nat) (s : State) : Host.Outcome State Fault Refusal :=
  match s.streams.find stream with
  | none => .next s
  | some t =>
    if !t.en ∨ t.cut ∨ !s.portUp stream ∨ (stream ≥ 64 ∧ (!t.scanning ∨ s.dtime.toNat ≤ maxcEnd t.scanFrom t.maxc)) then .next s
    else .next (s.lenviol stream received true)
/-- `TAXEL_SCAN`: the period expires and the port starts to read a frame. -/
def execTaxelScan (stream : Nat) (s : State) : Host.Outcome State Fault Refusal :=
  match s.streams.find stream with
  | none => .next s
  | some t =>
    if stream < 64 ∨ !t.en ∨ t.cut ∨ t.scanning ∨ !s.portUp stream ∨ s.dtime.toNat < t.scanAt then .next s
    else .next (s.setStream stream { t with
      scanning := true, scanFrom := s.dtime.toNat, scanAt := t.scanAt + 1000 * t.period })
/-- A difference divided by 2^`WSH`: the rounding of an inexact quotient is not stated (log 6). -/
def State.taxelWeight (s : State) (d : Int) (wsh : Nat) : Int × State :=
  let q := d.fdiv (2 ^ wsh)
  if d.fmod (2 ^ wsh) = 0 then (q, s) else (q + ((Config.freeNat s.free % 2 : Nat) : Int), { s with free := s.free + 1 })
def satS8 (x : Int) : Int := if x < -128 then -128 else if 127 < x then 127 else x
/-- One taxel of a frame: a change of `THR` or more sends a record and moves the reference. -/
def State.taxel (s : State) (n i : Nat) (v : BitVec 16) : State :=
  let t := s.stream n
  let r := t.refs.getD i 0
  let d : Int := (v.toNat : Int) - (r.toNat : Int)
  if d.natAbs < t.thr then s
  else
    let (w, s) := s.taxelWeight d t.wsh
    let s := s.sense n s.now48 (i % t.cols) (i / t.cols) (if 0 < d then 1 else 0) (satS8 w)
    s.setStream n { s.stream n with refs := t.refs.set i v }
/-- `TAXEL_FRAME_DONE`: a frame of `ROWS` × `COLS` values, row by row, within `MAXC`. -/
def execTaxelFrameDone (stream : Nat) (values : List (BitVec 16)) (s : State) : Host.Outcome State Fault Refusal :=
  match s.streams.find stream with
  | none => .next s
  | some t =>
    if stream < 64 ∨ !t.en ∨ t.cut ∨ !t.scanning ∨ !s.portUp stream ∨ values.length ≠ t.rows * t.cols ∨
        maxcEnd t.scanFrom t.maxc < s.dtime.toNat then .next s
    else
      let s := s.setStream stream { t with scanning := false }
      .next ((values.mapIdx (fun i v => (i, v))).foldl (fun s p => s.taxel stream p.1 p.2) s)

end Sys2Proof.Machine
end

