-- ==== Sys2Proof/Machine/Links.lean ====
section
/-! DEFINITION. Link states, UCIe routes and Rhoash records (18_link.md R356 to R362, R372). Links are numbered as QUERY 2 orders them: UCIe modules 0 to 3, Rhoash links 4 and 5, SDIO 6, CSI-2 ports 7 to 14, SPI ports 15 to 18. -/

namespace Sys2Proof.Machine

def State.setLink (s : State) (i : Nat) (l : Link) : State := { s with links := s.links.set i l }
/-- Streams of a port. -/
def streamsOf (i : Nat) : List Nat :=
  if 7 ≤ i ∧ i < 15 then (List.range 8).map (fun v => 8 * (i - 7) + v) else if 15 ≤ i ∧ i < 19 then [64 + (i - 15)] else []
/-- The device is left with no UCIe module up or degraded (R358). -/
def State.isolated (s : State) : Bool := (List.range 4).all (fun j => !(s.link j).state.carries)
/-- A port that goes down cuts off its streams (R372). -/
def State.cutPort (s : State) (i : Nat) : State :=
  (streamsOf i).foldl (fun s n => match s.streams.find n with
    | some t => s.setStream n { t with cut := true, scanning := false }
    | none => s) s
/-- A link changes state, and the change is reported (R356); a port that is down has its streams cut off (R372). A die
that loses its last module, or whose modules have all failed to train, is a fatal error (R358). -/
def State.linkTo (s : State) (i : Nat) (l : Link) : State :=
  let had := (s.link i).state.carries
  let s := (s.setLink i l).report 4 0 0
  let s := if l.state = .down then s.cutPort i else s
  if i < 4 && !l.state.carries && s.isolated && (had || (List.range 4).all (fun j => decide ((s.link j).state = .down))) then
    s.report 5 0 0
  else s

/-- `LINK_ENABLE`. -/
def execLinkEnable (link : Nat) (s : State) : Host.Outcome State Fault Refusal :=
  let l := s.link link
  if link ≥ 19 ∨ l.state ≠ .down then .next s
  else .next (s.linkTo link { l with state := .training, since := s.dtime.toNat })
/-- A Rhoash link's training aligns `DTIME` to device 0's, which is a free value here (R360, log 76); once slots may run
it does not go back, so that no slot reads it decrease (R77). -/
def State.aligned (s : State) : State :=
  if s.dev = 0 then s
  else
    let t := Config.freeNat s.free % 2 ^ 64
    { s with dtime := BitVec.ofNat 64 (if s.phase = .running then max s.dtime.toNat t else t), free := s.free + 1 }
/-- `LINK_TRAINING_DONE`: every lane trained, or a UCIe module or Rhoash link lost 1 to 4. A module that is up again
takes its own rows. -/
def execLinkTrainingDone (link lost : Nat) (s : State) : Host.Outcome State Fault Refusal :=
  let l := s.link link
  let u := if link = 4 ∨ link = 5 then s.aligned else s
  if link ≥ 19 then .next s
  else if (l.state = .training ∨ l.state = .degraded) ∧ lost = 0 then .next (u.linkTo link { l with state := .up, lost := 0 })
  else if l.state = .training ∧ link < 6 ∧ lost ≤ 4 then .next (u.linkTo link { l with state := .degraded, lost := lost })
  else .next s
/-- `LINK_TRAINING_TIMEOUT`: training fails, or 10 ms pass. -/
def execLinkTrainingTimeout (link : Nat) (s : State) : Host.Outcome State Fault Refusal :=
  let l := s.link link
  if link ≥ 19 ∨ l.state ≠ .training then .next s
  else .next (s.linkTo link { l with state := .down, failures := BitVec.ofNat 16 (min (2 ^ 16 - 1) (l.failures.toNat + 1)) })
/-- `LINK_LANE_LOST`. -/
def execLinkLaneLost (link : Nat) (s : State) : Host.Outcome State Fault Refusal :=
  let l := s.link link
  if link ≥ 19 ∨ l.state ≠ .up then .next s
  else .next (s.linkTo link { l with state := .training, since := s.dtime.toNat })
/-- `LINK_DISABLE`. -/
def execLinkDisable (link : Nat) (s : State) : Host.Outcome State Fault Refusal :=
  let l := s.link link
  if link ≥ 19 ∨ !l.state.carries then .next s else .next (s.linkTo link { l with state := .down })

/-! ### UCIe (R357, R358) -/

def State.countReplay (s : State) (i : Nat) : State :=
  let l := s.link i
  if l.state.carries then s.setLink i { l with replays := bump l.replays } else s
/-- `UCIE_REPLAY`: counted; order and traffic are as before. -/
def execUcieReplay (link : Nat) (s : State) : Host.Outcome State Fault Refusal :=
  if link < 4 then .next (s.countReplay link) else .next s
/-- The nearest module in up state, ties to the lower. -/
def State.nearestUp (s : State) (j : Nat) : Option Nat :=
  let d (k : Nat) : Nat := if k ≤ j then j - k else k - j
  ((List.range 4).filter (fun k => decide ((s.link k).state = .up))).foldl (fun a k => match a with
    | none => some k
    | some b => if d k < d b then some k else some b) none
/-- Whether a packet of module `j`'s rows is in flight between the dies: a message, a load or a write-back. What a
module that carries nothing holds is not in flight. -/
def State.rowTraffic (s : State) (j : Nat) : Bool :=
  !s.rowShut (4 * j) &&
    (s.net.any (fun m => (s.crossingRow m).any (fun y => y / 4 == j)) ||
      s.cores.any (fun p => p.1 / 16 % 16 / 4 == j &&
        (p.2.wb.any (fun w => w.bytes.any (fun b => crossDie p.1 b.1)) ||
          p.2.slots.toList.any (fun t => t.loads.any (fun l => !l.cove && l.pend.any (fun x => crossDie p.1 x.2))))))
/-- `UCIE_REROUTE`: the rows of a module that is down or degraded take the nearest that is up, and those of one that is
up its own again; only while no packet is in flight on the old route. Where no module is up, every row keeps its last route (DESIGN CHOICE,
log 93). -/
def execUcieReroute (link : Nat) (s : State) : Host.Outcome State Fault Refusal :=
  if link ≥ 4 ∨ s.rowTraffic link then .next s
  else
    let l := s.link link
    match l.state with
    | .up => .next (s.setLink link { l with route := none })
    | .training => .next s
    | _ => match s.nearestUp link with
      | some k => .next (s.setLink link { l with route := some k })
      | none => .next s

/-! ### Rhoash (R360 to R362) -/

/-- The links that lead to a device: the shorter way first, ties to link 1. -/
def State.ways (s : State) (d : Nat) : List Nat :=
  if d ≥ s.ring ∨ d = s.dev.toNat then []
  else if (d + s.ring - s.dev.toNat) % s.ring ≤ (s.dev.toNat + s.ring - d) % s.ring then [5, 4] else [4, 5]
/-- The first link of the route: the shorter way while it is not down. -/
def State.route (s : State) (d : Nat) : Option Nat := (s.ways d).find? (fun i => decide ((s.link i).state ≠ .down))
/-- The other Rhoash link. A record in transit leaves by the one that it did not come in by: the shorter way from its sender
never turns back, and the way that serves its pair of devices in place of a failed one does not either (R361). -/
def otherLink (l : Nat) : Nat := if l = 5 then 4 else 5
/-- A record from another device goes to the queue or tile stream that its destination word names, for the context
that is bound there. -/
def State.deliverPeer (s : State) (r : Rec) (word : BitVec 16) : State :=
  let c := bits word.toNat 5 9
  let from_ := Agent.device (bits r.head.toNat 60 2)
  if word.getLsbD 4 then
    let n := bits word.toNat 0 3
    match (s.cove (coveOf c)).bw.streams.find n with
    | some t => s.post from_ (Agent.tileStream (coveOf c) n) (.record r t.ctx (.stream (coveOf c) n) .system false)
    | none => s
  else
    let q := bits word.toNat 0 4
    match (s.core c).queues.find q with
    | some u => s.post from_ (Agent.queue c q) (.record r u.ctx (.queue c q) .system false)
    | none => s
/-- A record on its way leaves over link `l`, or over the other when that has failed; with no route left it is dropped,
counted and reported (R362). `none` while the link trains. -/
def State.forwardPeer (s : State) (l : Nat) : Option State :=
  let o := otherLink l
  if (s.link l).state.carries then some s
  else if (s.link l).state = .training then none
  else if (s.link o).state.carries then some s
  else if (s.link o).state = .training then none
  else
    let k := s.link l
    some ((s.setLink l { k with dropped := bump k.dropped }).report 6 0 0)
/-- `RHOASH_RECORD_ARRIVE`: at its first link a record is accepted, waits or is rejected; on its way it is forwarded; at
this device it is delivered. -/
def execRhoashRecordArrive (msg : Nat) (s : State) : Host.Outcome State Fault Refusal :=
  onMessage msg s (fun m s => match m.body with
    | .record r _ (.device d word) w _ =>
      match s.route d with
      | none => some (s.tell m w 2)
      | some l =>
        if (s.link l).state.carries then
          some ((s.tell m w 0).post (Agent.device s.dev.toNat) (Agent.device d) (.rhoash r d word l))
        else (match w with
          | .slot c j _ => if s.hasty c j then some (s.tell m w 1) else none
          | _ => none)
    | .rhoash r d word l => if d = s.dev.toNat then some (s.deliverPeer r word) else s.forwardPeer l
    | _ => none)
/-- `RHOASH_FRAME_REPLAY`: counted. -/
def execRhoashFrameReplay (link : Nat) (s : State) : Host.Outcome State Fault Refusal :=
  if link = 4 ∨ link = 5 then .next (s.countReplay link) else .next s

end Sys2Proof.Machine
end

