-- ==== Sys2Proof/Machine/Host.lean ====
section
/-! DEFINITION. The SDIO host attachment: the command window, launches, reads and writes, queries, attestation and firmware requests; and writes of registers that have no row of their own (00_scope.md R3; 18_link.md R363 to R366, R371; 21_boot_power.md R398, R399). -/

namespace Sys2Proof.Machine

/-! ### The doorbell (R363) -/

/-- The 8 MiB of an image (R395). -/
def imageMax : Nat := 2 ^ 23
/-- Whether recovery serves the command in the window (R398). -/
def State.recoveryServes (s : State) : Bool :=
  (s.cmdOp == 2 && s.cmdCtx == 0xFF && ((decide (1 ≤ s.cmdLen) && decide (s.cmdLen ≤ 8160)) ||
    (s.cmdLen == 0 && s.cmdAddr == 2 ^ 64 - 1))) || (s.cmdOp == 4 && s.cmdArg % 256 == 0)
/-- The status with which a command ends as it is taken: a reserved operation, selector, length or request code. -/
def State.refusedAtOnce (s : State) : Option Nat :=
  match s.phase with
  | .recovery _ => if s.recoveryServes then none else some 5
  | _ =>
    if s.cmdOp = 0 ∨ 5 < s.cmdOp ∨ 8160 < s.cmdLen ∨ (s.cmdOp = 4 ∧ 4 < s.cmdArg % 256) then some 2
    else if s.cmdOp = 2 ∧ s.cmdCtx = 0xFF ∧
        (s.cmdLen < 8 ∨ s.cmdLen % 8 ≠ 0 ∨ s.payWord 0 = 0 ∨ 9 < s.payWord 0) then some 2
    else none
/-- Whether the SDIO attachment carries traffic (Table 18.1). -/
def State.sdioUp (s : State) : Bool := (s.link 6).state.carries
/-- A doorbell takes the command in the window, unless one is in progress. -/
def State.doorbell (s : State) : State :=
  if s.sdioBusy || !s.sdioUp then s
  else
    let s := { s with sdioBusy := true }.putNum (windowAt 24) 4 1
    match s.refusedAtOnce with
    | some st => s.endCommand st
    | none => s
/-- `MBSTAT` as read. -/
def State.mbstat (s : State) : Nat :=
  (if s.sdioBusy then 1 else 0) + (if s.sdioDone then 2 else 0) + (match s.phase with
    | .recovery _ => 4
    | _ => 0)

/-! ### Register writes (R3) -/

/-- CSRs of a firmware core (Table 4.9, R359). -/
def fwCsr (n : Nat) : Bool := decide (0x880 ≤ n ∧ n < 0x8A0) || n == 0x8C0 || (decide (0x8C8 ≤ n) && decide (n ≤ 0x8CC))
/-- Number of the firmware core's CSR `n` of core `c` in `REGISTER_WRITE`; `DOORBELL` and `MBSTAT` are 0x12000 and
0x12004, and Headland's CSRs have their own numbers (log 4). -/
def fwReg (c n : Nat) : Nat := 2 ^ 20 + c * 2 ^ 12 + n
/-- Numbers of the machine custom ranges that Table 20.1 lies in. -/
def hartCustom (n : Nat) : Bool := (decide (0x7C0 ≤ n) && decide (n ≤ 0x7FF)) || (decide (0xFC0 ≤ n) && decide (n ≤ 0xFFF))
/-- `REGISTER_WRITE`: the fields of the register take the value as their access codes say. A Headland number that the table
does not list, or lists as read-only, takes the harts' illegal-instruction exception. -/
def execRegisterWrite (reg : Nat) (value : BitVec 64) (s : State) : Host.Outcome State Fault Refusal :=
  if reg = 0x12000 then .next (if value.getLsbD 0 then s.doorbell else s)
  else if reg = 0x12004 then .next (if s.sdioUp then { s with sdioDone := s.sdioDone && !value.getLsbD 1 } else s)
  else if 2 ^ 20 ≤ reg then
    let c := (reg - 2 ^ 20) / 2 ^ 12
    let n := reg % 2 ^ 12
    .next (if s.isFw c && decide (c < 512) && fwCsr n && s.phase == .running then s.csrWrite c n value else s)
  else match s.hput reg (value.setWidth 32) with
    | none => .next (if hartCustom reg && s.phase == .running then s.hartRun (some 0) 0 else s)
    | some s' => .next s'

/-! ### Launches, reads and writes (R364) -/

def CtxState.absent (t : CtxState) : Bool := t == .free || t == .released
/-- Cores of a launch: the owner address's, or the bitmap's in increasing order. -/
def State.launchCores (s : State) : List Nat :=
  if bits s.cmdArg 63 1 = 1 then (List.range 512).filter (fun c => s.payWord (4 + c / 64) / 2 ^ (c % 64) % 2 == 1)
  else [bits s.cmdAddr 48 9]
/-- The status of a launch of context `ctx` on `cores` that firmware refuses, `a` and `addr` being its `ARG` and `ADDR`. -/
def State.launchStatus (s : State) (ctx a addr : Nat) (cores : List Nat) : Option Nat :=
  let p : BitVec 6 := BitVec.ofNat 6 (bits a 16 6)
  let x := s.ctx ctx
  if bits a 22 41 ≠ 0 ∨ bits addr 57 7 ≠ 0 ∨ (48 ≤ p.toNat ∧ p.toNat ≤ 62) ∨ cores = [] then some 2
  else if ctx ≥ 16 ∨ x.state = .free ∨ x.state = .loading ∨ x.state = .draining ∨ x.state = .released then some 3
  else if bits a 0 16 ≥ x.handlers.length ∨ x.launchPrio p (bits a 0 16) < x.pmin ∨ x.pmax < x.launchPrio p (bits a 0 16) ∨
      cores.any (fun c => !x.has c) then some 5
  else none
/-- Firmware's launch, one for each core (R195, R364). -/
def State.launchAll (s : State) (ctx a addr : Nat) (cores : List Nat) (args : Vector Word 4) : State :=
  let h := bits a 0 16
  let p := (s.ctx ctx).launchPrio (BitVec.ofNat 6 (bits a 16 6)) h
  cores.foldl (fun t c => (t.launch c ctx h p args (BitVec.ofNat 64 (addr % 2 ^ 48))).1) s
/-- The status of the host's launch. A launch for a bitmap of no core, or with a `LEN` that holds no bitmap, ends with 2
(DESIGN CHOICE, log 93). -/
def State.launchRefused (s : State) : Option Nat :=
  if bits s.cmdArg 63 1 = 1 ∧ s.cmdLen < 96 then some 2 else s.launchStatus s.cmdCtx s.cmdArg s.cmdAddr s.launchCores
/-- A host launch that a peer's firmware relays, to the core that its owner address names (R361, log 77); one that would be refused is
dropped. -/
def State.relayed (s : State) (ctx a addr : Nat) (args : Vector Word 4) : State :=
  match s.launchStatus ctx (a % 2 ^ 63) addr [bits addr 48 9] with
  | some _ => s
  | none => s.launchAll ctx a addr [bits addr 48 9] args
/-- Argument words of a launch: the payload's first four, zero where it has none. -/
def State.launchArgs (s : State) : Vector Word 4 :=
  Vector.ofFn (fun k : Fin 4 =>
    if 8 * k.val < s.cmdLen then BitVec.ofNat 64 (s.num (windowAt (32 + 8 * k.val)) (min 8 (s.cmdLen - 8 * k.val))) else 0)
/-- `SDIO_LAUNCH`: the whole launch is checked, then one launch is made for each core. -/
def execSdioLaunch (s : State) : Host.Outcome State Fault Refusal :=
  if !s.serving 1 none then .next s
  else match s.launchRefused with
    | some st => .next (s.endCommand st)
    | none => .next ((s.launchAll s.cmdCtx s.cmdArg s.cmdAddr s.launchCores s.launchArgs).endCommand 0)
/-- Lines of stored addresses. -/
def linesOf (l : List Nat) : List Nat := (l.map (· / 256)).dedup
/-- `SDIO_WRITE`: the payload is stored at the memory side and released at `.sys`, whole or not at all. -/
def execSdioWrite (s : State) : Host.Outcome State Fault Refusal :=
  if !s.serving 2 none ∨ s.cmdCtx = 0xFF then .next s
  else if s.cmdCtx ≥ 16 ∨ (s.ctx s.cmdCtx).state.absent then .next (s.endCommand 3)
  else match s.vaddrs s.cmdCtx s.cmdAddr s.cmdLen .store with
    | none => .next (s.endCommand 4)
    | some l => if l.any (s.heldBack s.firstFw) then .next s else
      let bs := s.bytes (windowAt 32) s.cmdLen
      .next (({ s with mem := Mem.puts s.mem (l.zip bs) }.tagLines (linesOf l) 3 s.firstFw s.cmdCtx).endCommand 0)
/-- `SDIO_READ`. -/
def execSdioRead (s : State) : Host.Outcome State Fault Refusal :=
  if !s.serving 3 none ∨ s.cmdCtx = 0xFE then .next s
  else if s.cmdCtx ≥ 16 ∨ (s.ctx s.cmdCtx).state.absent then .next (s.endCommand 3)
  else match s.vaddrs s.cmdCtx s.cmdAddr s.cmdLen .load with
    | none => .next (s.endCommand 4)
    | some l => if l.any (s.heldBack s.firstFw) then .next s
      else if l.any (fun a => s.poisoned a 1) then .next (s.endCommand 4) else .next (s.endReply (l.map s.byte))
def wordBytes (l : List Nat) : List Byte := l.flatMap (fun x => leBytes 8 x)
/-- `SDIO_TRACE_READ`: the oldest values leave the buffer. -/
def execSdioTraceRead (s : State) : Host.Outcome State Fault Refusal :=
  if !s.serving 3 (some 0xFE) then .next s
  else if s.cmdAddr ≥ 16 ∨ s.cmdLen % 8 ≠ 0 then .next (s.endCommand 2)
  else
    let t := (s.ctx s.cmdAddr).trace
    let n := s.cmdLen / 8
    let s' := if (s.ctx s.cmdAddr).state.absent then s else s.modCtx s.cmdAddr (fun x => { x with trace := t.drop n })
    .next (s'.endReply (wordBytes ((t.take n).map (·.toNat))))

/-! ### Queries (R366) -/

def State.querying (s : State) (k : Nat) : Bool := s.serving 4 none && s.cmdArg % 256 == k
def flag (p : Bool) : Nat := if p then 1 else 0
/-- `QUERY_DEVICE`. -/
def execQueryDevice (s : State) : Host.Outcome State Fault Refusal :=
  if !s.querying 0 then .next s
  else
    let d (i : Fin 2) : Die := s.dies[i]
    .next (s.endReply (wordBytes ([
      s.dev.toNat * 2 ^ 8 + s.ring % 8 * 2 ^ 16 + flag (s.frozenMask != 0) * 2 ^ 24,
      s.svn, s.dtime.toNat,
      (d 0).step.toNat + (d 1).step.toNat * 2 ^ 8 + min 255 (d 0).temp * 2 ^ 16 + min 255 (d 1).temp * 2 ^ 24] ++
      (List.range 8).map (fun w => pack 1 ((List.range 64).map (fun j => flag (s.core (64 * w + j)).parked))))))
/-- The code of a context state in QUERY 1. -/
def CtxState.code : CtxState → Nat
  | .free => 0
  | .loading => 1
  | .ready => 2
  | .quotaHeld => 3
  | .faulted => 4
  | .frozen => 5
  | .draining => 6
  | .released => 7
/-- Slots that hold a task of a context, one for a pair or a gang. -/
def State.taskSlots (s : State) (x : Nat) : List Slot :=
  s.cores.flatMap (fun p => p.2.slots.toList.filter (fun t => decide (t.life ≠ .free) && t.ctx.toNat == x && t.leader.isNone &&
    (!(s.ctx x).pair || p.1 % 2 == 0)))
/-- Tasks of a context on the mesh. -/
def Body.task? (b : Body) (x : Nat) : Bool :=
  match b with
  | .stealReply _ _ (some i) => i.start.ctx == x
  | .spawnr st _ _ _ => st.ctx == x
  | .amsg st _ _ _ _ => st.ctx == x
  | .migrate st _ => st.ctx == x
  | _ => false
/-- Tasks of a context that have not halted (Table 9.4). -/
def State.tasksOf (s : State) (x : Nat) : Nat :=
  (s.taskSlots x).length + (s.net.filter (fun m => m.body.task? x)).length +
    (s.cores.map (fun p : Nat × Core => (p.2.items.filter (fun i => i.start.ctx == x)).length +
      (p.2.svc.filter (fun i => i.start.ctx == x)).length)).sum
/-- `QUERY_CONTEXTS`. -/
def execQueryContexts (s : State) : Host.Outcome State Fault Refusal :=
  if !s.querying 1 then .next s
  else .next (s.endReply (wordBytes ((List.range 16).map (fun c =>
      let x := s.ctx c
      x.state.code + flag x.spentOut * 2 ^ 8 + s.period.toNat * 2 ^ 16 + (s.trapDrops.getD c 0).toNat * 2 ^ 32) ++
    (List.range 16).map (fun c => (sat32 (s.tasksOf c)).toNat +
      (sat32 ((s.taskSlots c).filter (fun t => t.life == .trapped)).length).toNat * 2 ^ 32))))
def LinkState.code : LinkState → Nat
  | .down => 0
  | .training => 1
  | .up => 2
  | .degraded => 3
/-- `QUERY_LINKS`. -/
def execQueryLinks (s : State) : Host.Outcome State Fault Refusal :=
  if !s.querying 2 then .next s
  else .next (s.endReply (wordBytes ((List.range 19).flatMap (fun i =>
    let l := s.link i
    [l.state.code + l.lost % 16 * 2 ^ 4 + l.failures.toNat * 2 ^ 16 + l.replays.toNat * 2 ^ 32, l.dropped.toNat]))))
/-- `QUERY_STREAM`. -/
def execQueryStream (s : State) : Host.Outcome State Fault Refusal :=
  let n := bits s.cmdArg 16 7
  if !s.querying 3 then .next s
  else if 67 < n then .next (s.endCommand 2)
  else
    let t := s.stream n
    let port (m : FMap (BitVec 32)) : Nat := if n < 64 then (m.getD (n / 8) 0).toNat else 0
    .next (s.endReply (wordBytes [t.sent.toNat, t.rate.toNat, t.rejected.toNat, port s.portBadVc, port s.portBadType,
      t.cuts.toNat, t.discarded.toNat, flag t.cut + 2 * flag t.en]))
/-- `QUERY_COVE`. -/
def execQueryCove (s : State) : Host.Outcome State Fault Refusal :=
  if !s.querying 4 then .next s
  else
    let v := s.cove (bits s.cmdArg 16 6)
    .next (s.endReply (wordBytes ([v.mxe.rejected.toNat, v.ebb.rejected.toNat] ++
      (List.range 8).map (fun n => (v.bw.rejected.getD n 0).toNat))))

/-- The first 144 bytes of an attestation report (Table 21.3). -/
def State.reportBody (s : State) : List Byte :=
  s.bytes (windowAt 32) 64 ++ leBytes 64 s.measured.toNat ++ leBytes 2 s.svn ++ leBytes 1 s.dev.toNat ++ leBytes 1 s.ring ++
    leBytes 8 s.dtime.toNat ++ leBytes 4 s.fuse
/-- `SDIO_ATTEST`. -/
def execSdioAttest (s : State) : Host.Outcome State Fault Refusal :=
  if !s.serving 5 none then .next s
  else if s.cmdLen ≠ 64 then .next (s.endCommand 2)
  else .next (s.endReply (s.reportBody ++ leBytes 132 (Config.sign (sha512 s.reportBody)).toNat))

/-! ### Firmware requests (R365) -/

/-- Whether a request's payload is short, or has a bit that the table does not name; `masks` are words 1 on. -/
def State.badWords (s : State) (masks : List Nat) : Bool :=
  decide (s.reqWords < masks.length + 1) || (List.range (s.reqWords - 1)).any (fun i =>
    decide (s.reqWord (i + 1) &&& (2 ^ 64 - 1 - (masks[i]?).getD 0) ≠ 0))
/-- A request: disabled unless it is in progress; status 2 for a payload outside Table 18.4; refused with 5; or done. -/
def State.request (s : State) (code : Nat) (bad refused : Bool) (act : State → State) : State :=
  if !s.requested code then s
  else if bad then s.endRequest 2
  else if refused then s.endRequest 5
  else (act s).endRequest 0
/-- Bits `lo` up of word `k` of the payload. -/
def State.pf (s : State) (k lo n : Nat) : Nat := bits (s.reqWord k) lo n
/-- The context that word 1 names in bits [3:0]. -/
def State.reqCtx (s : State) : Nat := s.pf 1 0 4
def State.reqAbsent (s : State) : Bool := (s.ctx s.reqCtx).state.absent

/-- Words 1 on of a creation with `n` sources. -/
def createMasks (n : Nat) : List Nat :=
  [0xFF07FFFFFF3F3F0F, 2 ^ 48 - 1, 2 ^ 32 - 1, 0xFFFFFFFF000F01FF] ++ List.replicate 8 (2 ^ 64 - 1) ++ [0x7F] ++
    (List.range ((n + 3) / 4)).map (fun i => 2 ^ (16 * min 4 (n - 4 * i)) - 1)
/-- The attributes of a creation request (Table 18.4). -/
def State.created (s : State) : Ctx :=
  { pmin := s.pf 1 8 6, pmax := s.pf 1 16 6, weight := s.pf 1 24 8, share := s.pf 1 32 8
    cbmask := BitVec.ofNat 8 (s.pf 1 40 8), domain := s.pf 1 48 2, pair := s.pf 1 50 1 == 1, step := s.pf 1 56 8
    spill := s.pf 2 0 48, sws := s.pf 3 0 32, trapcore := s.pf 4 0 9, trapq := s.pf 4 16 4, hbwatch := 1000 * s.pf 4 32 32
    cores := BitVec.ofNat 512 (pack 64 ((List.range 8).map (fun w => s.reqWord (5 + w))))
    sources := (List.range (s.pf 13 0 7)).map (fun e => ⟨BitVec.ofNat 16 (s.pf (14 + e / 4) (16 * (e % 4)) 16), true⟩) }
/-- A creation's field outside its range (Table 8.1). -/
def Ctx.outOfRange (x : Ctx) : Bool :=
  decide (47 < x.pmin) || decide (47 < x.pmax) || x.weight == 0 || x.share == 0 || x.domain == 3 || x.sws % 2 ^ 14 != 0 ||
    (x.hbwatch != 0 && (decide (x.hbwatch < 10000) || decide (100000000 < x.hbwatch)))
/-- `FW_CREATE_CONTEXT`. -/
def execFwCreateContext (s : State) : Host.Outcome State Fault Refusal :=
  .next (s.request 1 (decide (s.reqWords < 14) || decide (64 < s.pf 13 0 7) || s.badWords (createMasks (s.pf 13 0 7)) || s.created.outOfRange)
    (s.createRefused s.reqCtx s.created) (fun s => s.createContext s.reqCtx s.created))
/-- `FW_DRAIN_CONTEXT`: a drain of a frozen context is recorded (Table 8.2). -/
def execFwDrainContext (s : State) : Host.Outcome State Fault Refusal :=
  let st := (s.ctx s.reqCtx).state
  .next (s.request 2 (s.badWords [0xF]) (st != .ready && st != .quotaHeld && st != .faulted && st != .frozen)
    (fun s => if st = .frozen then s.modCtx s.reqCtx (fun x => { x with drainRecorded := true }) else s.enterDraining s.reqCtx))
/-- `FW_RESUME_CONTEXT`. -/
def execFwResumeContext (s : State) : Host.Outcome State Fault Refusal :=
  .next (s.request 3 (s.badWords [0xF]) ((s.ctx s.reqCtx).state != .faulted) (fun s =>
    (s.modCtx s.reqCtx (fun x => { x with state := if x.spentOut then .quotaHeld else .ready })).scheduleAll s.reqCtx))
/-- Words of a map or unmap that Table 18.4 does not take. -/
def State.badRange (s : State) : Bool :=
  s.badWords [0x3390F, 2 ^ 48 - 1, 2 ^ 48 - 1, 2 ^ 48 - 1] || s.pf 1 16 2 == 3 || s.reqWord 2 % 2 ^ 14 != 0 ||
    (s.pf 1 8 1 == 1 && s.reqWord 3 % 2 ^ 14 != 0) || s.reqWord 4 % 2 ^ 14 != 0
/-- `FW_MAP`; the frame of the capability list is mapped for no store (R79). -/
def execFwMap (s : State) : Host.Outcome State Fault Refusal :=
  if s.pf 1 8 1 = 0 then .next s
  else .next (s.request 4 s.badRange
    (s.reqAbsent || s.reqWord 4 == 0 || (s.pf 1 12 1 == 1 && decide (s.reqWord 3 < capFrame + 2 ^ 14) && decide (capFrame < s.reqWord 3 + s.reqWord 4)) ||
      s.mapRefused s.reqCtx (s.reqWord 2) (s.reqWord 3) (s.reqWord 4) (s.pf 1 16 2))
    (fun s => s.mapRange s.reqCtx (s.reqWord 2) (s.reqWord 3) (s.reqWord 4) (s.pf 1 11 3) (s.pf 1 16 2)))
/-- `FW_UNMAP`: the command ends when the translations are invalidated (R342). -/
def execFwUnmap (s : State) : Host.Outcome State Fault Refusal :=
  let c := s.reqCtx
  if !s.requested 4 ∨ s.pf 1 8 1 = 1 then .next s
  else if s.reqWait then .next (if s.invals.any (fun i => i.ctx == c) then s else s.endRequest 0)
  else if s.badRange then .next (s.endRequest 2)
  else if s.reqAbsent ∨ s.reqWord 4 = 0 ∨ (s.ctx c).touchesSpill (s.reqWord 2) (s.reqWord 4) ∨ s.meetsCaps (s.reqWord 2) (s.reqWord 4) then
    .next (s.endRequest 5)
  else
    let s := s.unmapRange c (s.reqWord 2) (s.reqWord 4)
    .next (if s.invals.any (fun i => i.ctx == c) then s.requestWaits else s.endRequest 0)
/-- Domain instance of a core for each channel and domain, as a barrier's key in a context. -/
def barrierKeys (x c : Nat) : List Nat :=
  (List.range 16).map (fun i => x * 1024 + i / 4 * 256 + i % 4 * 64 + domainInstance (i % 4) c)
/-- The participants of the open episodes of a core's barriers are fixed, before the core is parked or unparked (R322). -/
def State.fixParticipants (s : State) (c : Nat) : State :=
  ((s.ctxs.filter (fun p => p.2.has c && !p.2.state.absent && p.2.state != .loading)).flatMap (fun p => barrierKeys p.1 c)).foldl
    (fun s k => { s with barriers := s.barriers.set k { s.barrier k with participants := some ((s.barrier k).members s k) } }) s
/-- `FW_PARK_CORE`. -/
def execFwParkCore (s : State) : Host.Outcome State Fault Refusal :=
  if s.pf 1 16 1 = 0 then .next s
  else .next (s.request 5 (s.badWords [0x101FF]) (s.isFw (s.pf 1 0 9)) (fun s =>
    (s.fixParticipants (s.pf 1 0 9)).modCore (s.pf 1 0 9) (fun k => { k with parked := true })))
/-- `FW_UNPARK_CORE`: the core starts what waits for it, a pair's at the primary (R314, R321). -/
def execFwUnparkCore (s : State) : Host.Outcome State Fault Refusal :=
  if s.pf 1 16 1 = 1 then .next s
  else .next (s.request 5 (s.badWords [0x101FF]) (s.isFw (s.pf 1 0 9)) (fun s =>
    let c := s.pf 1 0 9
    [c, primaryOf c].dedup.foldl (fun s d => (s.schedule d).startService d)
      ((s.fixParticipants c).modCore c (fun k => { k with parked := false }))))
/-- A source entry is live or retired; windows that this completes close (R211, R217). -/
def State.setSource (s : State) (x e : Nat) (live : Bool) : State :=
  let s := s.modCtx x (fun k => { k with sources := (k.sources.mapIdx (fun i o => (i, o))).map (fun p : Nat × Source =>
    if p.1 = e then { p.2 with live := live } else p.2) })
  let k := s.ctx x
  let s := { s with cores := s.cores.map (fun p : Nat × Core => (p.1, { p.2 with queues := p.2.queues.map (fun q : Nat × Queue =>
    (q.1, if q.2.ctx = x then q.2.closeNormal k else q.2)) })) }
  let l := s.coves.flatMap (fun v => (v.2.bw.streams.filter (fun t => t.2.ctx == x)).map (fun t => (v.1, t.1)))
  l.foldl (fun s p => (s.closeStream p.1 p.2).sendBwTide p.1 x) s
def State.badSource (s : State) : Bool := s.badWords [0x13F0F]
def State.sourceRefused (s : State) : Bool := s.reqAbsent || decide ((s.ctx s.reqCtx).sources.length ≤ s.pf 1 8 6)
/-- `FW_RETIRE_SOURCE`. -/
def execFwRetireSource (s : State) : Host.Outcome State Fault Refusal :=
  if s.pf 1 16 1 = 0 then .next s
  else .next (s.request 6 s.badSource s.sourceRefused (fun s => s.setSource s.reqCtx (s.pf 1 8 6) false))
/-- `FW_REVIVE_SOURCE`. -/
def execFwReviveSource (s : State) : Host.Outcome State Fault Refusal :=
  if s.pf 1 16 1 = 1 then .next s
  else .next (s.request 6 s.badSource s.sourceRefused (fun s => s.setSource s.reqCtx (s.pf 1 8 6) true))
/-- The configuration of a stream (Table 18.5); its counters, base and references start anew, and its last stamp stays. -/
def State.configured (s : State) : Stream :=
  { en := s.pf 1 16 1 == 1, safe := s.pf 1 17 1 == 1, tgt := BitVec.ofNat 16 (s.pf 1 20 16), ctx := s.pf 1 40 4, entry := s.pf 1 48 6
    hbeat := s.pf 2 0 16, offset := s.pf 2 16 16, maxb := s.pf 2 32 17, maxc := s.pf 3 0 21, period := s.pf 3 32 21
    rows := s.pf 4 0 7, cols := s.pf 4 8 7, thr := s.pf 4 16 16, wsh := s.pf 4 32 4
    cut := (s.stream (s.pf 1 0 7)).cut && s.pf 1 16 1 == 0, last := (s.stream (s.pf 1 0 7)).last, lastSend := s.dtime.toNat, scanAt := s.dtime.toNat + 1000 * s.pf 3 32 21 }
def Stream.outOfRange (t : Stream) : Bool :=
  let out (lo hi x : Nat) : Bool := decide (x < lo) || decide (hi < x)
  out 1 1000 t.hbeat || out 64 65536 t.maxb || out 256 1048576 t.maxc || out 10 100000 t.period || out 1 64 t.rows || out 1 64 t.cols ||
    t.thr == 0 || t.tgtField 3 2 == 3
/-- `FW_CONFIGURE_STREAM`. -/
def execFwConfigureStream (s : State) : Host.Outcome State Fault Refusal :=
  let n := s.pf 1 0 7
  let t := s.configured
  let x := s.ctx t.ctx
  .next (s.request 7 (s.badWords [0x3F0F0FFFF3007F, 0x1FFFFFFFFFFFF, 0x1FFFFF001FFFFF, 0xFFFFF7F7F] || decide (67 < n) || t.outOfRange)
    (x.state.absent || (match x.sources[t.entry]? with
      | some e => e.id != s.srcId 0 n
      | none => true)) (fun s => s.setStream n t))
/-- `FW_SET_TIMER`: a period of 0 cancels; the timer of the same context and number is replaced. -/
def execFwSetTimer (s : State) : Host.Outcome State Fault Refusal :=
  let c := s.reqCtx
  let n := s.pf 1 8 16
  let same (t : Timer) : Bool := t.ctx == c && t.num == n
  let p := s.pf 2 0 32
  .next (s.request 8 (s.badWords [0xFFFF0F, 0xF1FFFFFFFFFF]) (s.reqAbsent || (p == 0 && !s.timers.any same)) (fun s =>
    let l := s.timers.filter (fun t => !same t)
    { s with timers := if p = 0 then l else l ++ [⟨c, n, p, s.pf 2 32 9, s.pf 2 44 4, s.dtime.toNat + 1000 * p, 0⟩] }))
/-- `FW_LOAD_KERNEL`: the load begins; the command ends with it (Table 8.2). -/
def execFwLoadKernel (s : State) : Host.Outcome State Fault Refusal :=
  let x := s.ctx s.reqCtx
  if !s.requested 9 then .next s
  else if s.badWords [0xF, 2 ^ 48 - 1] then .next (s.endRequest 2)
  else if x.state ≠ .loading then .next (s.endRequest 5)
  else if x.pending.isSome ∨ s.regionFrom.isSome then .next s
  else .next (s.beginKernel s.reqCtx (s.reqWord 2))

end Sys2Proof.Machine
end

