-- ==== Sys2Proof/Machine/Boot.lean ====
section
/-! DEFINITION. Boot, recovery and resets (21_boot_power.md R395 to R401), and the two traps of a fetch that gives no instruction (02_instruction_word.md R30; 17_page.md R336). -/

namespace Sys2Proof.Machine

/-! ### The image (R395, R396) -/

/-- Start of the signature in an image at a stored address: the sections follow the header, each at a multiple of 64. -/
def State.sigAt (s : State) (base : Nat) : Nat :=
  let up (n : Nat) : Nat := (n + 63) / 64 * 64
  up (up (up (64 + s.num (base + 8) 4) + s.num (base + 12) 4) + s.num (base + 16) 4)
/-- Start of the configuration table. -/
def State.tableAt (s : State) (base : Nat) : Nat :=
  let up (n : Nat) : Nat := (n + 63) / 64 * 64
  up (up (64 + s.num (base + 8) 4) + s.num (base + 12) 4)
/-- The security version of an image. -/
def State.imageSvn (s : State) (base : Nat) : Nat := s.num (base + 6) 2
/-- The configuration word of an image. -/
def State.imageConf (s : State) (base : Nat) : Word := BitVec.ofNat 64 (s.num (base + s.tableAt base) 8)
/-- Whether every header and table field lies in Tables 21.1 and 21.2. -/
def State.fieldsOk (s : State) (base : Nat) : Bool :=
  let n (off k : Nat) : Nat := s.num (base + off) k
  let c := (s.imageConf base).toNat
  let within_ (lo hi x : Nat) : Bool := decide (lo ≤ x) && decide (x ≤ hi)
  n 0 4 == 0x46574B45 && n 4 2 == 1 && within_ 1 262144 (n 8 4) && within_ 1 4194304 (n 12 4) && n 16 4 == 64 && n 20 44 == 0 &&
    within_ 85 100 (bits c 48 8) && within_ 120 300 (bits c 32 9) && within_ 1 16 (bits c 20 5) &&
    decide (bits c 16 4 + bits c 20 5 ≤ 16) && bits c 56 8 == 0 && bits c 41 7 == 0 && bits c 25 7 == 0 && bits c 9 7 == 0 &&
    bits c 4 4 == 0 && s.num (base + s.tableAt base + 8) 56 == 0
/-- The first of steps 1 to 4 of R397 that fails. -/
def State.bootStep (s : State) (base : Nat) : Option Nat :=
  let sig := s.sigAt base
  if imageMax < sig + 132 then some 1
  else if !Config.signatureValid (sha512 (s.bytes base sig)) (s.bytes (base + sig) 132) then some 2
  else if s.imageSvn base < s.fuse then some 3
  else if !s.fieldsOk base then some 4 else none

/-! ### Resets (R397, R401) -/

/-- What a reset keeps: the NOR store and the fuses, the outside world's agenda and wiring; when warm LPDDR6 and the region
table, by which its data stay at their physical addresses, and the SDIO command window, where the status of an abandoned
command stays as it is (R401). -/
def State.kept (s : State) (warm : Bool) : State :=
  let keep (a : Nat) : Bool := (decide (norAt 0 ≤ a) && decide (a < tileAt 0 0)) ||
    (warm && (decide (a < poolAt 0 0) || (decide (windowAt 0 ≤ a) && decide (a < stagingAt 0))))
  { State.reset with
    mem := s.mem.filter (fun c => keep c.1)
    poison := s.poison.filter keep
    regions := if warm then s.regions else []
    fuse := s.fuse, cccr := s.cccr, dev := s.dev, ring := s.ring, agenda := s.agenda, free := s.free, cur := s.cur }
/-- `n` links have changed state, and each change is reported (R356). -/
def State.reports (s : State) : Nat → State
  | 0 => s
  | n + 1 => (s.report 4 0 0).reports n
/-- Bytes of the firmware column's image that each of its cores' pools takes, in core order, the pools filled one after
another (R397 step 6, log 12). -/
def State.loadColumn (s : State) (m : List Host.Cell) : List Host.Cell :=
  let base := norAt ((64 + s.num (norAt 8) 4 + 63) / 64 * 64)
  let len := s.num (norAt 12) 4
  let cores := (List.range 512).filter s.isFw
  (cores.zip (List.range cores.length)).foldl (fun m p =>
    Mem.copy m (base + p.2 * poolBytes) (poolAt p.1 0) (min poolBytes (len - p.2 * poolBytes))) m
/-- The ROM's loads of steps 5 and 6: Headland's SRAM, and the pools of the firmware column. -/
def State.loadImage (s : State) : State :=
  { s with mem := s.loadColumn (Mem.copy s.mem (norAt 64) (hramAt 0) (s.num (norAt 8) 4)) }
/-- Both harts jump into Headland's SRAM (R397 step 6, log 12). -/
def Headland.jump (h : Headland) : Headland :=
  { h with main := { h.main with pc := 0x10000000 }, checker := { h.checker with pc := 0x10000000 } }
/-- The boot ROM verifies the image and starts the firmware, or enters recovery; a requested recovery samples the CCCR
bit at reset release. The links begin to train, which firmware reports once it
runs (R356); the firmware column stands behind its firewall registers (R9). -/
def State.boot (s : State) : State :=
  let s := { s with links := (List.range 19).map (fun i => (i, { state := .training, since := s.dtime.toNat })), sdioBusy := false }
  if s.cccr then { s with phase := .recovery 0 }
  else match s.bootStep (norAt 0) with
    | some k => { s with phase := .recovery k }
    | none =>
      let s := s.reports 19
      let s := { s with conf := s.imageConf (norAt 0) }.loadImage
      { s with
      phase := .running, svn := s.imageSvn (norAt 0), headland := s.headland.jump
      firewall := BitVec.ofNat 512 (pack 1 ((List.range 512).map (fun c => if s.isFw c then 1 else 0)))
      measured := sha512 (s.bytes (norAt 0) (s.sigAt (norAt 0))) }
/-- `POWER_ON_RESET`. -/
def execPowerOnReset (s : State) : Host.Outcome State Fault Refusal := .next (s.kept false).boot
/-- `WARM_RESET`: the freeze with number 0xFFFC and what stops with it are lost in the reset itself; dirty lines of the
memory-side caches stand in the memory already (log 8). -/
def execWarmReset (s : State) : Host.Outcome State Fault Refusal := .next (s.kept true).boot

/-! ### Recovery (R398) -/

/-- Whether recovery has the command in progress. -/
def State.recovering (s : State) (op : Nat) : Bool :=
  s.sdioBusy && (match s.phase with
    | .recovery _ => true
    | _ => false) && s.cmdOp == op && s.recoveryServes
/-- `RECOVERY_STAGE_WRITE`. -/
def execRecoveryStageWrite (s : State) : Host.Outcome State Fault Refusal :=
  if !s.recovering 2 ∨ s.cmdLen = 0 then .next s
  else if imageMax < s.cmdAddr + s.cmdLen then .next (s.endCommand 4)
  else .next ((s.putBytes (stagingAt s.cmdAddr) (s.bytes (windowAt 32) s.cmdLen)).endCommand 0)
/-- `RECOVERY_COMMIT`: a verified image is programmed, the fuse counter rises, and the device resets warm. -/
def execRecoveryCommit (s : State) : Host.Outcome State Fault Refusal :=
  if !s.recovering 2 ∨ s.cmdLen ≠ 0 then .next s
  else match s.bootStep (stagingAt 0) with
    | some _ => .next (s.endCommand 5)
    | none =>
      .next (({ s with mem := Mem.copy s.mem (stagingAt 0) (norAt 0) (s.sigAt (stagingAt 0) + 132)
                       fuse := max s.fuse (s.imageSvn (stagingAt 0)) }.kept true).boot)
/-- `RECOVERY_QUERY`: the failed step of a requested recovery is not stated (log 6). -/
def execRecoveryQuery (s : State) : Host.Outcome State Fault Refusal :=
  if !s.recovering 4 then .next s
  else match s.phase with
    | .recovery 0 => .next ({ s with free := s.free + 1 }.endReply (wordBytes [1, Config.freeNat s.free % 2 ^ 64]))
    | .recovery k => .next (s.endReply (wordBytes [1, k]))
    | _ => .next s

/-! ### Fetches that give no instruction -/

/-- `RESERVED_ENCODING`: the word takes `ILLEGAL_INSTRUCTION` with itself and its address (R30, R31). -/
def execReservedEncoding (w : BitVec 32) (tail : Bool) (s : State) : Host.Outcome State Fault Refusal :=
  let a := if tail then s.me.pc + 4 else s.me.pc
  .next (takeTrap s ⟨Cause.illegalInstruction, w.setWidth 64, a.setWidth 48⟩)
/-- `FETCH_PAGE_TRAP` (R336). -/
def execFetchPageTrap (va : BitVec 64) (status : BitVec 6) (s : State) : Host.Outcome State Fault Refusal :=
  .next (takeTrap s (pageTrap .fetch va status))

end Sys2Proof.Machine
end

