-- ==== Sys2Proof/Machine/Geometry.lean ====
section
/-! DEFINITION. Exact geometric predicates and exact sums (14_geometry.md R292 to R305). -/

namespace Sys2Proof.Machine

/-- The five predicates (Table 14.1). -/
inductive Pred where
  | ori2 | ori3 | inc | ins | seg
  deriving DecidableEq, Repr
/-- Points and dimension (Table 14.2). -/
def Pred.points : Pred → Nat
  | .ori2 => 3
  | .ins => 5
  | _ => 4
def Pred.dim : Pred → Nat
  | .ori3 => 3
  | .ins => 3
  | _ => 2

/-! ### One expression for every number system (R294, R296) -/

/-- The operations of a number system; `diff` is a difference leaf of two coordinates. -/
structure Arith (α β : Type) where
  diff : α → α → β
  add : β → β → β
  sub : β → β → β
  mul : β → β → β

/-- A point's coordinate `j` by the point's number. -/
abbrev Coords (α : Type) := Nat → Nat → α

/-- `orient2d` of R296 on points `a`, `b`, `c`. -/
def orient2d {α β : Type} (A : Arith α β) (x : Coords α) (a b c : Nat) : β :=
  let v (p j : Nat) : β := A.diff (x p j) (x c j)
  A.sub (A.mul (v a 0) (v b 1)) (A.mul (v a 1) (v b 0))
/-- `orient3d` of R296. -/
def orient3d {α β : Type} (A : Arith α β) (x : Coords α) : β :=
  let v (p j : Nat) : β := A.diff (x p j) (x 3 j)
  let m (p q : Nat) : β := A.sub (A.mul (v p 0) (v q 1)) (A.mul (v q 0) (v p 1))
  A.add (A.add (A.mul (v 0 2) (m 1 2)) (A.mul (v 1 2) (m 2 0))) (A.mul (v 2 2) (m 0 1))
/-- `incircle` of R296. -/
def incircle {α β : Type} (A : Arith α β) (x : Coords α) : β :=
  let v (p j : Nat) : β := A.diff (x p j) (x 3 j)
  let lift (p : Nat) : β := A.add (A.mul (v p 0) (v p 0)) (A.mul (v p 1) (v p 1))
  let m (p q : Nat) : β := A.sub (A.mul (v p 0) (v q 1)) (A.mul (v q 0) (v p 1))
  A.add (A.add (A.mul (lift 0) (m 1 2)) (A.mul (lift 1) (m 2 0))) (A.mul (lift 2) (m 0 1))
/-- `insphere` of R296. -/
def insphere {α β : Type} (A : Arith α β) (x : Coords α) : β :=
  let v (p j : Nat) : β := A.diff (x p j) (x 4 j)
  let lift (p : Nat) : β := A.add (A.add (A.mul (v p 0) (v p 0)) (A.mul (v p 1) (v p 1))) (A.mul (v p 2) (v p 2))
  let m (p q : Nat) : β := A.sub (A.mul (v p 0) (v q 1)) (A.mul (v q 0) (v p 1))
  let z (p : Nat) (k : β) : β := A.mul (v p 2) k
  let abc := A.add (A.sub (z 0 (m 1 2)) (z 1 (m 0 2))) (z 2 (m 0 1))
  let bcd := A.add (A.sub (z 1 (m 2 3)) (z 2 (m 1 3))) (z 3 (m 1 2))
  let cda := A.add (A.add (z 2 (m 3 0)) (z 3 (m 0 2))) (z 0 (m 2 3))
  let dab := A.add (A.add (z 3 (m 0 1)) (z 0 (m 1 3))) (z 1 (m 3 0))
  A.add (A.sub (A.mul (lift 3) abc) (A.mul (lift 2) dab)) (A.sub (A.mul (lift 1) cda) (A.mul (lift 0) bcd))
/-- The values whose signs decide a predicate: one, or the four orientations of `seg_sign` (R294). -/
def Pred.values {α β : Type} (k : Pred) (A : Arith α β) (x : Coords α) : List β :=
  match k with
  | .ori2 => [orient2d A x 0 1 2]
  | .ori3 => [orient3d A x]
  | .inc => [incircle A x]
  | .ins => [insphere A x]
  | .seg => [orient2d A x 0 1 2, orient2d A x 0 1 3, orient2d A x 2 3 0, orient2d A x 2 3 1]

/-! ### Stages A and B (R296) -/

def f64 : Fmt := fmtOf 16
def patOf (r : Nat × Flags) : Nat := r.1
/-- FP64 arithmetic with rounding to nearest, on patterns. -/
def stageA : Arith Nat Nat where
  diff a b := patOf (fpSub f64 0 a b)
  add a b := patOf (fpAdd f64 0 a b)
  sub a b := patOf (fpSub f64 0 a b)
  mul a b := patOf (fpMul f64 0 a b)
/-- The permanent: absolute leaves, sums, rounding up. -/
def permanent : Arith Nat Nat where
  diff a b := patOf (fpSub f64 0 a b) % 2 ^ 63
  add a b := patOf (fpAdd f64 2 a b)
  sub a b := patOf (fpAdd f64 2 a b)
  mul a b := patOf (fpMul f64 2 a b)
def negPat (a : Nat) : Nat := (a + 2 ^ 63) % 2 ^ 64
def twoSum (a b : Nat) : Nat × Nat :=
  let s := stageA.add a b
  let t := stageA.sub s a
  (s, stageA.add (stageA.sub a (stageA.sub s t)) (stageA.sub b t))
def fastTwoSum (a b : Nat) : Nat × Nat :=
  let s := stageA.add a b
  (s, stageA.sub b (stageA.sub s a))
def twoProd (a b : Nat) : Nat × Nat :=
  let p := stageA.mul a b
  (p, patOf (fpFma f64 0 false a b (negPat p)))
def ddAdd (x y : Nat × Nat) : Nat × Nat :=
  let (s, e) := twoSum x.1 y.1
  fastTwoSum s (stageA.add e (stageA.add x.2 y.2))
def ddMul (x y : Nat × Nat) : Nat × Nat :=
  let (p, e) := twoProd x.1 y.1
  fastTwoSum p (stageA.add e (stageA.add (stageA.mul x.1 y.2) (stageA.mul x.2 y.1)))
def ddNeg (x : Nat × Nat) : Nat × Nat := (negPat x.1, negPat x.2)
/-- Double-double arithmetic. -/
def stageB : Arith Nat (Nat × Nat) where
  diff a b := ddAdd (a, 0) (ddNeg (b, 0))
  add := ddAdd
  sub a b := ddAdd a (ddNeg b)
  mul := ddMul
/-- The constants of Table 14.4, as f64 patterns. -/
def Pred.constA : Pred → Nat
  | .ori3 => 972 * 2 ^ 52 + 3 * 2 ^ 50 + 7
  | .inc => 973 * 2 ^ 52 + 2 ^ 50 + 6
  | .ins => 974 * 2 ^ 52 + 7
  | _ => 971 * 2 ^ 52 + 2 ^ 51 + 4
def Pred.constB : Pred → Nat
  | .ori3 => 928 * 2 ^ 52
  | .inc => 929 * 2 ^ 52
  | .ins => 931 * 2 ^ 52
  | _ => 926 * 2 ^ 52
def finite64 (a : Nat) : Bool := decide (a % 2 ^ 63 < 2047 * 2 ^ 52)
/-- Sign of a value that its stage resolves: estimate, permanent, constant. -/
def resolved (e p c : Nat) : Option Int :=
  let bound := patOf (fpMul f64 2 c p)
  if finite64 e && finite64 p && finite64 bound && decide (423 * 2 ^ 52 ≤ p) && decide (bound < e % 2 ^ 63) then
    some (if e < 2 ^ 63 then 1 else -1)
  else none
/-- The signs of all of a lane's values, where the stage resolves every one. -/
def signsAt (es ps : List Nat) (c : Nat) : Option (List Int) := (es.zip ps).mapM (fun q => resolved q.1 q.2 c)

/-! ### Stage C (R294, R297) -/

/-- A finite f64 pattern as a whole number of 2^-1074. -/
def scaledInt (a : Nat) : Int :=
  match Fp.read f64 a with
  | .fin n m x => signedAt n m x (-1074)
  | _ => 0
def exactArith : Arith Int Int where
  diff a b := a - b
  add a b := a + b
  sub a b := a - b
  mul a b := a * b
/-- `on_box` of R294. -/
def onBox (x : Coords Int) (u w s : Nat) : Bool :=
  (List.range 2).all (fun j => decide (min (x u j) (x w j) ≤ x s j) && decide (x s j ≤ max (x u j) (x w j)))
/-- `seg_sign` of R294 from the four signs. -/
def segSign (o : List Int) (x : Coords Int) : Int :=
  match o with
  | [o1, o2, o3, o4] =>
    if o1 * o2 < 0 ∧ o3 * o4 < 0 then 1
    else if (o1 = 0 ∧ onBox x 0 1 2) ∨ (o2 = 0 ∧ onBox x 0 1 3) ∨ (o3 = 0 ∧ onBox x 2 3 0) ∨ (o4 = 0 ∧ onBox x 2 3 1) then 0
    else -1
  | _ => 0
/-- A lane's sign from the signs of its values. -/
def Pred.sign (k : Pred) (o : List Int) (x : Coords Int) : Int :=
  match k with
  | .seg => segSign o x
  | _ => o.headD 0

/-! ### Ties (R298) -/

/-- A polynomial in ε by exponent. -/
abbrev Poly := FMap Int
def Poly.addTerm (p : Poly) (e : Nat) (c : Int) : Poly :=
  let v := p.getD e 0 + c
  if v = 0 then p.del e else p.set e v
def Poly.add (p q : Poly) : Poly := q.foldl (fun p t => Poly.addTerm p t.1 t.2) p
def Poly.neg (p : Poly) : Poly := p.map (fun t => (t.1, -t.2))
def Poly.mul (p q : Poly) : Poly :=
  p.foldl (fun r t => q.foldl (fun r u => Poly.addTerm r (t.1 + u.1) (t.2 * u.2)) r) []
def polyArith : Arith Poly Poly where
  diff a b := Poly.add a (Poly.neg b)
  add := Poly.add
  sub a b := Poly.add a (Poly.neg b)
  mul := Poly.mul
/-- The keys of a lane's points: only their order counts, so each is a rank (R298). -/
def ranks (n : Nat) (less : Nat → Nat → Bool) (p : Nat) : Nat := ((List.range n).filter (fun q => less q p)).length
/-- The sign that the perturbation gives a zero lane: that of the lowest nonzero coefficient. -/
def Pred.tieSign (k : Pred) (rank : Nat → Nat) (x : Coords Int) : Int :=
  let y : Coords Poly := fun p j => Poly.addTerm (Poly.addTerm [] 0 (x p j)) (3 ^ (3 * rank p + j)) 1
  match k.values polyArith y with
  | v :: _ => match v with
    | t :: _ => if t.2 > 0 then 1 else -1
    | [] => 0
  | [] => 0
/-- Whether point `p` comes before `q` by x, then y, then z. -/
def lexLess (d : Nat) (x : Coords Int) (p q : Nat) : Bool :=
  let rec go (i j : Nat) : Bool := match i with
    | 0 => false
    | i + 1 => if x p j < x q j then true else if x p j > x q j then false else go i (j + 1)
  go d 0
/-- The lowest two points, in order, that share a key. -/
def sharedKey (n : Nat) (same : Nat → Nat → Bool) : Option (Nat × Nat) :=
  ((List.range n).flatMap (fun p => (List.range n).filterMap (fun q =>
    if p < q && same p q then some (p, q) else none))).head?

/-! ### A lane (R296 to R301) -/

/-- How a lane ends: the stage that resolves it (0 A, 1 B, 2 C), its sign, and whether a tie-break decided it; or the
two points that share a key. -/
inductive LaneEnd where
  | sign (stage : Nat) (v : Int) (tie : Bool)
  | shared (p q : Nat)
  deriving DecidableEq, Repr
/-- One lane: `x` its coordinates as f64 patterns, `id` its identifiers, `tie` the mode of Table 4.5. -/
def Pred.lane (k : Pred) (x : Coords Nat) (id : Nat → Nat) (tie : Nat) : LaneEnd :=
  let xi : Coords Int := fun p j => scaledInt (x p j)
  let ps := k.values permanent x
  match signsAt (k.values stageA x) ps k.constA with
  | some o => .sign 0 (k.sign o xi) false
  | none => match signsAt ((k.values stageB x).map (·.1)) ps k.constB with
    | some o => .sign 1 (k.sign o xi) false
    | none =>
      let v := k.sign ((k.values exactArith xi).map Int.sign) xi
      if v ≠ 0 ∨ k = .seg ∨ tie = 0 then .sign 2 v false
      else
        let n := k.points
        let less (p q : Nat) : Bool := if tie = 1 then decide (id p < id q) else lexLess k.dim xi p q
        match sharedKey n (fun p q => !less p q && !less q p) with
        | some (p, q) => .shared p q
        | none => .sign 2 (k.tieSign (ranks n less) xi) true

/-! ### The instruction (R293, R295, R299, R300) -/

/-- Whether an f64 or f32 lane is no finite value. -/
def notFinite (t p : Nat) : Bool := match Fp.read (fmtOf t) p with
  | .fin .. => false
  | _ => true
/-- A lane widened to f64, exactly. -/
def widen (t p : Nat) : Nat := if t = 16 then p else ((Fp.read (fmtOf t) p).toPat f64 0).1
/-- The result of a predicate over its live lanes: the three masks and the counts, or `GEOM_TIEID`. -/
def gatherLanes (word : BitVec 32) (d : Nat) (nfs : Bool) (l : List (Nat × LaneEnd)) : Predicate :=
  let mask (p : LaneEnd → Bool) : Word := maskOf 16 (fun i => l.any (fun q => q.1 == i && p q.2))
  let count (p : LaneEnd → Bool) : Nat := (l.filter (fun q => p q.2)).length
  { word := word, d := d
    masks := [mask (fun | .sign _ v _ => decide (v > 0) | _ => false), mask (fun | .sign _ v _ => decide (v < 0) | _ => false),
              mask (fun | .sign _ _ t => t | _ => false)]
    na := count (fun | .sign k _ _ => k == 0 | _ => false), nb := count (fun | .sign k _ _ => k == 1 | _ => false)
    nc := count (fun | .sign k _ _ => k == 2 | _ => true), nt := count (fun | .sign _ _ t => t | _ => false)
    tie := (l.findSome? (fun q => match q.2 with
      | .shared p r => some (BitVec.ofNat 64 (q.1 + 2 ^ 8 * p + 2 ^ 12 * r))
      | _ => none))
    nfs := nfs }
/-- Counters that saturate at 0xFFFF (Table 4.6). -/
def addGstat (g : Word) (p : Predicate) : Word :=
  let c (i n : Nat) : Nat := min (bits g.toNat (16 * i) 16 + n) 0xFFFF
  BitVec.ofNat 64 (c 0 p.na + c 1 p.nb * 2 ^ 16 + c 2 p.nc * 2 ^ 32 + c 3 p.nt * 2 ^ 48)
/-- A predicate's results are written (R295, R301). -/
def Slot.putPredicate (t : Slot) (p : Predicate) : Slot :=
  let t := (((p.masks.zipIdx).foldl (fun t q => t.wm (p.d + q.2) q.1) t))
  { t with gstat := addGstat t.gstat p, nfs := t.nfs || p.nfs, predicate := none }
def tieTrap (v : Word) (pc : Word) : Trap := ⟨Cause.geomTieid, v, pc.setWidth 48⟩
/-- `geom` of R300. Stage C work holds the core's datapath until the predicate completes; the slot issues nothing. -/
def geom (k : Pred) (f : BitVec 1) (m : BitVec 3) (a d : BitVec 5) : M Unit := fun s =>
  let t := if f = 1 then 16 else 15
  let w := typeBits t
  let tie := s.me.tie.toNat
  let base := a.toNat
  let nc := k.points * k.dim
  let size := nc + (if tie = 1 ∧ k ≠ .seg then k.points else 0)
  if base + size > 32 then .error (.trap (illegalTrap s))
  else
    let reg (r i : Nat) : Nat := laneW w (s.rv (BitVec.ofNat 5 (base + r))) i
    let lanes := (List.range (512 / w)).filter (active (s.rmask m.toNat))
    let bad (i : Nat) : Option Nat := (List.range nc).find? (fun r => notFinite t (reg r i))
    match lanes.findSome? (fun i => (bad i).map (fun r => (i, r))), s.me.nfq with
    | some (i, r), false =>
      .error (.trap ⟨Cause.geomNonfinite, BitVec.ofNat 64 (i + (base + r) * 2 ^ 8), s.wordPc.setWidth 48⟩)
    | skip, _ =>
      let live := lanes.filter (fun i => (bad i).isNone)
      let p := gatherLanes s.cur.word d.toNat skip.isSome (live.map (fun i =>
        (i, k.lane (fun p j => widen t (reg (k.dim * p + j) i)) (fun p => reg (nc + p) i % 2 ^ 32) tie)))
      let c := s.core s.myCore
      if p.nc = 0 then .ok ((), (s.modMe (fun t => t.putPredicate p)).advance)
      else if c.datapath.isSome then .error (.wait .predicate s)
      else .error (.wait .predicate
        ((s.modCore s.myCore (fun c => { c with datapath := some s.mySlot })).modMe (fun t => { t with predicate := some p })))

/-- `GORI2`. -/
def execGori2 (f : BitVec 1) (g : BitVec 3) (a d : BitVec 5) (s : State) : Host.Outcome State Fault Refusal :=
  runM (geom .ori2 f g a d) s
/-- `GORI3`. -/
def execGori3 (f : BitVec 1) (g : BitVec 3) (a d : BitVec 5) (s : State) : Host.Outcome State Fault Refusal :=
  runM (geom .ori3 f g a d) s
/-- `GINC`. -/
def execGinc (f : BitVec 1) (g : BitVec 3) (a d : BitVec 5) (s : State) : Host.Outcome State Fault Refusal :=
  runM (geom .inc f g a d) s
/-- `GINS`. -/
def execGins (f : BitVec 1) (g : BitVec 3) (a d : BitVec 5) (s : State) : Host.Outcome State Fault Refusal :=
  runM (geom .ins f g a d) s
/-- `GSEG`. -/
def execGseg (f : BitVec 1) (g : BitVec 3) (a d : BitVec 5) (s : State) : Host.Outcome State Fault Refusal :=
  runM (geom .seg f g a d) s

/-- `PREDICATE_COMPLETE`: the stage C work of a slot's predicate ends (R300); one whose task's budget is spent, or that a
freeze has met, is abandoned instead (R302). -/
def execPredicateComplete (core slot : Nat) (s : State) : Host.Outcome State Fault Refusal :=
  let t := s.slot core slot
  match t.predicate with
  | some p =>
    if t.life = .stalled .predicate ∧ !t.frozen ∧ !s.abandons core slot ∧ (t.left ≠ 0 ∨ t.leader.isSome) then
      let s := s.modCore core (fun k => { k with datapath := if k.datapath = some slot then none else k.datapath })
      match p.tie with
      | some v => .next (s.trapSlot core slot (tieTrap v t.pc))
      | none =>
        let s := s.modSlot core slot (fun t => { (t.putPredicate p).settle with
          pc := t.pc + 4, bundles := if t.leader.isSome then t.bundles.drop 1 else t.bundles })
        .next (if t.gang && t.leader.isNone then s.share core slot
          { pc := t.pc, head := p.word, tail := none, next := t.pc + 4, result := some 0, ev := t.ev } else s)
    else .next s
  | none => .next s

/-! ### Exact sums (R303 to R305) -/

/-- The stored addresses of `n` cells, every one checked before any is touched, and behind the slot's own posted atomics
(R136). -/
def cells (ga : Word) (n : Nat) (store read : Bool) : M (List Nat) := do
  if ga.toNat % 64 ≠ 0 then misaligned 64 ga
  else (List.range n).mapM (fun i => do
    let ea := ga + BitVec.ofNat 64 (64 * i)
    let a ← localAddr ea ea.toNat 64 store
    let s ← get
    if read && s.poisoned a 64 then stopTrap (eccTrap ea)
    else do
      afterAtomics false ea.toNat 64
      pure a)
def State.cell (s : State) (a : Nat) : BitVec 512 := BitVec.ofNat 512 (s.num a 64)
/-- The datapath of R297, which a predicate in stage C holds. -/
def datapathFree : M Unit := fun s => if (s.core s.myCore).datapath.isSome then .error (.wait .predicate s) else .ok ((), s)

/-- `XCLR`, a store that a pair compares as a whole (R305). -/
def execXclr (t a : BitVec 5) (s : State) : Host.Outcome State Fault Refusal :=
  runM (do
    let ga ← getG a
    let l ← cells ga (lanes t.toNat) true false
    let _ ← outbound ga []
    modify (fun s : State => l.foldl (fun s x => s.putNum x 64 0) s)
    done) s

/-- `XADD`. -/
def execXadd (t b a m : BitVec 5) (s : State) : Host.Outcome State Fault Refusal :=
  runM (do
    let ga ← getG a
    let s ← get
    let v := s.rv b
    let g := s.rmask m.toNat
    let l ← cells ga (lanes t.toNat) true true
    let _ ← outbound ga ((List.range (lanes t.toNat)).map (fun i => if active g i then BitVec.ofNat 64 (lane t.toNat v i) else 0))
    datapathFree
    modify (fun s : State => (l.zipIdx).foldl (fun s p =>
      if active g p.2 then
        let (x, f) := xaccAdd (s.cell p.1) (Fp.read (fmtOf t.toNat) (lane t.toNat v p.2))
        (s.putNum p.1 64 x.toNat).orFlags f
      else s) s)
    done) s

/-- `XRND`. -/
def execXrnd (a d : BitVec 5) (s : State) : Host.Outcome State Fault Refusal :=
  runM (do
    let ga ← getG a
    let l ← cells ga 16 false true
    datapathFree
    modify (fun s : State =>
      let r := l.map (fun x => xaccRead (s.cell x))
      (s.wv d (ofLanes 32 (r.map (·.1)))).orFlags (r.foldl (fun f q => f ||| q.2) 0))
    done) s

end Sys2Proof.Machine
end

