-- ==== Sys2Proof/Machine/Governor.lean ====
section
/-! DEFINITION. The governor: periods, quotas, energy values, DVFS steps and thermal samples (08_context.md R166 to R171; 21_boot_power.md R400). -/

namespace Sys2Proof.Machine

/-- Thermal target and TDP of the configuration table (Table 21.2). -/
def State.ttgt (s : State) : Nat := bits s.conf.toNat 48 8
def State.tdp (s : State) : Nat := bits s.conf.toNat 32 9
/-- The step that a die takes at a boundary (R400); step 0 is 1.2 GHz and step 3 is 0.6 GHz (R13). -/
def nextStep (t ttgt : Nat) (st : BitVec 2) : BitVec 2 :=
  if 105 ≤ t then 3
  else if ttgt ≤ t then (if st = 3 then 3 else st + 1)
  else if ttgt ≤ t + 5 then st
  else if st = 0 then 0 else st - 1
/-- The allowance from the base energy of the period that ends (R400), in halves of a nJ, so that the allotments alone are
rounded (R168). -/
def State.allowanceFor (s : State) (base : Nat) : Nat :=
  let a := s.tdp * 100000 - base
  if s.dies.toList.any (fun d => decide (105 ≤ d.temp)) then a else 2 * a
/-- Contexts that take a share (R168). -/
def CtxState.shares (t : CtxState) : Bool := t != .free && t != .loading && t != .released
/-- A context's quota at a boundary, for an allotment; what it spent beyond its last quota is debt (R170). -/
def Ctx.renew (x : Ctx) (allot : Nat) : Ctx :=
  let d := x.debt + (x.spent - x.quota)
  let q := allot - d
  { x with quota := q, spent := 0, debt := min (d - allot) allot, spentOut := q == 0
           state := if x.state = .quotaHeld ∧ q ≠ 0 then .ready else if x.state = .ready ∧ q = 0 then .quotaHeld else x.state }
/-- Every virtual time of a core is reduced by the least of its active contexts (R166). -/
def Core.lowerVt (k : Core) : Core :=
  match (k.actives.map (fun y => k.vt.getD y 0)).min? with
  | some m => { k with vt := k.vt.map (fun p : Nat × Nat => (p.1, p.2 - m)) }
  | none => k
/-- `GOVERNOR_PERIOD`: one boundary that device time has reached. The base energy is the meters' (log 6). -/
def execGovernorPeriod (s : State) : Host.Outcome State Fault Refusal :=
  if s.phase ≠ .running ∨ s.dtime.toNat / 100000 % 2 ^ 16 = s.period.toNat then .next s
  else
    let a := s.allowanceFor (Config.baseEnergy s.free)
    let sum := (s.ctxs.map (fun p : Nat × Ctx => if p.2.state.shares then p.2.share else 0)).sum
    .next { s with
      period := s.period + 1, free := s.free + 1, allowance := a
      dies := s.dies.map (fun d => let t := nextStep d.temp s.ttgt d.step
        { d with next := if t = d.step then none else some t })
      cores := s.cores.map (fun p : Nat × Core => (p.1, p.2.lowerVt))
      ctxs := s.ctxs.map (fun p : Nat × Ctx => (p.1, if p.2.state.shares then p.2.renew (a * p.2.share / (2 * sum)) else p.2)) }

/-- `QUOTA_EXHAUSTED`: the meters find that the spending has reached the quota (R169). -/
def execQuotaExhausted (ctx : Nat) (s : State) : Host.Outcome State Fault Refusal :=
  let x := s.ctx ctx
  if !x.state.shares ∨ x.spentOut ∨ x.spent < x.quota then .next s
  else .next (s.setCtx ctx { x with
    spentOut := true, state := if x.state = .ready then .quotaHeld else x.state })

/-- `ENRG_DELIVERY`: `OVER` and `QLEFT` reach a core, which decides where its held items become eligible (R164, R165);
`QLEFT` is what the spending leaves of the quota. -/
def execEnrgDelivery (core ctx : Nat) (s : State) : Host.Outcome State Fault Refusal :=
  let x := s.ctx ctx
  if !x.has core ∨ x.state = .free then .next s
  else
    let s' := s.modCore core (fun k => { k with enrg := k.enrg.set ctx ⟨x.spentOut, sat32 (x.quota - x.spent)⟩ })
    .next (if ((s.core core).enrg.getD ctx {}).spentOut && !x.spentOut then s'.schedule core else s')

/-- `DVFS_STEP_DONE` (R171). -/
def execDvfsStepDone (die : Nat) (s : State) : Host.Outcome State Fault Refusal :=
  .next { s with dies := s.dies.mapFinIdx (fun i d _ => if i = die then
    (match d.next with
      | some t => { d with step := t, next := none }
      | none => d) else d) }

/-- `THERMAL_SAMPLE`: the readings of each die's eight sensors; each of 115 °C or more is reported (R400). -/
def execThermalSample (t0 t1 : List Nat) (s : State) : Host.Outcome State Fault Refusal :=
  let t (i : Nat) : List Nat := if i = 0 then t0 else t1
  let s := { s with dies := s.dies.mapFinIdx (fun i d _ => { d with sensors := Vector.ofFn (fun k => ((t i)[k.val]?).getD 0) }) }
  .next (((t0.take 8 ++ t1.take 8).filter (fun x => decide (115 ≤ x))).foldl (fun s _ => s.report 7 0 0) s)

end Sys2Proof.Machine
end

