-- ==== Sys2Proof/Machine/Group.lean ====
section
/-! DEFINITION. Gangs, split and pair check (15_group.md R306 to R318). -/

namespace Sys2Proof.Machine

/-- The other cores of the group of size `k` that holds core `c` (R306). -/
def groupOf (c k : Nat) : List Nat :=
  ((List.range k).map (fun i => coreAt (coveOf c) (posOf c / k * k + i))).filter (· != c)
/-- Whether a core's slot 0 may be claimed by a gang of context `x` (R308). -/
def State.claimable (s : State) (x c : Nat) : Bool :=
  (s.ctx x).has c && !s.isFw c && (s.slot c 0).life == .free &&
    (s.core c).slots.toList.all (fun t => !t.gang && !t.frozen)
/-- Slot 0 of a follower as the gang forms, after the cycle of the leader's `GANG` word (R182, R308). -/
def Slot.followerOf (t : Slot) (lead : Nat × Nat) (pc : Word) (gk lane : Nat) : Slot :=
  { ({} : Slot) with
    g := t.g, v := t.v, m := t.m, ev := t.ev, avt := t.avt, rm := t.rm, nfs := t.nfs, nfq := t.nfq, tie := t.tie
    tsinh := t.tsinh, taskid := t.taskid, prio := t.prio, limit := t.limit, left := BitVec.ofNat 24 (t.left.toNat - 1)
    ctx := t.ctx, handler := t.handler, pc := pc, life := .running, gang := true
    gk := BitVec.ofNat 2 gk, lane := BitVec.ofNat 3 lane, leader := some lead, issued := t.issued + 1 }

/-- `GANG` (R308). -/
def execGang (k : BitVec 2) (d : BitVec 5) (s : State) : Host.Outcome State Fault Refusal :=
  runM (do
    let s ← get
    let c := s.myCore
    if s.mySlot = 4 ∨ s.paired ∨ s.me.gang then illegal
    else if !s.me.loads.isEmpty then waitFor .load
    else
      let n := 2 ^ k.toNat
      let others := groupOf c n
      if !others.all (s.claimable s.me.ctx.toNat) then retG d 0
      else
        let s := s.wg d (BitVec.ofNat 64 n)
        let lead := s.me
        let s := others.foldl (fun s o => (s.modCore o (fun k => k.activate lead.ctx.toNat)).setSlot o 0
          ((lead.followerOf (c, s.mySlot) s.nextPc k.toNat ((posOf o + n - posOf c % n) % n)).over (s.slot o 0))) s
        set (s.modMe (fun t => { t with gang := true, gk := k, lane := 0 }))
        done) s

/-- `SPLIT` (R312): a follower goes on as a task of its own. -/
def execSplit (s : State) : Host.Outcome State Fault Refusal :=
  if s.follower then
    let (id, s) := s.nextTaskId s.myCore
    .next ((s.advance).modMe (fun t => { t with taskid := id, gang := false, gk := 0, lane := 0, leader := none,
                                                join := 0, pins := [] }))
  else .next ((s.modMe (fun t => { t with gang := false, gk := 0, lane := 0 })).advance)

/-- `PAIRCHK` (R318): the register's bits on both cores of a pair are compared. -/
def execPairchk (n : BitVec 2) (a : BitVec 5) (s : State) : Host.Outcome State Fault Refusal :=
  if !s.paired ∨ (n ≠ 1 ∧ a = 0) then .next s.advance
  else runM (do
    let s ← get
    let _ ← outbound 0 (match n.toNat with
      | 0 => [s.rg a]
      | 1 => (List.range 8).map (fun i => BitVec.ofNat 64 (laneW 64 (s.rv a) i))
      | _ => [s.rmask a.toNat])
    done) s

end Sys2Proof.Machine
end

