-- ==== Sys2Proof/Machine/Scalar.lean ====
section
/-! DEFINITION. Scalar integer, immediate, multiply, divide and floating-point instructions (05_scalar_instructions.md). -/

namespace Sys2Proof.Machine


abbrev Out := Host.Outcome State Fault Refusal

/-- Write gd, advance. -/
def aluG (d : BitVec 5) (x : Word) (s : State) : Out := .next ((s.wg d x).advance)
/-- An operation on integers of type `t` (R81). -/
def intOp (t : BitVec 5) (f : Int → Int → Int) (x y : Word) : Word :=
  writeInt (f (readInt x.toNat t.toNat) (readInt y.toNat t.toNat)) t.toNat
/-- An operation on the patterns of `w` bits (R84). -/
def patOp (t : BitVec 5) (f : Nat → Nat → Nat → Int) (x y : Word) : Word :=
  let w := typeBits t.toNat
  writeInt (f w (x.toNat % 2 ^ w) (y.toNat % 2 ^ w)) t.toNat
/-- Write a floating-point result to gd, zero-extended, with its flags (R61, R92). -/
def fpG (d : BitVec 5) (r : Nat × Flags) (s : State) : Out := .next (((s.wg d (BitVec.ofNat 64 r.1)).orFlags r.2).advance)
/-- A scalar operand of type `t`: the low `w` bits (R92). -/
def State.fa (s : State) (t r : BitVec 5) : Nat := (s.rg r).toNat % 2 ^ typeBits t.toNat

/-- `ADD` (Table 5.2). -/
def execAdd (t b a d : BitVec 5) (s : State) : Out :=
  aluG d (intOp t (fun x y => x + y) (s.rg a) (s.rg b)) s

/-- `SUB` (Table 5.2). -/
def execSub (t b a d : BitVec 5) (s : State) : Out :=
  aluG d (intOp t (fun x y => x - y) (s.rg a) (s.rg b)) s

/-- `SLT` (Table 5.2). -/
def execSlt (t b a d : BitVec 5) (s : State) : Out :=
  aluG d (intOp t (fun x y => if x < y then 1 else 0) (s.rg a) (s.rg b)) s

/-- `MIN` (Table 5.2). -/
def execMin (t b a d : BitVec 5) (s : State) : Out :=
  aluG d (intOp t (fun x y => min x y) (s.rg a) (s.rg b)) s

/-- `MAX` (Table 5.2). -/
def execMax (t b a d : BitVec 5) (s : State) : Out :=
  aluG d (intOp t (fun x y => max x y) (s.rg a) (s.rg b)) s

/-- `ADDS` (Table 5.2). -/
def execAdds (t b a d : BitVec 5) (s : State) : Out :=
  aluG d (intOp t (fun x y => saturate (x + y) t.toNat) (s.rg a) (s.rg b)) s

/-- `SUBS` (Table 5.2). -/
def execSubs (t b a d : BitVec 5) (s : State) : Out :=
  aluG d (intOp t (fun x y => saturate (x - y) t.toNat) (s.rg a) (s.rg b)) s

/-- `AND` (Table 5.2). -/
def execAnd (t b a d : BitVec 5) (s : State) : Out :=
  aluG d (patOp t (fun _ x y => (x &&& y : Nat)) (s.rg a) (s.rg b)) s

/-- `OR` (Table 5.2). -/
def execOr (t b a d : BitVec 5) (s : State) : Out :=
  aluG d (patOp t (fun _ x y => (x ||| y : Nat)) (s.rg a) (s.rg b)) s

/-- `XOR` (Table 5.2). -/
def execXor (t b a d : BitVec 5) (s : State) : Out :=
  aluG d (patOp t (fun _ x y => (x ^^^ y : Nat)) (s.rg a) (s.rg b)) s

/-- `SLL` (Table 5.2). -/
def execSll (t b a d : BitVec 5) (s : State) : Out :=
  aluG d (patOp t (fun w x y => (x * 2 ^ (y % w) : Nat)) (s.rg a) (s.rg b)) s

/-- `SRL` (Table 5.2). -/
def execSrl (t b a d : BitVec 5) (s : State) : Out :=
  aluG d (patOp t (fun w x y => (x / 2 ^ (y % w) : Nat)) (s.rg a) (s.rg b)) s

/-- `SRA` (Table 5.2). -/
def execSra (t b a d : BitVec 5) (s : State) : Out :=
  aluG d (patOp t (fun w x y => sval w x / 2 ^ (y % w)) (s.rg a) (s.rg b)) s

/-- `CLZ` (Table 5.2). -/
def execClz (t a d : BitVec 5) (s : State) : Out :=
  aluG d (patOp t (fun w x _ => (clz w x : Nat)) (s.rg a) 0) s

/-- `CTZ` (Table 5.2). -/
def execCtz (t a d : BitVec 5) (s : State) : Out :=
  aluG d (patOp t (fun w x _ => (ctz w x : Nat)) (s.rg a) 0) s

/-- `POPC` (Table 5.2). -/
def execPopc (t a d : BitVec 5) (s : State) : Out :=
  aluG d (patOp t (fun w x _ => (popcount w x : Nat)) (s.rg a) 0) s

/-- `ADDI` (R85). -/
def execAddi (i : BitVec 14) (a d : BitVec 5) (s : State) : Out :=
  aluG d (s.rg a + i.signExtend 64) s

/-- `ANDI` (R85). -/
def execAndi (i : BitVec 14) (a d : BitVec 5) (s : State) : Out :=
  aluG d (s.rg a &&& i.signExtend 64) s

/-- `ORI` (R85). -/
def execOri (i : BitVec 14) (a d : BitVec 5) (s : State) : Out :=
  aluG d (s.rg a ||| i.signExtend 64) s

/-- `XORI` (R85). -/
def execXori (i : BitVec 14) (a d : BitVec 5) (s : State) : Out :=
  aluG d (s.rg a ^^^ i.signExtend 64) s

/-- `SLTI` (R86). -/
def execSlti (i : BitVec 13) (a d : BitVec 5) (s : State) : Out :=
  aluG d (if (s.rg a).slt (i.signExtend 64) then 1 else 0) s

/-- `SLTIZ` (R86). -/
def execSltiz (i : BitVec 13) (a d : BitVec 5) (s : State) : Out :=
  aluG d (if (s.rg a).ult (i.signExtend 64) then 1 else 0) s

/-- `SLLI` (R87). -/
def execSlli (n : BitVec 6) (a d : BitVec 5) (s : State) : Out :=
  aluG d (s.rg a <<< n.toNat) s

/-- `SRLI` (R87). -/
def execSrli (n : BitVec 6) (a d : BitVec 5) (s : State) : Out :=
  aluG d (s.rg a >>> n.toNat) s

/-- `SRAI` (R87). -/
def execSrai (n : BitVec 6) (a d : BitVec 5) (s : State) : Out :=
  aluG d ((s.rg a).sshiftRight n.toNat) s

/-- `RORI` (R87). -/
def execRori (n : BitVec 6) (a d : BitVec 5) (s : State) : Out :=
  aluG d ((s.rg a).rotateRight n.toNat) s

/-- `LUI` (R88). -/
def execLui (i : BitVec 14) (a d : BitVec 5) (s : State) : Out :=
  aluG d (BitVec.ofNat 64 ((s.rg a).toNat * 2 ^ 14 + i.toNat)) s

/-- `ADDPC` (R89). -/
def execAddpc (i : BitVec 14) (d : BitVec 5) (s : State) : Out :=
  aluG d (s.wordPc + i.signExtend 64 * 4) s

/-- `EXT` (R90). -/
def execExt (x : BitVec 1) (l p : BitVec 6) (a d : BitVec 5) (s : State) : Out :=
  let len := l.toNat + 1
  let f := bits (s.rg a).toNat p.toNat len
  aluG d (if x = 1 then sext len f else BitVec.ofNat 64 f) s

/-- `INS` (R90): gd is a source too. -/
def execIns (l p : BitVec 6) (a d : BitVec 5) (s : State) : Out :=
  let len := l.toNat + 1
  let old := (s.rg d).toNat
  aluG d (BitVec.ofNat 64 (old - bits old p.toNat len * 2 ^ p.toNat + (s.rg a).toNat % 2 ^ len * 2 ^ p.toNat)) s

/-- `MUL` (Table 5.3). -/
def execMul (t b a d : BitVec 5) (s : State) : Out :=
  aluG d (intOp t (fun x y => x * y) (s.rg a) (s.rg b)) s

/-- `MULH` (Table 5.3). -/
def execMulh (t b a d : BitVec 5) (s : State) : Out :=
  aluG d (intOp t (fun x y => x * y / 2 ^ typeBits t.toNat) (s.rg a) (s.rg b)) s

/-- `DIV` (Table 5.3). -/
def execDiv (t b a d : BitVec 5) (s : State) : Out :=
  aluG d (intOp t (fun x y => divInt x y) (s.rg a) (s.rg b)) s

/-- `REM` (Table 5.3). -/
def execRem (t b a d : BitVec 5) (s : State) : Out :=
  aluG d (intOp t (fun x y => remInt x y) (s.rg a) (s.rg b)) s

/-- `MULS` (Table 5.3). -/
def execMuls (t b a d : BitVec 5) (s : State) : Out :=
  aluG d (intOp t (fun x y => saturate (x * y) t.toNat) (s.rg a) (s.rg b)) s

/-- `FADD` (Table 5.4). -/
def execFadd (t b a d : BitVec 5) (s : State) : Out :=
  fpG d (fpAdd (fmtOf t.toNat) s.rmode (s.fa t a) (s.fa t b)) s

/-- `FSUB` (Table 5.4). -/
def execFsub (t b a d : BitVec 5) (s : State) : Out :=
  fpG d (fpSub (fmtOf t.toNat) s.rmode (s.fa t a) (s.fa t b)) s

/-- `FMUL` (Table 5.4). -/
def execFmul (t b a d : BitVec 5) (s : State) : Out :=
  fpG d (fpMul (fmtOf t.toNat) s.rmode (s.fa t a) (s.fa t b)) s

/-- `FDIV` (Table 5.4). -/
def execFdiv (t b a d : BitVec 5) (s : State) : Out :=
  fpG d (fpDiv (fmtOf t.toNat) s.rmode (s.fa t a) (s.fa t b)) s

/-- `FMIN` (Table 5.4). -/
def execFmin (t b a d : BitVec 5) (s : State) : Out :=
  fpG d (fpMinMax (fmtOf t.toNat) false (s.fa t a) (s.fa t b)) s

/-- `FMAX` (Table 5.4). -/
def execFmax (t b a d : BitVec 5) (s : State) : Out :=
  fpG d (fpMinMax (fmtOf t.toNat) true (s.fa t a) (s.fa t b)) s

/-- `FSGNJ` (Table 5.4). -/
def execFsgnj (t b a d : BitVec 5) (s : State) : Out :=
  fpG d (fpSign (fmtOf t.toNat) 0 (s.fa t a) (s.fa t b), 0) s

/-- `FSGNJN` (Table 5.4). -/
def execFsgnjn (t b a d : BitVec 5) (s : State) : Out :=
  fpG d (fpSign (fmtOf t.toNat) 1 (s.fa t a) (s.fa t b), 0) s

/-- `FSGNJX` (Table 5.4). -/
def execFsgnjx (t b a d : BitVec 5) (s : State) : Out :=
  fpG d (fpSign (fmtOf t.toNat) 2 (s.fa t a) (s.fa t b), 0) s

/-- `FSQRT` (Table 5.4). -/
def execFsqrt (t a d : BitVec 5) (s : State) : Out :=
  fpG d (fpSqrt (fmtOf t.toNat) s.rmode (s.fa t a)) s

/-- `FEQ` (Table 5.4). -/
def execFeq (t b a d : BitVec 5) (s : State) : Out :=
  let r := fpEq (fmtOf t.toNat) (s.fa t a) (s.fa t b)
  fpG d (if r.1 then 1 else 0, r.2) s

/-- `FLT` (Table 5.4). -/
def execFlt (t b a d : BitVec 5) (s : State) : Out :=
  let r := fpLess (fmtOf t.toNat) false (s.fa t a) (s.fa t b)
  fpG d (if r.1 then 1 else 0, r.2) s

/-- `FLE` (Table 5.4). -/
def execFle (t b a d : BitVec 5) (s : State) : Out :=
  let r := fpLess (fmtOf t.toNat) true (s.fa t a) (s.fa t b)
  fpG d (if r.1 then 1 else 0, r.2) s

/-- `FCVT` (R93, R57, R58). -/
def execFcvt (src dst a d : BitVec 5) (s : State) : Out :=
  let st := src.toNat
  let dt := dst.toNat
  let x := (s.rg a).toNat % 2 ^ typeBits st
  if dt < 8 then
    let r := toIntRange s.rmode (lowest dt) (highest dt) (Fp.read (fmtOf st) x)
    .next (((s.wg d (writeInt r.1 dt)).orFlags r.2).advance)
  else if st < 8 then fpG d (convert (fmtOf dt) s.rmode false (Fp.ofInt (readInt x st))) s
  else fpG d (convert (fmtOf dt) s.rmode false (Fp.read (fmtOf st) x)) s

/-- `FCLASS` (R94). -/
def execFclass (t a d : BitVec 5) (s : State) : Out :=
  aluG d (BitVec.ofNat 64 (fpClass (fmtOf t.toNat) (s.fa t a))) s

/-- `FMA` (R95): one rounding in the type of `FCTL.AVT`. -/
def execFma (c b a d : BitVec 5) (s : State) : Out :=
  let t := s.avType
  let v (r : BitVec 5) := (s.rg r).toNat % 2 ^ typeBits t
  fpG d (fpFma (fmtOf t) s.rmode false (v a) (v b) (v c)) s

/-- `FNMA` (R95): one rounding in the type of `FCTL.AVT`. -/
def execFnma (c b a d : BitVec 5) (s : State) : Out :=
  let t := s.avType
  let v (r : BitVec 5) := (s.rg r).toNat % 2 ^ typeBits t
  fpG d (fpFma (fmtOf t) s.rmode true (v a) (v b) (v c)) s

end Sys2Proof.Machine
end

