-- ==== Sys2Proof/Machine/Vector.lean ====
section
/-! DEFINITION. Vector and mask register instructions and `CBX` (06_vector_instructions.md). -/

namespace Sys2Proof.Machine


/-- Write vd and complete. -/
def retV (d : BitVec 5) (x : Vec) : M Unit := fun s => .ok ((), (s.wv d x).advance)
/-- Write vd and flags and complete. -/
def retVF (d : BitVec 5) (r : Vec × Flags) : M Unit := fun s => .ok ((), ((s.wv d r.1).orFlags r.2).advance)
/-- Write md and complete. -/
def retM (d : BitVec 5) (x : Word) : M Unit := fun s => .ok ((), (s.wmask d.toNat x).advance)
/-- Operands a and b of type `t`, expanded under a pending prefix. -/
def ops2 (t : Nat) (a b : BitVec 5) : M (Vec × Vec) := fun s => expandOps (some t) (some t) (s.rv a) (s.rv b) s
/-- Operand a of type `t`, expanded under a pending prefix. -/
def ops1 (t : Nat) (a : BitVec 5) : M Vec := fun s => (do
  let p ← expandOps (some t) none (s.rv a) 0
  pure p.1 : M Vec) s
/-- Lane by lane on integers (R118). -/
def vint (t b a d : BitVec 5) (f : Int → Int → Int) : M Unit := do
  let (x, y) ← ops2 t.toNat a b
  retV d (vecOf t.toNat (fun i =>
    wrapInt (f (readInt (lane t.toNat x i) t.toNat) (readInt (lane t.toNat y i) t.toNat)) (typeBits t.toNat)))
/-- Lane by lane on floating-point values, with the rounding mode in force (R119). -/
def vfp (t b a d : BitVec 5) (f : Fmt → Nat → Nat → Nat → Nat × Flags) : M Unit := do
  let (x, y) ← ops2 t.toNat a b
  let s ← get
  retVF d (vecFlags t.toNat (fun i => f (fmtOf t.toNat) s.rmode (lane t.toNat x i) (lane t.toNat y i)))
/-- Lane by lane on patterns, with the lane width (R121). -/
def vpat (t b a d : BitVec 5) (f : Nat → Nat → Nat → Nat) : M Unit := do
  let (x, y) ← ops2 t.toNat a b
  retV d (vecOf t.toNat (fun i => f (typeBits t.toNat) (lane t.toNat x i) (lane t.toNat y i)))
/-- A compare into md, by integers or by floating-point values (R122). -/
def vcmp (t b a d : BitVec 5) (fi : Int → Int → Bool) (ff : Fmt → Nat → Nat → Bool × Flags) : M Unit := do
  let (x, y) ← ops2 t.toNat a b
  let n := t.toNat
  let r (i : Nat) : Bool × Flags :=
    if n < 8 then (fi (readInt (lane n x i) n) (readInt (lane n y i) n), 0) else ff (fmtOf n) (lane n x i) (lane n y i)
  let l := (List.range (lanes n)).map r
  fun s => .ok ((), ((s.wmask d.toNat (maskOf (lanes n) (fun i => (r i).1))).orFlags
    (l.foldl (fun a p => a ||| p.2) 0)).advance)
/-- The lanes of a governing mask as optional values (R64, R115). -/
def maskedLanes (t : Nat) (x : Vec) (m : Word) : List (Option Nat) :=
  (List.range (lanes t)).map (fun i => if active m i then some (lane t x i) else none)
/-- A binary operation of a reduction or scan: 0 sum, 1 minimum, 2 maximum, on lanes of type `t` with flags. -/
def redOp (k t rm : Nat) (a b : Nat × Flags) : Nat × Flags :=
  if t < 8 then
    let x := readInt a.1 t
    let y := readInt b.1 t
    (wrapInt (if k = 0 then x + y else if k = 1 then min x y else max x y) (typeBits t), 0)
  else
    let r := if k = 0 then fpAdd (fmtOf t) rm a.1 b.1 else fpMinMax (fmtOf t) (k = 2) a.1 b.1
    (r.1, a.2 ||| b.2 ||| r.2)
/-- The identity (R126). -/
def redId (k t : Nat) : Nat :=
  if t < 8 then (if k = 0 then 0 else if k = 1 then wrapInt (highest t) (typeBits t) else wrapInt (lowest t) (typeBits t))
  else if k = 0 then 0 else if k = 1 then (fmtOf t).infPat else (fmtOf t).signBit + (fmtOf t).infPat
/-- A reduction into lane 0 (R64, R126). The final rounding of the root leaves a value of type `t` as it is; a
signalling NaN that reaches the root alone is rounded to the produced NaN and sets `NV` in a sum (R55, R61, log 11). -/
def vred (k : Nat) (t b a d : BitVec 5) : M Unit := do
  let x ← ops1 t.toNat a
  let s ← get
  let n := t.toNat
  let l := (maskedLanes n x (s.rmask b.toNat)).map (fun o => o.map (fun v => (v, (0 : Flags))))
  match treeReduce (redOp k n s.rmode) (Nat.log2 (lanes n)) l with
  | none => retVF d (BitVec.ofNat 512 (redId k n), 0)
  | some (v, fl) =>
    let r : Nat × Flags := if n < 8 then (v, 0) else
      let z := Fp.read (fmtOf n) v
      if z.isNan then ((fmtOf n).nanPat, snan z) else (v, 0)
    retVF d (BitVec.ofNat 512 r.1, fl ||| r.2)
/-- A scan (R65, R126). -/
def vscanK (k : Nat) (t b a d : BitVec 5) : M Unit := do
  let x ← ops1 t.toNat a
  let s ← get
  let n := t.toNat
  let m := s.rmask b.toNat
  let l := (List.range (lanes n)).map (fun i => ((lane n x i, (0 : Flags)), active m i))
  let r := scanLanes (redOp k n s.rmode) (redId k n, 0) none l
  retVF d (ofLanes (typeBits n) (r.map (·.1)), r.foldl (fun a p => a ||| p.2) 0)

/-- `VADD` (Table 6.2). -/
def execVadd (t b a d : BitVec 5) (s : State) : Out :=
  runM (vint t b a d (fun x y => x + y)) s

/-- `VSUB` (Table 6.2). -/
def execVsub (t b a d : BitVec 5) (s : State) : Out :=
  runM (vint t b a d (fun x y => x - y)) s

/-- `VMUL` (Table 6.2). -/
def execVmul (t b a d : BitVec 5) (s : State) : Out :=
  runM (vint t b a d (fun x y => x * y)) s

/-- `VMULH` (Table 6.2). -/
def execVmulh (t b a d : BitVec 5) (s : State) : Out :=
  runM (vint t b a d (fun x y => x * y / 2 ^ typeBits t.toNat)) s

/-- `VMIN` (Table 6.2). -/
def execVmin (t b a d : BitVec 5) (s : State) : Out :=
  runM (vint t b a d (fun x y => min x y)) s

/-- `VMAX` (Table 6.2). -/
def execVmax (t b a d : BitVec 5) (s : State) : Out :=
  runM (vint t b a d (fun x y => max x y)) s

/-- `VADDS` (Table 6.2). -/
def execVadds (t b a d : BitVec 5) (s : State) : Out :=
  runM (vint t b a d (fun x y => saturate (x + y) t.toNat)) s

/-- `VSUBS` (Table 6.2). -/
def execVsubs (t b a d : BitVec 5) (s : State) : Out :=
  runM (vint t b a d (fun x y => saturate (x - y) t.toNat)) s

/-- `VMULS` (Table 6.2). -/
def execVmuls (t b a d : BitVec 5) (s : State) : Out :=
  runM (vint t b a d (fun x y => saturate (x * y) t.toNat)) s

/-- `VABSD` (Table 6.2). -/
def execVabsd (t b a d : BitVec 5) (s : State) : Out :=
  runM (vint t b a d (fun x y => ((x - y).natAbs : Int))) s

/-- `VAVG` (Table 6.2). -/
def execVavg (t b a d : BitVec 5) (s : State) : Out :=
  runM (vint t b a d (fun x y => (x + y + 1) / 2)) s

/-- `VABS` (Table 6.2). -/
def execVabs (t a d : BitVec 5) (s : State) : Out :=
  runM (do
    let x ← ops1 t.toNat a
    retV d (vecOf t.toNat (fun i => wrapInt (readInt (lane t.toNat x i) t.toNat).natAbs (typeBits t.toNat)))) s

/-- `VFADD` (Table 6.3). -/
def execVfadd (t b a d : BitVec 5) (s : State) : Out :=
  runM (vfp t b a d (fun f rm x y => fpAdd f rm x y)) s

/-- `VFSUB` (Table 6.3). -/
def execVfsub (t b a d : BitVec 5) (s : State) : Out :=
  runM (vfp t b a d (fun f rm x y => fpSub f rm x y)) s

/-- `VFMUL` (Table 6.3). -/
def execVfmul (t b a d : BitVec 5) (s : State) : Out :=
  runM (vfp t b a d (fun f rm x y => fpMul f rm x y)) s

/-- `VFDIV` (Table 6.3). -/
def execVfdiv (t b a d : BitVec 5) (s : State) : Out :=
  runM (vfp t b a d (fun f rm x y => fpDiv f rm x y)) s

/-- `VFMIN` (Table 6.3). -/
def execVfmin (t b a d : BitVec 5) (s : State) : Out :=
  runM (vfp t b a d (fun f _ x y => fpMinMax f false x y)) s

/-- `VFMAX` (Table 6.3). -/
def execVfmax (t b a d : BitVec 5) (s : State) : Out :=
  runM (vfp t b a d (fun f _ x y => fpMinMax f true x y)) s

/-- `VFSGNJ` (Table 6.3). -/
def execVfsgnj (t b a d : BitVec 5) (s : State) : Out :=
  runM (vfp t b a d (fun f _ x y => (fpSign f 0 x y, 0))) s

/-- `VFSGNJN` (Table 6.3). -/
def execVfsgnjn (t b a d : BitVec 5) (s : State) : Out :=
  runM (vfp t b a d (fun f _ x y => (fpSign f 1 x y, 0))) s

/-- `VFSGNJX` (Table 6.3). -/
def execVfsgnjx (t b a d : BitVec 5) (s : State) : Out :=
  runM (vfp t b a d (fun f _ x y => (fpSign f 2 x y, 0))) s

/-- `VFSQRT` (Table 6.3). -/
def execVfsqrt (t a d : BitVec 5) (s : State) : Out :=
  runM (do
    let x ← ops1 t.toNat a
    let s ← get
    retVF d (vecFlags t.toNat (fun i => fpSqrt (fmtOf t.toNat) s.rmode (lane t.toNat x i)))) s

/-- `VFMA` (R120). -/
def execVfma (m : BitVec 3) (c b a d : BitVec 5) (s : State) : Out :=
  runM (do
    let s ← get
    let t := s.avType
    let (x, y) ← ops2 t a b
    let z := s.rv c
    let old := s.rv d
    retVF d (vecFlags t (fun i =>
      if active (s.rmask m.toNat) i then fpFma (fmtOf t) s.rmode false (lane t x i) (lane t y i) (lane t z i)
      else (lane t old i, 0)))) s

/-- `VFNMA` (R120). -/
def execVfnma (m : BitVec 3) (c b a d : BitVec 5) (s : State) : Out :=
  runM (do
    let s ← get
    let t := s.avType
    let (x, y) ← ops2 t a b
    let z := s.rv c
    let old := s.rv d
    retVF d (vecFlags t (fun i =>
      if active (s.rmask m.toNat) i then fpFma (fmtOf t) s.rmode true (lane t x i) (lane t y i) (lane t z i)
      else (lane t old i, 0)))) s

/-- `VAND` (Table 6.4). -/
def execVand (t b a d : BitVec 5) (s : State) : Out :=
  runM (vpat t b a d (fun _ x y => x &&& y)) s

/-- `VOR` (Table 6.4). -/
def execVor (t b a d : BitVec 5) (s : State) : Out :=
  runM (vpat t b a d (fun _ x y => x ||| y)) s

/-- `VXOR` (Table 6.4). -/
def execVxor (t b a d : BitVec 5) (s : State) : Out :=
  runM (vpat t b a d (fun _ x y => x ^^^ y)) s

/-- `VANDN` (Table 6.4). -/
def execVandn (t b a d : BitVec 5) (s : State) : Out :=
  runM (vpat t b a d (fun w x y => x &&& (2 ^ w - 1 - y))) s

/-- `VSLL` (Table 6.4). -/
def execVsll (t b a d : BitVec 5) (s : State) : Out :=
  runM (vpat t b a d (fun w x y => x * 2 ^ (y % w))) s

/-- `VSRL` (Table 6.4). -/
def execVsrl (t b a d : BitVec 5) (s : State) : Out :=
  runM (vpat t b a d (fun w x y => x / 2 ^ (y % w))) s

/-- `VSRA` (Table 6.4). -/
def execVsra (t b a d : BitVec 5) (s : State) : Out :=
  runM (vpat t b a d (fun w x y => wrapInt (sval w x / 2 ^ (y % w)) w)) s

/-- `VROR` (Table 6.4). -/
def execVror (t b a d : BitVec 5) (s : State) : Out :=
  runM (vpat t b a d (fun w x y => x / 2 ^ (y % w) + x * 2 ^ (w - y % w))) s

/-- `VCEQ` (Table 6.5). -/
def execVceq (t b a d : BitVec 5) (s : State) : Out :=
  runM (vcmp t b a d (fun x y => decide (x = y)) (fun f x y => fpEq f x y)) s

/-- `VCNE` (Table 6.5). -/
def execVcne (t b a d : BitVec 5) (s : State) : Out :=
  runM (vcmp t b a d (fun x y => decide (x ≠ y)) (fun f x y => let r := fpEq f x y; (!r.1, r.2))) s

/-- `VCLT` (Table 6.5). -/
def execVclt (t b a d : BitVec 5) (s : State) : Out :=
  runM (vcmp t b a d (fun x y => decide (x < y)) (fun f x y => fpLess f false x y)) s

/-- `VCLE` (Table 6.5). -/
def execVcle (t b a d : BitVec 5) (s : State) : Out :=
  runM (vcmp t b a d (fun x y => decide (x ≤ y)) (fun f x y => fpLess f true x y)) s

/-- `VCTST` (Table 6.5). -/
def execVctst (t b a d : BitVec 5) (s : State) : Out :=
  runM (do
    let (x, y) ← ops2 t.toNat a b
    retM d (maskOf (lanes t.toNat) (fun i => (lane t.toNat x i &&& lane t.toNat y i) != 0))) s

/-- `VSEL` (R122): its mask chooses a source. -/
def execVsel (m : BitVec 3) (t b a d : BitVec 5) (s : State) : Out :=
  runM (do
    let (x, y) ← ops2 t.toNat a b
    let s ← get
    retV d (vecOf t.toNat (fun i => if active (s.rmask m.toNat) i then lane t.toNat x i else lane t.toNat y i))) s

/-- `VCVT` (R123, R57, R58, R50). -/
def execVcvt (x : BitVec 1) (p : BitVec 3) (src dst a d : BitVec 5) (s : State) : Out :=
  runM (do
    let st := src.toNat
    let dt := dst.toNat
    let va ← ops1 st a
    let s ← get
    let ns := lanes st
    let nd := lanes dt
    let c := min ns nd
    let sat := x == 1
    let scl := match s.pfx with
      | some q => q.scl
      | none => 0
    let sv : Vec := s.rv (BitVec.ofNat 5 (24 + scl))
    let one (i : Nat) : Nat × Flags :=
      let si := if ns > nd then p.toNat * c + i else i
      let di := if nd > ns then p.toNat * c + i else i
      let mx := decide (8 ≤ st ∧ st ≤ 12)
      let sb := laneW 8 sv ((if mx then si else di) / 32)
      if st < 8 ∧ dt < 8 then
        let v := readInt (lane st va si) st
        (wrapInt (if sat && decide (typeBits dt < typeBits st) then saturate v dt else v) (typeBits dt), 0)
      else
        let v := if st < 8 then Fp.ofInt (readInt (lane st va si) st) else Fp.read (fmtOf st) (lane st va si)
        let v := if scl = 0 then v
          else if sb = 0xFF then Fp.nan v.neg? v.isSignalling
          else v.scale (if mx then (sb : Int) - 127 else 127 - (sb : Int))
        if dt < 8 then
          let r := toIntRange s.rmode (lowest dt) (highest dt) v
          (wrapInt r.1 (typeBits dt), r.2)
        else convert (fmtOf dt) s.rmode sat v
    let old := s.rv d
    let base := if nd > ns then p.toNat * c else 0
    retVF d (vecFlags dt (fun j => if base ≤ j ∧ j < base + c then one (j - base) else (lane dt old j, 0)))) s

/-- `VMXSC` (R124). -/
def execVmxsc (j : BitVec 2) (src e a d : BitVec 5) (s : State) : Out :=
  runM (do
    let st := src.toNat
    let x ← ops1 st a
    let s ← get
    let f := fmtOf st
    let l := (List.range (lanes st)).map (fun i => lane st x i % f.signBit)
    let emax : Int := match e.toNat with
      | 12 => 15
      | 11 => 8
      | 10 => 4
      | _ => 2
    let amax := l.foldl max 0
    let sc : Nat :=
      if l.any (fun p => (Fp.read f p).isNan) then 0xFF
      else if amax = 0 then 0
      else match Fp.read f amax with
        | .fin _ m k => (min (max ((Nat.log2 m : Int) + k - emax + 127) 0) 254).toNat
        | _ => 0xFE
    let old := s.rv d
    retV d (setLane 8 old j.toNat (max (laneW 8 old j.toNat) sc))) s

/-- A permute: each lane of vd from its number, with operands a and b (R125). -/
def vperm2 (t b a d : BitVec 5) (f : (Nat → Nat) → (Nat → Nat) → Nat → Nat → Nat) : M Unit := do
  let x ← ops1 t.toNat a
  let s ← get
  retV d (vecOf t.toNat (f (lane t.toNat x) (lane t.toNat (s.rv b)) (lanes t.toNat)))

/-- A permute of operand a by the value of gb (R125). -/
def vpermG (t b a d : BitVec 5) (f : (Nat → Nat) → Nat → Nat → Nat → Nat) : M Unit := do
  let x ← ops1 t.toNat a
  let s ← get
  retV d (vecOf t.toNat (f (lane t.toNat x) (s.rg b).toNat (lanes t.toNat)))

/-- `VPERM` (Table 6.6). -/
def execVperm (t b a d : BitVec 5) (s : State) : Out :=
  runM (vperm2 t b a d (fun x y n i => x (y i % n))) s

/-- `VZIPL` (Table 6.6). -/
def execVzipl (t b a d : BitVec 5) (s : State) : Out :=
  runM (vperm2 t b a d (fun x y _ i => if i % 2 = 0 then x (i / 2) else y (i / 2))) s

/-- `VZIPH` (Table 6.6). -/
def execVziph (t b a d : BitVec 5) (s : State) : Out :=
  runM (vperm2 t b a d (fun x y n i => if i % 2 = 0 then x (i / 2 + n / 2) else y (i / 2 + n / 2))) s

/-- `VUZPE` (Table 6.6). -/
def execVuzpe (t b a d : BitVec 5) (s : State) : Out :=
  runM (vperm2 t b a d (fun x y n i => if 2 * i < n then x (2 * i) else y (2 * i - n))) s

/-- `VUZPO` (Table 6.6). -/
def execVuzpo (t b a d : BitVec 5) (s : State) : Out :=
  runM (vperm2 t b a d (fun x y n i => if 2 * i + 1 < n then x (2 * i + 1) else y (2 * i + 1 - n))) s

/-- `VSLIDEUP` (Table 6.6). -/
def execVslideup (t b a d : BitVec 5) (s : State) : Out :=
  runM (vpermG t b a d (fun x k _ i => if i ≥ k then x (i - k) else 0)) s

/-- `VSLIDEDN` (Table 6.6). -/
def execVslidedn (t b a d : BitVec 5) (s : State) : Out :=
  runM (vpermG t b a d (fun x k n i => if i + k < n then x (i + k) else 0)) s

/-- `VBCASTL` (Table 6.6). -/
def execVbcastl (t b a d : BitVec 5) (s : State) : Out :=
  runM (vpermG t b a d (fun x k n _ => x (k % n))) s

/-- `VBCAST` (Table 6.6). -/
def execVbcast (t b d : BitVec 5) (s : State) : Out :=
  runM (retV d (vecOf t.toNat (fun _ => (s.rg b).toNat))) s

/-- `VEXT` (Table 6.6). -/
def execVext (t b a d : BitVec 5) (s : State) : Out :=
  runM (do
    let x ← ops1 t.toNat a
    let s ← get
    let v := lane t.toNat x ((s.rg b).toNat % lanes t.toNat)
    retG d (if t.toNat < 8 then writeInt v t.toNat else BitVec.ofNat 64 v)) s

/-- `VINS` (Table 6.6): vd is a source too. -/
def execVins (t b a d : BitVec 5) (s : State) : Out :=
  runM (retV d (setLane (typeBits t.toNat) (s.rv d) ((s.rg b).toNat % lanes t.toNat) (s.rg a).toNat)) s

/-- `VREDSUM` (Table 6.7). -/
def execVredsum (t b a d : BitVec 5) (s : State) : Out :=
  runM (vred 0 t b a d) s

/-- `VREDMIN` (Table 6.7). -/
def execVredmin (t b a d : BitVec 5) (s : State) : Out :=
  runM (vred 1 t b a d) s

/-- `VREDMAX` (Table 6.7). -/
def execVredmax (t b a d : BitVec 5) (s : State) : Out :=
  runM (vred 2 t b a d) s

/-- `VSCAN` (Table 6.7). -/
def execVscan (t b a d : BitVec 5) (s : State) : Out :=
  runM (vscanK 0 t b a d) s

/-- `VSCANMIN` (Table 6.7). -/
def execVscanmin (t b a d : BitVec 5) (s : State) : Out :=
  runM (vscanK 1 t b a d) s

/-- `VSCANMAX` (Table 6.7). -/
def execVscanmax (t b a d : BitVec 5) (s : State) : Out :=
  runM (vscanK 2 t b a d) s

/-- `VDOT` (R64, R126): exact products, each node rounded once. -/
def execVdot (t b a d : BitVec 5) (s : State) : Out :=
  runM (do
    let (x, y) ← ops2 t.toNat a b
    let s ← get
    let n := t.toNat
    if n < 8 then
      retV d (BitVec.ofNat 512 (wrapInt (((List.range (lanes n)).map (fun i =>
        readInt (lane n x i) n * readInt (lane n y i) n)).foldl (· + ·) 0) 64))
    else
      let rt := if n = 13 ∨ n = 14 then 15 else n
      let f := fmtOf rt
      let op (p q : Fp × Flags) : Fp × Flags :=
        let r := Fp.addExact s.rmode p.1 q.1
        let z := r.1.toPat f s.rmode
        (Fp.read f z.1, p.2 ||| q.2 ||| r.2 ||| z.2)
      let l := (List.range (lanes n)).map (fun i => some (Fp.mulExact (Fp.read (fmtOf n) (lane n x i)) (Fp.read (fmtOf n) (lane n y i))))
      match treeReduce op (Nat.log2 (lanes n)) l with
      | none => retVF d (0, 0)
      | some (v, fl) =>
        let z := v.toPat f s.rmode
        retVF d (BitVec.ofNat 512 z.1, fl ||| z.2)) s

/-- `MAND` (Table 6.8). -/
def execMand (b a d : BitVec 5) (s : State) : Out :=
  runM (retM d ((fun x y : Word => x &&& y) (s.rmask a.toNat) (s.rmask b.toNat))) s

/-- `MOR` (Table 6.8). -/
def execMor (b a d : BitVec 5) (s : State) : Out :=
  runM (retM d ((fun x y : Word => x ||| y) (s.rmask a.toNat) (s.rmask b.toNat))) s

/-- `MXOR` (Table 6.8). -/
def execMxor (b a d : BitVec 5) (s : State) : Out :=
  runM (retM d ((fun x y : Word => x ^^^ y) (s.rmask a.toNat) (s.rmask b.toNat))) s

/-- `MANDN` (Table 6.8). -/
def execMandn (b a d : BitVec 5) (s : State) : Out :=
  runM (retM d ((fun x y : Word => x &&& ~~~ y) (s.rmask a.toNat) (s.rmask b.toNat))) s

/-- `MNOT` (Table 6.8). -/
def execMnot (a d : BitVec 5) (s : State) : Out :=
  runM (retM d (~~~ s.rmask a.toNat)) s

/-- `MPOPC` (Table 6.8). -/
def execMpopc (a d : BitVec 5) (s : State) : Out :=
  runM (retG d (BitVec.ofNat 64 (popcount 64 (s.rmask a.toNat).toNat))) s

/-- `MFIRST` (Table 6.8): 64 when no bit is set. -/
def execMfirst (a d : BitVec 5) (s : State) : Out :=
  runM (retG d (BitVec.ofNat 64 (ctz 64 (s.rmask a.toNat).toNat))) s

/-- `MFROMG` (Table 6.8). -/
def execMfromg (a d : BitVec 5) (s : State) : Out :=
  runM (retM d (s.rg a)) s

/-- `MTOG` (Table 6.8). -/
def execMtog (a d : BitVec 5) (s : State) : Out :=
  runM (retG d (s.rmask a.toNat)) s

/-- `MLANES` (Table 6.8). -/
def execMlanes (t d : BitVec 5) (s : State) : Out :=
  runM (retM d (maskOf (lanes t.toNat) (fun _ => true))) s

/-- `CBX` (R131). -/
def execCbx (seg : BitVec 4) (k n a d : BitVec 5) (s : State) : Out :=
  runM (do
    let side ← sample n.toNat
    if !segmentOk side (typeBits k.toNat) seg.toNat then illegal
    else
      let x ← expand (s.rv a) (typeBits k.toNat) n.toNat seg.toNat 0 side
      retV d x) s

end Sys2Proof.Machine
end

