-- ==== Sys2Proof/Machine/Dispatch.lean ====
section
/-! DEFINITION. One arm per constructor of `Instr`: a direct call of its meaning. -/

namespace Sys2Proof.Machine

/-- The effect of one instruction or device event on a state (02_instruction_word.md R28 to R30, 00_scope.md R6). -/
def exec (i : Instr) (s : State) : Host.Outcome State Fault Refusal :=
  match i with
  | .nop => Sys2Proof.Machine.execNop s
  | .halt => Sys2Proof.Machine.execHalt s
  | .haltr b a => Sys2Proof.Machine.execHaltr b a s
  | .brk c => Sys2Proof.Machine.execBrk c s
  | .sys sf a d => Sys2Proof.Machine.execSys sf a d s
  | .pfx r sf y x g k b a => Sys2Proof.Machine.execPfx r sf y x g k b a s
  | .br o => Sys2Proof.Machine.execBr o s
  | .brl o => Sys2Proof.Machine.execBrl o s
  | .jr a => Sys2Proof.Machine.execJr a s
  | .jrl a d => Sys2Proof.Machine.execJrl a d s
  | .bcc o c b a => Sys2Proof.Machine.execBcc o c b a s
  | .bmask o c b a => Sys2Proof.Machine.execBmask o c b a s
  | .loop idf c => Sys2Proof.Machine.execLoop idf c s
  | .ld o sf m b d => Sys2Proof.Machine.execLd o sf m b d s
  | .st o sf m b d => Sys2Proof.Machine.execSt o sf m b d s
  | .vld o sf m b d => Sys2Proof.Machine.execVld o sf m b d s
  | .vst o sf m b d => Sys2Proof.Machine.execVst o sf m b d s
  | .vgather g sf m x b a d => Sys2Proof.Machine.execVgather g sf m x b a d s
  | .vscatter g sf m x b a d => Sys2Proof.Machine.execVscatter g sf m x b a d s
  | .pref o m b => Sys2Proof.Machine.execPref o m b s
  | .prefh o b => Sys2Proof.Machine.execPrefh o b s
  | .clean o b => Sys2Proof.Machine.execClean o b s
  | .inv o b => Sys2Proof.Machine.execInv o b s
  | .lda o sf z m b d => Sys2Proof.Machine.execLda o sf z m b d s
  | .strel o sf z m b d => Sys2Proof.Machine.execStrel o sf z m b d s
  | .fence r a sf => Sys2Proof.Machine.execFence r a sf s
  | .amoSwap m w b a d => Sys2Proof.Machine.execAmoSwap m w b a d s
  | .amoCas m w b a d => Sys2Proof.Machine.execAmoCas m w b a d s
  | .amoAdd m w b a d => Sys2Proof.Machine.execAmoAdd m w b a d s
  | .amoAnd m w b a d => Sys2Proof.Machine.execAmoAnd m w b a d s
  | .amoOr m w b a d => Sys2Proof.Machine.execAmoOr m w b a d s
  | .amoXor m w b a d => Sys2Proof.Machine.execAmoXor m w b a d s
  | .amoMinS m w b a d => Sys2Proof.Machine.execAmoMinS m w b a d s
  | .amoMaxS m w b a d => Sys2Proof.Machine.execAmoMaxS m w b a d s
  | .amoMinZ m w b a d => Sys2Proof.Machine.execAmoMinZ m w b a d s
  | .amoMaxZ m w b a d => Sys2Proof.Machine.execAmoMaxZ m w b a d s
  | .amoFadd m w b a d => Sys2Proof.Machine.execAmoFadd m w b a d s
  | .amoFmin m w b a d => Sys2Proof.Machine.execAmoFmin m w b a d s
  | .amoFmax m w b a d => Sys2Proof.Machine.execAmoFmax m w b a d s
  | .amoXadd m w b a d => Sys2Proof.Machine.execAmoXadd m w b a d s
  | .amoXaddv w b a d => Sys2Proof.Machine.execAmoXaddv w b a d s
  | .amoDep b a d => Sys2Proof.Machine.execAmoDep b a d s
  | .amoFlags m a d => Sys2Proof.Machine.execAmoFlags m a d s
  | .csrrw sf c d => Sys2Proof.Machine.execCsrrw sf c d s
  | .csrrs sf c d => Sys2Proof.Machine.execCsrrs sf c d s
  | .csrrc sf c d => Sys2Proof.Machine.execCsrrc sf c d s
  | .mbtake b a d => Sys2Proof.Machine.execMbtake b a d s
  | .mbclr a => Sys2Proof.Machine.execMbclr a s
  | .recv q d => Sys2Proof.Machine.execRecv q d s
  | .rpeek q d => Sys2Proof.Machine.execRpeek q d s
  | .rack q => Sys2Proof.Machine.execRack q s
  | .qstat q sf d => Sys2Proof.Machine.execQstat q sf d s
  | .emit b a d => Sys2Proof.Machine.execEmit b a d s
  | .emitl b a d => Sys2Proof.Machine.execEmitl b a d s
  | .tide a => Sys2Proof.Machine.execTide a s
  | .tsread sf a d => Sys2Proof.Machine.execTsread sf a d s
  | .tsinh a d => Sys2Proof.Machine.execTsinh a d s
  | .tflush sf d => Sys2Proof.Machine.execTflush sf d s
  | .tget b a d => Sys2Proof.Machine.execTget b a d s
  | .trel a d => Sys2Proof.Machine.execTrel a d s
  | .tstat sf b d => Sys2Proof.Machine.execTstat sf b d s
  | .tstatHandle a d => Sys2Proof.Machine.execTstatHandle a d s
  | .mxq a d => Sys2Proof.Machine.execMxq a d s
  | .mxpoll a d => Sys2Proof.Machine.execMxpoll a d s
  | .mxwait a d => Sys2Proof.Machine.execMxwait a d s
  | .mxcan a d => Sys2Proof.Machine.execMxcan a d s
  | .ebq a d => Sys2Proof.Machine.execEbq a d s
  | .ebwait a d => Sys2Proof.Machine.execEbwait a d s
  | .ebwaitNw a d => Sys2Proof.Machine.execEbwaitNw a d s
  | .cbld m k b a d => Sys2Proof.Machine.execCbld m k b a d s
  | .cblda m k b a d => Sys2Proof.Machine.execCblda m k b a d s
  | .cbswap k d => Sys2Proof.Machine.execCbswap k d s
  | .cbinv k => Sys2Proof.Machine.execCbinv k s
  | .cbrd k b d => Sys2Proof.Machine.execCbrd k b d s
  | .cbstat k d => Sys2Proof.Machine.execCbstat k d s
  | .spawn p b a d => Sys2Proof.Machine.execSpawn p b a d s
  | .spawnr p b a d => Sys2Proof.Machine.execSpawnr p b a d s
  | .amsg b a d => Sys2Proof.Machine.execAmsg b a d s
  | .migrate a d => Sys2Proof.Machine.execMigrate a d s
  | .launch p b a d => Sys2Proof.Machine.execLaunch p b a d s
  | .join b a => Sys2Proof.Machine.execJoin b a s
  | .jdone a => Sys2Proof.Machine.execJdone a s
  | .jwait a d => Sys2Proof.Machine.execJwait a d s
  | .gang k d => Sys2Proof.Machine.execGang k d s
  | .split => Sys2Proof.Machine.execSplit s
  | .pairchk n a => Sys2Proof.Machine.execPairchk n a s
  | .barw o c n d => Sys2Proof.Machine.execBarw o c n d s
  | .bara o c n d => Sys2Proof.Machine.execBara o c n d s
  | .bart o c a d => Sys2Proof.Machine.execBart o c a d s
  | .waitq b a d => Sys2Proof.Machine.execWaitq b a d s
  | .wake b a d => Sys2Proof.Machine.execWake b a d s
  | .raise a => Sys2Proof.Machine.execRaise a s
  | .tinsp b a d => Sys2Proof.Machine.execTinsp b a d s
  | .tinspW b a sf => Sys2Proof.Machine.execTinspW b a sf s
  | .tresume b a d => Sys2Proof.Machine.execTresume b a d s
  | .tkill a d => Sys2Proof.Machine.execTkill a d s
  | .add t b a d => Sys2Proof.Machine.execAdd t b a d s
  | .sub t b a d => Sys2Proof.Machine.execSub t b a d s
  | .and t b a d => Sys2Proof.Machine.execAnd t b a d s
  | .or t b a d => Sys2Proof.Machine.execOr t b a d s
  | .xor t b a d => Sys2Proof.Machine.execXor t b a d s
  | .sll t b a d => Sys2Proof.Machine.execSll t b a d s
  | .srl t b a d => Sys2Proof.Machine.execSrl t b a d s
  | .sra t b a d => Sys2Proof.Machine.execSra t b a d s
  | .slt t b a d => Sys2Proof.Machine.execSlt t b a d s
  | .min t b a d => Sys2Proof.Machine.execMin t b a d s
  | .max t b a d => Sys2Proof.Machine.execMax t b a d s
  | .adds t b a d => Sys2Proof.Machine.execAdds t b a d s
  | .subs t b a d => Sys2Proof.Machine.execSubs t b a d s
  | .clz t a d => Sys2Proof.Machine.execClz t a d s
  | .ctz t a d => Sys2Proof.Machine.execCtz t a d s
  | .popc t a d => Sys2Proof.Machine.execPopc t a d s
  | .addi idf a d => Sys2Proof.Machine.execAddi idf a d s
  | .andi idf a d => Sys2Proof.Machine.execAndi idf a d s
  | .ori idf a d => Sys2Proof.Machine.execOri idf a d s
  | .xori idf a d => Sys2Proof.Machine.execXori idf a d s
  | .slti idf a d => Sys2Proof.Machine.execSlti idf a d s
  | .sltiz idf a d => Sys2Proof.Machine.execSltiz idf a d s
  | .slli sf a d => Sys2Proof.Machine.execSlli sf a d s
  | .srli sf a d => Sys2Proof.Machine.execSrli sf a d s
  | .srai sf a d => Sys2Proof.Machine.execSrai sf a d s
  | .rori sf a d => Sys2Proof.Machine.execRori sf a d s
  | .lui idf a d => Sys2Proof.Machine.execLui idf a d s
  | .addpc idf d => Sys2Proof.Machine.execAddpc idf d s
  | .ext x l p a d => Sys2Proof.Machine.execExt x l p a d s
  | .ins l p a d => Sys2Proof.Machine.execIns l p a d s
  | .mul t b a d => Sys2Proof.Machine.execMul t b a d s
  | .mulh t b a d => Sys2Proof.Machine.execMulh t b a d s
  | .div t b a d => Sys2Proof.Machine.execDiv t b a d s
  | .rem t b a d => Sys2Proof.Machine.execRem t b a d s
  | .muls t b a d => Sys2Proof.Machine.execMuls t b a d s
  | .fadd t b a d => Sys2Proof.Machine.execFadd t b a d s
  | .fsub t b a d => Sys2Proof.Machine.execFsub t b a d s
  | .fmul t b a d => Sys2Proof.Machine.execFmul t b a d s
  | .fdiv t b a d => Sys2Proof.Machine.execFdiv t b a d s
  | .fsqrt t a d => Sys2Proof.Machine.execFsqrt t a d s
  | .fmin t b a d => Sys2Proof.Machine.execFmin t b a d s
  | .fmax t b a d => Sys2Proof.Machine.execFmax t b a d s
  | .feq t b a d => Sys2Proof.Machine.execFeq t b a d s
  | .flt t b a d => Sys2Proof.Machine.execFlt t b a d s
  | .fle t b a d => Sys2Proof.Machine.execFle t b a d s
  | .fcvt sf t a d => Sys2Proof.Machine.execFcvt sf t a d s
  | .fclass t a d => Sys2Proof.Machine.execFclass t a d s
  | .fsgnj t b a d => Sys2Proof.Machine.execFsgnj t b a d s
  | .fsgnjn t b a d => Sys2Proof.Machine.execFsgnjn t b a d s
  | .fsgnjx t b a d => Sys2Proof.Machine.execFsgnjx t b a d s
  | .fma c b a d => Sys2Proof.Machine.execFma c b a d s
  | .fnma c b a d => Sys2Proof.Machine.execFnma c b a d s
  | .vadd t b a d => Sys2Proof.Machine.execVadd t b a d s
  | .vsub t b a d => Sys2Proof.Machine.execVsub t b a d s
  | .vmul t b a d => Sys2Proof.Machine.execVmul t b a d s
  | .vmulh t b a d => Sys2Proof.Machine.execVmulh t b a d s
  | .vmin t b a d => Sys2Proof.Machine.execVmin t b a d s
  | .vmax t b a d => Sys2Proof.Machine.execVmax t b a d s
  | .vadds t b a d => Sys2Proof.Machine.execVadds t b a d s
  | .vsubs t b a d => Sys2Proof.Machine.execVsubs t b a d s
  | .vmuls t b a d => Sys2Proof.Machine.execVmuls t b a d s
  | .vabsd t b a d => Sys2Proof.Machine.execVabsd t b a d s
  | .vavg t b a d => Sys2Proof.Machine.execVavg t b a d s
  | .vabs t a d => Sys2Proof.Machine.execVabs t a d s
  | .vfadd t b a d => Sys2Proof.Machine.execVfadd t b a d s
  | .vfsub t b a d => Sys2Proof.Machine.execVfsub t b a d s
  | .vfmul t b a d => Sys2Proof.Machine.execVfmul t b a d s
  | .vfdiv t b a d => Sys2Proof.Machine.execVfdiv t b a d s
  | .vfsqrt t a d => Sys2Proof.Machine.execVfsqrt t a d s
  | .vfmin t b a d => Sys2Proof.Machine.execVfmin t b a d s
  | .vfmax t b a d => Sys2Proof.Machine.execVfmax t b a d s
  | .vfsgnj t b a d => Sys2Proof.Machine.execVfsgnj t b a d s
  | .vfsgnjn t b a d => Sys2Proof.Machine.execVfsgnjn t b a d s
  | .vfsgnjx t b a d => Sys2Proof.Machine.execVfsgnjx t b a d s
  | .vfma m c b a d => Sys2Proof.Machine.execVfma m c b a d s
  | .vfnma m c b a d => Sys2Proof.Machine.execVfnma m c b a d s
  | .vand t b a d => Sys2Proof.Machine.execVand t b a d s
  | .vor t b a d => Sys2Proof.Machine.execVor t b a d s
  | .vxor t b a d => Sys2Proof.Machine.execVxor t b a d s
  | .vandn t b a d => Sys2Proof.Machine.execVandn t b a d s
  | .vsll t b a d => Sys2Proof.Machine.execVsll t b a d s
  | .vsrl t b a d => Sys2Proof.Machine.execVsrl t b a d s
  | .vsra t b a d => Sys2Proof.Machine.execVsra t b a d s
  | .vror t b a d => Sys2Proof.Machine.execVror t b a d s
  | .vceq t b a d => Sys2Proof.Machine.execVceq t b a d s
  | .vcne t b a d => Sys2Proof.Machine.execVcne t b a d s
  | .vclt t b a d => Sys2Proof.Machine.execVclt t b a d s
  | .vcle t b a d => Sys2Proof.Machine.execVcle t b a d s
  | .vctst t b a d => Sys2Proof.Machine.execVctst t b a d s
  | .vsel sf t b a d => Sys2Proof.Machine.execVsel sf t b a d s
  | .vcvt x p sf t a d => Sys2Proof.Machine.execVcvt x p sf t a d s
  | .vperm t b a d => Sys2Proof.Machine.execVperm t b a d s
  | .vslideup t b a d => Sys2Proof.Machine.execVslideup t b a d s
  | .vslidedn t b a d => Sys2Proof.Machine.execVslidedn t b a d s
  | .vbcast t b d => Sys2Proof.Machine.execVbcast t b d s
  | .vbcastl t b a d => Sys2Proof.Machine.execVbcastl t b a d s
  | .vext t b a d => Sys2Proof.Machine.execVext t b a d s
  | .vins t b a d => Sys2Proof.Machine.execVins t b a d s
  | .vzipl t b a d => Sys2Proof.Machine.execVzipl t b a d s
  | .vziph t b a d => Sys2Proof.Machine.execVziph t b a d s
  | .vuzpe t b a d => Sys2Proof.Machine.execVuzpe t b a d s
  | .vuzpo t b a d => Sys2Proof.Machine.execVuzpo t b a d s
  | .vredsum t b a d => Sys2Proof.Machine.execVredsum t b a d s
  | .vredmin t b a d => Sys2Proof.Machine.execVredmin t b a d s
  | .vredmax t b a d => Sys2Proof.Machine.execVredmax t b a d s
  | .vdot t b a d => Sys2Proof.Machine.execVdot t b a d s
  | .vscan t b a d => Sys2Proof.Machine.execVscan t b a d s
  | .vscanmin t b a d => Sys2Proof.Machine.execVscanmin t b a d s
  | .vscanmax t b a d => Sys2Proof.Machine.execVscanmax t b a d s
  | .vmxsc j sf e a d => Sys2Proof.Machine.execVmxsc j sf e a d s
  | .mand b a d => Sys2Proof.Machine.execMand b a d s
  | .mor b a d => Sys2Proof.Machine.execMor b a d s
  | .mxor b a d => Sys2Proof.Machine.execMxor b a d s
  | .mandn b a d => Sys2Proof.Machine.execMandn b a d s
  | .mnot a d => Sys2Proof.Machine.execMnot a d s
  | .mpopc a d => Sys2Proof.Machine.execMpopc a d s
  | .mfirst a d => Sys2Proof.Machine.execMfirst a d s
  | .mfromg a d => Sys2Proof.Machine.execMfromg a d s
  | .mtog a d => Sys2Proof.Machine.execMtog a d s
  | .mlanes t d => Sys2Proof.Machine.execMlanes t d s
  | .gori2 f g a d => Sys2Proof.Machine.execGori2 f g a d s
  | .gori3 f g a d => Sys2Proof.Machine.execGori3 f g a d s
  | .ginc f g a d => Sys2Proof.Machine.execGinc f g a d s
  | .gins f g a d => Sys2Proof.Machine.execGins f g a d s
  | .gseg f g a d => Sys2Proof.Machine.execGseg f g a d s
  | .xclr t a => Sys2Proof.Machine.execXclr t a s
  | .xadd t b a m => Sys2Proof.Machine.execXadd t b a m s
  | .xrnd a d => Sys2Proof.Machine.execXrnd a d s
  | .cbx sf k n a d => Sys2Proof.Machine.execCbx sf k n a d s
  | .taskBudget core slot => Sys2Proof.Machine.execTaskBudget core slot s
  | .globalLoadReturn core slot idx => Sys2Proof.Machine.execGlobalLoadReturn core slot idx s
  | .coveAccessArrive msg => Sys2Proof.Machine.execCoveAccessArrive msg s
  | .writebackAck core idx => Sys2Proof.Machine.execWritebackAck core idx s
  | .atomicPerform msg => Sys2Proof.Machine.execAtomicPerform msg s
  | .atomicReply msg => Sys2Proof.Machine.execAtomicReply msg s
  | .sysHeartbeat msg => Sys2Proof.Machine.execSysHeartbeat msg s
  | .sysTrace msg => Sys2Proof.Machine.execSysTrace msg s
  | .sysReply msg => Sys2Proof.Machine.execSysReply msg s
  | .stealProbe msg => Sys2Proof.Machine.execStealProbe msg s
  | .stealReply msg => Sys2Proof.Machine.execStealReply msg s
  | .stealRetry core slot => Sys2Proof.Machine.execStealRetry core slot s
  | .spawnrArrive msg => Sys2Proof.Machine.execSpawnrArrive msg s
  | .spawnrReply msg => Sys2Proof.Machine.execSpawnrReply msg s
  | .amsgArrive msg => Sys2Proof.Machine.execAmsgArrive msg s
  | .amsgReply msg => Sys2Proof.Machine.execAmsgReply msg s
  | .migrateArrive msg => Sys2Proof.Machine.execMigrateArrive msg s
  | .jdonePerform msg => Sys2Proof.Machine.execJdonePerform msg s
  | .recordArrive msg => Sys2Proof.Machine.execRecordArrive msg s
  | .recordResend core q => Sys2Proof.Machine.execRecordResend core q s
  | .recordResendRetry idx => Sys2Proof.Machine.execRecordResendRetry idx s
  | .overflowRecord core q => Sys2Proof.Machine.execOverflowRecord core q s
  | .emitAccept msg => Sys2Proof.Machine.execEmitAccept msg s
  | .emitTimeout core slot => Sys2Proof.Machine.execEmitTimeout core slot s
  | .sensorHeartbeat stream => Sys2Proof.Machine.execSensorHeartbeat stream s
  | .tidemarkUpdateArrive msg => Sys2Proof.Machine.execTidemarkUpdateArrive msg s
  | .windowTimeout core q => Sys2Proof.Machine.execWindowTimeout core q s
  | .wcloseWrite core q => Sys2Proof.Machine.execWcloseWrite core q s
  | .timerExpiry idx => Sys2Proof.Machine.execTimerExpiry idx s
  | .bwRecordArrive msg => Sys2Proof.Machine.execBwRecordArrive msg s
  | .bwRecordStep cove => Sys2Proof.Machine.execBwRecordStep cove s
  | .bwTidemarkStep cove => Sys2Proof.Machine.execBwTidemarkStep cove s
  | .bwFlushStep cove => Sys2Proof.Machine.execBwFlushStep cove s
  | .bwReleaseStep cove => Sys2Proof.Machine.execBwReleaseStep cove s
  | .bwAgeSeal cove tile => Sys2Proof.Machine.execBwAgeSeal cove tile s
  | .bwWindowTimeout cove stream => Sys2Proof.Machine.execBwWindowTimeout cove stream s
  | .bwTileDispatch cove stream => Sys2Proof.Machine.execBwTileDispatch cove stream s
  | .bwJobSubmit cove stream => Sys2Proof.Machine.execBwJobSubmit cove stream s
  | .mxeAccept msg => Sys2Proof.Machine.execMxeAccept msg s
  | .jobBankSample msg => Sys2Proof.Machine.execJobBankSample msg s
  | .mxeAdmit cove job => Sys2Proof.Machine.execMxeAdmit cove job s
  | .mxeOperandArrive cove job => Sys2Proof.Machine.execMxeOperandArrive cove job s
  | .mxeSlotBoundary cove => Sys2Proof.Machine.execMxeSlotBoundary cove s
  | .mxeDrainEnd cove job => Sys2Proof.Machine.execMxeDrainEnd cove job s
  | .mxeJobDone cove job => Sys2Proof.Machine.execMxeJobDone cove job s
  | .mxeCancel msg => Sys2Proof.Machine.execMxeCancel msg s
  | .cbLoadStart core slot => Sys2Proof.Machine.execCbLoadStart core slot s
  | .cbLoadDone core bank => Sys2Proof.Machine.execCbLoadDone core bank s
  | .bankClaimPass core bank => Sys2Proof.Machine.execBankClaimPass core bank s
  | .bankSave core bank => Sys2Proof.Machine.execBankSave core bank s
  | .bankRestore core bank => Sys2Proof.Machine.execBankRestore core bank s
  | .cbfetch cove job => Sys2Proof.Machine.execCbfetch cove job s
  | .pairCompare core slot => Sys2Proof.Machine.execPairCompare core slot s
  | .pairCompareTimeout core slot => Sys2Proof.Machine.execPairCompareTimeout core slot s
  | .barrierComplete key => Sys2Proof.Machine.execBarrierComplete key s
  | .barrierReleaseArrive core key => Sys2Proof.Machine.execBarrierReleaseArrive core key s
  | .barrierTimeout core slot => Sys2Proof.Machine.execBarrierTimeout core slot s
  | .waitqAtOwner msg => Sys2Proof.Machine.execWaitqAtOwner msg s
  | .wakeAtOwner msg => Sys2Proof.Machine.execWakeAtOwner msg s
  | .waiterWoken msg => Sys2Proof.Machine.execWaiterWoken msg s
  | .pageWalkDone cove idx => Sys2Proof.Machine.execPageWalkDone cove idx s
  | .tlbInvalidate cove idx => Sys2Proof.Machine.execTlbInvalidate cove idx s
  | .localPageFillDone core frame => Sys2Proof.Machine.execLocalPageFillDone core frame s
  | .localPageSpillDone core frame => Sys2Proof.Machine.execLocalPageSpillDone core frame s
  | .ebbFootprint core item => Sys2Proof.Machine.execEbbFootprint core item s
  | .ebbCopy cove job => Sys2Proof.Machine.execEbbCopy cove job s
  | .ebbFill cove job => Sys2Proof.Machine.execEbbFill cove job s
  | .ebbSpill cove job => Sys2Proof.Machine.execEbbSpill cove job s
  | .ebbJobDone cove job => Sys2Proof.Machine.execEbbJobDone cove job s
  | .governorPeriod => Sys2Proof.Machine.execGovernorPeriod s
  | .quotaExhausted ctx => Sys2Proof.Machine.execQuotaExhausted ctx s
  | .enrgDelivery core ctx => Sys2Proof.Machine.execEnrgDelivery core ctx s
  | .dvfsStepDone die => Sys2Proof.Machine.execDvfsStepDone die s
  | .thermalSample t0 t1 => Sys2Proof.Machine.execThermalSample t0 t1 s
  | .contextLoadDone ctx => Sys2Proof.Machine.execContextLoadDone ctx s
  | .contextDrainDone ctx => Sys2Proof.Machine.execContextDrainDone ctx s
  | .contextScrubDone ctx => Sys2Proof.Machine.execContextScrubDone ctx s
  | .boundaryCommit core => Sys2Proof.Machine.execBoundaryCommit core s
  | .boundaryCommitDone core => Sys2Proof.Machine.execBoundaryCommitDone core s
  | .regionCommit core => Sys2Proof.Machine.execRegionCommit core s
  | .regionSwitch => Sys2Proof.Machine.execRegionSwitch s
  | .registerWrite reg value => Sys2Proof.Machine.execRegisterWrite reg value s
  | .linkEnable link => Sys2Proof.Machine.execLinkEnable link s
  | .linkTrainingDone link lost => Sys2Proof.Machine.execLinkTrainingDone link lost s
  | .linkTrainingTimeout link => Sys2Proof.Machine.execLinkTrainingTimeout link s
  | .linkLaneLost link => Sys2Proof.Machine.execLinkLaneLost link s
  | .linkDisable link => Sys2Proof.Machine.execLinkDisable link s
  | .ucieReplay link => Sys2Proof.Machine.execUcieReplay link s
  | .ucieReroute link => Sys2Proof.Machine.execUcieReroute link s
  | .rhoashRecordArrive msg => Sys2Proof.Machine.execRhoashRecordArrive msg s
  | .sdioLaunch => Sys2Proof.Machine.execSdioLaunch s
  | .sdioWrite => Sys2Proof.Machine.execSdioWrite s
  | .sdioRead => Sys2Proof.Machine.execSdioRead s
  | .sdioTraceRead => Sys2Proof.Machine.execSdioTraceRead s
  | .queryDevice => Sys2Proof.Machine.execQueryDevice s
  | .queryContexts => Sys2Proof.Machine.execQueryContexts s
  | .queryLinks => Sys2Proof.Machine.execQueryLinks s
  | .queryStream => Sys2Proof.Machine.execQueryStream s
  | .queryCove => Sys2Proof.Machine.execQueryCove s
  | .sdioAttest => Sys2Proof.Machine.execSdioAttest s
  | .fwCreateContext => Sys2Proof.Machine.execFwCreateContext s
  | .fwDrainContext => Sys2Proof.Machine.execFwDrainContext s
  | .fwResumeContext => Sys2Proof.Machine.execFwResumeContext s
  | .fwMap => Sys2Proof.Machine.execFwMap s
  | .fwUnmap => Sys2Proof.Machine.execFwUnmap s
  | .fwParkCore => Sys2Proof.Machine.execFwParkCore s
  | .fwUnparkCore => Sys2Proof.Machine.execFwUnparkCore s
  | .fwRetireSource => Sys2Proof.Machine.execFwRetireSource s
  | .fwReviveSource => Sys2Proof.Machine.execFwReviveSource s
  | .fwConfigureStream => Sys2Proof.Machine.execFwConfigureStream s
  | .fwSetTimer => Sys2Proof.Machine.execFwSetTimer s
  | .fwLoadKernel => Sys2Proof.Machine.execFwLoadKernel s
  | .recoveryStageWrite => Sys2Proof.Machine.execRecoveryStageWrite s
  | .recoveryCommit => Sys2Proof.Machine.execRecoveryCommit s
  | .recoveryQuery => Sys2Proof.Machine.execRecoveryQuery s
  | .csi2FrameStart stream => Sys2Proof.Machine.execCsi2FrameStart stream s
  | .csi2Packet port vc dtype words => Sys2Proof.Machine.execCsi2Packet port vc dtype words s
  | .decoderWatchdog stream received => Sys2Proof.Machine.execDecoderWatchdog stream received s
  | .taxelScan stream => Sys2Proof.Machine.execTaxelScan stream s
  | .taxelFrameDone stream values => Sys2Proof.Machine.execTaxelFrameDone stream values s
  | .hfrzGo => Sys2Proof.Machine.execHfrzGo s
  | .hrelGo => Sys2Proof.Machine.execHrelGo s
  | .freezeRelease => Sys2Proof.Machine.execFreezeRelease s
  | .hicmdRead => Sys2Proof.Machine.execHicmdRead s
  | .hicmdWrite => Sys2Proof.Machine.execHicmdWrite s
  | .helogPop => Sys2Proof.Machine.execHelogPop s
  | .hwdogReload value => Sys2Proof.Machine.execHwdogReload value s
  | .htimeRead => Sys2Proof.Machine.execHtimeRead s
  | .hfwmbPost req => Sys2Proof.Machine.execHfwmbPost req s
  | .errorReport idx => Sys2Proof.Machine.execErrorReport idx s
  | .heartbeatMiss ctx => Sys2Proof.Machine.execHeartbeatMiss ctx s
  | .lockstepMismatch => Sys2Proof.Machine.execLockstepMismatch s
  | .clockFault => Sys2Proof.Machine.execClockFault s
  | .watchdogFault => Sys2Proof.Machine.execWatchdogFault s
  | .frzNAssert => Sys2Proof.Machine.execFrzNAssert s
  | .frzNDeassert => Sys2Proof.Machine.execFrzNDeassert s
  | .powerOnReset => Sys2Proof.Machine.execPowerOnReset s
  | .warmReset => Sys2Proof.Machine.execWarmReset s
  | .reservedEncoding w tail => Sys2Proof.Machine.execReservedEncoding w tail s
  | .fetchPageTrap va status => Sys2Proof.Machine.execFetchPageTrap va status s
  | .windowEndClose core q => Sys2Proof.Machine.execWindowEndClose core q s
  | .bwWindowEndClose cove stream => Sys2Proof.Machine.execBwWindowEndClose cove stream s
  | .predicateComplete core slot => Sys2Proof.Machine.execPredicateComplete core slot s
  | .tgetCopyDone core slot => Sys2Proof.Machine.execTgetCopyDone core slot s
  | .trapTargetArrive msg => Sys2Proof.Machine.execTrapTargetArrive msg s
  | .rhoashFrameReplay link => Sys2Proof.Machine.execRhoashFrameReplay link s

end Sys2Proof.Machine
end

