-- ==== Sys2Proof/Machine/Bundle.lean ====
section
/-! DEFINITION. How a slot issues one bundle: fetch, frames, checks across a pair, prefix, hazards, the two words together, cycles and gangs; and what each entry of the agenda does (02_instruction_word.md R19 to R21, R30, R31, R35; 04_task_state.md R77; 05_scalar_instructions.md R82; 09_kernel_task.md R166, R182; 15_group.md R309 to R317). -/

namespace Sys2Proof.Machine

/-! ### Registers that a word writes and reads (R21, R32, R77) -/

/-- Registers as numbers: g0 to g31, then v0 to v31, then m0 to m7, then the CSRs that words update implicitly. -/
def gR (r : BitVec 5) : Nat := r.toNat
def vR (r : BitVec 5) : Nat := 32 + r.toNat
def mR (r : Nat) : Nat := 64 + r % 8
def rFflags : Nat := 72
def rGstat : Nat := 73
def rGctl : Nat := 74
/-- The base register of a post-increment form. -/
def onPost (p : Bool) (b : BitVec 5) : List Nat := if p then [gR b] else []
/-- `FFLAGS`, for a floating-point type (R61). -/
def fpFlag (t : BitVec 5) : List Nat := if 13 ≤ t.toNat ∧ t.toNat ≤ 16 then [rFflags] else []
/-- A conversion is a floating-point word unless both of its types are integers (R61, R123; log 23). -/
def cvtFlag (st dt : BitVec 5) : List Nat := if st.toNat < 8 ∧ dt.toNat < 8 then [] else [rFflags]
/-- The CSR that a word of the CSR group writes, among those that words update implicitly. -/
def csrFlag (c : BitVec 12) (p : Bool) : List Nat :=
  if !p then [] else if c = 0x019 then [rFflags] else if c = 0x021 then [rGstat] else if c = 0x020 then [rGctl] else []
/-- Registers that a word writes. Words that move or select floating-point lanes and compute nothing write no flag
(DEDUCED, log 23). -/
def Instr.writes (i : Instr) : List Nat :=
  match i with
  | .sys _ _ d => [gR d]
  | .brl _ => [31]
  | .jrl _ d => [gR d]
  | .loop _ c => [gR c]
  | .ld _ s _ b d => [gR d] ++ onPost (s == 7) b
  | .st _ s _ b _ => onPost (decide (s.toNat ≥ 4)) b
  | .vld _ s _ b d => [vR d] ++ onPost (s == 1 || s == 3) b
  | .vst _ s _ b _ => onPost (s == 1 || s == 3) b
  | .vgather _ _ _ _ _ _ d => [vR d]
  | .lda _ _ _ _ _ d => [gR d]
  | .amoSwap _ _ _ _ d => [gR d]
  | .amoCas _ _ _ _ d => [gR d]
  | .amoAdd _ _ _ _ d => [gR d]
  | .amoAnd _ _ _ _ d => [gR d]
  | .amoOr _ _ _ _ d => [gR d]
  | .amoXor _ _ _ _ d => [gR d]
  | .amoMinS _ _ _ _ d => [gR d]
  | .amoMaxS _ _ _ _ d => [gR d]
  | .amoMinZ _ _ _ _ d => [gR d]
  | .amoMaxZ _ _ _ _ d => [gR d]
  | .amoFadd _ _ _ _ d => [gR d]
  | .amoFmin _ _ _ _ d => [gR d]
  | .amoFmax _ _ _ _ d => [gR d]
  | .amoXadd _ _ _ _ d => [gR d]
  | .amoXaddv _ _ _ d => [gR d]
  | .amoDep _ _ d => [gR d]
  | .amoFlags _ _ d => [gR d]
  | .csrrw _ c d => [gR d] ++ csrFlag c (true)
  | .csrrs s c d => [gR d] ++ csrFlag c (s != 0)
  | .csrrc s c d => [gR d] ++ csrFlag c (s != 0)
  | .mbtake b _ d => [gR d, gR b]
  | .recv _ d => [gR d]
  | .rpeek _ d => [gR d]
  | .qstat _ _ d => [gR d]
  | .emit _ _ d => [gR d]
  | .emitl _ _ d => [gR d]
  | .tsread _ _ d => [gR d]
  | .tsinh _ d => [gR d]
  | .tflush _ d => [gR d]
  | .tget _ _ d => [gR d]
  | .trel _ d => [gR d]
  | .tstat _ _ d => [gR d]
  | .tstatHandle _ d => [gR d]
  | .mxq _ d => [gR d]
  | .mxpoll _ d => [gR d]
  | .mxwait _ d => [gR d]
  | .mxcan _ d => [gR d]
  | .ebq _ d => [gR d]
  | .ebwait _ d => [gR d]
  | .ebwaitNw _ d => [gR d]
  | .cbld _ _ _ _ d => [gR d]
  | .cblda _ _ _ _ d => [gR d]
  | .cbswap _ d => [gR d]
  | .cbrd _ _ d => [vR d]
  | .cbstat _ d => [gR d]
  | .spawn _ _ _ d => [gR d]
  | .spawnr _ _ _ d => [gR d]
  | .amsg _ _ d => [gR d]
  | .migrate _ d => [gR d]
  | .launch _ _ _ d => [gR d]
  | .jwait _ d => [gR d]
  | .gang _ d => [gR d]
  | .barw _ _ _ d => [gR d]
  | .bara _ _ _ d => [gR d]
  | .bart _ _ _ d => [gR d]
  | .waitq _ _ d => [gR d]
  | .wake _ _ d => [gR d]
  | .tinsp _ _ d => [gR d]
  | .tresume _ _ d => [gR d]
  | .tkill _ d => [gR d]
  | .add _ _ _ d => [gR d]
  | .sub _ _ _ d => [gR d]
  | .and _ _ _ d => [gR d]
  | .or _ _ _ d => [gR d]
  | .xor _ _ _ d => [gR d]
  | .sll _ _ _ d => [gR d]
  | .srl _ _ _ d => [gR d]
  | .sra _ _ _ d => [gR d]
  | .slt _ _ _ d => [gR d]
  | .min _ _ _ d => [gR d]
  | .max _ _ _ d => [gR d]
  | .adds _ _ _ d => [gR d]
  | .subs _ _ _ d => [gR d]
  | .clz _ _ d => [gR d]
  | .ctz _ _ d => [gR d]
  | .popc _ _ d => [gR d]
  | .addi _ _ d => [gR d]
  | .andi _ _ d => [gR d]
  | .ori _ _ d => [gR d]
  | .xori _ _ d => [gR d]
  | .slti _ _ d => [gR d]
  | .sltiz _ _ d => [gR d]
  | .slli _ _ d => [gR d]
  | .srli _ _ d => [gR d]
  | .srai _ _ d => [gR d]
  | .rori _ _ d => [gR d]
  | .lui _ _ d => [gR d]
  | .addpc _ d => [gR d]
  | .ext _ _ _ _ d => [gR d]
  | .ins _ _ _ d => [gR d]
  | .mul _ _ _ d => [gR d]
  | .mulh _ _ _ d => [gR d]
  | .div _ _ _ d => [gR d]
  | .rem _ _ _ d => [gR d]
  | .muls _ _ _ d => [gR d]
  | .fadd _ _ _ d => [gR d, rFflags]
  | .fsub _ _ _ d => [gR d, rFflags]
  | .fmul _ _ _ d => [gR d, rFflags]
  | .fdiv _ _ _ d => [gR d, rFflags]
  | .fsqrt _ _ d => [gR d, rFflags]
  | .fmin _ _ _ d => [gR d, rFflags]
  | .fmax _ _ _ d => [gR d, rFflags]
  | .feq _ _ _ d => [gR d, rFflags]
  | .flt _ _ _ d => [gR d, rFflags]
  | .fle _ _ _ d => [gR d, rFflags]
  | .fcvt _ _ _ d => [gR d, rFflags]
  | .fclass _ _ d => [gR d, rFflags]
  | .fsgnj _ _ _ d => [gR d, rFflags]
  | .fsgnjn _ _ _ d => [gR d, rFflags]
  | .fsgnjx _ _ _ d => [gR d, rFflags]
  | .fma _ _ _ d => [gR d, rFflags]
  | .fnma _ _ _ d => [gR d, rFflags]
  | .vadd _ _ _ d => [vR d]
  | .vsub _ _ _ d => [vR d]
  | .vmul _ _ _ d => [vR d]
  | .vmulh _ _ _ d => [vR d]
  | .vmin _ _ _ d => [vR d]
  | .vmax _ _ _ d => [vR d]
  | .vadds _ _ _ d => [vR d]
  | .vsubs _ _ _ d => [vR d]
  | .vmuls _ _ _ d => [vR d]
  | .vabsd _ _ _ d => [vR d]
  | .vavg _ _ _ d => [vR d]
  | .vabs _ _ d => [vR d]
  | .vfadd _ _ _ d => [vR d, rFflags]
  | .vfsub _ _ _ d => [vR d, rFflags]
  | .vfmul _ _ _ d => [vR d, rFflags]
  | .vfdiv _ _ _ d => [vR d, rFflags]
  | .vfsqrt _ _ d => [vR d, rFflags]
  | .vfmin _ _ _ d => [vR d, rFflags]
  | .vfmax _ _ _ d => [vR d, rFflags]
  | .vfsgnj _ _ _ d => [vR d, rFflags]
  | .vfsgnjn _ _ _ d => [vR d, rFflags]
  | .vfsgnjx _ _ _ d => [vR d, rFflags]
  | .vfma _ _ _ _ d => [vR d, rFflags]
  | .vfnma _ _ _ _ d => [vR d, rFflags]
  | .vand _ _ _ d => [vR d]
  | .vor _ _ _ d => [vR d]
  | .vxor _ _ _ d => [vR d]
  | .vandn _ _ _ d => [vR d]
  | .vsll _ _ _ d => [vR d]
  | .vsrl _ _ _ d => [vR d]
  | .vsra _ _ _ d => [vR d]
  | .vror _ _ _ d => [vR d]
  | .vceq t _ _ d => [mR d.toNat] ++ fpFlag t
  | .vcne t _ _ d => [mR d.toNat] ++ fpFlag t
  | .vclt t _ _ d => [mR d.toNat] ++ fpFlag t
  | .vcle t _ _ d => [mR d.toNat] ++ fpFlag t
  | .vctst t _ _ d => [mR d.toNat] ++ fpFlag t
  | .vsel _ _ _ _ d => [vR d]
  | .vcvt _ _ st dt _ d => vR d :: cvtFlag st dt
  | .vperm _ _ _ d => [vR d]
  | .vslideup _ _ _ d => [vR d]
  | .vslidedn _ _ _ d => [vR d]
  | .vbcast _ _ d => [vR d]
  | .vbcastl _ _ _ d => [vR d]
  | .vext _ _ _ d => [gR d]
  | .vins _ _ _ d => [vR d]
  | .vzipl _ _ _ d => [vR d]
  | .vziph _ _ _ d => [vR d]
  | .vuzpe _ _ _ d => [vR d]
  | .vuzpo _ _ _ d => [vR d]
  | .vredsum t _ _ d => [vR d] ++ fpFlag t
  | .vredmin t _ _ d => [vR d] ++ fpFlag t
  | .vredmax t _ _ d => [vR d] ++ fpFlag t
  | .vdot t _ _ d => [vR d] ++ fpFlag t
  | .vscan t _ _ d => [vR d] ++ fpFlag t
  | .vscanmin t _ _ d => [vR d] ++ fpFlag t
  | .vscanmax t _ _ d => [vR d] ++ fpFlag t
  | .vmxsc _ _ _ _ d => [vR d]
  | .mand _ _ d => [mR d.toNat]
  | .mor _ _ d => [mR d.toNat]
  | .mxor _ _ d => [mR d.toNat]
  | .mandn _ _ d => [mR d.toNat]
  | .mnot _ d => [mR d.toNat]
  | .mpopc _ d => [gR d]
  | .mfirst _ d => [gR d]
  | .mfromg _ d => [mR d.toNat]
  | .mtog _ d => [gR d]
  | .mlanes _ d => [mR d.toNat]
  | .gori2 _ _ _ d => [mR d.toNat, mR (d.toNat + 1), mR (d.toNat + 2), rGstat, rGctl]
  | .gori3 _ _ _ d => [mR d.toNat, mR (d.toNat + 1), mR (d.toNat + 2), rGstat, rGctl]
  | .ginc _ _ _ d => [mR d.toNat, mR (d.toNat + 1), mR (d.toNat + 2), rGstat, rGctl]
  | .gins _ _ _ d => [mR d.toNat, mR (d.toNat + 1), mR (d.toNat + 2), rGstat, rGctl]
  | .gseg _ _ _ d => [mR d.toNat, mR (d.toNat + 1), mR (d.toNat + 2), rGstat, rGctl]
  | .xadd _ _ _ _ => [rFflags]
  | .xrnd _ d => [vR d, rFflags]
  | .cbx _ _ _ _ d => [vR d]
  | _ => []
/-- Registers that a word reads, so that it waits for a load of one (R82). -/
def Instr.reads (i : Instr) : List Nat :=
  match i with
  | .halt => [1]
  | .haltr b a => [1, gR a, gR b]
  | .sys _ a _ => [gR a]
  | .jr a => [gR a]
  | .jrl a _ => [gR a]
  | .bcc _ _ b a => [gR a, gR b]
  | .bmask _ _ b a => [mR a.toNat, mR b.toNat]
  | .loop _ c => [gR c]
  | .ld _ _ _ b _ => [gR b]
  | .st _ _ _ b d => [gR b, gR d]
  | .vld _ _ _ b d => [gR b, vR d]
  | .vst _ _ _ b d => [gR b, vR d]
  | .vgather g _ _ _ b a d => [gR a, vR b, vR d, mR g.toNat]
  | .vscatter g _ _ _ b a d => [gR a, vR b, vR d, mR g.toNat]
  | .pref _ _ b => [gR b]
  | .prefh _ b => [gR b]
  | .clean _ b => [gR b]
  | .inv _ b => [gR b]
  | .lda _ _ _ _ b _ => [gR b]
  | .strel _ _ _ _ b d => [gR b, gR d]
  | .amoSwap _ _ b a d => [gR a, gR b, gR d]
  | .amoCas _ _ b a d => [gR a, gR b, gR d]
  | .amoAdd _ _ b a d => [gR a, gR b, gR d]
  | .amoAnd _ _ b a d => [gR a, gR b, gR d]
  | .amoOr _ _ b a d => [gR a, gR b, gR d]
  | .amoXor _ _ b a d => [gR a, gR b, gR d]
  | .amoMinS _ _ b a d => [gR a, gR b, gR d]
  | .amoMaxS _ _ b a d => [gR a, gR b, gR d]
  | .amoMinZ _ _ b a d => [gR a, gR b, gR d]
  | .amoMaxZ _ _ b a d => [gR a, gR b, gR d]
  | .amoFadd _ _ b a d => [gR a, gR b, gR d]
  | .amoFmin _ _ b a d => [gR a, gR b, gR d]
  | .amoFmax _ _ b a d => [gR a, gR b, gR d]
  | .amoXadd _ _ b a d => [gR a, gR b, gR d]
  | .amoXaddv _ b a _ => [gR a, vR b]
  | .amoDep b a d => [gR a, gR b, gR d]
  | .amoFlags _ a _ => [gR a]
  | .csrrw s _ _ => [gR s]
  | .csrrs s _ _ => [gR s]
  | .csrrc s _ _ => [gR s]
  | .emit b a _ => [gR a, gR b]
  | .emitl b a _ => [gR a, vR b]
  | .tide a => [gR a]
  | .tsread _ a _ => [gR a]
  | .tsinh a _ => [gR a]
  | .tget b a _ => [gR a, gR b]
  | .trel a _ => [gR a]
  | .tstatHandle a _ => [gR a]
  | .mxq a _ => [gR a]
  | .mxpoll a _ => [gR a]
  | .mxwait a _ => [gR a]
  | .mxcan a _ => [gR a]
  | .ebq a _ => [gR a]
  | .ebwait a _ => [gR a]
  | .ebwaitNw a _ => [gR a]
  | .cbld _ _ b a _ => [gR a, gR b]
  | .cblda _ _ b a _ => [gR a, gR b]
  | .cbrd _ b _ => [gR b]
  | .spawn _ b a _ => [gR a, gR b, 1, 2, 3, 4]
  | .spawnr _ b a _ => [gR a, gR b, 1, 2, 3, 4]
  | .amsg b a _ => [gR a, gR b, 1, 2, 3, 4]
  | .migrate _ _ => List.range 72
  | .launch _ b a _ => [gR a, gR b, 1, 2, 3, 4]
  | .join b a => [gR a, gR b]
  | .jdone a => [gR a]
  | .jwait a _ => [gR a]
  | .gang _ _ => List.range 72
  | .pairchk n a => [match n.toNat with | 0 => gR a | 1 => vR a | _ => mR a.toNat]
  | .bart _ _ a _ => [gR a]
  | .waitq b a _ => [gR a, gR b]
  | .wake b a _ => [gR a, gR b]
  | .raise a => [gR a]
  | .tinsp b a _ => [gR a, gR b]
  | .tinspW b a s => [gR a, gR b, gR s]
  | .tresume b a _ => [gR a, gR b]
  | .tkill a _ => [gR a]
  | .add _ b a _ => [gR a, gR b]
  | .sub _ b a _ => [gR a, gR b]
  | .and _ b a _ => [gR a, gR b]
  | .or _ b a _ => [gR a, gR b]
  | .xor _ b a _ => [gR a, gR b]
  | .sll _ b a _ => [gR a, gR b]
  | .srl _ b a _ => [gR a, gR b]
  | .sra _ b a _ => [gR a, gR b]
  | .slt _ b a _ => [gR a, gR b]
  | .min _ b a _ => [gR a, gR b]
  | .max _ b a _ => [gR a, gR b]
  | .adds _ b a _ => [gR a, gR b]
  | .subs _ b a _ => [gR a, gR b]
  | .clz _ a _ => [gR a]
  | .ctz _ a _ => [gR a]
  | .popc _ a _ => [gR a]
  | .addi _ a _ => [gR a]
  | .andi _ a _ => [gR a]
  | .ori _ a _ => [gR a]
  | .xori _ a _ => [gR a]
  | .slti _ a _ => [gR a]
  | .sltiz _ a _ => [gR a]
  | .slli _ a _ => [gR a]
  | .srli _ a _ => [gR a]
  | .srai _ a _ => [gR a]
  | .rori _ a _ => [gR a]
  | .lui _ a _ => [gR a]
  | .ext _ _ _ a _ => [gR a]
  | .ins _ _ a d => [gR a, gR d]
  | .mul _ b a _ => [gR a, gR b]
  | .mulh _ b a _ => [gR a, gR b]
  | .div _ b a _ => [gR a, gR b]
  | .rem _ b a _ => [gR a, gR b]
  | .muls _ b a _ => [gR a, gR b]
  | .fadd _ b a _ => [gR a, gR b]
  | .fsub _ b a _ => [gR a, gR b]
  | .fmul _ b a _ => [gR a, gR b]
  | .fdiv _ b a _ => [gR a, gR b]
  | .fsqrt _ a _ => [gR a]
  | .fmin _ b a _ => [gR a, gR b]
  | .fmax _ b a _ => [gR a, gR b]
  | .feq _ b a _ => [gR a, gR b]
  | .flt _ b a _ => [gR a, gR b]
  | .fle _ b a _ => [gR a, gR b]
  | .fcvt _ _ a _ => [gR a]
  | .fclass _ a _ => [gR a]
  | .fsgnj _ b a _ => [gR a, gR b]
  | .fsgnjn _ b a _ => [gR a, gR b]
  | .fsgnjx _ b a _ => [gR a, gR b]
  | .fma c b a _ => [gR a, gR b, gR c]
  | .fnma c b a _ => [gR a, gR b, gR c]
  | .vadd _ b a _ => [vR a, vR b]
  | .vsub _ b a _ => [vR a, vR b]
  | .vmul _ b a _ => [vR a, vR b]
  | .vmulh _ b a _ => [vR a, vR b]
  | .vmin _ b a _ => [vR a, vR b]
  | .vmax _ b a _ => [vR a, vR b]
  | .vadds _ b a _ => [vR a, vR b]
  | .vsubs _ b a _ => [vR a, vR b]
  | .vmuls _ b a _ => [vR a, vR b]
  | .vabsd _ b a _ => [vR a, vR b]
  | .vavg _ b a _ => [vR a, vR b]
  | .vabs _ a _ => [vR a]
  | .vfadd _ b a _ => [vR a, vR b]
  | .vfsub _ b a _ => [vR a, vR b]
  | .vfmul _ b a _ => [vR a, vR b]
  | .vfdiv _ b a _ => [vR a, vR b]
  | .vfsqrt _ a _ => [vR a]
  | .vfmin _ b a _ => [vR a, vR b]
  | .vfmax _ b a _ => [vR a, vR b]
  | .vfsgnj _ b a _ => [vR a, vR b]
  | .vfsgnjn _ b a _ => [vR a, vR b]
  | .vfsgnjx _ b a _ => [vR a, vR b]
  | .vfma m c b a d => [vR a, vR b, vR c, vR d, mR m.toNat]
  | .vfnma m c b a d => [vR a, vR b, vR c, vR d, mR m.toNat]
  | .vand _ b a _ => [vR a, vR b]
  | .vor _ b a _ => [vR a, vR b]
  | .vxor _ b a _ => [vR a, vR b]
  | .vandn _ b a _ => [vR a, vR b]
  | .vsll _ b a _ => [vR a, vR b]
  | .vsrl _ b a _ => [vR a, vR b]
  | .vsra _ b a _ => [vR a, vR b]
  | .vror _ b a _ => [vR a, vR b]
  | .vceq _ b a _ => [vR a, vR b]
  | .vcne _ b a _ => [vR a, vR b]
  | .vclt _ b a _ => [vR a, vR b]
  | .vcle _ b a _ => [vR a, vR b]
  | .vctst _ b a _ => [vR a, vR b]
  | .vsel s _ b a _ => [vR a, vR b, mR s.toNat]
  | .vcvt _ _ _ _ a d => [vR a, vR d]
  | .vperm _ b a _ => [vR a, vR b]
  | .vslideup _ b a _ => [vR a, gR b]
  | .vslidedn _ b a _ => [vR a, gR b]
  | .vbcast _ b _ => [gR b]
  | .vbcastl _ b a _ => [vR a, gR b]
  | .vext _ b a _ => [vR a, gR b]
  | .vins _ b a d => [vR d, gR a, gR b]
  | .vzipl _ b a _ => [vR a, vR b]
  | .vziph _ b a _ => [vR a, vR b]
  | .vuzpe _ b a _ => [vR a, vR b]
  | .vuzpo _ b a _ => [vR a, vR b]
  | .vredsum _ b a _ => [vR a, mR b.toNat]
  | .vredmin _ b a _ => [vR a, mR b.toNat]
  | .vredmax _ b a _ => [vR a, mR b.toNat]
  | .vdot _ b a _ => [vR a, vR b]
  | .vscan _ b a _ => [vR a, mR b.toNat]
  | .vscanmin _ b a _ => [vR a, mR b.toNat]
  | .vscanmax _ b a _ => [vR a, mR b.toNat]
  | .vmxsc _ _ _ a d => [vR a, vR d]
  | .mand b a _ => [mR a.toNat, mR b.toNat]
  | .mor b a _ => [mR a.toNat, mR b.toNat]
  | .mxor b a _ => [mR a.toNat, mR b.toNat]
  | .mandn b a _ => [mR a.toNat, mR b.toNat]
  | .mnot a _ => [mR a.toNat]
  | .mpopc a _ => [mR a.toNat]
  | .mfirst a _ => [mR a.toNat]
  | .mfromg a _ => [gR a]
  | .mtog a _ => [mR a.toNat]
  | .gori2 _ g a _ => [mR g.toNat] ++ (List.range 20).map (fun i => 32 + min 31 (a.toNat + i))
  | .gori3 _ g a _ => [mR g.toNat] ++ (List.range 20).map (fun i => 32 + min 31 (a.toNat + i))
  | .ginc _ g a _ => [mR g.toNat] ++ (List.range 20).map (fun i => 32 + min 31 (a.toNat + i))
  | .gins _ g a _ => [mR g.toNat] ++ (List.range 20).map (fun i => 32 + min 31 (a.toNat + i))
  | .gseg _ g a _ => [mR g.toNat] ++ (List.range 20).map (fun i => 32 + min 31 (a.toNat + i))
  | .xclr _ a => [gR a]
  | .xadd _ b a m => [gR a, vR b, mR m.toNat]
  | .xrnd a _ => [gR a]
  | .cbx _ _ _ a _ => [vR a]
  | _ => []
/-- A write to g0 or m0 is discarded (R32). -/
def discarded (r : Nat) : Bool := r == 0 || r == 64
/-- Whether head and tail write one register (R21). -/
def clash (h t : Instr) : Bool := (Instr.writes h).any (fun r => !discarded r && (Instr.writes t).contains r)
def Dest.number : Dest → Option Nat
  | .g r => some (gR r)
  | .v r => some (vR r)
  | _ => Option.none
/-- Whether a word must wait for an outstanding load of its slot: of a register that it reads or writes, or that its
prefix's scale reads. -/
def Slot.hazard (t : Slot) (i : Instr) : Bool :=
  let k := (Pfx.of t.latch).scl
  let scl := if t.pfxp && k != 0 then [32 + 24 + k] else []
  let l := scl ++ Instr.reads i ++ Instr.writes i
  t.loads.any (fun o => match o.dest.number with
    | some r => !discarded r && l.contains r
    | none => false)

/-! ### Whether a slot may issue (R82, R171, R309 to R317) -/

/-- Whether a word is a geometric predicate. -/
def isPredicate (w : BitVec 32) : Bool := !isC w && major w == 0x19
/-- A gang's leader waits for followers that are eight bundles behind (R309), or that may meet a trap of a predicate. -/
def State.leaderReady (s : State) (c j : Nat) : Bool :=
  (s.group c j).all (fun p =>
    let u := s.slot p.1 p.2
    u.leader != some (c, j) || (decide ((s.slot c j).issued < u.issued + 8) && u.predicate.isNone &&
      !u.bundles.any (fun b => isPredicate b.head)))
/-- The cores of a pair stand at one bundle, which completes on both or on neither (R314, R317, log 72). A primary does not
run ahead of its twin; a twin issues by itself to come to the wait in which its primary stands. -/
def State.twinReady (s : State) (c j : Nat) : Bool :=
  let t := s.slot c j
  let u := s.slot (twinOf c) j
  !(s.ctx t.ctx.toNat).pair || u.life == .free || u.taskid != t.taskid || decide (t.issued < u.issued) ||
    (u.issued == t.issued && (c % 2 == 0 || u.life != .running))
/-- Whether a slot stands at the bundle before which its group or a freeze stops it (R311, R317, R378), or stops short of it. -/
def State.mustStop (s : State) (c j : Nat) : Bool :=
  let t := s.slot c j
  s.phase == .running && t.going && (t.stopAt == some t.issued || s.abandons c j)
def State.mayIssue (s : State) (c j : Nat) : Bool :=
  let t := s.slot c j
  s.phase == .running && t.going && t.reply.isNone && t.life != .stalled .join && t.predicate.isNone &&
    (!t.frozen || t.stopAt.isSome) && ((s.dies[c / 256]?).getD {}).next.isNone && (t.leader.isNone || !t.bundles.isEmpty) &&
    (!t.gang || t.leader.isSome || s.leaderReady c j) && s.twinReady c j

/-! ### Cycles (R109, R166, R182) -/

/-- `LEFT` of a task after `n` core cycles in which it holds its slot; a follower's is its leader's (R310). -/
def Slot.cycles (t : Slot) (n : Nat) : Slot :=
  if t.going ∧ t.life ≠ .stalled .recv ∧ t.leader = none then { t with left := BitVec.ofNat 24 (t.left.toNat - n) } else t
/-- `n` cycles of core `c` in which nothing issues; those of a DVFS step's issue stop do not count (R171, R182). -/
def State.idle (s : State) (c n : Nat) : State :=
  s.modCore c (fun k => { k with slots := k.slots.map (fun t =>
    (if ((s.dies[c / 256]?).getD {}).next.isSome then t else t.cycles n).land) })
/-- A cycle of core `c` that `s0` began ends: its slots' budgets count and deposits land. -/
def State.cycle (s s0 : State) (c : Nat) : State :=
  s.modCore c (fun k => { k with slots := k.slots.mapFinIdx (fun i t _ =>
    let t0 := s0.slot c i
    let t := if t0.going && t.life != .free && t.taskid == t0.taskid then
        { t with left := (t0.cycles 1).left } else t
    if t0.mbLanding = 0 then t else t.land) })
/-- A core's virtual time of a context, of 64 bits, rises by 2^16 / `WEIGHT` for a bundle (R166), whose energy the core
meters (R169). -/
def State.charge (s : State) (c x : Nat) : State :=
  (s.modCore c (fun k => { k with vt := k.vt.set x ((k.vt.getD x 0 + 2 ^ 16 / (s.ctx x).weight) % 2 ^ 64) })).meter x
    (Config.bundleEnergy s.free)

/-! ### One bundle -/

/-- A bundle's words, or how its fetch ends (R20, R31, R336). A line that the instruction cache does not hold comes over
the dies, where it must, as soon as it can cross (R156, R356). -/
def State.fetch (s : State) : Except (Host.Outcome State Fault Refusal) (BitVec 32 × Option (BitVec 32)) :=
  let pc := s.me.pc
  let word (va : Word) : Except (Host.Outcome State Fault Refusal) (BitVec 32) :=
    match translate va .fetch s with
    | .ok (a, s') =>
      if s.heldBack s.myCore a && !(s.core s.myCore).icache.contains (a / 256) then .error (.next (stall s .hold))
      else .ok (BitVec.ofNat 32 (s'.num a 4))
    | .error (.trap x) => .error (execFetchPageTrap (x.taddr.setWidth 64)
        (if x.cause = Cause.eccUncorrectable then 7 else x.tval.setWidth 6) { s with cur := { s.cur with word := 0 } })
    | .error (.wait w s') => .error (.next (stall s' w))
  let frame (w : BitVec 32) : Host.Outcome State Fault Refusal :=
    .next (takeTrap s ⟨Cause.illegalFrame, w.setWidth 64, pc.setWidth 48⟩)
  match word pc with
  | .error e => .error e
  | .ok h =>
    if isHead h then
      match word (pc + 4) with
      | .error e => .error e
      | .ok t => if pc.toNat % 8 ≠ 0 ∨ !isTail t then .error (frame h) else .ok (h, some t)
    else if isTail h then .error (frame h)
    else .ok (h, none)

/-- The instruction of a word in its place; `GANG` and `SPLIT` stand alone (R307). -/
def inPlace (w : BitVec 32) : Option Instr :=
  match decodeWord w with
  | some (.gang k d) => if isHead w then none else some (.gang k d)
  | some .split => if isHead w then none else some .split
  | o => o

/-- The state in which a word runs, in its role. -/
def State.atWord (s : State) (r : Role) (w : BitVec 32) : State := { s with cur := { s.cur with role := r, word := w } }
/-- The state in which a slot issues. -/
def State.atSlot (s : State) (c : Fin 512) (j : Fin 5) : State := { s with cur := { core := c, slot := j } }
/-- The state with its agenda replaced. -/
def State.agendaTo (s : State) (l : List Act) : State := { s with agenda := l }

/-- How an exec of the issuing slot has ended. -/
inductive Ending where
  | done | gone | trap | wait
  deriving DecidableEq, Repr
def ending (t u : Slot) : Ending :=
  if u.life = .free ∨ u.taskid ≠ t.taskid ∧ u.issued ≠ t.issued + 1 then .gone
  else if u.life = .trapped ∧ u.issued = t.issued then .trap
  else if u.issued = t.issued then .wait
  else .done
/-- What a tail wrote, where `t` was before it and `o` is after it: its only effects (R21). -/
def Slot.wrote (t o : Slot) : Regs where
  g := (List.range 32).filterMap (fun i => (o.g[i]?).bind (fun x => if t.g[i]? = some x then none else some (i, x)))
  v := (List.range 32).filterMap (fun i => (o.v[i]?).bind (fun x => if t.v[i]? = some x then none else some (i, x)))
  m := (List.range 8).filterMap (fun i => (o.m[i]?).bind (fun x => if t.m[i]? = some x then none else some (i, x)))
  fflags := o.fflags &&& ~~~t.fflags
/-- Whether a head that waits has acted already: its request has left, or it has arrived where it waits. -/
def Slot.acting (t : Slot) : Bool := t.ask.isSome || t.life.joins
/-- What a tail leaves. Once its head has acted, its result stands, and is not computed again (R21). -/
def State.runTail (s : State) (tw : BitVec 32) (t : Instr) : Host.Outcome State Fault Refusal :=
  match s.me.begun with
  | some r => .next (s.modMe (fun u => (u.merge r).settle))
  | none => exec t (s.atWord .tail tw)
/-- A pair: both words read the state before the bundle, and neither has an effect when either traps (R21, R31). A head
acts only once its tail has its result, and is then past every trap of it. -/
def State.runPair (s : State) (hw tw : BitVec 32) (h t : Instr) : Host.Outcome State Fault Refusal :=
  let t0 := s.me
  match s.runTail tw t with
  | .next s2 =>
    let o := s2.me
    let sh := { s with cur := { s.cur with role := .head, word := hw, tail := if ending t0 o = .done then some o else none } }
    match exec h sh with
    | .next s1 =>
      (match ending t0 s1.me, ending t0 o with
        | .trap, _ => .next s1
        | .wait, .trap => match s1.me.life with
          | .stalled .walk => .next s1
          | .stalled .page => .next s1
          | .stalled .load => .next s1
          | .stalled .hold => .next s1
          | _ => .next s2
        | .wait, .done =>
          .next (if s1.me.acting && t0.begun.isNone then s1.modMe (fun u => { u with begun := some (t0.wrote o) }) else s1)
        | .wait, _ => .next (if s1.me.acting then s2 else s1)
        | _, .trap => .next s2
        | _, .wait => .next s2
        | .done, .done => .next (s1.modMe (fun u => u.merge (t0.wrote o)))
        | _, _ => .next s1)
    | e => e
  | e => e
/-- The words of a bundle, checked in the order of R31 and then run. -/
def State.runWords (s : State) (hw : BitVec 32) (tw : Option (BitVec 32)) : Host.Outcome State Fault Refusal :=
  let t := s.me
  match inPlace hw, tw with
  | none, _ => execReservedEncoding hw false s
  | some h, none =>
    let s := s.atWord .lone hw
    if t.pfxp && Instr.prefixBad h hw (Pfx.of t.latch) then .next (takeTrap s ⟨Cause.illegalPrefix, hw.setWidth 64, t.pc.setWidth 48⟩)
    else if t.hazard h then .next (stall s .load)
    else exec h s
  | some h, some w =>
    match inPlace w with
    | none =>
      -- the head's cause comes before the tail's (R31, R77)
      if (decodeWord (w &&& 0xFFFFFFFD)).any (fun k => clash h k) then
        .next (takeTrap (s.atWord .head hw) ⟨Cause.illegalInstruction, hw.setWidth 64, t.pc.setWidth 48⟩)
      else execReservedEncoding w true s
    | some k =>
      let s := s.atWord .head hw
      if clash h k then .next (takeTrap s ⟨Cause.illegalInstruction, hw.setWidth 64, t.pc.setWidth 48⟩)
      else if t.pfxp && Instr.prefixBad h hw (Pfx.of t.latch) then .next (takeTrap s ⟨Cause.illegalPrefix, hw.setWidth 64, t.pc.setWidth 48⟩)
      else if t.hazard h || t.hazard k then .next (stall s .load)
      else s.runPair hw w h k
/-- The bundle that a gang's leader has issued goes to the members that follow it and do not hold it yet (R309). -/
def State.follow (s s0 : State) (hw : BitVec 32) (tw : Option (BitVec 32)) : State :=
  let c := s0.myCore
  let j := s0.mySlot
  if !s0.me.gang || s0.me.leader.isSome then s
  else
    let t := s.me
    let next := if t.life.joins then t.pc + (if tw.isSome then 8 else 4) else t.pc
    let b : Bundle := {
      pc := s0.me.pc, head := hw, tail := tw, next := next
      result := if t.reply.isSome then none else some (t.rg (fld hw.toNat 8 5)), ev := t.ev }
    (s0.group c j).foldl (fun s p => s.modSlot p.1 p.2 (fun u =>
      if u.leader = some (c, j) ∧ u.issued + u.bundles.length = s0.me.issued then { u with bundles := u.bundles ++ [b] } else u)) s
/-- A follower that has issued its leader's bundle goes on where the leader went (R309, R310). -/
def Slot.followed (u : Slot) (b : Bundle) : Slot := { u with bundles := u.bundles.drop 1, pc := b.next }
/-- The words that a slot issues next: its leader's, or those at its PC. -/
def State.nextWords (s : State) : Except (Host.Outcome State Fault Refusal) (BitVec 32 × Option (BitVec 32)) :=
  match s.me.bundles, s.me.leader with
  | b :: _, some _ => .ok (b.head, b.tail)
  | _, _ => s.fetch
/-- A core without the stamps of its frames. -/
def Core.unstamped (k : Core) : Core :=
  { k with stamp := 0, frames := k.frames.map (fun p => (p.1, { p.2 with stamp := 0 })) }
/-- Whether a bundle that waits had an effect before its wait: it has issued (R82). -/
def State.acted (s v : State) (c j : Nat) : Bool :=
  let view (s : State) : Core := ((s.core c).setSlot j { s.slot c j with life := .running }).unstamped
  decide (view v ≠ view s) || decide (v.net ≠ s.net) || decide (v.coves ≠ s.coves)
/-- The lines of the bundle that `s` fetched come into the 64 KiB instruction cache of its core; which line leaves a full
one is free (R9, R13, log 14). -/
def State.cacheCode (s0 s : State) : State :=
  match s0.lookup s0.myCore s0.me.ctx.toNat s0.me.pc.toNat with
  | none => s
  | some t =>
    let a := s0.through t s0.me.pc.toNat / 256
    let l := (s.core s0.myCore).icache
    if l.contains a then s
    else if l.length < 256 then s.modCore s0.myCore (fun k => { k with icache := l ++ [a] })
    else { s with free := s.free + 1 }.modCore s0.myCore (fun k => { k with icache := l.eraseIdx (Config.freeNat s.free % 256) ++ [a] })
/-- The state after the issue that `s` began, where the bundle left `s'`: the cycle is counted, and a bundle that has
completed or ended its task is passed to a gang's followers and charged; so is one that trapped, and a predicate that
goes on in stage C. -/
def State.ended (s s' : State) (hw : BitVec 32) (tw : Option (BitVec 32)) : State :=
  let t := s.me
  let issued := ending t s'.me ≠ .wait ∨ s.acted s' s.myCore s.mySlot
  let s' := (s.cacheCode s').cycle s s.myCore
  let s' := if issued then s'.modCore s.myCore (fun k => { k with last := s.mySlot }) else s'
  match ending t s'.me with
  | .done =>
    let s' := (s'.follow s hw tw).charge s.myCore t.ctx.toNat
    (match t.bundles, t.leader with
      | b :: _, some _ => s'.modMe (fun u => u.followed b)
      | _, _ => s')
  | .gone => (s'.follow s hw tw).charge s.myCore t.ctx.toNat
  | .trap => s'.charge s.myCore t.ctx.toNat
  | .wait => if s'.me.predicate.isSome then s'.charge s.myCore t.ctx.toNat
      else if s'.me.life.joins then s'.follow s hw tw else s'
/-! ### Pairs (R314 to R317) -/

/-- The twin, or the primary, of a paired slot where it stands at the same bundle of the same task. -/
def State.partner (s : State) : Option (Fin 512) :=
  let d := twinOf s.myCore
  let u := s.slot d s.mySlot
  if h : d < 512 then
    if s.paired && u.going && u.taskid == s.me.taskid && u.issued == s.me.issued then some ⟨d, h⟩ else none
  else none
def Ending.passes (e : Ending) : Bool := e == .done || e == .gone
/-- What the words of the issuing slot leave by themselves, before the cycle is counted. -/
def State.runSelf (s : State) : Host.Outcome State Fault Refusal :=
  match s.nextWords with
  | .error e => e
  | .ok (hw, tw) => s.runWords hw tw
/-- A primary's bundle with that of its twin, core `d`: it completes when both complete. Where the twin traps, the primary
has not issued it (R317); where the twin waits, so does the primary. -/
def State.withTwin (s : State) (d : Fin 512) : Host.Outcome State Fault Refusal :=
  let u := s.slot d.val s.mySlot
  let wait (v : State) : State := stall { v with cur := s.cur } .pair
  match s.runSelf with
  | .next s1 =>
    if !(ending s.me s1.me).passes then .next s1
    else if u.reply.isSome || u.predicate.isSome then .next (wait s)
    else if u.left = 0 then .next { s.trapSlot d.val s.mySlot ⟨Cause.taskBudget, u.limit.setWidth 64, 0⟩ with cur := s.cur }
    else match (s1.atSlot d s.cur.slot).runSelf with
      | .next s2 => match ending u s2.me with
        | .trap => .next { s.trapSlot d.val s.mySlot ⟨s2.me.tcause, s2.me.tval, s2.me.taddr⟩ with cur := s.cur }
        | .wait => match (s.atSlot d s.cur.slot).runSelf with
          | .next s3 => .next (wait (if ending u s3.me = .wait then s3 else s))
          | e => e
        | _ => .next { s2 with cur := s1.cur }
      | e => e
  | e => e
/-- What the next bundle of the issuing slot leaves, before the cycle is counted. A twin by itself comes to a wait or a
trap; it completes with its primary, or after a predicate whose stage C work only its primary has. -/
def State.attempt (s : State) : Host.Outcome State Fault Refusal :=
  match s.partner with
  | none => s.runSelf
  | some d =>
    if s.myCore % 2 = 0 then s.withTwin d
    else match s.runSelf with
      | .next s' => .next (if (ending s.me s'.me).passes && (s.slot d.val s.mySlot).predicate.isNone then stall s .pair else s')
      | e => e
/-- The counting after a pair's bundle: on both cores where it has passed or the twin has trapped. -/
def State.endedPair (s s' : State) (d : Fin 512) (hw : BitVec 32) (tw : Option (BitVec 32)) : State :=
  let own : Bool := match s.runWords hw tw with
    | .next s1 => ending s.me s1.me == .trap
    | _ => false
  let twin (v : State) : State := match (s.atSlot d s.cur.slot).nextWords with
    | .ok (h, t) => { (s.atSlot d s.cur.slot).ended { v with cur := { v.cur with core := d } } h t with cur := v.cur }
    | .error _ => v
  match ending s.me s'.me with
  | .trap => if own then s.ended s' hw tw else (twin s').cycle s s.myCore
  | .wait => s.ended s' hw tw
  | _ => twin (s.ended s' hw tw)
/-- The issuing slot of `s.cur` issues: its bundle completes, traps or waits. -/
def State.issue (s : State) : Host.Outcome State Fault Refusal :=
  let c := s.myCore
  let j := s.mySlot
  let t := s.me
  if s.mustStop c j then .next (if t.frozen then s.stopFrozen c j else s.haltSlot c j)
  else if !s.mayIssue c j then .next s
  else if t.left = 0 ∧ t.leader = none then (if t.frozen then .next (s.stopFrozen c j) else execTaskBudget c j s)
  else match s.nextWords with
    | .error e => e
    | .ok (hw, tw) =>
      match s.attempt with
      | .next s' => .next (match s.partner with
        | some d => if c % 2 = 0 then s.endedPair s' d hw tw else s.ended s' hw tw
        | none => s.ended s' hw tw)
      | e => e

/-! ### The choice of a core (R82) -/

/-- Slots 0 to 4 from the one after `n`, wrapping. -/
def slotsAfter (n : Nat) : List Nat := (List.range 5).map (fun i => (n + 1 + i) % 5)
/-- A slot's issue in a cycle of its core. -/
def State.issueAt (s : State) (c j : Nat) : Host.Outcome State Fault Refusal :=
  if h : c < 512 ∧ j < 5 then (s.atSlot ⟨c, h.1⟩ ⟨j, h.2⟩).issue else .fault .noSuchAgent
/-- What the next bundle of a slot leaves, before the cycle is counted, and whether its words were fetched. -/
def State.trial (s : State) (c j : Nat) : Bool × Host.Outcome State Fault Refusal :=
  if h : c < 512 ∧ j < 5 then
    let u := s.atSlot ⟨c, h.1⟩ ⟨j, h.2⟩
    match u.nextWords with
    | .error e => (false, e)
    | .ok _ => (true, u.attempt)
  else (false, .fault .noSuchAgent)
/-- Whether a slot is ready: its next bundle does not wait for a result. One that acts and then waits issues, a data access
that asks for its walk among them (R82); a fetch that waits does not. -/
def State.readySlot (s : State) (c j : Nat) : Bool :=
  let t := s.slot c j
  s.mustStop c j || s.mayIssue c j && ((t.left == 0 && t.leader.isNone) || match s.trial c j with
    | (fetched, .next u) => match (u.slot c j).life with
      | .stalled _ => (u.slot c j).issued != t.issued || (fetched && s.acted u c j)
      | _ => true
    | _ => false)
/-- The slot that issues: a gang follower's slot 0, then the highest priority, then the first after the last issue. -/
def State.chosen (s : State) (c : Nat) : Option Nat :=
  let ready := (slotsAfter (s.core c).last).filter (s.readySlot c)
  match ready.find? (fun j => j == 0 && (s.slot c j).leader.isSome) with
  | some j => some j
  | none => ready.foldl (fun a j => match a with
    | none => some j
    | some b => if (s.slot c b).prio.toNat < (s.slot c j).prio.toNat then some j else a) none
/-- A slot whose next bundle cannot go on begins its wait, and issues nothing. -/
def State.beginWait (s : State) (c j : Nat) : State :=
  if c < 512 ∧ j < 5 then
    if (s.slot c j).life != .running || !s.mayIssue c j || s.readySlot c j then s
    else match s.trial c j with
      | (_, .next t) => { t with cur := s.cur }
      | _ => s
  else s
/-- A cycle of a core: slots that cannot go on wait, and the chosen one issues; where none is ready, the cycle passes. -/
def State.coreCycle (s : State) (c : Nat) : Host.Outcome State Fault Refusal :=
  let s := (slotsAfter (s.core c).last).foldl (fun s j => s.beginWait c j) s
  match s.chosen c with
  | some j => s.issueAt c j
  | none => .next (s.idle c 1)

/-! ### The agenda (log 4) -/

/-- Rows that only the issue of a bundle performs. -/
def ofIssue : Instr → Bool
  | .reservedEncoding .. => true
  | .fetchPageTrap .. => true
  | _ => false
/-- A TLB entry of a cove is evicted, with the copies of its cores (R340). -/
def State.dropTlb (s : State) (cove idx : Nat) : State :=
  match (s.cove cove).tlb[idx]? with
  | none => s
  | some t =>
    let s := s.modCove cove (fun k => { k with tlb := k.tlb.eraseIdx idx })
    ((List.range 8).map (coreAt cove)).foldl (fun s c => s.modCore c (fun k =>
      { k with tlb := k.tlb.filter (fun e => !(e.ctx == t.ctx && e.va == t.va && e.size == t.size)) })) s
/-- The sector of a byte leaves L1: its dirty bytes are written back with no tag, the others go at once (R129, R139,
R146). -/
def State.evictSector (s : State) (c a : Nat) : State :=
  (s.writeBack c (a / 128) none false).modCore c (fun k => { k with l1 := k.l1.filter (fun p => p.2.dirty || p.1 / 128 != a / 128) })
/-- Whether a load in flight has still to bring the byte at a stored address: none of its data becomes bad before it
returns (log 43). -/
def State.bringing (s : State) (a : Nat) : Bool :=
  s.cores.any (fun k => k.2.slots.toList.any (fun t => t.loads.any (fun l => !l.cove && l.pend.any (fun p =>
    decide (p.2 ≤ a) && decide (a < p.2 + l.size))))) ||
  s.net.any (fun m => match m.body with
    | .coveLoad x _ _ la n => match s.homeByte (m.dst / 8) x la with
      | some b => decide (b ≤ a) && decide (a < b + n)
      | none => false
    | _ => false)
/-- One entry of the agenda. -/
def State.act (s : State) (a : Act) : Host.Outcome State Fault Refusal :=
  match a with
  | .tick ns => .next { s with dtime := s.dtime + BitVec.ofNat 64 ns, headland := s.headland.tick ns }
  | .issue c j => s.issueAt c j
  | .core c => if c < 512 then s.coreCycle c else .fault .noSuchAgent
  | .idle c n => .next (s.idle c n)
  | .event i => if i.isEvent && !ofIssue i then exec i s else .next s
  | .land c j => .next (s.modSlot c j Slot.land)
  | .evict c a => .next (s.evictSector c a)
  | .evictLine l => .next { s with msc := s.msc.del l }
  | .chunk c f => .next (s.moveChunk c f)
  | .evictTlb v i => .next (s.dropTlb v i)
  | .host off bs => .next (if off + bs.length ≤ 0x2000 && s.sdioUp then s.putBytes (windowAt off) bs else s)
  | .poison x on => .next (if on && s.bringing x then s else { s with poison := if on then (if s.poison.contains x then s.poison else x :: s.poison) else s.poison.filter (· != x) })
  | .cccr on => .next { s with cccr := on }
  | .peer r d w l => .next (if (l = 4 ∨ l = 5) ∧ (s.link l).state.carries then
      s.post (Agent.device (bits r.head.toNat 60 2)) (Agent.device d) (.rhoash r d w (otherLink l)) else s)
  | .relay l x arg a gs => .next (if (l = 4 ∨ l = 5) ∧ (s.link l).state.carries ∧ s.phase = .running then s.relayed x arg a gs else s)
  | .hart => .next s.hartStep
  | .nor off bs => .next (if off + bs.length ≤ 2 ^ 24 then s.putBytes (norAt off) bs else s)
/-- The next step: the agenda's head, or an issue of the current slot. -/
def State.doStep (s : State) : Host.Outcome State Fault Refusal :=
  match s.agenda with
  | [] => s.issue
  | a :: l => (s.agendaTo l).act a

/-! ### Placing a program's first word (log 1) -/

/-- The leaf that `placeWord` uses: readable, writable and executable, at physical address 0. -/
def placedLeaf : Word := 0x3B
/-- The machine with a word where the current slot fetches next: a context that runs, a task in the slot, and the
translation of its page. -/
def State.placeWord (s : State) (w : BitVec 32) : State :=
  let c := s.myCore
  let pc := s.me.pc.toNat / 8 * 8 % 2 ^ 48
  let page := pc / 2 ^ 14 * 2 ^ 14
  let e : TlbEntry := ⟨0, page, 2 ^ 14, placedLeaf, 3⟩
  let x : Ctx := s.ctx 0
  let s := s.setCtx 0 { x with
    state := .ready, pair := false, cores := x.cores ||| BitVec.ofNat 512 (2 ^ c), weight := if x.weight = 0 then 16 else x.weight }
  let s := s.modMe (fun t => { t with
    life := .running, frozen := false, stopAt := none, reply := none, ask := none, got := none, begun := none, loads := [], walkFail := none
    gang := false, leader := none, bundles := [], ctx := 0, pc := BitVec.ofNat 64 pc
    limit := if t.limit = 0 then 4096 else t.limit, left := if t.left = 0 then 4096 else t.left })
  let s := s.modCore c (fun k => { k with tlb := e :: k.tlb.filter (fun t => !(t.ctx == 0 && decide (t.va ≤ pc) && decide (pc < t.va + t.size))) })
  let a := s.stored (pc - page)
  { s.putNum a 8 w.toNat with
    agenda := [], phase := .running, regionFrom := none, dies := s.dies.map (fun d => { d with next := none }) }

end Sys2Proof.Machine
end

