-- ==== Sys2Proof/Machine/Step.lean ====
section
/-! DEFINITION. One step of the machine, and the placing of the next instruction's word. -/

namespace Sys2Proof.Machine

/-- One step (R5, R6): the next entry of the agenda, or the current slot's bundle. -/
def step (s : State) : Host.Outcome State Fault Refusal := s.doStep

/-- The state with one instruction word where `step` fetches next. -/
def State.withFetchWord (s : State) (nbits w : Nat) : State := s.placeWord (BitVec.ofNat 32 (w % 2 ^ nbits))

end Sys2Proof.Machine
end

