-- ==== Sys2Proof/Safety.lean ====
section
/-! DEFINITION. The terms that statements use: what a run that stops nowhere is, what stays unchanged, and the invariant that every step keeps. -/

namespace Sys2Proof.Machine

/-- A run of `n` steps from `s` meets no fault and no refusal. -/
def safeRun : Nat → State → Prop
  | 0, _ => True
  | n + 1, s => ∃ t, step s = .next t ∧ safeRun n t

/-- Memory is in its canonical form: addresses rise strictly, and no entry equals what an unlisted byte reads as. -/
def State.MemOk (s : State) : Prop := Mem.wf s.mem = true

/-- A queue's positions count modulo twice its ring (R206). -/
def Queue.InRing (u : Queue) : Prop := u.head < 2 ^ (u.size + 1) ∧ u.tail < 2 ^ (u.size + 1)
/-- A boundary is a multiple of 4096 bytes: its low bits read zero (Table 4.9). -/
def OnPage (b : BitVec 22) : Prop := b.toNat % 4096 = 0
/-- A region entry whose reserved bits are zero (R359). -/
def EntryOk (e : BitVec 16) : Prop := e &&& 0xC03F = e
/-- The queues, boundaries, shadow entries and task counter of a core are in their ranges. -/
def Core.RangesOk (k : Core) : Prop :=
  (∀ q ∈ k.queues, q.2.InRing) ∧ (OnPage k.b0 ∧ OnPage k.b1 ∧ OnPage k.b2) ∧
  (OnPage k.pbnew0 ∧ OnPage k.pbnew1 ∧ OnPage k.pbnew2) ∧
  (∀ q ∈ k.committing, OnPage q.2.1 ∧ OnPage q.2.2.1 ∧ OnPage q.2.2.2) ∧ (∀ e ∈ k.shadow, EntryOk e.2) ∧
  (1 ≤ k.seq ∧ k.seq < 2 ^ 23)
/-- The counters of job identifiers of a cove are in their ranges (R261). -/
def Cove.RangesOk (v : Cove) : Prop := (1 ≤ v.mxe.seq ∧ v.mxe.seq < 2 ^ 26) ∧ (1 ≤ v.ebb.seq ∧ v.ebb.seq < 2 ^ 26)
/-- Queue positions, boundaries, region entries and identifier counters are in their ranges everywhere. -/
def State.RangesOk (s : State) : Prop :=
  (∀ p ∈ s.cores, p.2.RangesOk) ∧ (∀ p ∈ s.coves, p.2.RangesOk) ∧
  (∀ x ∈ s.ctxs, ∀ b ∈ x.2.binds, b.2.InRing) ∧ (∀ e ∈ s.regions ++ s.regionNew, EntryOk e.2) ∧
  (∀ q ∈ s.commits, OnPage q.2.2.1 ∧ OnPage q.2.2.2.1 ∧ OnPage q.2.2.2.2)

/-- Every byte reads the same: the stored byte, and the byte as each core sees it through its L1 (R139). -/
def BytesSame (s t : State) : Prop := (∀ a, t.byte a = s.byte a) ∧ (∀ c a, t.seen c a = s.seen c a)

/-- Nothing but the issuing slot differs between two states: with the old slot put back they are equal. -/
def ElsewhereSame (s t : State) : Prop := t.setMe s.me = s.setMe s.me

/-- A slot without its general, vector and mask registers, its PC, `FFLAGS`, the pending prefix and what every
completing bundle renews (`Slot.settle`): its mailboxes, event registers, CSRs, trap registers, budget and identity. -/
def Slot.special (t : Slot) : Slot :=
  { t with g := Vector.replicate 32 0, v := Vector.replicate 32 0, m := Vector.replicate 8 0, pc := 0, fflags := 0,
           pfxp := false, relBegun := false, relDone := false, ask := none, got := none, begun := none, walkFail := none, held := none,
           cbreq := none, joinOn := none, awaiting := [], wq := none, woken := none, agreed := false, copy := none,
           started := 0, issued := 0, feed := [], life := .free }

/-- Every special register, mailbox, event register and trap register of the issuing slot is unchanged. -/
def SpecialSame (s t : State) : Prop := t.me.special = s.me.special
/-- Every g register but `d` reads the same. -/
def GSame (s t : State) (d : BitVec 5) : Prop := ∀ r, r ≠ d → t.rg r = s.rg r
/-- Every v register but those of which `p` holds reads the same. -/
def VSame (s t : State) (p : BitVec 5 → Prop) : Prop := ∀ r, ¬ p r → t.rv r = s.rv r
/-- Every mask register but those whose low three bits satisfy `p` reads the same. -/
def MSame (s t : State) (p : Nat → Prop) : Prop := ∀ r, ¬ p (r % 8) → t.rmask r = s.rmask r

end Sys2Proof.Machine
end

