-- ==== Sys2Proof/Certificates/Slice0/Obligations.lean ====
section
/-! DEFINITION. The statements for the provers. Each docstring says what is claimed and where the spec says it. -/

namespace Sys2Proof.Machine

open Host (Outcome)

/-- The slot may issue a bundle of its own now: it may issue, no stop of its group is due, its budget is not spent, and no
other core of a pair stands at the bundle with it. -/
def Ready (s : State) : Prop :=
  s.agenda = [] ∧ s.mayIssue s.myCore s.mySlot = true ∧ s.me.stopAt ≠ some s.me.issued ∧ s.me.left ≠ 0 ∧ s.me.leader = none ∧
    s.partner = none
/-- The word at an address is in reach: it translates to stored address `a`, which no change of the region table and no link
keeps from the core (R156, R336, R356). -/
def Fetches (s : State) (va : Word) (a : Nat) : Prop :=
  translate va .fetch s = .ok (a, s) ∧ s.heldBack s.myCore a = false
/-- The comparison of an outbound effect lets the slot go on (R315): always outside a paired context, and in one once the
two copies agree; `go` says whether this core performs the effect. -/
def Passes (s : State) (go : Bool) : Prop := ∀ a data lanes, outbound a data lanes s = .ok (go, s)
/-- The state after the base register has taken its new value, where the form has one. -/
def based (s : State) (post : Bool) (b : BitVec 5) (nb : Word) : State := if post then s.wg b nb else s
/-- An access of the issuing slot in mode .l whose checks pass: aligned, within the context's local pages, at stored address
`a` of the resident frame `f`, with no access before it waiting for the page and no atomic of the slot on its bytes (R112,
R136, R344). -/
def LocalAt (s : State) (ea : Word) (n f a : Nat) : Prop :=
  ea.toNat % n = 0 ∧ ea.toNat + n ≤ 2 ^ 14 * s.myCtx.lpages ∧ s.local? s.myCore s.me.ctx.toNat ea.toNat = .here f a ∧
    (s.core s.myCore).mayEnter s.me.ctx.toNat (ea.toNat / 2 ^ 14) s.mySlot = true ∧ s.atomicPending false ea.toNat n = false
/-- The state after it: the frame is stamped, and dirty after a store. -/
def touched (s : State) (ea : Word) (f : Nat) (store : Bool) : State :=
  s.modCore s.myCore (fun k => (k.touch f store).entered s.me.ctx.toNat (ea.toNat / 2 ^ 14) s.mySlot)
/-- An access in mode .c whose checks pass: aligned, within the cove's share and a core of the context, at stored address
`b` of a page that is resident there with no access before it waiting (R112, R135, R345, R346; that its page is asked for
before it leaves its slot is the model's choice, log 43). -/
def CoveAt (s : State) (ea : Word) (n c la b : Nat) : Prop :=
  ea.toNat % n = 0 ∧ ea.toNat < 2 ^ 48 ∧ ea.toNat < 8 * s.myCtx.sws ∧ coveAddr s.myCore ea.toNat = (c, la) ∧ s.myCtx.has c = true ∧
    (∃ f, s.local? c s.me.ctx.toNat la = .here f b) ∧
    (s.core c).mayEnter s.me.ctx.toNat (la / 2 ^ 14) (farWho s.myCore s.mySlot) = true
/-- The state once the access has left its page's waiting accesses. -/
def reached (s : State) (c la : Nat) : State :=
  let q := (s.me.ctx.toNat, la / 2 ^ 14, farWho s.myCore s.mySlot)
  if (s.core c).waits.contains q then s.modCore c (fun k => k.entered q.1 q.2.1 q.2.2) else s
/-- Whether a core performs its outbound effects itself: outside a pair, and as its primary (R314). -/
def goes (s : State) : Bool := !s.paired || s.myCore % 2 == 0
/-- A virtual address that the TLBs translate by entry `e`, which allows the access, to stored address `a` (R336, R340). -/
def Translates (s : State) (ea : Word) (k : Acc) (e : TlbEntry) (a : Nat) : Prop :=
  ea.toNat < 2 ^ 48 ∧ s.lookup s.myCore s.me.ctx.toNat ea.toNat = some e ∧ e.allows k = true ∧ s.through e ea.toNat = a
/-- An access in mode .g whose checks pass: aligned and translated, held by no region commit, and with no atomic of the slot
on its bytes (R112, R136, R156). -/
def GlobalAt (s : State) (ea : Word) (n : Nat) (k : Acc) (e : TlbEntry) (a : Nat) : Prop :=
  ea.toNat % n = 0 ∧ Translates s ea k e a ∧ s.regionHeld s.myCore a = false ∧ s.atomicPending true a n = false
/-- Every byte of an access is at hand in the L1 of the issuing core (R82, R139). -/
def Hits (s : State) (a n : Nat) : Prop := s.paired = false ∧ s.l1Has s.myCore a n = true ∧ s.me.loading a n = false
/-- The issuing core's L1 has made room for the sectors that a store writes, and leaves `u`: clean sectors may have left, which
ones is free; a core of a pair that performs no store makes none (R13, log 24). -/
def RoomMade (s : State) (go : Bool) (secs : List Nat) (u : State) : Prop :=
  (if go then s.l1Make s.myCore secs secs.length else some s) = some u
/-- What the issuing core sees at addresses outside a store in mode .g: what it saw, but that a clean sector that left for want
of room shows memory's own byte again; a dirty byte stays (R13, R139, log 24). -/
def SeenElse (s t : State) (secs : List Nat) (k : Nat) : Prop :=
  t.seen s.myCore k = s.seen s.myCore k ∨
    ((s.core s.myCore).l1Fits secs = false ∧ t.seen s.myCore k = s.byte k ∧
      ∀ y, (s.core s.myCore).l1.find k = some y → y.dirty = false)
/-- Bytes as the issuing core sees them. -/
def seenBytes (s : State) (a n : Nat) : List Byte := (List.range n).map (fun i => s.seen s.myCore (a + i))
/-- The release of the issuing slot at a scope is done, and leaves `t` (R141). -/
def Released (s : State) (scope : Nat) (t : State) : Prop :=
  (s.me.relDone = true ∧ t = s) ∨ (s.me.relDone = false ∧
    (s.beginRelease scope).released s.myCore s.mySlot scope = true ∧ t = (s.beginRelease scope).endRelease)

end Sys2Proof.Machine

open Sys2Proof Sys2Proof.Machine

/-- Words of the spec decode to the instructions they stand for. The words that the spec writes out in the examples cited,
and at least one word of every major of both classes that holds instructions, built bit by bit from its encoding table
(HALT's 0x00800000 and an AMO.XADDV among them), decode to the instruction with the operands that the encoding gives.
A reserved word and a reserved type code decode to nothing. (R19, R22, R24, R28, R29, R33, R42 example (Table 2.16),
05_scalar_instructions.md R106 example, 06_vector_instructions.md example after R118, 09_kernel_task.md example,
10_queue.md example) -/
def Obligations.DecodedWords : Prop :=
  decodeWord 0x00000000 = some .nop ∧
  decodeWord 0x00400705 = some (.addi 16 0 7) ∧
  decodeWord 0x022FF604 = some (.pfx 0 0 0 1 1 3 31 22) ∧
  decodeWord 0x04004207 = some (.addi 256 2 2) ∧
  decodeWord 0xFFFCE705 = some (.addi 0x3FFF 7 7) ∧
  decodeWord 0xFF240716 = some (.bcc 0x7F9 1 0 7) ∧
  decodeWord 0x00052907 = some (.addi 1 9 9) ∧
  decodeWord 0x02042644 = some (.csrrs 0 0x021 6) ∧
  decodeWord 0x01148341 = some (.vadd 2 5 4 3) ∧
  decodeWord 0x020A2644 = some (.csrrs 0 0x051 6) ∧
  decodeWord 0x1F9C8368 = some (.spawn 63 7 4 3) ∧
  decodeWord 0x01800550 = some (.recv 3 5) ∧
  decodeWord 0x00800000 = some .halt ∧
  decodeWord 0x71366740 = some (.amoXaddv 2 13 19 7) ∧
  decodeWord 0b00000010101101100110011100000001 = some (.add 5 13 19 7) ∧
  decodeWord 0b10110011010111100110011100000101 = some (.addi 11479 19 7) ∧
  decodeWord 0b10110011010111100110011100001001 = some (.andi 11479 19 7) ∧
  decodeWord 0b10110011010111100110011100001101 = some (.ori 11479 19 7) ∧
  decodeWord 0b10110011010111100110011100010001 = some (.xori 11479 19 7) ∧
  decodeWord 0b01011001101011100110011100010101 = some (.slti 5739 19 7) ∧
  decodeWord 0b00000000100101100110011100011001 = some (.slli 37 19 7) ∧
  decodeWord 0b10110011010111100110011100011101 = some (.lui 11479 19 7) ∧
  decodeWord 0b10110011010111000000011100100001 = some (.addpc 11479 7) ∧
  decodeWord 0b01001011100101100110011100100101 = some (.ext 1 11 37 19 7) ∧
  decodeWord 0b00000010101101100110011100101001 = some (.mul 5 13 19 7) ∧
  decodeWord 0b00000111001101100110011100101101 = some (.fadd 14 13 19 7) ∧
  decodeWord 0b00001100101101100110011100110001 = some (.fma 25 13 19 7) ∧
  decodeWord 0b00000010101101100110011101000001 = some (.vadd 5 13 19 7) ∧
  decodeWord 0b00000111001101100110011101000101 = some (.vfadd 14 13 19 7) ∧
  decodeWord 0b01011100101101100110011101001001 = some (.vfma 5 25 13 19 7) ∧
  decodeWord 0b00000010101101100110011101001101 = some (.vand 5 13 19 7) ∧
  decodeWord 0b00000010101101100110011101010001 = some (.vceq 5 13 19 7) ∧
  decodeWord 0b10010111101101100110011101010101 = some (.vcvt 1 1 15 13 19 7) ∧
  decodeWord 0b00000010101101100110011101011001 = some (.vperm 5 13 19 7) ∧
  decodeWord 0b00000010100011100110011101011101 = some (.vredsum 5 3 19 7) ∧
  decodeWord 0b00000000000110000110010101100001 = some (.mand 6 3 5) ∧
  decodeWord 0b00011010000000010010010001100101 = some (.gori2 1 5 9 4) ∧
  decodeWord 0b00000111000000100110000001101001 = some (.xclr 14 19) ∧
  decodeWord 0b10111001100110100110011101101101 = some (.cbx 11 19 6 19 7) ∧
  decodeWord 0b10101111011101111111001000000100 = some (.pfx 2 5 1 1 11 5 31 18) ∧
  decodeWord 0b10110101101001011100001100001000 = some (.br 11904451) ∧
  decodeWord 0b10110101101001011100001100001100 = some (.brl 11904451) ∧
  decodeWord 0b00000000000000100110000000010000 = some (.jr 19) ∧
  decodeWord 0b10110011010101011011001100010100 = some (.bcc 1434 5 13 19) ∧
  decodeWord 0b10110011010110001010001100011000 = some (.bmask 1434 6 5 3) ∧
  decodeWord 0b10110011010110100111100100011100 = some (.loop 367315 25) ∧
  decodeWord 0b10110011011001011010011100100000 = some (.ld 358 6 1 13 7) ∧
  decodeWord 0b10110011010110011010011100100100 = some (.st 358 5 2 13 7) ∧
  decodeWord 0b10110011010101011010011100101000 = some (.vld 358 5 1 13 7) ∧
  decodeWord 0b10110011001110011010011100101100 = some (.vst 358 3 2 13 7) ∧
  decodeWord 0b01011010101101100110011100110000 = some (.vgather 5 2 2 1 13 19 7) ∧
  decodeWord 0b10110011000010011010000000110100 = some (.pref 358 2 13) ∧
  decodeWord 0b10010101101010011010011100111000 = some (.lda 37 3 2 2 13 7) ∧
  decodeWord 0b00001101000000000000000000111100 = some (.fence 1 1 2) ∧
  decodeWord 0b00000101001101100110011101000000 = some (.amoSwap 2 2 13 19 7) ∧
  decodeWord 0b01110000000010100010011101000100 = some (.csrrw 14 81 7) ∧
  decodeWord 0b00000000001101000110011101001000 = some (.mbtake 13 3 7) ∧
  decodeWord 0b00000101100000000000011101010000 = some (.recv 11 7) ∧
  decodeWord 0b00000000001101100110011101010100 = some (.emit 13 19 7) ∧
  decodeWord 0b00000010100000000000011101011000 = some (.tflush 5 7) ∧
  decodeWord 0b00000000000000100110011101011100 = some (.mxq 19 7) ∧
  decodeWord 0b00000000000000100110011101100000 = some (.ebq 19 7) ∧
  decodeWord 0b00000110101101100110011101100100 = some (.cbld 1 5 13 19 7) ∧
  decodeWord 0b00010010101101100110011101101000 = some (.spawn 37 13 19 7) ∧
  decodeWord 0b00000000001101100110000001101100 = some (.join 13 19) ∧
  decodeWord 0b00000001000000000000011101110000 = some (.gang 2 7) ∧
  decodeWord 0b00010100100000000000011101110100 = some (.barw 2 2 1 7) ∧
  decodeWord 0b00000000001101100110011101111000 = some (.waitq 13 19 7) ∧
  decodeWord 0b00000000000000100110000001111100 = some (.raise 19) ∧
  decodeWord 0b00000000110100000010010100100000 = some (.ld 1 5 0 1 5) ∧
  decodeWord 0b00000100000000000000000000111100 = some (.fence 0 1 0) ∧
  decodeWord 0b00010001100010000110001001000000 = some (.amoAdd 0 3 2 3 2) ∧
  decodeWord 0b00100000000000000000001001100101 = some (.gori3 0 0 0 2) ∧
  decodeWord 0b00000010000011000100001100011100 = some (.loop 0x1062 3) ∧
  decodeWord 0b00001000000000000000000001110100 = some (.barw 1 0 0 0) ∧
  decodeWord 0xFFFFFFFF = none ∧
  decodeWord 0x0C948341 = none

/-- Decoding an encoded A-class instruction gives it back. For every well-formed instruction whose word is an A-class
word, with every operand at every value that its encoding admits, the word fits 32 bits and the decoder reads the same
instruction from it. (R19, R23, R25, R26, R27, R29, R30, R33) -/
def Obligations.EncodeDecodesArithmetic : Prop :=
  ∀ (i : Instr) (n : Nat), encodeNat i = some n → n % 2 = 1 → i.WellFormed →
    n < 2 ^ 32 ∧ decodeWord (BitVec.ofNat 32 n) = some i

/-- Decoding an encoded C-class instruction gives it back. For every well-formed instruction whose word is a C-class word
(control, memory, queues, engines, tasks, traps), with every operand at every value that its encoding admits, the word
fits 32 bits and the decoder reads the same instruction from it. (R19, R23, R24, R27, R28, R30, R32) -/
def Obligations.EncodeDecodesControl : Prop :=
  ∀ (i : Instr) (n : Nat), encodeNat i = some n → n % 2 = 0 → i.WellFormed →
    n < 2 ^ 32 ∧ decodeWord (BitVec.ofNat 32 n) = some i

/-- A lone word that decodes is the encoding of what it decodes to. Where a lone word (frame 0b00 or 0b01) decodes to an
instruction, encoding that instruction gives back the same word: no fixed or reserved bit of a lone word is ignored,
so every other word of its row is a reserved encoding. (R19, R27, R30) -/
def Obligations.LoneWordHasOneMeaning : Prop :=
  ∀ (w : BitVec 32) (i : Instr), isHead w = false → isTail w = false → decodeWord w = some i → encode i = some w

/-- What decodes is well-formed, reserved majors decode to nothing, and only the word 0 is NOP. A word that decodes gives
a well-formed instruction of a word, never a device event. A C-class word with major 0x13 or 0x20 to 0x3F, and an
A-class word with major 0x0D to 0x0F or 0x1C to 0x3F, decodes to nothing. No word but 0 decodes to NOP; for
0x00000002, NOP's fields under the frame of a pair head, that is the model's choice (log 79). (R22, R28, R29, R30,
notes/assumptions/79.md) -/
def Obligations.DecodedIsWellFormed : Prop :=
  (∀ (w : BitVec 32) (i : Instr), decodeWord w = some i → i.WellFormed ∧ i.isEvent = false) ∧
  (∀ w : BitVec 32, isC w = true → (major w = 0x13 ∨ 0x20 ≤ major w) → decodeWord w = none) ∧
  (∀ w : BitVec 32, isC w = false → ((0x0D ≤ major w ∧ major w ≤ 0x0F) ∨ 0x1C ≤ major w) → decodeWord w = none) ∧
  (∀ w : BitVec 32, decodeWord w = some .nop → w = 0)

/-- A step runs the instruction that the bytes at the PC decode to. Where the slot may issue, its PC translates to a
stored address, the four bytes there are a lone word and decode to the instruction i, no pending prefix makes it
illegal and no outstanding load stands in its way, the step is exec of i on the same state with that word as the
current one, followed by the end of the issue (State.ended: one cycle of the budget, the gang's followers, the charge
of virtual time); a fault or refusal of exec is the step's. (R5, R19, R31, R82, R166, R182, R336) -/
def Obligations.StepRunsDecoded : Prop :=
  ∀ (s : State) (a : Nat) (i : Instr), Ready s → Fetches s s.me.pc a →
    s.num a 4 % 4 < 2 → decodeBytes (s.bytes a 4) = .ok (i, []) →
    (s.me.pfxp && Instr.prefixBad i (BitVec.ofNat 32 (s.num a 4)) (Pfx.of s.me.latch)) = false → s.me.hazard i = false →
    step s = (match exec i (s.atWord .lone (BitVec.ofNat 32 (s.num a 4))) with
      | .next t => .next (State.ended s t (BitVec.ofNat 32 (s.num a 4)) none)
      | e => e)

/-- A step runs a pair of words as one bundle, a follower's bundle, a redundant pair's bundle on both cores, and the
device event that the agenda names. Where the slot may issue at a PC that is a multiple of 8, and the words at the PC
and at the PC + 4 are a head that decodes to h and a tail that decodes to k, neither GANG nor SPLIT, which write no
register in common, and no prefix or hazard stands in the way, the step is the run of the two words together
(State.runPair), followed by the end of the issue. A gang's follower that may issue runs the words of the first bundle
that its leader has handed it (R309). Where the primary of a redundant pair and its twin, core d, stand at one bundle,
its words pass on the primary, and the twin awaits no reply, holds no predicate and has budget left: if the twin's run
of it passes too, the step is both runs, each followed by the end of its issue (State.endedPair); if the twin traps,
the step is the state before the primary's run with that trap taken (R314, R317); that both complete a bundle in one
step is the model's choice (log 72). Where the agenda's first entry is an event of the device, other than the two rows
that only an issue performs, the step is exec of it on the state without that entry: that an agenda names the acting
event is the model's choice (log 4), and so is the order in which the words of a pair that waits are run, inside
State.runPair (log 22). (R5, R6, R19, R21, R31, R307, R309, R314, R317, notes/assumptions/4.md,
notes/assumptions/22.md, notes/assumptions/72.md) -/
def Obligations.StepRunsPairsAndEvents : Prop :=
  (∀ (s : State) (a b : Nat) (h k : Instr), Ready s → s.me.pc.toNat % 8 = 0 →
    Fetches s s.me.pc a → Fetches s (s.me.pc + 4) b →
    s.num a 4 % 4 = 2 → s.num b 4 % 4 = 3 →
    decodeBytes (s.bytes a 4) = .ok (h, []) → decodeBytes (s.bytes b 4) = .ok (k, []) →
    (∀ n d, h ≠ .gang n d) → h ≠ .split → clash h k = false → s.me.pfxp = false →
    s.me.hazard h = false → s.me.hazard k = false →
    step s = (match State.runPair (s.atWord .head (BitVec.ofNat 32 (s.num a 4)))
        (BitVec.ofNat 32 (s.num a 4)) (BitVec.ofNat 32 (s.num b 4)) h k with
      | .next t => .next (State.ended s t (BitVec.ofNat 32 (s.num a 4)) (some (BitVec.ofNat 32 (s.num b 4))))
      | e => e)) ∧
  (∀ (s : State) (b : Bundle) (l : List Bundle) (x : Nat × Nat), s.agenda = [] → s.mayIssue s.myCore s.mySlot = true →
    s.me.stopAt ≠ some s.me.issued → s.partner = none → s.me.leader = some x → s.me.bundles = b :: l →
    step s = (match s.runWords b.head b.tail with
      | .next t => .next (State.ended s t b.head b.tail)
      | e => e)) ∧
  (∀ (s s1 s2 : State) (d : Fin 512) (hw : BitVec 32) (tw : Option (BitVec 32)), s.agenda = [] →
    s.mayIssue s.myCore s.mySlot = true → s.me.stopAt ≠ some s.me.issued → s.me.left ≠ 0 → s.partner = some d →
    s.myCore % 2 = 0 → s.nextWords = .ok (hw, tw) → s.runWords hw tw = .next s1 → (ending s.me s1.me).passes = true →
    (s.slot d s.mySlot).reply = none → (s.slot d s.mySlot).predicate = none → (s.slot d s.mySlot).left ≠ 0 →
    (s1.atSlot d s.cur.slot).runSelf = .next s2 →
    ((ending (s.slot d s.mySlot) s2.me).passes = true →
      step s = .next (s.endedPair { s2 with cur := s1.cur } d hw tw)) ∧
    (ending (s.slot d s.mySlot) s2.me = .trap →
      step s = .next (s.endedPair { s.trapSlot d s.mySlot ⟨s2.me.tcause, s2.me.tval, s2.me.taddr⟩ with cur := s.cur } d hw tw))) ∧
  (∀ (s : State) (i : Instr) (l : List Act), s.agenda = .event i :: l → i.isEvent = true → ofIssue i = false →
    step s = exec i (s.agendaTo l))

/-- Illegal frames, reserved words and double writes trap before the bundle has any effect. Where the slot may issue and
its first word is in reach: a tail takes ILLEGAL_FRAME; a head at an address that is no multiple of 8, or whose second
word is in reach and no tail, takes ILLEGAL_FRAME; a lone word that is no instruction takes ILLEGAL_INSTRUCTION. A
head and a tail that write one register other than g0 and m0 take ILLEGAL_INSTRUCTION at the head. TVAL holds the
word, TADDR and TEPC its address, and the state that traps is the one before the bundle. (R20, R21, R30, R31, R373) -/
def Obligations.FrameTraps : Prop :=
  (∀ (s : State) (hw tw : BitVec 32) (h k : Instr), isHead hw = true → isTail tw = true →
    inPlace hw = some h → inPlace tw = some k →
    (∃ r, r ∈ Instr.writes h ∧ r ∈ Instr.writes k ∧ r ≠ 0 ∧ r ≠ 64) →
    s.runWords hw (some tw) = .next (takeTrap (s.atWord .head hw)
      ⟨Cause.illegalInstruction, hw.setWidth 64, s.me.pc.setWidth 48⟩)) ∧
  ∀ (s : State) (a b : Nat), Ready s → Fetches s s.me.pc a →
    let w := BitVec.ofNat 32 (s.num a 4)
    (isTail w = true →
      s.nextWords = .error (.next (takeTrap s ⟨Cause.illegalFrame, w.setWidth 64, s.me.pc.setWidth 48⟩))) ∧
    (isHead w = true → Fetches s (s.me.pc + 4) b →
      (s.me.pc.toNat % 8 ≠ 0 ∨ isTail (BitVec.ofNat 32 (s.num b 4)) = false) →
      s.nextWords = .error (.next (takeTrap s ⟨Cause.illegalFrame, w.setWidth 64, s.me.pc.setWidth 48⟩))) ∧
    (isHead w = false → isTail w = false → decodeWord w = none →
      s.runWords w none = .next (takeTrap s
        ⟨Cause.illegalInstruction, w.setWidth 64, s.me.pc.setWidth 48⟩))

/-- A core chooses the ready slot by group, priority and turn, and a spent budget traps instead of an issue. Where a slot
that follows no leader may issue, no stop of its group is due and LEFT is 0, the step takes TASK_BUDGET with the
task's limit in TVAL. The slot that a cycle of a core chooses is ready; it is a gang follower's slot 0 where that is
ready, and otherwise of the highest priority among the ready slots and, among equals, the first one after the slot
that issued most recently, counting slots 0 to 4 and wrapping. None is chosen only where no slot is ready. (R82, R182,
R373) -/
def Obligations.CoreChoiceAndBudget : Prop :=
  (∀ s : State, s.agenda = [] → s.mayIssue s.myCore s.mySlot = true → s.me.stopAt ≠ some s.me.issued →
    s.me.leader = none → s.me.left = 0 → s.me.frozen = false →
    step s = .next (s.trapSlot s.myCore s.mySlot ⟨Cause.taskBudget, s.me.limit.setWidth 64, 0⟩)) ∧
  (∀ (s : State) (c : Nat),
    let turn : Nat → Nat := fun j => (j + 4 - (s.core c).last % 5) % 5
    let follows : Nat → Prop := fun j => j = 0 ∧ (s.slot c 0).leader.isSome = true
    (∀ j, s.chosen c = some j → j < 5 ∧ s.readySlot c j = true ∧ (follows j ∨ ∀ i, i < 5 → s.readySlot c i = true →
      ¬ follows i ∧ ((s.slot c i).prio.toNat < (s.slot c j).prio.toNat ∨
        ((s.slot c i).prio = (s.slot c j).prio ∧ turn j ≤ turn i)))) ∧
    (s.chosen c = none → ∀ i, i < 5 → s.readySlot c i = false))

/-- No instruction and no event ends in a fault or a refusal, and a step stops only on an agent that the device does not
have. In every state, exec of every constructor of Instr answers a next state: what the spec makes a trap is a trap
taken, what it makes a wait is a wait, and an event that is not enabled leaves the state as it is. In every state, the
step answers a next state unless the agenda's first entry names a core index of 512 or more, or an issue of a slot of
5 or more; then it is the fault noSuchAgent (that an agenda names who acts next, and this answer to an agent that R8
and R69 do not give the device, are the model's choice, log 4). No step is ever refused. (R5, R8, R30, R69, R373,
98_reader.md, notes/assumptions/4.md) -/
def Obligations.NothingStopsButNoSuchAgent : Prop :=
  (∀ (i : Instr) (s : State), ∃ t, exec i s = .next t) ∧
  ∀ s : State,
    ((∃ c j l, s.agenda = .issue c j :: l ∧ ¬ (c < 512 ∧ j < 5)) ∨ (∃ c l, s.agenda = .core c :: l ∧ ¬ c < 512) →
      step s = .fault .noSuchAgent) ∧
    ((∀ c j l, s.agenda = .issue c j :: l → c < 512 ∧ j < 5) → (∀ c l, s.agenda = .core c :: l → c < 512) → ∃ t, step s = .next t)

/-- What reset leaves: the values that the spec gives, and two that the model chooses. After reset the device is held, no
context exists, no slot holds a task and none has a pending prefix, POOLB0 to POOLB2 hold the reset column of Table
4.7 (the one that Table 4.9 with R73 gives for their new values), every region granule is valid and maps to its die in
order, EMITTO, BARTO and HINTDROP of an empty slot hold the reset column of Table 4.7 and FFLAGS that of Table 3.6,
and CONF holds the reset column of Table 21.2. Two values are the model's choice and no rule of the spec: DTIME is 0
(log 3), and memory lists nothing, in canonical form (log 2). (R72, R73, R75, R359, R397, Table 3.6, Table 4.7, Table
4.9, Table 21.2, notes/assumptions/2.md, notes/assumptions/3.md) -/
def Obligations.ResetState : Prop :=
  State.reset.phase = .held ∧ State.reset.ctxs = [] ∧ State.reset.dtime = 0 ∧ State.reset.mem = [] ∧ State.reset.MemOk ∧
  (∀ c j, (State.reset.slot c j).life = .free ∧ (State.reset.slot c j).pfxp = false) ∧
  (∀ c, (State.reset.core c).b0 = 0x8000 ∧ (State.reset.core c).b1 = 0x48000 ∧ (State.reset.core c).b2 = 0x200000) ∧
  (∀ c j, (State.reset.slot c j).emitto = 4096 ∧ (State.reset.slot c j).barto = 1000000 ∧
    (State.reset.slot c j).hintdrop = 0 ∧ (State.reset.slot c j).fflags = 0) ∧
  (∀ i, i < 128 → State.reset.stored (i * 2 ^ 30) = i * 2 ^ 30) ∧
  State.reset.conf = 0x005F012C004C010F

/-- Every step keeps memory in its canonical form. From every state whose memory is in canonical form (addresses strictly
rising, no entry equal to what an unlisted byte reads as: the model's form, log 2), a step that answers a next state
leaves memory in canonical form. (R2, R5, notes/assumptions/2.md) -/
def Obligations.MemoryFormKept : Prop :=
  ∀ s t : State, s.MemOk → step s = .next t → t.MemOk

/-- Every step keeps queue positions, boundaries, region entries and identifier counters in their ranges. From every state
in which every queue's head and tail, of the live queues and of those that a creation has prepared, are positions of
its ring counted modulo twice its size (R206), the boundaries of every core, those of PBNEW and those of every commit
on its way are multiples of 4096 bytes (their low bits read zero, Table 4.9), the reserved bits of every region entry,
shadow entry and entry of a running commit are zero (R359), and the counters that give task, job and fetch identifiers
are at least 1 and below the end of their fields (R178, R261), a step that answers a next state leaves all of these
so. These hold at reset. In every state g0 reads 0 and m0 reads all ones. (R5, R32, R73, R178, R206, R261, R359, Table
4.9) -/
def Obligations.RangesKept : Prop :=
  (∀ s t : State, s.RangesOk → step s = .next t → t.RangesOk) ∧ State.reset.RangesOk ∧
  (∀ s : State, s.rg 0 = 0 ∧ s.rmask 0 = BitVec.allOnes 64)

/-- A byte written reads back, and every other byte is unchanged. Setting a byte of memory makes that address read the
byte, leaves every other address as it was, and keeps the canonical form; clearing a range makes it read as unlisted
and leaves the rest; two memories in canonical form that read the same everywhere are equal. Storing the n low bytes
of a number makes those n bytes read as the number modulo 256 to the n, lowest first, and leaves every byte outside
them. (R2) -/
def Obligations.MemoryReadsBack : Prop :=
  (∀ (m : List Host.Cell) (a b : Nat) (x : Byte), Mem.wf m = true →
    Mem.get (Mem.set m a x) b = (if b = a then x else Mem.get m b) ∧ Mem.wf (Mem.set m a x) = true) ∧
  (∀ (m : List Host.Cell) (lo n b : Nat), Mem.wf m = true →
    Mem.get (Mem.clear m lo n) b = (if lo ≤ b ∧ b < lo + n then Mem.unlisted else Mem.get m b) ∧
      Mem.wf (Mem.clear m lo n) = true) ∧
  (∀ m k : List Host.Cell, Mem.wf m = true → Mem.wf k = true → (∀ a, Mem.get m a = Mem.get k a) → m = k) ∧
  (∀ (s : State) (a n x : Nat), s.MemOk →
    (s.putNum a n x).num a n = x % 256 ^ n ∧
    (∀ b, (b < a ∨ a + n ≤ b) → (s.putNum a n x).byte b = s.byte b) ∧ (s.putNum a n x).MemOk)

/-- The integer register-register and multiply-divide groups complete with the value of their tables. In every state, for
every type code and operand, ADD, SUB, SLT, MIN, MAX, ADDS, SUBS, AND, OR, XOR, SLL, SRL, SRA, CLZ, CTZ, POPC, MUL,
MULH, DIV, REM and MULS answer the next state in which gd holds write_int of the value of Tables 5.2 and 5.3 (nothing
is written for g0) and the bundle is complete. (R81, R84, R91) -/
def Obligations.ScalarIntegerResults : Prop :=
  ∀ (s : State) (t b a d : BitVec 5),
    let w := typeBits t.toNat
    let x := (s.rg a).toNat
    let y := (s.rg b).toNat
    let R : Int → Out := fun v => .next ((s.wg d (writeInt v t.toNat)).advance)
    exec (.add t b a d) s = R (readInt x t.toNat + readInt y t.toNat) ∧
    exec (.sub t b a d) s = R (readInt x t.toNat - readInt y t.toNat) ∧
    exec (.slt t b a d) s = R ((if readInt x t.toNat < readInt y t.toNat then 1 else 0)) ∧
    exec (.min t b a d) s = R (min (readInt x t.toNat) (readInt y t.toNat)) ∧
    exec (.max t b a d) s = R (max (readInt x t.toNat) (readInt y t.toNat)) ∧
    exec (.adds t b a d) s = R (saturate (readInt x t.toNat + readInt y t.toNat) t.toNat) ∧
    exec (.subs t b a d) s = R (saturate (readInt x t.toNat - readInt y t.toNat) t.toNat) ∧
    exec (.and t b a d) s = R (((x % 2 ^ w &&& y % 2 ^ w : Nat) : Int)) ∧
    exec (.or t b a d) s = R (((x % 2 ^ w ||| y % 2 ^ w : Nat) : Int)) ∧
    exec (.xor t b a d) s = R (((x % 2 ^ w ^^^ y % 2 ^ w : Nat) : Int)) ∧
    exec (.sll t b a d) s = R (((x % 2 ^ w * 2 ^ (y % 2 ^ w % w) : Nat) : Int)) ∧
    exec (.srl t b a d) s = R (((x % 2 ^ w / 2 ^ (y % 2 ^ w % w) : Nat) : Int)) ∧
    exec (.sra t b a d) s = R ((sval w (x % 2 ^ w) / 2 ^ (y % 2 ^ w % w))) ∧
    exec (.mul t b a d) s = R (readInt x t.toNat * readInt y t.toNat) ∧
    exec (.mulh t b a d) s = R (readInt x t.toNat * readInt y t.toNat / 2 ^ w) ∧
    exec (.div t b a d) s = R ((if readInt y t.toNat = 0 then -1 else (readInt x t.toNat).tdiv (readInt y t.toNat))) ∧
    exec (.rem t b a d) s = R ((if readInt y t.toNat = 0 then readInt x t.toNat else readInt x t.toNat - readInt y t.toNat * (readInt x t.toNat).tdiv (readInt y t.toNat))) ∧
    exec (.muls t b a d) s = R (saturate (readInt x t.toNat * readInt y t.toNat) t.toNat) ∧
    exec (.clz t a d) s = R (clz w (x % 2 ^ w) : Nat) ∧
    exec (.ctz t a d) s = R (ctz w (x % 2 ^ w) : Nat) ∧
    exec (.popc t a d) s = R (popcount w (x % 2 ^ w) : Nat)

/-- SLTI, SLTIZ, the immediate shifts and rotation, EXT and INS complete with the value of their rules. In every state,
SLTI, SLTIZ, SLLI, SRLI, SRAI, RORI, EXT and INS answer the next state in which gd holds the value of R86, R87 and
R90, and the bundle is complete: a signed or unsigned compare with the sign-extended 13-bit immediate, a shift or
rotation by the amount, the bit field of the source sign- or zero-extended, and gd with the field's bits replaced by
the source's low bits. (R86, R87, R90) -/
def Obligations.ScalarImmediateResults : Prop :=
  ∀ (s : State) (a d : BitVec 5),
    let R : Word → Out := fun v => .next ((s.wg d v).advance)
    (∀ i : BitVec 13, exec (.slti i a d) s = R (if (s.rg a).toInt < i.toInt then 1 else 0)) ∧
    (∀ i : BitVec 13, exec (.sltiz i a d) s = R (if (s.rg a).toNat < (i.signExtend 64).toNat then 1 else 0)) ∧
    (∀ n : BitVec 6, exec (.slli n a d) s = R (BitVec.ofNat 64 ((s.rg a).toNat * 2 ^ n.toNat))) ∧
    (∀ n : BitVec 6, exec (.srli n a d) s = R (BitVec.ofNat 64 ((s.rg a).toNat / 2 ^ n.toNat))) ∧
    (∀ n : BitVec 6, exec (.srai n a d) s = R (BitVec.ofInt 64 ((s.rg a).toInt / 2 ^ n.toNat))) ∧
    (∀ n : BitVec 6, exec (.rori n a d) s = R ((s.rg a).rotateRight n.toNat)) ∧
    (∀ l p : BitVec 6, exec (.ext 0 l p a d) s = R (BitVec.ofNat 64 (bits (s.rg a).toNat p.toNat (l.toNat + 1)))) ∧
    (∀ l p : BitVec 6, exec (.ext 1 l p a d) s = R (sext (l.toNat + 1) (bits (s.rg a).toNat p.toNat (l.toNat + 1)))) ∧
    (∀ l p : BitVec 6, p.toNat + (l.toNat + 1) ≤ 64 → ∃ v, exec (.ins l p a d) s = R v ∧
      bits v.toNat p.toNat (l.toNat + 1) = (s.rg a).toNat % 2 ^ (l.toNat + 1) ∧
      (∀ k, k < 64 → (k < p.toNat ∨ p.toNat + (l.toNat + 1) ≤ k) → v.getLsbD k = (s.rg d).getLsbD k))

/-- ADDI, ANDI, ORI and XORI act on 64 bits with the sign-extended immediate. Rule R85 whole: the four instructions are A
majors 0x01 to 0x04 with the immediate at [31:18], a at [17:13] and d at [12:8], and in every state they answer the
next state in which gd holds the 64-bit sum, AND, OR or XOR of ga and the sign-extended immediate (nothing is written
for g0). (R85) -/
def Obligations.ImmediateAluR85 : Prop :=
  ∀ (s : State) (i : BitVec 14) (a d : BitVec 5),
    let R : Word → Out := fun v => .next ((s.wg d v).advance)
    exec (.addi i a d) s = R (BitVec.ofNat 64 ((s.rg a).toNat + (i.signExtend 64).toNat)) ∧
    exec (.andi i a d) s = R (s.rg a &&& i.signExtend 64) ∧
    exec (.ori i a d) s = R (s.rg a ||| i.signExtend 64) ∧
    exec (.xori i a d) s = R (s.rg a ^^^ i.signExtend 64) ∧
    encode (.addi i a d) = some (i ++ a ++ d ++ (0x01 : BitVec 6) ++ (1 : BitVec 2)) ∧
    encode (.andi i a d) = some (i ++ a ++ d ++ (0x02 : BitVec 6) ++ (1 : BitVec 2)) ∧
    encode (.ori i a d) = some (i ++ a ++ d ++ (0x03 : BitVec 6) ++ (1 : BitVec 2)) ∧
    encode (.xori i a d) = some (i ++ a ++ d ++ (0x04 : BitVec 6) ++ (1 : BitVec 2))

/-- LUI shifts ga left by 14 and adds the unsigned immediate. Rule R88 whole: LUI is A major 0x07 in the AI format and
writes gd := (ga × 2^14 + imm) mod 2^64 with imm read as unsigned; every 32-bit constant is built by one ADDI for its
top bits and two LUIs, and every 64-bit constant by one ADDI for its top eight bits and four LUIs. (R88) -/
def Obligations.LuiR88 : Prop :=
  (∀ (s : State) (i : BitVec 14) (a d : BitVec 5),
    exec (.lui i a d) s = .next ((s.wg d (BitVec.ofNat 64 ((s.rg a).toNat * 2 ^ 14 + i.toNat))).advance) ∧
    encode (.lui i a d) = some (i ++ a ++ d ++ (0x07 : BitVec 6) ++ (1 : BitVec 2))) ∧
  (∀ (s s1 s2 s3 : State) (x : BitVec 32) (d : BitVec 5), d ≠ 0 →
    exec (.addi (BitVec.ofNat 14 (x.toNat / 2 ^ 28)) 0 d) s = .next s1 →
    exec (.lui (BitVec.ofNat 14 (x.toNat / 2 ^ 14)) d d) s1 = .next s2 →
    exec (.lui (BitVec.ofNat 14 x.toNat) d d) s2 = .next s3 → s3.rg d = x.setWidth 64) ∧
  (∀ (s s1 s2 s3 s4 s5 : State) (x : Word) (d : BitVec 5), d ≠ 0 →
    exec (.addi (BitVec.ofNat 14 (x.toNat / 2 ^ 56)) 0 d) s = .next s1 →
    exec (.lui (BitVec.ofNat 14 (x.toNat / 2 ^ 42)) d d) s1 = .next s2 →
    exec (.lui (BitVec.ofNat 14 (x.toNat / 2 ^ 28)) d d) s2 = .next s3 →
    exec (.lui (BitVec.ofNat 14 (x.toNat / 2 ^ 14)) d d) s3 = .next s4 →
    exec (.lui (BitVec.ofNat 14 x.toNat) d d) s4 = .next s5 → s5.rg d = x)

/-- ADDPC adds the scaled immediate to the address of its own word. Rule R89 whole: ADDPC is A major 0x08 in the AI format
with field a zero, and writes gd := A + sign_extend(imm14) × 4, where A is the PC for a lone word and the PC + 4 for a
tail; a word with field a not zero is no instruction. (R89) -/
def Obligations.AddpcR89 : Prop :=
  (∀ (s : State) (i : BitVec 14) (d : BitVec 5),
    let A := if s.cur.role = .tail then s.me.pc + 4 else s.me.pc
    exec (.addpc i d) s = .next ((s.wg d (A + i.signExtend 64 * 4)).advance) ∧
    encode (.addpc i d) = some (i ++ (0 : BitVec 5) ++ d ++ (0x08 : BitVec 6) ++ (1 : BitVec 2))) ∧
  (∀ w : BitVec 32, isC w = false → major w = 0x08 → bits w.toNat 13 5 ≠ 0 → decodeWord w = none)

/-- Scalar floating point completes with the value of its table and ORs its flags. In every state, FADD, FSUB, FMUL, FDIV,
FSQRT, FMIN, FMAX, FSGNJ, FSGNJN, FSGNJX, FEQ, FLT, FLE, FMA and FNMA answer the next state in which gd holds, zero-
extended, the result on the low bits of the sources in the type's format under the rounding mode in force, and the
operation's flags are ORed into FFLAGS; FCLASS writes its class bits and sets no flag. FMA and FNMA take the type of
FCTL.AVT. FCVT to an integer type writes the source rounded to an integer and clamped to the type's range; to a
floating-point type it writes the converted value. (R26, R54, R57, R58, R61, R92, R93, R94, R95) -/
def Obligations.ScalarFloatResults : Prop :=
  (∀ (s : State) (st dt a d : BitVec 5),
    let x := (s.rg a).toNat % 2 ^ typeBits st.toNat
    (dt.toNat < 8 → exec (.fcvt st dt a d) s =
      (let r := toIntRange s.rmode (lowest dt.toNat) (highest dt.toNat) (Fp.read (fmtOf st.toNat) x)
       .next (((s.wg d (writeInt r.1 dt.toNat)).orFlags r.2).advance))) ∧
    (8 ≤ dt.toNat → st.toNat < 8 → exec (.fcvt st dt a d) s =
      (let r := convert (fmtOf dt.toNat) s.rmode false (Fp.ofInt (readInt x st.toNat))
       .next (((s.wg d (BitVec.ofNat 64 r.1)).orFlags r.2).advance))) ∧
    (8 ≤ dt.toNat → 8 ≤ st.toNat → exec (.fcvt st dt a d) s =
      (let r := convert (fmtOf dt.toNat) s.rmode false (Fp.read (fmtOf st.toNat) x)
       .next (((s.wg d (BitVec.ofNat 64 r.1)).orFlags r.2).advance)))) ∧
  ∀ (s : State) (t b a d : BitVec 5),
    let f := fmtOf t.toNat
    let x := (s.rg a).toNat % 2 ^ typeBits t.toNat
    let y := (s.rg b).toNat % 2 ^ typeBits t.toNat
    let R : Nat × Flags → Out := fun r => .next (((s.wg d (BitVec.ofNat 64 r.1)).orFlags r.2).advance)
    exec (.fadd t b a d) s = R (fpAdd f s.rmode x y) ∧
    exec (.fsub t b a d) s = R (fpSub f s.rmode x y) ∧
    exec (.fmul t b a d) s = R (fpMul f s.rmode x y) ∧
    exec (.fdiv t b a d) s = R (fpDiv f s.rmode x y) ∧
    exec (.fmin t b a d) s = R (fpMinMax f false x y) ∧
    exec (.fmax t b a d) s = R (fpMinMax f true x y) ∧
    exec (.fsgnj t b a d) s = R ((fpSign f 0 x y, 0)) ∧
    exec (.fsgnjn t b a d) s = R ((fpSign f 1 x y, 0)) ∧
    exec (.fsgnjx t b a d) s = R ((fpSign f 2 x y, 0)) ∧
    exec (.feq t b a d) s = R (((if (fpEq f x y).1 then 1 else 0), (fpEq f x y).2)) ∧
    exec (.flt t b a d) s = R (((if (fpLess f false x y).1 then 1 else 0), (fpLess f false x y).2)) ∧
    exec (.fle t b a d) s = R (((if (fpLess f true x y).1 then 1 else 0), (fpLess f true x y).2)) ∧
    exec (.fsqrt t a d) s = R (fpSqrt f s.rmode x) ∧
    exec (.fclass t a d) s = .next ((s.wg d (BitVec.ofNat 64 (fpClass f x))).advance) ∧
    (∀ c : BitVec 5,
      let v : BitVec 5 → Nat := fun r => (s.rg r).toNat % 2 ^ typeBits s.avType
      exec (.fma c b a d) s = R (fpFma (fmtOf s.avType) s.rmode false (v a) (v b) (v c)) ∧
      exec (.fnma c b a d) s = R (fpFma (fmtOf s.avType) s.rmode true (v a) (v b) (v c)))

/-- write_int and read_int of R81 are inverse on the type range, and extend by its signedness. For each integer type,
reading back what write_int wrote gives the value where it lies in the type's range, and in every case a value
congruent to it modulo 2 to the width; the written word is the sign extension of its low bits for the signed types and
their zero extension for the others; saturate lands in the range and leaves values of the range alone. (R81) -/
def Obligations.IntegerTypesReadBack : Prop :=
  ∀ (t : Nat) (v : Int), t < 8 →
    (lowest t ≤ v → v ≤ highest t → readInt (writeInt v t).toNat t = v) ∧
    (readInt (writeInt v t).toNat t - v) % 2 ^ typeBits t = 0 ∧
    lowest t ≤ readInt (writeInt v t).toNat t ∧ readInt (writeInt v t).toNat t ≤ highest t ∧
    (t < 4 → (writeInt v t).toInt = readInt (writeInt v t).toNat t) ∧
    (4 ≤ t → ((writeInt v t).toNat : Int) = readInt (writeInt v t).toNat t) ∧
    lowest t ≤ saturate v t ∧ saturate v t ≤ highest t ∧ (lowest t ≤ v → v ≤ highest t → saturate v t = v)

/-- 64-bit types give machine arithmetic, and DIV and REM keep the division law with its corners. In every state, ADD,
SUB, MUL, AND, OR and XOR of types s64 and z64 write the 64-bit sum, difference, product, AND, OR and XOR of ga and
gb; SLL, SRL and SRA shift ga by the low six bits of gb; SLT compares as signed under s64 and as unsigned under z64.
For every integer type, with gd not g0: at a zero divisor DIV leaves all ones in the type's width and REM leaves the
dividend; where the divisor is not zero, quotient and remainder satisfy x = q y + r before wrapping, with the
remainder smaller in size than the divisor and of the dividend's sign; the most negative signed value divided by −1
gives itself, with remainder 0. (R81, R84, R91) -/
def Obligations.ScalarArithmeticLaws : Prop :=
  (∀ (s : State) (t b a d : BitVec 5), t = 3 ∨ t = 7 →
    let x := s.rg a
    let y := s.rg b
    let R : Word → Out := fun v => .next ((s.wg d v).advance)
    exec (.add t b a d) s = R (x + y) ∧ exec (.sub t b a d) s = R (x - y) ∧ exec (.mul t b a d) s = R (x * y) ∧
    exec (.and t b a d) s = R (x &&& y) ∧ exec (.or t b a d) s = R (x ||| y) ∧ exec (.xor t b a d) s = R (x ^^^ y) ∧
    exec (.sll t b a d) s = R (x <<< (y.toNat % 64)) ∧ exec (.srl t b a d) s = R (x >>> (y.toNat % 64)) ∧
    exec (.sra t b a d) s = R (x.sshiftRight (y.toNat % 64)) ∧
    (t = 3 → exec (.slt t b a d) s = R (if x.slt y then 1 else 0)) ∧
    (t = 7 → exec (.slt t b a d) s = R (if x.ult y then 1 else 0))) ∧
  (∀ (s q r : State) (t b a d : BitVec 5), t.toNat < 8 → d ≠ 0 →
    exec (.div t b a d) s = .next q → exec (.rem t b a d) s = .next r →
    let w := typeBits t.toNat
    let x := readInt (s.rg a).toNat t.toNat
    let y := readInt (s.rg b).toNat t.toNat
    let Q := readInt (q.rg d).toNat t.toNat
    let M := readInt (r.rg d).toNat t.toNat
    (y = 0 → (q.rg d).toNat % 2 ^ w = 2 ^ w - 1 ∧ M = x) ∧
    (y ≠ 0 → (x = lowest t.toNat ∧ y = -1 ∧ t.toNat < 4) → Q = x ∧ M = 0) ∧
    (y ≠ 0 → ¬ (x = lowest t.toNat ∧ y = -1 ∧ t.toNat < 4) →
      x = Q * y + M ∧ M.natAbs < y.natAbs ∧ (M = 0 ∨ (M < 0 ↔ x < 0))))

/-- Scalar instructions change gd and the PC (and, for floating point, FFLAGS), and nothing else. Whenever an instruction
of the integer, immediate, LUI, ADDPC, EXT, INS, multiply and divide groups (the list below) answers a next state:
every g register but gd, every v and mask register, FFLAGS, every special register, mailbox, event and trap register
of the slot, and everything outside the slot is unchanged; every byte of memory reads as before, stored and as each
core sees it; no pending prefix is left; and the PC has advanced past the bundle. Whenever a scalar floating-point
instruction (the list below) answers a next state: every g register but gd, every v and mask register, every special
register, mailbox, event and trap register of the slot, and everything outside the slot is unchanged; every byte of
memory reads as before; flags of FFLAGS are only ever set; and the PC has advanced past the bundle. (R21, R35, R61,
R84, R85, R86, R87, R89, R90, R91, R92, R93) -/
def Obligations.ScalarFrame : Prop :=
  (∀ (s t : State) (ty b a d : BitVec 5) (i14 : BitVec 14) (i13 : BitVec 13) (n p : BitVec 6) (x : BitVec 1),
    (∃ i ∈ [Instr.add ty b a d, Instr.sub ty b a d, Instr.slt ty b a d, Instr.min ty b a d, Instr.max ty b a d, Instr.adds ty b a d, Instr.subs ty b a d, Instr.and ty b a d, Instr.or ty b a d, Instr.xor ty b a d, Instr.sll ty b a d, Instr.srl ty b a d, Instr.sra ty b a d, Instr.mul ty b a d, Instr.mulh ty b a d, Instr.div ty b a d, Instr.rem ty b a d, Instr.muls ty b a d,
        Instr.clz ty a d, Instr.ctz ty a d, Instr.popc ty a d, Instr.addi i14 a d, Instr.andi i14 a d, Instr.ori i14 a d,
        Instr.xori i14 a d, Instr.slti i13 a d, Instr.sltiz i13 a d, Instr.slli n a d, Instr.srli n a d, Instr.srai n a d,
        Instr.rori n a d, Instr.lui i14 a d, Instr.addpc i14 d, Instr.ext x n p a d, Instr.ins n p a d],
      exec i s = .next t) →
    ElsewhereSame s t ∧ BytesSame s t ∧ GSame s t d ∧ VSame s t (fun _ => False) ∧ MSame s t (fun _ => False) ∧
    SpecialSame s t ∧ t.me.fflags = s.me.fflags ∧ t.me.pfxp = false ∧ t.me.pc = s.nextPc ∧ t.rg 0 = 0) ∧
  (∀ (s t : State) (ty c b a d : BitVec 5),
    (∃ i ∈ [Instr.fadd ty b a d, Instr.fsub ty b a d, Instr.fmul ty b a d, Instr.fdiv ty b a d, Instr.fmin ty b a d, Instr.fmax ty b a d, Instr.fsgnj ty b a d, Instr.fsgnjn ty b a d, Instr.fsgnjx ty b a d, Instr.feq ty b a d, Instr.flt ty b a d, Instr.fle ty b a d, Instr.fsqrt ty a d,
        Instr.fclass ty a d, Instr.fcvt ty c a d, Instr.fma c b a d, Instr.fnma c b a d], exec i s = .next t) →
    ElsewhereSame s t ∧ BytesSame s t ∧ GSame s t d ∧ VSame s t (fun _ => False) ∧ MSame s t (fun _ => False) ∧
    SpecialSame s t ∧ t.me.fflags &&& s.me.fflags = s.me.fflags ∧ t.me.pfxp = false ∧ t.me.pc = s.nextPc)

/-- Vector integer, logic and shift instructions complete lane by lane. In every state in which the operands a and b
expand under the pending prefix (without a prefix they are va and vb themselves) to x and y, each two-operand
instruction of the vector integer and the vector logic and shift group (the list below) answers the next state in
which every lane of vd holds the function of the same lanes of x and y, and the bundle is complete. VSEL takes lane i
of x where its mask's bit i is set and of y elsewhere; VCTST sets bit i of md where lanes i have a common one. (R49,
R114, R116, R118, R121, R122) -/
def Obligations.VectorIntegerResults : Prop :=
  ∀ (s : State) (t b a d : BitVec 5) (x y : Vec),
    expandOps (some t.toNat) (some t.toNat) (s.rv a) (s.rv b) s = .ok ((x, y), s) →
    let w := typeBits t.toNat
    let L : Vec → Nat → Nat := lane t.toNat
    let R : (Nat → Nat) → Out := fun f => .next ((s.wv d (vecOf t.toNat f)).advance)
    let I : (Int → Int → Int) → Out := fun f => R (fun i => wrapInt (f (readInt (L x i) t.toNat) (readInt (L y i) t.toNat)) w)
    let P : (Nat → Nat → Nat) → Out := fun f => R (fun i => f (L x i) (L y i))
    exec (.vadd t b a d) s = I (fun p q => p + q) ∧
    exec (.vsub t b a d) s = I (fun p q => p - q) ∧
    exec (.vmul t b a d) s = I (fun p q => p * q) ∧
    exec (.vmulh t b a d) s = I (fun p q => p * q / 2 ^ typeBits t.toNat) ∧
    exec (.vmin t b a d) s = I (fun p q => min p q) ∧
    exec (.vmax t b a d) s = I (fun p q => max p q) ∧
    exec (.vadds t b a d) s = I (fun p q => saturate (p + q) t.toNat) ∧
    exec (.vsubs t b a d) s = I (fun p q => saturate (p - q) t.toNat) ∧
    exec (.vmuls t b a d) s = I (fun p q => saturate (p * q) t.toNat) ∧
    exec (.vabsd t b a d) s = I (fun p q => ((p - q).natAbs : Int)) ∧
    exec (.vavg t b a d) s = I (fun p q => (p + q + 1) / 2) ∧
    exec (.vand t b a d) s = P (fun p q => p &&& q) ∧
    exec (.vor t b a d) s = P (fun p q => p ||| q) ∧
    exec (.vxor t b a d) s = P (fun p q => p ^^^ q) ∧
    exec (.vandn t b a d) s = P (fun p q => p &&& (2 ^ w - 1 - q)) ∧
    exec (.vsll t b a d) s = P (fun p q => p * 2 ^ (q % w)) ∧
    exec (.vsrl t b a d) s = P (fun p q => p / 2 ^ (q % w)) ∧
    exec (.vsra t b a d) s = P (fun p q => wrapInt (sval w p / 2 ^ (q % w)) w) ∧
    exec (.vror t b a d) s = P (fun p q => p / 2 ^ (q % w) + p * 2 ^ (w - q % w)) ∧
    (∀ m : BitVec 3, exec (.vsel m t b a d) s = R (fun i => if active (s.rmask m.toNat) i then L x i else L y i)) ∧
    exec (.vctst t b a d) s = .next ((s.wmask d.toNat (maskOf (lanes t.toNat) (fun i => (L x i &&& L y i) != 0))).advance)

/-- Vector floating-point instructions complete lane by lane and OR their flags. In every state in which the operands
expand to x and y, VFADD, VFSUB, VFMUL, VFDIV, VFMIN, VFMAX and the sign copies answer the next state in which every
lane of vd holds the result on the same lanes in the type's format under the rounding mode in force, and the OR of the
lanes' flags is ORed into FFLAGS. VFMA and VFNMA act in the type of FCTL.AVT on x, y and vc, and leave vd's lanes
whose mask bit is clear. (R26, R54, R61, R115, R116, R119, R120) -/
def Obligations.VectorFloatResults : Prop :=
  (∀ (s : State) (t b a d : BitVec 5) (x y : Vec),
    expandOps (some t.toNat) (some t.toNat) (s.rv a) (s.rv b) s = .ok ((x, y), s) →
    let f := fmtOf t.toNat
    let R : (Nat → Nat → Nat × Flags) → Out := fun g =>
      let r := vecFlags t.toNat (fun i => g (lane t.toNat x i) (lane t.toNat y i))
      .next (((s.wv d r.1).orFlags r.2).advance)
    exec (.vfadd t b a d) s = R (fun p q => fpAdd f s.rmode p q) ∧
    exec (.vfsub t b a d) s = R (fun p q => fpSub f s.rmode p q) ∧
    exec (.vfmul t b a d) s = R (fun p q => fpMul f s.rmode p q) ∧
    exec (.vfdiv t b a d) s = R (fun p q => fpDiv f s.rmode p q) ∧
    exec (.vfmin t b a d) s = R (fun p q => fpMinMax f false p q) ∧
    exec (.vfmax t b a d) s = R (fun p q => fpMinMax f true p q) ∧
    exec (.vfsgnj t b a d) s = R (fun p q => (fpSign f 0 p q, 0)) ∧
    exec (.vfsgnjn t b a d) s = R (fun p q => (fpSign f 1 p q, 0)) ∧
    exec (.vfsgnjx t b a d) s = R (fun p q => (fpSign f 2 p q, 0))) ∧
  (∀ (s : State) (c b a d : BitVec 5) (m : BitVec 3) (x y : Vec),
    expandOps (some s.avType) (some s.avType) (s.rv a) (s.rv b) s = .ok ((x, y), s) →
    let t := s.avType
    let R : Bool → Out := fun neg =>
      let r := vecFlags t (fun i => if active (s.rmask m.toNat) i then
        fpFma (fmtOf t) s.rmode neg (lane t x i) (lane t y i) (lane t (s.rv c) i) else (lane t (s.rv d) i, 0))
      .next (((s.wv d r.1).orFlags r.2).advance)
    exec (.vfma m c b a d) s = R false ∧ exec (.vfnma m c b a d) s = R true)

/-- VABS, VFSQRT, the permutes, broadcasts, extracts and inserts complete. In every state in which operand a expands to x,
VABS and VFSQRT act lane by lane; VPERM, VZIPL, VZIPH, VUZPE, VUZPO, VSLIDEUP, VSLIDEDN and VBCASTL give each lane of
vd from the lane of x (or vb) that Table 6.6 names; VEXT writes lane gb mod the lane count to gd, extended by the
type; VBCAST and VINS, which take no prefix, replicate gb and replace one lane of vd. (R116, R118, R119, R125) -/
def Obligations.VectorUnaryResults : Prop :=
  (∀ (s : State) (t b a d : BitVec 5) (x z : Vec), expandOps (some t.toNat) none (s.rv a) 0 s = .ok ((x, z), s) →
    let n := lanes t.toNat
    let L := lane t.toNat x
    let B := lane t.toNat (s.rv b)
    let k := (s.rg b).toNat
    let R : (Nat → Nat) → Out := fun f => .next ((s.wv d (vecOf t.toNat f)).advance)
    exec (.vabs t a d) s = R (fun i => wrapInt (readInt (L i) t.toNat).natAbs (typeBits t.toNat)) ∧
    exec (.vfsqrt t a d) s = (let r := vecFlags t.toNat (fun i => fpSqrt (fmtOf t.toNat) s.rmode (L i))
      .next (((s.wv d r.1).orFlags r.2).advance)) ∧
    exec (.vperm t b a d) s = R (fun i => L (B i % n)) ∧
    exec (.vzipl t b a d) s = R (fun i => if i % 2 = 0 then L (i / 2) else B (i / 2)) ∧
    exec (.vziph t b a d) s = R (fun i => if i % 2 = 0 then L (i / 2 + n / 2) else B (i / 2 + n / 2)) ∧
    exec (.vuzpe t b a d) s = R (fun i => if 2 * i < n then L (2 * i) else B (2 * i - n)) ∧
    exec (.vuzpo t b a d) s = R (fun i => if 2 * i + 1 < n then L (2 * i + 1) else B (2 * i + 1 - n)) ∧
    exec (.vslideup t b a d) s = R (fun i => if i ≥ k then L (i - k) else 0) ∧
    exec (.vslidedn t b a d) s = R (fun i => if i + k < n then L (i + k) else 0) ∧
    exec (.vbcastl t b a d) s = R (fun _ => L (k % n)) ∧
    exec (.vext t b a d) s = .next ((s.wg d (if t.toNat < 8 then writeInt (L (k % n)) t.toNat
      else BitVec.ofNat 64 (L (k % n)))).advance)) ∧
  (∀ (s : State) (t b a d : BitVec 5),
    exec (.vbcast t b d) s = .next ((s.wv d (vecOf t.toNat (fun _ => (s.rg b).toNat))).advance) ∧
    exec (.vins t b a d) s = .next ((s.wv d (setLane (typeBits t.toNat) (s.rv d) ((s.rg b).toNat % lanes t.toNat)
      (s.rg a).toNat)).advance))

/-- Vector compares write a mask. In every state in which the operands expand to x and y, VCEQ, VCNE, VCLT and VCLE answer
the next state in which bit i of md holds the comparison of lanes i, by integers for an integer type and by floating-
point values otherwise, bits from the lane count up are zero, and the flags of the lanes are ORed into FFLAGS. A write
to m0 is discarded. (R32, R61, R122) -/
def Obligations.VectorCompareResults : Prop :=
  ∀ (s : State) (t b a d : BitVec 5) (x y : Vec),
    expandOps (some t.toNat) (some t.toNat) (s.rv a) (s.rv b) s = .ok ((x, y), s) →
    let n := t.toNat
    let R : (Int → Int → Bool) → (Nat → Nat → Bool × Flags) → Out := fun g h =>
      let r : Nat → Bool × Flags := fun i =>
        if n < 8 then (g (readInt (lane n x i) n) (readInt (lane n y i) n), 0) else h (lane n x i) (lane n y i)
      .next (((s.wmask d.toNat (maskOf (lanes n) (fun i => (r i).1))).orFlags
        (((List.range (lanes n)).map r).foldl (fun f p => f ||| p.2) 0)).advance)
    exec (.vceq t b a d) s = R (fun p q => decide (p = q)) (fpEq (fmtOf n)) ∧
    exec (.vcne t b a d) s = R (fun p q => decide (p ≠ q)) (fun p q => (!(fpEq (fmtOf n) p q).1, (fpEq (fmtOf n) p q).2)) ∧
    exec (.vclt t b a d) s = R (fun p q => decide (p < q)) (fpLess (fmtOf n) false) ∧
    exec (.vcle t b a d) s = R (fun p q => decide (p ≤ q)) (fpLess (fmtOf n) true)

/-- Reductions, scans, dot products, conversions and scale factors complete with their values. In every state in which the
operand or operands expand, VREDSUM, VREDMIN, VREDMAX, VSCAN, VSCANMIN, VSCANMAX, VDOT, VCVT and VMXSC answer the next
state in which vd holds their value, their flags are ORed into FFLAGS, and the bundle is complete. A reduction holds
in lane 0 what the pairwise tree of R64 gives on the active lanes and zero above (a NaN at the root of a floating-
point one is the produced NaN, and a signalling one sets NV: the model's reading of the final rounding, log 11); over
no lane it holds its identity; an integer VREDSUM over all lanes is the wrapped sum. A scan gives each lane what R65
gives it; an integer VSCAN over all lanes holds in lane i the wrapped sum of lanes 0 to i. An integer VDOT holds the
sum of the lane products modulo 2^64, and a floating-point one the tree of the exact products, each node rounded once,
in f32 for bf16 and f16. VCVT converts the c elements of its part, after the scale where the prefix names one, exactly
between integers (saturating a narrowing with SAT) and by R57 or R58 otherwise, and keeps the other lanes. VMXSC
replaces one byte of vd by the greater of it and the scale of R124, and sets no flag. (R49, R50, R55, R57, R58, R61,
R64, R65, R123, R124, R126) -/
def Obligations.VectorReductionsComplete : Prop :=
  (∀ (s : State) (t b a d : BitVec 5) (x z : Vec), expandOps (some t.toNat) none (s.rv a) 0 s = .ok ((x, z), s) →
    let n := t.toNat
    let w := typeBits n
    let m := s.rmask b.toNat
    (∀ k i, (k, i) ∈ [(0, Instr.vredsum t b a d), (1, Instr.vredmin t b a d), (2, Instr.vredmax t b a d)] →
      ∀ v fl, treeReduce (redOp k n s.rmode) (Nat.log2 (lanes n)) ((List.range (lanes n)).map (fun j =>
        if active m j then some (lane n x j, (0 : Flags)) else none)) = some (v, fl) →
      let z := Fp.read (fmtOf n) v
      (n < 8 ∨ z.isNan = false → exec i s = .next (((s.wv d (BitVec.ofNat 512 v)).orFlags (fl ||| 0)).advance)) ∧
      (8 ≤ n → z.isNan = true → exec i s = .next (((s.wv d (BitVec.ofNat 512 (fmtOf n).nanPat)).orFlags (fl ||| snan z)).advance))) ∧
    (∀ k i, (k, i) ∈ [(0, Instr.vscan t b a d), (1, Instr.vscanmin t b a d), (2, Instr.vscanmax t b a d)] →
      let r := scanLanes (redOp k n s.rmode) (redId k n, 0) none ((List.range (lanes n)).map (fun j => ((lane n x j, (0 : Flags)), active m j)))
      exec i s = .next (((s.wv d (ofLanes w (r.map (·.1)))).orFlags (r.foldl (fun f p => f ||| p.2) 0)).advance)) ∧
    (n < 8 → m = BitVec.allOnes 64 → ∃ f, exec (.vscan t b a d) s = .next (((s.wv d (ofLanes w ((List.range (lanes n)).map (fun j =>
      ((List.range (j + 1)).map (lane n x)).sum % 2 ^ w)))).orFlags f).advance)) ∧
    (s.rmask b.toNat = 0 → exec (.vredsum t b a d) s = .next (((s.wv d (BitVec.ofNat 512 (redId 0 t.toNat))).orFlags 0).advance) ∧
      exec (.vredmin t b a d) s = .next (((s.wv d (BitVec.ofNat 512 (redId 1 t.toNat))).orFlags 0).advance) ∧
      exec (.vredmax t b a d) s = .next (((s.wv d (BitVec.ofNat 512 (redId 2 t.toNat))).orFlags 0).advance)) ∧
    (t.toNat < 8 → s.rmask b.toNat = BitVec.allOnes 64 → exec (.vredsum t b a d) s = .next (((s.wv d (BitVec.ofNat 512
      (((List.range (lanes t.toNat)).map (lane t.toNat x)).sum % 2 ^ typeBits t.toNat))).orFlags 0).advance)) ∧
    (∀ (u : BitVec 1) (p : BitVec 3) (dst : BitVec 5),
      let dt := dst.toNat
      let c := min (lanes n) (lanes dt)
      let scl : Nat := (s.pfx.map (·.scl)).getD 0
      let mx : Bool := decide (8 ≤ n ∧ n ≤ 12)
      let one : Nat → Nat × Flags := fun i =>
        let si := if lanes n > lanes dt then p.toNat * c + i else i
        let di := if lanes dt > lanes n then p.toNat * c + i else i
        let sb := laneW 8 (s.rv (BitVec.ofNat 5 (24 + scl))) ((if mx then si else di) / 32)
        if n < 8 ∧ dt < 8 then
          (wrapInt (if u = 1 ∧ typeBits dt < w then saturate (readInt (lane n x si) n) dt else readInt (lane n x si) n) (typeBits dt), 0)
        else
          let v := if n < 8 then Fp.ofInt (readInt (lane n x si) n) else Fp.read (fmtOf n) (lane n x si)
          let v := if scl = 0 then v else if sb = 0xFF then Fp.nan v.neg? v.isSignalling
            else v.scale (if mx then (sb : Int) - 127 else 127 - (sb : Int))
          if dt < 8 then (wrapInt (toIntRange s.rmode (lowest dt) (highest dt) v).1 (typeBits dt), (toIntRange s.rmode (lowest dt) (highest dt) v).2)
          else convert (fmtOf dt) s.rmode (u == 1) v
      let base := if lanes dt > lanes n then p.toNat * c else 0
      let r := vecFlags dt (fun j => if base ≤ j ∧ j < base + c then one (j - base) else (lane dt (s.rv d) j, 0))
      exec (.vcvt u p t dst a d) s = .next (((s.wv d r.1).orFlags r.2).advance)) ∧
    (∀ (j : BitVec 2) (e : BitVec 5),
      let l := (List.range (lanes n)).map (fun i => lane n x i % (fmtOf n).signBit)
      let emax : Int := if e = 12 then 15 else if e = 11 then 8 else if e = 10 then 4 else 2
      let S : Nat → Out := fun sc => .next ((s.wv d (setLane 8 (s.rv d) j.toNat (max (laneW 8 (s.rv d) j.toNat) sc))).advance)
      let any : Bool := l.any (fun q => (Fp.read (fmtOf n) q).isNan)
      (any = true → exec (.vmxsc j t e a d) s = S 0xFF) ∧
      (any = false → (∀ q ∈ l, q = 0) → exec (.vmxsc j t e a d) s = S 0) ∧
      (any = false → ∀ q, q ∈ l → q ≠ 0 → (∀ o ∈ l, o ≤ q) →
        (∀ g k y, Fp.read (fmtOf n) q = .fin g k y → exec (.vmxsc j t e a d) s =
          S (min (max ((Nat.log2 k : Int) + y - emax + 127) 0) 254).toNat) ∧
        (∀ g, Fp.read (fmtOf n) q = .inf g → exec (.vmxsc j t e a d) s = S 0xFE)))) ∧
  (∀ (s : State) (t b a d : BitVec 5) (x y : Vec),
    expandOps (some t.toNat) (some t.toNat) (s.rv a) (s.rv b) s = .ok ((x, y), s) →
    (8 ≤ t.toNat → ∀ v fl,
      let n := t.toNat
      let f := fmtOf (if n = 13 ∨ n = 14 then 15 else n)
      let node : Fp × Flags → Fp × Flags → Fp × Flags := fun p q =>
        let r := Fp.addExact s.rmode p.1 q.1
        (Fp.read f (r.1.toPat f s.rmode).1, p.2 ||| q.2 ||| r.2 ||| (r.1.toPat f s.rmode).2)
      treeReduce node (Nat.log2 (lanes n)) ((List.range (lanes n)).map (fun i =>
        some (Fp.mulExact (Fp.read (fmtOf n) (lane n x i)) (Fp.read (fmtOf n) (lane n y i))))) = some (v, fl) →
      exec (.vdot t b a d) s = .next (((s.wv d (BitVec.ofNat 512 (v.toPat f s.rmode).1)).orFlags (fl ||| (v.toPat f s.rmode).2)).advance)) ∧
    (t.toNat < 8 → exec (.vdot t b a d) s = .next ((s.wv d (BitVec.ofInt 512 (((List.range (lanes t.toNat)).map (fun i =>
      readInt (lane t.toNat x i) t.toNat * readInt (lane t.toNat y i) t.toNat)).sum % 2 ^ 64))).advance)))

/-- Mask instructions complete with the value of their table. In every state, MAND, MOR, MXOR, MANDN and MNOT write the
bitwise function of their masks to md (m0 reads all ones, and a write to it is discarded); MFROMG and MTOG move a
whole register; MPOPC counts the ones, MFIRST the position of the lowest one (64 for none), and MLANES writes ones for
the lanes of the type. (R32, R127) -/
def Obligations.MaskResults : Prop :=
  ∀ (s : State) (t b a d : BitVec 5),
    let x := s.rmask a.toNat
    let y := s.rmask b.toNat
    let M : Word → Out := fun v => .next ((s.wmask d.toNat v).advance)
    let G : Word → Out := fun v => .next ((s.wg d v).advance)
    exec (.mand b a d) s = M (x &&& y) ∧ exec (.mor b a d) s = M (x ||| y) ∧ exec (.mxor b a d) s = M (x ^^^ y) ∧
    exec (.mandn b a d) s = M (x &&& ~~~y) ∧ exec (.mnot a d) s = M (~~~x) ∧
    exec (.mfromg a d) s = M (s.rg a) ∧ exec (.mtog a d) s = G x ∧
    exec (.mpopc a d) s = G (BitVec.ofNat 64 ((List.range 64).countP (fun i => x.getLsbD i))) ∧
    (x ≠ 0 → ∃ n, n < 64 ∧ x.getLsbD n = true ∧ (∀ k, k < n → x.getLsbD k = false) ∧ exec (.mfirst a d) s = G (BitVec.ofNat 64 n)) ∧
    (x = 0 → exec (.mfirst a d) s = G 64) ∧
    exec (.mlanes t d) s = M (maskOf (lanes t.toNat) (fun _ => true)) ∧
    (∀ q : State, exec (.mnot a 0) s = .next q → q.rmask 0 = BitVec.allOnes 64)

/-- Vector, mask, exact-sum and codebook reading instructions change their destination, FFLAGS and the PC, and nothing
else. In every state with no pending prefix, each vector arithmetic, permute, reduction, conversion and select
instruction (the first list) completes: only vd, FFLAGS and the PC of the slot may differ. Each compare (the second
list) changes only md, FFLAGS and the PC. VEXT changes only gd and the PC. Every byte of memory reads as before, every
other register and everything outside the slot is unchanged, and flags are only ever added. Each mask instruction
completes, and changes only md (MTOG, MPOPC and MFIRST: gd) and the PC. Where CBX, CBRD or CBSTAT answers a next state
that has gone on to the next bundle, only vd (CBSTAT: gd), FFLAGS and the PC of the slot differ, every byte of memory
and everything outside the slot is as before. Where XCLR, XADD or XRND outside a paired context finds its cells and
goes on to the next bundle, no g, mask or special register changes, no v register but XRND's vd, every byte outside
the cells (for XRND, every byte) reads as before, and outside the slot nothing changes but those bytes and what
finding the cells notes (their pages' stamps and turns); flags are only ever added. (R35, R61, R114, R118, R119, R120,
R124, R127, R131, R288, R303, R305) -/
def Obligations.VectorFrame : Prop :=
  (∀ (s : State) (t u c b a d : BitVec 5) (m p : BitVec 3) (x : BitVec 1) (j : BitVec 2), s.me.pfxp = false →
    let Rest : State → Prop := fun q => ElsewhereSame s q ∧ BytesSame s q ∧ SpecialSame s q ∧
      q.me.fflags &&& s.me.fflags = s.me.fflags ∧ q.me.pc = s.nextPc ∧ q.me.pfxp = false
    (∀ i ∈ [Instr.vadd t b a d, Instr.vsub t b a d, Instr.vmul t b a d, Instr.vmulh t b a d, Instr.vmin t b a d, Instr.vmax t b a d, Instr.vadds t b a d, Instr.vsubs t b a d, Instr.vmuls t b a d, Instr.vabsd t b a d, Instr.vavg t b a d, Instr.vand t b a d, Instr.vor t b a d, Instr.vxor t b a d, Instr.vandn t b a d, Instr.vsll t b a d, Instr.vsrl t b a d, Instr.vsra t b a d, Instr.vror t b a d, Instr.vfadd t b a d, Instr.vfsub t b a d, Instr.vfmul t b a d, Instr.vfdiv t b a d, Instr.vfmin t b a d, Instr.vfmax t b a d, Instr.vfsgnj t b a d, Instr.vfsgnjn t b a d, Instr.vfsgnjx t b a d, Instr.vperm t b a d, Instr.vzipl t b a d, Instr.vziph t b a d, Instr.vuzpe t b a d, Instr.vuzpo t b a d, Instr.vslideup t b a d, Instr.vslidedn t b a d, Instr.vbcastl t b a d, Instr.vins t b a d, Instr.vredsum t b a d, Instr.vredmin t b a d, Instr.vredmax t b a d, Instr.vscan t b a d, Instr.vscanmin t b a d, Instr.vscanmax t b a d, Instr.vdot t b a d, Instr.vabs t a d, Instr.vfsqrt t a d,
        Instr.vbcast t b d, Instr.vsel m t b a d, Instr.vfma m c b a d, Instr.vfnma m c b a d, Instr.vcvt x p t u a d,
        Instr.vmxsc j t u a d],
      ∃ q, exec i s = .next q ∧ Rest q ∧ (∀ r, q.rg r = s.rg r) ∧ VSame s q (· = d) ∧ MSame s q (fun _ => False)) ∧
    (∀ i ∈ [Instr.vceq t b a d, Instr.vcne t b a d, Instr.vclt t b a d, Instr.vcle t b a d, Instr.vctst t b a d],
      ∃ q, exec i s = .next q ∧ Rest q ∧ (∀ r, q.rg r = s.rg r) ∧ VSame s q (fun _ => False) ∧
        MSame s q (· = d.toNat % 8)) ∧
    (∃ q, exec (.vext t b a d) s = .next q ∧ Rest q ∧ GSame s q d ∧ VSame s q (fun _ => False) ∧ MSame s q (fun _ => False))) ∧
  (∀ (s : State) (t b a d : BitVec 5),
    let Rest : State → Prop := fun q => ElsewhereSame s q ∧ BytesSame s q ∧ SpecialSame s q ∧
      q.me.fflags = s.me.fflags ∧ q.me.pc = s.nextPc ∧ q.me.pfxp = false ∧ VSame s q (fun _ => False)
    (∀ i ∈ [Instr.mand b a d, Instr.mor b a d, Instr.mxor b a d, Instr.mandn b a d, Instr.mnot a d, Instr.mfromg a d,
        Instr.mlanes t d], ∃ q, exec i s = .next q ∧ Rest q ∧ (∀ r, q.rg r = s.rg r) ∧ MSame s q (· = d.toNat % 8)) ∧
    (∀ i ∈ [Instr.mtog a d, Instr.mpopc a d, Instr.mfirst a d],
      ∃ q, exec i s = .next q ∧ Rest q ∧ GSame s q d ∧ MSame s q (fun _ => False))) ∧
  (∀ (s q : State) (f : BitVec 4) (k : BitVec 3) (t n b a d : BitVec 5) (i : Instr),
    exec i s = .next q → q.me.life = .running → q.me.pc = s.nextPc →
    let Rest : Prop := BytesSame s q ∧ MSame s q (fun _ => False) ∧ q.me.fflags &&& s.me.fflags = s.me.fflags ∧
      SpecialSame s q ∧ ElsewhereSame s q
    (i ∈ [Instr.cbx f t n a d, Instr.cbrd k b d] → Rest ∧ (∀ r, q.rg r = s.rg r) ∧ VSame s q (· = d)) ∧
    (i = .cbstat k d → Rest ∧ GSame s q d ∧ VSame s q (fun _ => False))) ∧
  (∀ (s s1 q : State) (t b a d m : BitVec 5) (l : List Nat), s.paired = false → q.me.life = .running → q.me.pc = s.nextPc →
    let Rest : Prop := (∀ r, q.rg r = s.rg r) ∧ MSame s q (fun _ => False) ∧ q.me.fflags &&& s.me.fflags = s.me.fflags ∧
      (∀ c j, (c, j) ≠ (s.myCore, s.mySlot) → q.slot c j = s.slot c j) ∧ SpecialSame s q ∧ ElsewhereSame s1 { q with mem := s1.mem }
    let Outside : Prop := ∀ k, (∀ x ∈ l, k < x ∨ x + 64 ≤ k) → q.byte k = s.byte k ∧ ∀ c, q.seen c k = s.seen c k
    s.MemOk →
    (cells (s.rg a) (lanes t.toNat) true false s = .ok (l, s1) → exec (.xclr t a) s = .next q →
      Rest ∧ VSame s q (fun _ => False) ∧ Outside) ∧
    (cells (s.rg a) (lanes t.toNat) true true s = .ok (l, s1) → exec (.xadd t b a m) s = .next q →
      Rest ∧ VSame s q (fun _ => False) ∧ Outside) ∧
    (cells (s.rg a) 16 false true s = .ok (l, s1) → exec (.xrnd a d) s = .next q →
      Rest ∧ VSame s q (· = d) ∧ BytesSame s q))

/-- Lanes packed into a register read back, for every element width. For each type code up to 22, the register built from
lane values reads them back lane by lane modulo the width, and replacing one lane changes only that lane. (R49, R114) -/
def Obligations.LanesRoundTrip : Prop :=
  (∀ (t : Nat) (f : Nat → Nat) (i : Nat), t < 23 → i < lanes t → lane t (vecOf t f) i = f i % 2 ^ typeBits t) ∧
  (∀ (t : Nat) (v : Vec) (i j x : Nat), t < 23 → i < lanes t → j < lanes t →
    lane t (setLane (typeBits t) v i x) j = if j = i then x % 2 ^ typeBits t else lane t v j)

/-- Loads complete: at once where the bytes are there, else as an outstanding load of their register. On any state and
operands whose access passes the checks (aligned; in mode .l a resident local page within the context's, in mode .c a
core of the context within the cove's share whose page is resident, in mode .g a translation that allows it; no ECC
error, no atomic of the slot on the bytes and no earlier access waiting for the page), LD and VLD (without expansion)
answer a next state with the base updated in a post-increment form and the bundle complete: where the bytes are at
hand (the scratchpad, or a hit in the core's L1 in an unpaired context) the register holds them, extended or
replicated as the form says; otherwise, while fewer than eight misses are outstanding, a load of that register with
those lanes is outstanding, and in mode .c its message is on its way. VGATHER does the same for its active lanes, and
completes with nothing written where no lane is active. Under an expanding prefix VLD and VGATHER write the expansion
of the loaded bytes. (R82, R110, R111, R112, R116, R128, R129, R130, R135, R336, R340, R344) -/
def Obligations.LoadsComplete : Prop :=
  (∀ (s : State) (o : BitVec 9) (sz : BitVec 3) (b d : BitVec 5) (c a f h : Nat) (e : TlbEntry),
    let L : Dest → Nat → Nat → Bool → (BitVec 2 → Instr) → Prop := fun dst n form post i =>
      let ea := (addresses post (s.rg b) o n).1
      let nb := (addresses post (s.rg b) o n).2
      let w : Nat := if n > 8 then 8 else n
      let l : Load := { dest := dst, pend := [], size := n, form := form, cove := false }
      let r := reached s c a
      (LocalAt s ea n f a → s.poisoned a n = false → exec (i 0) s = .next ((based ((touched s ea f false).modMe (fun t =>
        t.putLoad dst form n [(0, s.bytes a n)])) post b nb).advance)) ∧
      (CoveAt s ea n c a h → s.poisoned h n = false → exec (i 1) s = .next ((based
        ((if goes s then r.post (Agent.slot s.myCore s.mySlot) (Agent.owner c)
          (.coveLoad s.me.ctx.toNat s.myCore s.mySlot a n) else r).modMe (fun t =>
            t.addLoad { l with pend := [(0, s.msgSeq)], cove := true })) post b nb).advance)) ∧
      (GlobalAt s ea n .load e a → s.poisoned a n = false → Hits s a n → exec (i 2) s = .next ((based (s.modMe (fun t =>
        t.putLoad dst form w ((List.range (n / w)).map (fun k => (k, seenBytes s (a + w * k) w))))) post b nb).advance)) ∧
      (GlobalAt s ea n .load e a → s.poisoned a n = false → (s.paired = true ∨ s.l1Has s.myCore a n = false) →
        s.me.misses < 8 → exec (i 2) s = .next ((based (s.modMe (fun t =>
          t.addLoad { l with pend := (List.range (n / w)).map (fun k => (k, a + w * k)), size := w })) post b nb).advance))
    L (.g d) (2 ^ (sz.toNat % 4)) (if sz.toNat < 3 then 1 else 0) (sz == 7) (fun m => .ld o sz m b d) ∧
    (s.expanding = false →
      L (.v d) (vecBytes sz) (if sz.toNat < 4 then 4 else 2) (sz == 1 || sz == 3) (fun m => .vld o sz m b d))) ∧
  (∀ (s : State) (g : BitVec 3) (sz : BitVec 2) (x : BitVec 1) (b a d : BitVec 5) (at_ core home frame : Nat → Nat)
      (e : Nat → TlbEntry), s.expanding = false →
    let n : Nat := 2 ^ sz.toNat
    let ls := activeLanes (s.rmask g.toNat) (s.rg a) (s.rv b) n (x == 1)
    (ls = [] → ∀ m, exec (.vgather g sz m x b a d) s = .next s.advance) ∧
    (ls ≠ [] → (s.core s.myCore).waits = [] → (∀ q ∈ ls, LocalAt s q.2 n (frame q.1) (at_ q.1) ∧ s.poisoned (at_ q.1) n = false) →
      exec (.vgather g sz 0 x b a d) s = .next (((ls.foldl (fun t q => t.modCore t.myCore (fun k => k.touch (frame q.1) false)) s).modMe
        (fun t => t.putLoad (.v d) 3 n (ls.map (fun q => (q.1, s.bytes (at_ q.1) n))))).advance)) ∧
    (ls ≠ [] → (∀ c, (s.core c).waits = []) →
      (∀ q ∈ ls, CoveAt s q.2 n (core q.1) (at_ q.1) (home q.1) ∧ s.poisoned (home q.1) n = false) →
      ∃ t l, exec (.vgather g sz 1 x b a d) s = .next t ∧ t.me.loads = s.me.loads ++ [l] ∧ l.dest = .v d ∧ l.size = n ∧
        l.form = 3 ∧ l.cove = true ∧ l.pend.map (·.1) = ls.map (·.1) ∧ t.me.pc = s.nextPc) ∧
    (ls ≠ [] → (∀ q ∈ ls, GlobalAt s q.2 n .load (e q.1) (at_ q.1) ∧ s.poisoned (at_ q.1) n = false) →
      ((∀ q ∈ ls, Hits s (at_ q.1) n) → exec (.vgather g sz 2 x b a d) s = .next ((s.modMe (fun t =>
        t.putLoad (.v d) 3 n (ls.map (fun q => (q.1, seenBytes s (at_ q.1) n))))).advance)) ∧
      ((∃ q ∈ ls, s.paired = true ∨ s.l1Has s.myCore (at_ q.1) n = false) → s.me.misses < 8 →
        exec (.vgather g sz 2 x b a d) s = .next ((s.modMe (fun t => t.addLoad {
          dest := .v d, pend := ls.map (fun q => (q.1, at_ q.1)), size := n, form := 3, cove := false })).advance)))) ∧
  (∀ (s s1 s2 : State) (o : BitVec 9) (sz : BitVec 3) (m : BitVec 2) (b d : BitVec 5) (p : Place) (ls : List (Nat × List Byte))
      (v z : Vec), s.expanding = true →
    let n : Nat := vecBytes sz
    let post := sz == 1 || sz == 3
    let ea := addresses post (s.rg b) o n
    checkAccess m ea.1 n .load s = .ok (p, s1) → s1.expanding = true →
    loadNow m (pieces m p n).1 (pieces m p n).2 s1 = .ok (ls, s1) →
    expandOps none none (loadVec 4 (pieces m p n).2 ls 0) 0 s1 = .ok ((v, z), s2) →
    exec (.vld o sz m b d) s = .next ((based ((s2.dropReader s2.myCore s2.mySlot).wv d v) post b ea.2).advance)) ∧
  (∀ (s s1 s2 : State) (g : BitVec 3) (sz m : BitVec 2) (x : BitVec 1) (b a d : BitVec 5) (ps : List (Nat × Place))
      (ls : List (Nat × List Byte)) (v z : Vec), s.expanding = true → s1.expanding = true →
    let n : Nat := 2 ^ sz.toNat
    let eas := activeLanes (s.rmask g.toNat) (s.rg a) (s.rv b) n (x == 1)
    checkLanes m n .load eas s = .ok (ps, s1) →
    loadNow m ps n s1 = .ok (ls, s1) → expandOps none none (loadVec 3 n ls (s1.rv d)) 0 s1 = .ok ((v, z), s2) →
    exec (.vgather g sz m x b a d) s = .next (((s2.dropReader s2.myCore s2.mySlot).wv d v).advance))

/-- Stores complete in the scratchpad, in the L1, or as a message to a core of the cove. Where the access passes the
checks of R112 and the comparison of a pair lets it go on: ST and VST in mode .l put the low bytes of the register at
the checked place, on each core of a pair; in mode .g, where no outstanding load of the slot reads the bytes and the
L1 has room or makes it by letting clean sectors go, they put them, dirty, in the core's L1; in mode .c they send them
to the named core. The base is updated in a post-increment form and the bundle is complete. VSCATTER in mode .l puts
each active lane's bytes in increasing lane order; in mode .g, with no load outstanding and room for all of them, it
puts them, dirty, in the core's L1; in mode .c it sends one message to each core that a lane names. That the L1 lets
clean sectors go for a store, which ones is free, is the model's choice (log 24). (R13, R110, R111, R112, R113, R128,
R130, R137, R139, R315, notes/assumptions/24.md) -/
def Obligations.StoresComplete : Prop :=
  ∀ (s s1 : State) (o : BitVec 9) (sz : BitVec 3) (b d : BitVec 5) (go : Bool), Passes s1 go →
    let S : BitVec 2 → Nat → Bool → List Byte → Instr → Prop := fun m n post l i =>
      let ea := addresses post (s.rg b) o n
      let core := s1.myCore
      (∀ a, m = 0 → checkAccess m ea.1 n .store s = .ok (.at a, s1) →
        exec i s = .next ((based (s1.putBytes a l) post b ea.2).advance)) ∧
      (∀ a u, m = 2 → checkAccess m ea.1 n .store s = .ok (.at a, s1) → s1.me.loading a n = false → RoomMade s1 go [a / 128] u →
        exec i s = .next ((based (if go then u.putGlobal a l else u) post b ea.2).advance)) ∧
      (∀ c la, m = 1 → checkAccess m ea.1 n .store s = .ok (.core c la, s1) →
        exec i s = .next ((based (if go then s1.post (Agent.slot core s1.mySlot) (Agent.owner c)
          (.coveStore s1.me.ctx.toNat core s1.mySlot la n (BitVec.ofNat 512 (leNat l))) else s1) post b ea.2).advance))
    (∀ m, S m (2 ^ (sz.toNat % 4)) (decide (sz.toNat ≥ 4)) (leBytes (2 ^ (sz.toNat % 4)) (s.rg d).toNat) (.st o sz m b d)) ∧
    (∀ m, S m (vecBytes sz) (sz == 1 || sz == 3) (leBytes (vecBytes sz) (s.rv d).toNat) (.vst o sz m b d)) ∧
    (∀ (g : BitVec 3) (w : BitVec 2) (x : BitVec 1) (a : BitVec 5) (ps : List (Nat × Place)),
      let n : Nat := 2 ^ w.toNat
      let ls := activeLanes (s.rmask g.toNat) (s.rg a) (s.rv b) n (x == 1)
      let out := scatterBytes n (s.rv d) ps
      (checkLanes 0 n .store ls s = .ok (ps, s1) → (∀ q ∈ ps, ∃ k, q.2 = .at k) → exec (.vscatter g w 0 x b a d) s =
        .next ((out.foldl (fun t q => match q.1 with
          | .at k => t.putBytes k q.2
          | .core .. => t) s1).advance)) ∧
      (checkLanes 1 n .store ls s = .ok (ps, s1) → exec (.vscatter g w 1 x b a d) s =
        .next ((if go then sendScatter out s1 else s1).advance)) ∧
      (∀ u, checkLanes 2 n .store ls s = .ok (ps, s1) → (∀ q ∈ ps, ∃ k, q.2 = .at k) → s1.me.loads = [] →
        RoomMade s1 go (out.map laneSector).dedup u → exec (.vscatter g w 2 x b a d) s = .next ((if go then out.foldl (fun t q =>
          match q.1 with
          | .at k => t.putGlobal k q.2
          | .core .. => t) u else u).advance)))

/-- A memory access that fails a check traps with the cause, value and address of its check. A scalar or vector load or
store, an LDA, a STREL, and every instruction of the AMO group but AMO.DEP and AMO.FLAGS, at both widths, whose
address is no multiple of the access size (64 for AMO.XADD and AMO.XADDV) takes MISALIGNED with the size in TVAL and
the address in TADDR, before any other check. Aligned, in mode .l a load, store, LDA or STREL that leaves the
context's local pages takes LOCAL_BOUNDS with 0, and one on a page whose fill failed ECC_UNCORRECTABLE; in mode .c one
whose cove address is outside the context's share, or names a core that the context is not given, takes LOCAL_BOUNDS
with 1; an atomic's owner address outside the share, or of a core not given, takes LOCAL_BOUNDS with 2 (mode .l,
AMO.DEP and AMO.FLAGS.l) or 1 (mode .c and AMO.FLAGS.c). In mode .g an address of 2^48 or more, one whose translation
does not allow the access, and one whose walk failed take the page trap of the access kind with the walk status. A
load or LDA of bytes with an uncorrectable error takes ECC_UNCORRECTABLE. VGATHER and VSCATTER take the trap of their
lowest active lane that fails. The state that traps is the one before the instruction. (R5, R31, R111, R112, R130,
R135, R151, R153, R154, R336, R345, R373) -/
def Obligations.AccessTraps : Prop :=
  (∀ (s : State) (o9 : BitVec 9) (o6 : BitVec 6) (sz sc : BitVec 3) (z : BitVec 2) (b d : BitVec 5) (i : BitVec 2 → Instr) (ea : Word)
      (n : Nat) (k : Acc),
    let q : BitVec 9 → Bool → Nat → Word := fun o post n => (addresses post (s.rg b) o n).1
    let w : Nat := 2 ^ (sz.toNat % 4)
    (i, ea, n, k) ∈ [
      ((fun m => Instr.ld o9 sz m b d), q o9 (sz == 7) w, w, Acc.load),
      ((fun m => Instr.st o9 sz m b d), q o9 (decide (sz.toNat ≥ 4)) w, w, Acc.store),
      ((fun m => Instr.vld o9 sz m b d), q o9 (sz == 1 || sz == 3) (vecBytes sz), vecBytes sz, Acc.load),
      ((fun m => Instr.vst o9 sz m b d), q o9 (sz == 1 || sz == 3) (vecBytes sz), vecBytes sz, Acc.store),
      ((fun m => Instr.lda o6 sc z m b d), scaled (s.rg b) o6 (2 ^ z.toNat), 2 ^ z.toNat, Acc.load),
      ((fun m => Instr.strel o6 sc z m b d), scaled (s.rg b) o6 (2 ^ z.toNat), 2 ^ z.toNat, Acc.store)] →
    let T : BitVec 8 → Nat → Out := fun c v => .next (takeTrap s ⟨c, BitVec.ofNat 64 v, ea.setWidth 48⟩)
    (∀ m, ea.toNat % n ≠ 0 → exec (i m) s = T Cause.misaligned n) ∧
    (ea.toNat % n = 0 →
      (2 ^ 14 * s.myCtx.lpages < ea.toNat + n → exec (i 0) s = T Cause.localBounds 0) ∧
      (∀ p, ea.toNat + n ≤ 2 ^ 14 * s.myCtx.lpages → s.local? s.myCore s.me.ctx.toNat ea.toNat = .failed p →
        exec (i 0) s = T Cause.eccUncorrectable 0) ∧
      (2 ^ 48 ≤ ea.toNat ∨ 8 * s.myCtx.sws ≤ ea.toNat ∨ s.myCtx.has (coveAddr s.myCore ea.toNat).1 = false →
        exec (i 1) s = T Cause.localBounds 1) ∧
      (2 ^ 48 ≤ ea.toNat → exec (i 2) s = .next (takeTrap s (pageTrap k ea (walkStatus 0 1)))) ∧
      (∀ e, ea.toNat < 2 ^ 48 → s.lookup s.myCore s.me.ctx.toNat ea.toNat = some e → e.allows k = false →
        exec (i 2) s = .next (takeTrap s (pageTrap k ea (walkStatus e.level 5)))) ∧
      (∀ st, ea.toNat < 2 ^ 48 → s.lookup s.myCore s.me.ctx.toNat ea.toNat = none → s.me.walkFail = some (ea.toNat / 2 ^ 14, st) →
        exec (i 2) s = .next (takeTrap s (pageTrap k ea st)))) ∧
    (∀ f a e, k = .load →
      (LocalAt s ea n f a → s.poisoned a n = true → exec (i 0) s = T Cause.eccUncorrectable 0) ∧
      (GlobalAt s ea n .load e a → s.globalBad a n = true → exec (i 2) s = T Cause.eccUncorrectable 0))) ∧
  (∀ (s : State) (w : BitVec 2) (b a d : BitVec 5) (i : BitVec 2 → Instr) (n al : Nat),
    let x := s.rg a
    let v : Nat := if w = 2 then 4 else 8
    let T : BitVec 8 → Nat → Out := fun c v => .next (takeTrap s ⟨c, BitVec.ofNat 64 v, x.setWidth 48⟩)
    let core : Nat := bits x.toNat 48 9
    ((i, n, al) ∈ [
      ((fun m => Instr.amoSwap m w b a d), v, v),
      ((fun m => Instr.amoCas m w b a d), v, v),
      ((fun m => Instr.amoAdd m w b a d), v, v),
      ((fun m => Instr.amoAnd m w b a d), v, v),
      ((fun m => Instr.amoOr m w b a d), v, v),
      ((fun m => Instr.amoXor m w b a d), v, v),
      ((fun m => Instr.amoMinS m w b a d), v, v),
      ((fun m => Instr.amoMaxS m w b a d), v, v),
      ((fun m => Instr.amoMinZ m w b a d), v, v),
      ((fun m => Instr.amoMaxZ m w b a d), v, v),
      ((fun m => Instr.amoFadd m w b a d), v, v),
      ((fun m => Instr.amoFmin m w b a d), v, v),
      ((fun m => Instr.amoFmax m w b a d), v, v),
      ((fun m => Instr.amoXadd m w b a d), 64, 64)] →
      (∀ m, x.toNat % al ≠ 0 → exec (i m) s = T Cause.misaligned al) ∧
      (x.toNat % al = 0 →
        (2 ^ 57 ≤ x.toNat ∨ s.myCtx.has core = false ∨ s.myCtx.sws < x.toNat % 2 ^ 48 + n → exec (i 0) s = T Cause.localBounds 2) ∧
        (2 ^ 48 ≤ x.toNat ∨ 8 * s.myCtx.sws ≤ x.toNat ∨ s.myCtx.has (coveAddr s.myCore x.toNat).1 = false →
          exec (i 1) s = T Cause.localBounds 1) ∧
        (2 ^ 48 ≤ x.toNat → exec (i 2) s = .next (takeTrap s (pageTrap .store x (walkStatus 0 1)))) ∧
        (∀ e, x.toNat < 2 ^ 48 → s.lookup s.myCore s.me.ctx.toNat x.toNat = some e → e.allows .store = false →
          exec (i 2) s = .next (takeTrap s (pageTrap .store x (walkStatus e.level 5)))) ∧
        (∀ st, x.toNat < 2 ^ 48 → s.lookup s.myCore s.me.ctx.toNat x.toNat = none →
          s.me.walkFail = some (x.toNat / 2 ^ 14, st) → exec (i 2) s = .next (takeTrap s (pageTrap .store x st))))) ∧
    (x.toNat % 64 ≠ 0 → exec (.amoXaddv w b a d) s = T Cause.misaligned 64) ∧
    (x.toNat % 64 = 0 → 2 ^ 57 ≤ x.toNat ∨ s.myCtx.has core = false ∨
      s.myCtx.sws < x.toNat % 2 ^ 48 + 64 * lanes (xaddType w) → exec (.amoXaddv w b a d) s = T Cause.localBounds 2) ∧
    (2 ^ 57 ≤ x.toNat ∨ s.myCtx.has core = false ∨ bits x.toNat 7 41 ≠ 0 ∨ bits x.toNat 2 2 ≠ 0 ∨ 4 < bits x.toNat 4 3 →
      exec (.amoDep b a d) s = T Cause.localBounds 2) ∧
    (2 ^ 57 ≤ x.toNat ∨ s.myCtx.has core = false ∨ x.toNat % 2 ^ 48 ≠ 0 → exec (.amoFlags 0 a d) s = T Cause.localBounds 2) ∧
    (∀ m, m ≠ 0 → (2 ^ 10 ≤ x.toNat ∨ x.toNat % 2 ^ 7 ≠ 0 ∨ s.myCtx.has (coreAt (coveOf s.myCore) (bits x.toNat 7 3)) = false) →
      exec (.amoFlags m a d) s = T Cause.localBounds 1)) ∧
  (∀ (s s1 : State) (g : BitVec 3) (sz m : BitVec 2) (x : BitVec 1) (b a d : BitVec 5) (l r : List (Nat × Word)) (q : Nat × Word)
      (ps : List (Nat × Place)) (f : Trap),
    let n : Nat := 2 ^ sz.toNat
    activeLanes (s.rmask g.toNat) (s.rg a) (s.rv b) n (x == 1) = l ++ q :: r →
    (checkLanes m n .load l s = .ok (ps, s1) → checkAccess m q.2 n .load s1 = .error (.trap f) →
      exec (.vgather g sz m x b a d) s = .next (takeTrap s f)) ∧
    (checkLanes m n .store l s = .ok (ps, s1) → checkAccess m q.2 n .store s1 = .error (.trap f) →
      exec (.vscatter g sz m x b a d) s = .next (takeTrap s f)))

/-- PREF, PREFH, CLEAN, INV, LDA, STREL and FENCE complete. PREF and PREFH answer a next state on every state and operand:
PREF in mode .l starts the fill of an absent page and in mode .g brings the sector into L1 (which keeps it if it can
make room), PREFH brings the line into the memory-side cache; a hint that misses the TLBs joins the page walk of its
page, or starts one where the walker takes it, and the slot goes on; a hint that names nothing is dropped and counted
in HINTDROP, one whose request cannot cross the dies now does nothing, and none traps. CLEAN and INV, where the
address translates with read permission, start the write-back of the sector's dirty bytes, INV also making the rest of
it invalid. LDA, where its access passes its checks and its bytes are there (the scratchpad, an L1 hit at scope .core,
the memory-side cache or the core's own dirty bytes in mode .g at a wider scope, or the bytes that it has waited for),
applies the acquire actions of its scope and writes them zero-extended. STREL, where its access passes its checks, its
comparison is over and its release is done (in mode .g at scope .core with room in the L1), stores in every mode.
FENCE, where its release is done and no load is outstanding, releases and acquires as its two bits say. That a hint
whose request cannot cross the dies now does nothing is the model's choice (log 56), and so are the L1's room (log 24)
and FENCE with neither bit set: R148 reserves that encoding, which is no well-formed instruction, and the model lets
it only advance. (R112, R136, R141, R146, R147, R148, R149, R150, R156, R340, notes/assumptions/24.md,
notes/assumptions/56.md) -/
def Obligations.HintsAndCacheResults : Prop :=
  (∀ (s : State) (o : BitVec 9) (b : BitVec 5),
    let ea := scaled (s.rg b) o 128
    let L := s.local? s.myCore s.me.ctx.toNat ea.toNat
    (L = .outside → exec (.pref o 0 b) s = .next ((s.modMe Slot.dropHint).advance)) ∧
    (∀ p, L = .absent p → exec (.pref o 0 b) s = .next ((s.modCore s.myCore (fun k => k.request s.me.ctx.toNat p)).advance)) ∧
    (∀ p, L = .failed p → exec (.pref o 0 b) s = .next s.advance) ∧
    (∀ f a, L = .here f a → exec (.pref o 0 b) s = .next s.advance) ∧
    (∀ e a, Translates s ea .load e a →
      (s.heldBack s.myCore a = false → exec (.pref o 2 b) s = .next ((s.fillSector s.myCore a).advance) ∧
        exec (.prefh o b) s = .next ((s.mscBring (a / 256)).advance)) ∧
      (s.heldBack s.myCore a = true → exec (.pref o 2 b) s = .next s.advance ∧ exec (.prefh o b) s = .next s.advance)) ∧
    (2 ^ 48 ≤ ea.toNat ∨ (∃ e, s.lookup s.myCore s.me.ctx.toNat ea.toNat = some e ∧ e.allows .load = false) →
      exec (.pref o 2 b) s = .next ((s.modMe Slot.dropHint).advance) ∧
      exec (.prefh o b) s = .next ((s.modMe Slot.dropHint).advance)) ∧
    (ea.toNat < 2 ^ 48 → s.lookup s.myCore s.me.ctx.toNat ea.toNat = none →
      let v := coveOf s.myCore
      let w : Bool → Walk := fun fill => { ctx := s.me.ctx.toNat, va := ea.toNat, hints := [⟨s.myCore, s.mySlot, s.me.taskid, ea.toNat, fill⟩] }
      s.walkRoom v s.me.ctx.toNat ea.toNat = true →
        exec (.pref o 2 b) s = .next ((s.enterWalk v (w true)).advance) ∧
        exec (.prefh o b) s = .next ((s.enterWalk v (w false)).advance)) ∧
    (∀ m, ∃ t, exec (.pref o m b) s = .next t ∧ t.me.pc = s.nextPc) ∧ (∃ t, exec (.prefh o b) s = .next t ∧ t.me.pc = s.nextPc) ∧
    (∀ e a, Translates s ea .load e a →
      let sec := a / 128
      let k := s.core s.myCore
      let l := k.sectorBytes sec
      let C := s.cleanAt sec false
      let I := s.cleanAt sec true
      exec (.clean o b) s = .next C.advance ∧ exec (.inv o b) s = .next I.advance ∧
      (l = [] → (C.core s.myCore).wb = k.wb ∧ (C.core s.myCore).l1 = k.l1) ∧
      (l ≠ [] → (C.core s.myCore).wb = k.wb ++ [{
        num := k.wbSeq, bytes := l, tag := none, drop := false, held := s.regionHeld s.myCore (128 * sec) }]) ∧
      (∀ q ∈ (I.core s.myCore).l1, q.2.dirty = true ∨ q.1 / 128 ≠ sec) ∧
      (∀ w ∈ (I.core s.myCore).wb, (∃ p ∈ w.bytes, p.1 / 128 = sec) → w.drop = true))) ∧
  (∀ (s : State) (o : BitVec 6) (sc : BitVec 3) (z : BitVec 2) (b d : BitVec 5) (c a f h : Nat) (e : TlbEntry) (l : List Byte),
    let n : Nat := 2 ^ z.toNat
    let ea := scaled (s.rg b) o n
    let W : State → List Byte → Out := fun t l =>
      .next (((t.acquireAt s.myCore sc.toNat).wg d (BitVec.ofNat 64 (leNat l))).advance)
    let fresh := s.me.held = none ∧ s.me.loads.any (fun l => l.dest == .hold) = false
    (LocalAt s ea n f a → s.poisoned a n = false → fresh →
      exec (.lda o sc z 0 b d) s = W (touched s ea f false) (s.bytes a n)) ∧
    (GlobalAt s ea n .load e a → s.poisoned a n = false → sc = 0 → Hits s a n → fresh →
      exec (.lda o sc z 2 b d) s = W s (seenBytes s a n)) ∧
    (GlobalAt s ea n .load e a → s.poisoned a n = false → (∀ i, i < n → s.poisoned (a + i) 1 = false) → sc ≠ 0 →
      s.me.loading a n = false → s.heldBack s.myCore a = false → s.paired = false →
      exec (.lda o sc z 2 b d) s = W (s.tagCheck a (e.physical ea.toNat) (extent sc)) ((List.range n).map (fun i =>
        match (s.core s.myCore).l1.find (a + i) with
        | some y => if y.dirty then y.data else s.byte (a + i)
        | none => s.byte (a + i)))) ∧
    (s.me.held = some l →
      (CoveAt s ea n c a h → s.poisoned h n = false → exec (.lda o sc z 1 b d) s = W (reached s c a) (l.take n)) ∧
      (GlobalAt s ea n .load e a → s.poisoned a n = false → sc = 0 → exec (.lda o sc z 2 b d) s = W s (l.take n)))) ∧
  (∀ (s t : State) (o : BitVec 6) (sc : BitVec 3) (z : BitVec 2) (b d : BitVec 5) (c a f h : Nat) (e : TlbEntry),
    let n : Nat := 2 ^ z.toNat
    let ea := scaled (s.rg b) o n
    let l := leBytes n (s.rg d).toNat
    let go := goes s
    (s.paired = false ∨ s.me.agreed = true) →
    (LocalAt s ea n f a → Released (touched s ea f true) sc.toNat t →
      exec (.strel o sc z 0 b d) s = .next ((t.putBytes a l).advance)) ∧
    (CoveAt s ea n c a h → Released (reached s c a) sc.toNat t →
      exec (.strel o sc z 1 b d) s = .next ((if go then t.post (Agent.slot s.myCore s.mySlot) (Agent.owner c)
        (.coveStore s.me.ctx.toNat s.myCore s.mySlot a n (BitVec.ofNat 512 (leNat l))) else t).advance)) ∧
    (GlobalAt s ea n .store e a → Released s sc.toNat t → s.me.loading a n = false →
      (∀ u, sc = 0 → RoomMade t go [a / 128] u → exec (.strel o sc z 2 b d) s = .next ((if go then u.putGlobal a l else u).advance)) ∧
      (sc ≠ 0 → (t.core s.myCore).writingBack a n = false → t.heldBack s.myCore a = false → exec (.strel o sc z 2 b d) s =
        .next ((if go then t.writeThrough a l (some (sc.toNat, s.myCore, s.me.ctx.toNat)) else t).advance)))) ∧
  (∀ (s t : State) (sc : BitVec 3),
    exec (.fence 0 0 sc) s = .next s.advance ∧
    (s.me.loads = [] → exec (.fence 0 1 sc) s = .next ((s.acquireAt s.myCore sc.toNat).advance)) ∧
    (Released s sc.toNat t → exec (.fence 1 0 sc) s = .next t.advance ∧
      (s.me.loads = [] → exec (.fence 1 1 sc) s = .next ((t.acquireAt s.myCore sc.toNat).advance))))

/-- A store changes the bytes it stores and nothing else of memory, registers and other slots. Where ST or VST (with room
for it in the L1, in mode .g) answers a next state: in mode .l the bytes of the place hold the register's low bytes,
every other byte of memory reads as before, stored and as any core sees it; in mode .g, the storing core sees the
stored bytes at the translated address, every other byte as before (but for a clean sector that left its L1 for want
of room, whose bytes it then sees as memory holds them), and no other core's view and no stored byte of memory
changes; in mode .c no byte reads differently before the message arrives. In all modes only the base register (in a
post-increment form) and the PC change among the slot's registers, and no other slot changes. VSCATTER does the same
for the places of its active lanes: outside them every byte is as before, in mode .g as the storing core sees it (with
the same exception), and in mode .c everywhere. Where LDA completes, only gd, UNORD and the PC change among the slot's
registers, no stored byte, no other core's view and no other slot. Where STREL completes, no register, flag or special
register but the PC changes, no other slot, and outside the bytes that it stores no stored byte and no other core's
view (in mode .c no stored byte and no core's view at all, and in mode .g at scope .core no stored byte and no other
core's view at all). Where an owner performs an atomic, every byte outside those that the atomic names (at the stored
address, or at the owner's local addresses) reads as before, stored and as each core sees it, and no slot changes;
AMO.DEP and AMO.FLAGS leave all of memory. All of it is stated outside a paired context for the instructions. (R13,
R111, R112, R130, R137, R139, R141, R147, R152, R153, R154, notes/assumptions/24.md) -/
def Obligations.StoreFrame : Prop :=
  (∀ (s s1 t : State) (o : BitVec 9) (sz : BitVec 3) (b d : BitVec 5) (a : Nat),
    let Regs : State → Bool → Prop := fun t post =>
      (∀ r, (post = false ∨ r ≠ b) → t.rg r = s.rg r) ∧ (∀ r, t.rv r = s.rv r) ∧ (∀ r, t.rmask r = s.rmask r) ∧
      t.me.fflags = s.me.fflags ∧ SpecialSame s t ∧ t.me.pc = s.nextPc ∧
      (∀ c j, (c, j) ≠ (s.myCore, s.mySlot) → t.slot c j = s.slot c j) ∧ t.ctxs = s.ctxs
    let F : BitVec 2 → Nat → Bool → List Byte → Instr → Prop := fun m n post l i =>
      s.paired = false → exec i s = .next t →
      (checkAccess m (addresses post (s.rg b) o n).1 n .store s = .ok (.at a, s1) →
        (m = 0 → Regs t post ∧ t.net = s.net ∧ t.bytes a n = l ∧
          (∀ k, (k < a ∨ a + n ≤ k) → t.byte k = s.byte k ∧ ∀ c, t.seen c k = s.seen c k)) ∧
        (m = 2 → s.me.loading a n = false → s1.l1Make s1.myCore [a / 128] 1 ≠ none → Regs t post ∧ t.net = s.net ∧ (∀ k, k < n → (t.seen s.myCore (a + k)) = l.getD k 0) ∧
          (∀ k, (k < a ∨ a + n ≤ k) → SeenElse s t [a / 128] k) ∧ (∀ k, t.byte k = s.byte k) ∧
          (∀ c k, c ≠ s.myCore → t.seen c k = s.seen c k))) ∧
      (∀ c la, m = 1 → checkAccess m (addresses post (s.rg b) o n).1 n .store s = .ok (.core c la, s1) →
        Regs t post ∧ BytesSame s t)
    s.MemOk →
    (∀ m, F m (2 ^ (sz.toNat % 4)) (decide (sz.toNat ≥ 4)) (leBytes (2 ^ (sz.toNat % 4)) (s.rg d).toNat) (.st o sz m b d)) ∧
    (∀ m, F m (vecBytes sz) (sz == 1 || sz == 3) (leBytes (vecBytes sz) (s.rv d).toNat) (.vst o sz m b d)) ∧
    (∀ (g : BitVec 3) (w m : BitVec 2) (x : BitVec 1) (r : BitVec 5) (ps : List (Nat × Place)),
      let n : Nat := 2 ^ w.toNat
      s.paired = false → checkLanes m n .store (activeLanes (s.rmask g.toNat) (s.rg r) (s.rv b) n (x == 1)) s = .ok (ps, s1) →
      exec (.vscatter g w m x b r d) s = .next t →
      let Outside : Nat → Prop := fun k => ∀ q ∈ ps, ∀ y, q.2 = .at y → k < y ∨ y + n ≤ k
      (m = 0 → Regs t false ∧ t.net = s.net ∧ ∀ k, Outside k → t.byte k = s.byte k ∧ ∀ c, t.seen c k = s.seen c k) ∧
      (m = 1 → Regs t false ∧ BytesSame s t) ∧
      let secs := ((scatterBytes n (s.rv d) ps).map laneSector).dedup
      (m = 2 → s.me.loads = [] → s1.l1Make s1.myCore secs secs.length ≠ none → Regs t false ∧ t.net = s.net ∧ (∀ k, t.byte k = s.byte k) ∧
        (∀ k, Outside k → SeenElse s t secs k) ∧ (∀ c k, c ≠ s.myCore → t.seen c k = s.seen c k)))) ∧
  (∀ (s s1 t : State) (o : BitVec 6) (sc : BitVec 3) (z m : BitVec 2) (b d : BitVec 5),
    let n : Nat := 2 ^ z.toNat
    let Others : Prop := (∀ r, t.rv r = s.rv r) ∧ (∀ r, t.rmask r = s.rmask r) ∧ t.me.fflags = s.me.fflags ∧
      ∀ c j, (c, j) ≠ (s.myCore, s.mySlot) → t.slot c j = s.slot c j
    s.MemOk → s.paired = false → t.me.life = .running → t.me.pc = s.nextPc →
    (exec (.lda o sc z m b d) s = .next t → GSame s t d ∧ Others ∧
      t.me.special = { s.me.special with unord := t.me.unord } ∧ (∀ k, t.byte k = s.byte k) ∧
      (∀ c k, c ≠ s.myCore → t.seen c k = s.seen c k)) ∧
    (exec (.strel o sc z m b d) s = .next t → (∀ r, t.rg r = s.rg r) ∧ Others ∧
      SpecialSame s t ∧
      (∀ a, checkAccess m (scaled (s.rg b) o n) n .store s = .ok (.at a, s1) →
        (∀ k, (k < a ∨ a + n ≤ k) → t.byte k = s.byte k ∧ ∀ c, c ≠ s.myCore → t.seen c k = s.seen c k) ∧
        (m = 2 → sc = 0 → ∀ k, t.byte k = s.byte k ∧ ∀ c, c ≠ s.myCore → t.seen c k = s.seen c k)) ∧
      (∀ c la, checkAccess m (scaled (s.rg b) o n) n .store s = .ok (.core c la, s1) →
        ∀ k, t.byte k = s.byte k ∧ ∀ c, t.seen c k = s.seen c k))) ∧
  (∀ (s u t : State) (id : Nat) (m : Msg) (a : Atomic), s.MemOk → s.take id = some (m, u) → m.body = .atomic a →
    exec (.atomicPerform id) s = .next t →
    (a.op < 0x0F → (∀ c j, t.slot c j = s.slot c j) ∧
      ∀ k, (a.glob = true → k < a.la ∨ a.la + a.bytes ≤ k) →
        (a.glob = false → ∀ i, i < a.bytes → s.localByte (m.dst / 8) a.ctx (a.la + i) ≠ some k) →
        t.byte k = s.byte k ∧ ∀ c, t.seen c k = s.seen c k) ∧
    (a.op = 0x0F ∨ a.op = 0x10 → a.glob = false → BytesSame s t))

/-- Atomics leave for their owner, posted or with a reply still to come. Where the address passes the checks of R151 and
the comparison of a pair lets it go on, every instruction of the AMO group answers a next state with the bundle
complete and the atomic, with its operation, width, operands and sender, on its way to the owner (on the core of a
pair that performs it). With gd = g0 it is posted, while fewer than sixteen are outstanding; otherwise the slot waits
for the reply that writes gd. (R151, R152, R153, R154, R155, R315) -/
def Obligations.AtomicsLeave : Prop :=
  ∀ (s s1 : State) (m w : BitVec 2) (b a d : BitVec 5) (p : AtomicAt) (go : Bool), Passes s1 go →
    (d = 0 → s1.postedBy s1.myCore s1.mySlot < 16) →
    let x := s.rg a
    let R : Nat → Nat → AtomicAt → Word → Word → Vec → Out := fun op width p y z v =>
      let t := if go then s1.post (Agent.slot s1.myCore s1.mySlot) p.agent (.atomic {
        op := op, width := width, ctx := s1.me.ctx.toNat, la := p.la, glob := p.glob, operand := y, compare := z, vec := v
        near := p.near, core := s1.myCore, slot := s1.mySlot, task := s1.me.taskid, posted := d == 0 }) else s1
      if d = 0 then .next t.advance
      else .next ((t.advance).modMe (fun u => { u with reply := some (d, s1.msgSeq), life := .stalled .reply }))
    (let n : Nat := if w = 2 then 4 else 8
     atomicAddr m x n n s = .ok (p, s1) →
       exec (.amoSwap m w b a d) s = R 0 n p (s.rg b) (s.rg d) 0 ∧
       exec (.amoCas m w b a d) s = R 1 n p (s.rg b) (s.rg d) 0 ∧
       exec (.amoAdd m w b a d) s = R 2 n p (s.rg b) (s.rg d) 0 ∧
       exec (.amoAnd m w b a d) s = R 3 n p (s.rg b) (s.rg d) 0 ∧
       exec (.amoOr m w b a d) s = R 4 n p (s.rg b) (s.rg d) 0 ∧
       exec (.amoXor m w b a d) s = R 5 n p (s.rg b) (s.rg d) 0 ∧
       exec (.amoMinS m w b a d) s = R 6 n p (s.rg b) (s.rg d) 0 ∧
       exec (.amoMaxS m w b a d) s = R 7 n p (s.rg b) (s.rg d) 0 ∧
       exec (.amoMinZ m w b a d) s = R 8 n p (s.rg b) (s.rg d) 0 ∧
       exec (.amoMaxZ m w b a d) s = R 9 n p (s.rg b) (s.rg d) 0 ∧
       exec (.amoFadd m w b a d) s = R 10 n p (s.rg b) (s.rg d) 0 ∧
       exec (.amoFmin m w b a d) s = R 11 n p (s.rg b) (s.rg d) 0 ∧
       exec (.amoFmax m w b a d) s = R 12 n p (s.rg b) (s.rg d) 0) ∧
    (atomicAddr m x 64 64 s = .ok (p, s1) → exec (.amoXadd m w b a d) s = R 13 (xaddType w) p (s.rg b) 0 0) ∧
    (atomicAddr 0 x (64 * lanes (xaddType w)) 64 s = .ok (p, s1) →
      exec (.amoXaddv w b a d) s = R 14 (xaddType w) p 0 0 (s.rv b)) ∧
    (s1 = s → let c := bits x.toNat 48 9
      (x.toNat < 2 ^ 57 → s.myCtx.has c = true → bits x.toNat 7 41 = 0 → bits x.toNat 2 2 = 0 → bits x.toNat 4 3 ≤ 4 →
        exec (.amoDep b a d) s = R 15 8 ⟨Agent.owner c, x.toNat % 128, false, false⟩ (s.rg b) 0 0) ∧
      (x.toNat < 2 ^ 57 → s.myCtx.has c = true → x.toNat % 2 ^ 48 = 0 →
        exec (.amoFlags 0 a d) s = R 16 8 ⟨Agent.owner c, 0, false, false⟩ 0 0 0) ∧
      (let k := coreAt (coveOf s.myCore) (bits x.toNat 7 3)
       m ≠ 0 → x.toNat < 2 ^ 10 → x.toNat % 2 ^ 7 = 0 → s.myCtx.has k = true →
        exec (.amoFlags m a d) s = R 16 8 ⟨Agent.owner k, 0, false, false⟩ 0 0 0))

/-- NOP has no effect beyond advancing the PC by 4. Rule R22 whole: the word 0 is NOP, a lone C-class word with major 0x00
and every other field zero; in every state that issues it as a lone word, NOP completes with the PC advanced by 4 and
no register, memory byte or other slot changed; the word 0xFFFF_FFFF is a pair tail, and a slot whose PC comes onto it
takes ILLEGAL_FRAME. (R22) -/
def Obligations.NopR22 : Prop :=
  decodeWord 0 = some .nop ∧ isC 0 = true ∧ isHead 0 = false ∧ major 0 = 0 ∧ isTail 0xFFFFFFFF = true ∧
  (∀ s : State, s.cur.role = .lone → ∃ t, exec .nop s = .next t ∧ t.me.pc = s.me.pc + 4 ∧ ElsewhereSame s t ∧ BytesSame s t ∧
    SpecialSame s t ∧ (∀ r, t.rg r = s.rg r) ∧ (∀ r, t.rv r = s.rv r) ∧ (∀ r, t.rmask r = s.rmask r) ∧
    t.me.fflags = s.me.fflags) ∧
  (∀ (s : State) (a : Nat), Ready s → Fetches s s.me.pc a → s.num a 4 = 0xFFFFFFFF →
    step s = .next (takeTrap s ⟨Cause.illegalFrame, 0xFFFFFFFF, s.me.pc.setWidth 48⟩))

/-- Branches, jumps, LOOP, PFX and BRK complete. In every state: BR and BRL go to the branch word's address plus four
times the signed offset, BRL linking the next bundle in g31; BCC and BMASK go there where their condition holds and
fall through where it does not; JR and JRL go to an address that is a multiple of 4, JRL linking in gd, and otherwise
take MISALIGNED with 4, but for a gang's follower: exec gives the member's own direction, and the follower goes where
its leader went (R83, R310), which State.ended sets by Slot.followed; LOOP counts a register that is not zero down and
branches while it is not zero, and falls through with the register unchanged where it is zero; PFX latches bits [31:8]
of its word and leaves it pending; BRK takes BREAKPOINT with its code. (R24, R35, R83, R96, R97, R98, R99, R100, R104,
R310) -/
def Obligations.ControlResults : Prop :=
  ∀ (s : State) (o24 : BitVec 24) (o11 : BitVec 11) (o19 : BitVec 19) (k : BitVec 3) (b a d : BitVec 5) (c15 : BitVec 15),
    let T : Int → Word := fun o => s.wordPc + BitVec.ofInt 64 (4 * o)
    exec (.br o24) s = .next (s.goto (T o24.toInt)) ∧
    exec (.brl o24) s = .next ((s.wg 31 s.nextPc).goto (T o24.toInt)) ∧
    ((s.rg a).toNat % 4 = 0 ∨ s.follower = true → exec (.jr a) s = .next (s.goto (s.rg a)) ∧
      exec (.jrl a d) s = .next ((s.wg d s.nextPc).goto (s.rg a))) ∧
    ((s.rg a).toNat % 4 ≠ 0 → s.follower = false → exec (.jr a) s = .next (takeTrap s ⟨Cause.misaligned, 4, (s.rg a).setWidth 48⟩) ∧
      exec (.jrl a d) s = .next (takeTrap s ⟨Cause.misaligned, 4, (s.rg a).setWidth 48⟩)) ∧
    (let x := s.rg a
     let y := s.rg b
     let taken : Bool := match k.toNat with
       | 0 => decide (x = y) | 1 => decide (x ≠ y) | 2 => decide (x.toInt < y.toInt) | 3 => decide (y.toInt ≤ x.toInt)
       | 4 => decide (x.toNat < y.toNat) | 5 => decide (y.toNat ≤ x.toNat) | 6 => decide (x &&& y ≠ 0) | _ => decide (x &&& y = 0)
     (taken = true → exec (.bcc o11 k b a) s = .next (s.goto (T o11.toInt))) ∧
     (taken = false → exec (.bcc o11 k b a) s = .next s.advance)) ∧
    (let x := s.rmask a.toNat
     let y := s.rmask b.toNat
     let taken : Bool := match k.toNat with
       | 0 => decide (x = y) | 1 => decide (x ≠ y) | 2 => decide (x &&& y = y) | 3 => decide (x &&& y ≠ y)
       | 6 => decide (x &&& y ≠ 0) | _ => decide (x &&& y = 0)
     (taken = true → exec (.bmask o11 k b a) s = .next (s.goto (T o11.toInt))) ∧
     (taken = false → exec (.bmask o11 k b a) s = .next s.advance)) ∧
    (s.rg a = 0 → exec (.loop o19 a) s = .next s.advance) ∧
    (s.rg a = 1 → exec (.loop o19 a) s = .next ((s.wg a 0).advance)) ∧
    (s.rg a ≠ 0 → s.rg a ≠ 1 → exec (.loop o19 a) s = .next ((s.wg a (s.rg a - 1)).goto (T o19.toInt))) ∧
    (∀ (r : BitVec 2) (sc : BitVec 3) (y x : BitVec 1) (g : BitVec 4) (n : BitVec 3), ∃ t,
      exec (.pfx r sc y x g n b a) s = .next t ∧ t.me.pfxp = true ∧ t.me.pc = s.nextPc ∧
      t.me.latch = r ++ sc ++ y ++ x ++ g ++ n ++ b ++ a ∧ (∀ i, t.rg i = s.rg i) ∧ ElsewhereSame s t) ∧
    exec (.brk c15) s = .next (takeTrap s ⟨Cause.breakpoint, c15.setWidth 64, 0⟩)

/-- HALT, HALTR, SYS, MBTAKE and MBCLR complete. HALT, once its join decrement is made (none for a task without a
counter), ends the task; HALTR does so after retaining the named banks for the successor handler, outside the service
slot and a gang; SYS sends its request to firmware once and waits, and writes the reply to gd when it has come;
MBTAKE, outside a paired context, takes a mailbox and its full bit and clears the bit; MBCLR clears the bit. (R102,
R103, R105, R108, R109, R186, R197) -/
def Obligations.SystemResults : Prop :=
  ∀ (s s1 : State) (v5 b a d : BitVec 5),
    (joinDone s = .ok ((), s1) → exec .halt s = .next (s1.haltTask s1.myCore s1.mySlot)) ∧
    (joinDone s = .ok ((), s1) → s.mySlot ≠ 4 → s.me.gang = false → (s.rg b).toNat < s.myCtx.handlers.length →
      exec (.haltr b a) s = .next ((s1.modCore s1.myCore (fun k => { k.retain s1.mySlot s1.me.ctx.toNat (s.rg b).toNat
        k.itemSeq (s.rg a) with itemSeq := k.itemSeq + 1 })).haltTask s1.myCore s1.mySlot)) ∧
    ((s.freeSlot s.myCore s.mySlot).slot s.myCore s.mySlot).life = .free ∧
    (∀ go, s.follower = false → s.mySlot ≠ 4 → Passes s go →
      (s.me.got = none → s.me.ask = none → exec (.sys v5 a d) s = .next (stall ((if go then
        s.post (Agent.slot s.myCore s.mySlot) Agent.firmware (.sys v5.toNat s.me.ctx.toNat s.myCore s.mySlot s.me.taskid (s.rg a))
        else s).modMe (fun t => { t with ask := some s.msgSeq })) .reply)) ∧
      (∀ x, s.me.got = some x → exec (.sys v5 a d) s = .next ((s.wg d x).advance))) ∧
    (s.paired = false → exec (.mbtake b a d) s = .next ((((s.wg d (s.me.mailbox a.toNat)).wg b
      (if s.me.mbFull.getLsbD (a.toNat % 4) then 1 else 0)).modMe (fun t => t.clearFull a.toNat)).advance)) ∧
    exec (.mbclr a) s = .next ((s.modMe (fun t => t.clearFull a.toNat)).advance)

/-- The CSR group reads the old value, writes the new one, and checks privilege and existence. Outside a paired context:
CSRRW, CSRRS and CSRRC of a CSR that the core may access and that exists write the old value to gd; CSRRS and CSRRC
with g0 write nothing else; otherwise the CSR takes ga, old OR ga, or old AND NOT ga in its writable fields, a CSR of
a slot and one of firmware alike. A number of 0x800 or more outside a firmware core takes PRIVILEGE; an absent number,
and a reserved field value whichever of the three forms it, take ILLEGAL_INSTRUCTION. What is written reads back:
after a CSRRW, TSINH, FCTL, FFLAGS, GSTAT, EMITTO, HINTDROP and BARTO read as the field's bits of ga; GCTL reads TIE
and NFQ of ga, and its NFS, like UNORD of STATUS, stays unless ga has a 1 there (write one to clear); every other CSR
of a slot is read only: the write changes nothing. On a firmware core PBTGT reads the low nine bits, PBNEW0 to PBNEW2
the bits [21:12] in place, a pair of region words the valid, die and granule bits of each entry, a command register
reads 1 after the write of 1 unless a command runs, and another write leaves it. (R73, R74, R75, R106, R31, R359,
Table 4.2, Table 4.9) -/
def Obligations.CsrResults : Prop :=
  ∀ (s : State) (r d : BitVec 5) (c : BitVec 12), s.paired = false →
    let n := c.toNat
    let w := s.rg r
    let old := s.csr s.myCore s.mySlot n
    ((n < 0x800 ∨ s.isFw s.myCore = true) → ∀ x, old = some x →
      (r = 0 → exec (.csrrs r c d) s = .next ((s.wg d x).advance) ∧ exec (.csrrc r c d) s = .next ((s.wg d x).advance)) ∧
      (n < 0x800 → ∀ u, s.me.csrWrite n w w = some u → exec (.csrrw r c d) s = .next (((s.setMe u).wg d x).advance)) ∧
      (n < 0x800 → r ≠ 0 → ∀ u, s.me.csrWrite n (x ||| w) w = some u →
        exec (.csrrs r c d) s = .next (((s.setMe u).wg d x).advance)) ∧
      (n < 0x800 → r ≠ 0 → ∀ u, s.me.csrWrite n (x &&& ~~~w) w = some u →
        exec (.csrrc r c d) s = .next (((s.setMe u).wg d x).advance)) ∧
      (0x800 ≤ n → exec (.csrrw r c d) s = .next (((s.csrWrite s.myCore n w).wg d x).advance) ∧
        (r ≠ 0 → exec (.csrrs r c d) s = .next (((s.csrWrite s.myCore n (x ||| w)).wg d x).advance) ∧
          exec (.csrrc r c d) s = .next (((s.csrWrite s.myCore n (x &&& ~~~w)).wg d x).advance))) ∧
      (n < 0x800 → (s.me.csrWrite n w w = none → exec (.csrrw r c d) s = .next (takeTrap s (illegalTrap s))) ∧
        (r ≠ 0 → s.me.csrWrite n (x ||| w) w = none → exec (.csrrs r c d) s = .next (takeTrap s (illegalTrap s))) ∧
        (r ≠ 0 → s.me.csrWrite n (x &&& ~~~w) w = none → exec (.csrrc r c d) s = .next (takeTrap s (illegalTrap s))))) ∧
    (0x800 ≤ n → s.isFw s.myCore = false →
      let T : Out := .next (takeTrap s ⟨Cause.privilege, s.cur.word.setWidth 64, s.wordPc.setWidth 48⟩)
      exec (.csrrw r c d) s = T ∧ exec (.csrrs r c d) s = T ∧ exec (.csrrc r c d) s = T) ∧
    ((n < 0x800 ∨ s.isFw s.myCore = true) → old = none →
      let T : Out := .next (takeTrap s (illegalTrap s))
      exec (.csrrw r c d) s = T ∧ exec (.csrrs r c d) s = T ∧ exec (.csrrc r c d) s = T) ∧
    (∀ x, old = some x →
      let Reads : Word → Prop := fun v => ∃ t, exec (.csrrw r c 0) s = .next t ∧ t.csr s.myCore s.mySlot n = some v
      (∀ q ∈ [(0x009, w.toNat % 2 ^ 48), (0x018, w.toNat % 2 ^ 4), (0x019, w.toNat % 2 ^ 5), (0x021, w.toNat),
          (0x058, w.toNat % 2 ^ 32), (0x070, w.toNat % 2 ^ 32), (0x078, w.toNat % 2 ^ 32)],
        n = q.1 → Reads (BitVec.ofNat 64 q.2)) ∧
      (n = 0x020 → w.toNat % 4 ≠ 3 → Reads (BitVec.ofNat 64 (w.toNat % 8 + (if x.getLsbD 3 && !w.getLsbD 3 then 8 else 0)))) ∧
      (n = 0x000 → ∃ t, exec (.csrrw r c 0) s = .next t ∧
        (t.status s.myCore s.mySlot).getLsbD 10 = (x.getLsbD 10 && !w.getLsbD 10)) ∧
      (n < 0x800 → n ∉ [0x000, 0x009, 0x018, 0x019, 0x020, 0x021, 0x058, 0x070, 0x078] →
        exec (.csrrw r c d) s = .next (((s.setMe s.me).wg d x).advance)) ∧
      (s.isFw s.myCore = true →
        (n = 0x8C8 → Reads (BitVec.ofNat 64 (w.toNat % 2 ^ 9))) ∧
        (0x8C9 ≤ n → n ≤ 0x8CB → Reads (BitVec.ofNat 64 (w.toNat % 2 ^ 22 / 2 ^ 12 * 2 ^ 12))) ∧
        (0x880 ≤ n → n < 0x8A0 → Reads (BitVec.ofNat 64 (w.toNat &&& 0xC03FC03FC03FC03F))) ∧
        (n = 0x8C0 ∨ n = 0x8CC → (w.toNat % 4 = 1 ∧ x ≠ 1 → Reads 1) ∧ (w.toNat % 4 ≠ 1 ∨ x = 1 → Reads x))))

/-- Control transfers and the CSR group change the PC, the named register and the CSR written, and nothing else. Whenever
BR, BRL, BCC, BMASK, LOOP or a JR or JRL to a multiple of 4 answers a next state: every g register but the link
register (g31 for BRL, gd for JRL) or the counter of LOOP is unchanged, every other register, FFLAGS and special
register is unchanged, memory reads as before, nothing outside the slot changes, and no prefix stays pending. Where an
instruction of the CSR group completes outside a paired context, every g register but gd and every v and mask register
is unchanged, memory reads as before, and with a number below 0x800 nothing outside the slot changes, and in it, of
the special registers (mailboxes, event registers, trap registers and CSRs), only the fields of the CSR named, and
FFLAGS only where it is the CSR named; where it writes nothing (CSRRS or CSRRC with g0), or the number is 0x800 or
more, FFLAGS and the slot's special registers are unchanged too, and in the latter case no other slot and no other
core changes. (R21, R73, R74, R96, R97, R98, R99, R100, R106) -/
def Obligations.ControlFrame : Prop :=
  (∀ (s t : State) (o24 : BitVec 24) (o11 : BitVec 11) (o19 : BitVec 19) (k : BitVec 3) (b a d : BitVec 5),
    let Rest : BitVec 5 → Prop := fun g => ElsewhereSame s t ∧ BytesSame s t ∧ SpecialSame s t ∧ GSame s t g ∧
      (∀ r, t.rv r = s.rv r) ∧ (∀ r, t.rmask r = s.rmask r) ∧ t.me.fflags = s.me.fflags ∧ t.me.pfxp = false
    ((exec (.br o24) s = .next t ∨ exec (.bcc o11 k b a) s = .next t ∨ exec (.bmask o11 k b a) s = .next t ∨
      ((s.rg a).toNat % 4 = 0 ∧ exec (.jr a) s = .next t)) → Rest 0 ∧ t.rg 0 = s.rg 0) ∧
    (exec (.brl o24) s = .next t → Rest 31 ∧ t.rg 31 = s.nextPc) ∧
    ((s.rg a).toNat % 4 = 0 → exec (.jrl a d) s = .next t → Rest d ∧ (d ≠ 0 → t.rg d = s.nextPc)) ∧
    (exec (.loop o19 a) s = .next t → Rest a ∧ t.rg a = (if s.rg a = 0 then 0 else s.rg a - 1))) ∧
  (∀ (s t : State) (r d : BitVec 5) (c : BitVec 12) (i : Instr), s.paired = false → exec i s = .next t →
    t.me.life = .running → t.me.pc = s.nextPc → i ∈ [Instr.csrrw r c d, Instr.csrrs r c d, Instr.csrrc r c d] →
    GSame s t d ∧ (∀ n, t.rv n = s.rv n) ∧ (∀ n, t.rmask n = s.rmask n) ∧ BytesSame s t ∧ t.me.pfxp = false ∧
    (c.toNat < 0x800 → ElsewhereSame s t ∧ (c.toNat ≠ 0x019 → t.me.fflags = s.me.fflags) ∧
      t.me.special = (match c.toNat with
        | 0x000 => { s.me.special with unord := t.me.unord }
        | 0x009 => { s.me.special with tsinh := t.me.tsinh }
        | 0x018 => { s.me.special with rm := t.me.rm, avt := t.me.avt }
        | 0x020 => { s.me.special with tie := t.me.tie, nfq := t.me.nfq, nfs := t.me.nfs }
        | 0x021 => { s.me.special with gstat := t.me.gstat }
        | 0x058 => { s.me.special with emitto := t.me.emitto }
        | 0x070 => { s.me.special with hintdrop := t.me.hintdrop }
        | 0x078 => { s.me.special with barto := t.me.barto }
        | _ => s.me.special)) ∧
    ((i ≠ .csrrw r c d ∧ r = 0) ∨ 0x800 ≤ c.toNat → SpecialSame s t ∧ t.me.fflags = s.me.fflags) ∧
    (0x800 ≤ c.toNat → (∀ k j, (k, j) ≠ (s.myCore, s.mySlot) → t.slot k j = s.slot k j) ∧
      ∀ k, k ≠ s.myCore → t.core k = s.core k))

/-- Taking a trap stops the slot and saves its cause, value, address and PC. Whenever the issuing slot takes a trap: the
slot is stopped as trapped; TCAUSE, TVAL and TADDR hold the trap's, TEPC and the PC hold the address of the bundle,
TTILE the core and its cove, TTASK the task identifier and the slot; general, vector and mask registers, FFLAGS and
the task's identity are unchanged, and so is memory, where neither the slot nor another of its group is linked at a
wait cell (whose header an unlinking writes) and the slot is no woken waiter; the pending prefix stays unless the
cause is ILLEGAL_PREFIX; and a TRAP record of four entries with the cause, slot and core is on its way to the
context's trap queue on its trap core. (R35, R83, R373, R374, R375, Table 19.1a) -/
def Obligations.TrapEntry : Prop :=
  ∀ (s : State) (x : Trap), s.me.woken = none → s.me.linkedAt = none →
    (∀ p ∈ s.group s.myCore s.mySlot, (s.slot p.1 p.2).linkedAt = none) →
    let t := takeTrap s x
    t.me.life = .trapped ∧ t.me.tcause = x.cause ∧ t.me.tval = x.tval ∧ t.me.taddr = x.taddr ∧
    t.me.tepc = s.me.pc.setWidth 48 ∧ t.me.pc = (s.me.pc.setWidth 48).setWidth 64 ∧
    t.me.ttile.toNat = s.myCore + coveOf s.myCore * 2 ^ 16 ∧ t.me.ttask.toNat = s.me.taskid.toNat + s.mySlot * 2 ^ 32 ∧
    (∀ r, t.rg r = s.rg r) ∧ (∀ r, t.rv r = s.rv r) ∧ (∀ r, t.rmask r = s.rmask r) ∧ t.me.fflags = s.me.fflags ∧
    t.me.taskid = s.me.taskid ∧ t.me.ctx = s.me.ctx ∧ t.me.left = s.me.left ∧ t.me.ev = s.me.ev ∧
    t.me.pfxp = (s.me.pfxp && decide (x.cause ≠ Cause.illegalPrefix)) ∧ t.me.latch = s.me.latch ∧
    t.mem = s.mem ∧ t.ctxs = s.ctxs ∧
    (∃ m, t.net = s.net ++ [m] ∧ m.dst = Agent.queue s.myCtx.trapcore s.myCtx.trapq ∧ ∃ r, m.body =
      .record r s.me.ctx.toNat (.queue s.myCtx.trapcore s.myCtx.trapq) .system false ∧ r.kind = 7 ∧ r.isLong = true ∧
      r.payload = x.cause.toNat + s.mySlot * 2 ^ 8 + s.myCore * 2 ^ 11)

/-- A pending prefix lasts for one word, and an illegal one traps. Every instruction that completes the bundle through the
common end leaves no prefix pending; a word that a pending prefix does not fit (its group takes no prefix, or a field
is set that the group does not honour) takes ILLEGAL_PREFIX with the word and its address, and that trap clears the
prefix; the rounding mode in force is the prefix's where it gives one and FCTL's otherwise. (R31, R34, R35, R54, Table
2.14) -/
def Obligations.PrefixLatch : Prop :=
  (∀ (s : State) (p : Word), (s.goto p).me.pfxp = false ∧ s.advance.me.pfxp = false) ∧
  (∀ (s : State) (w : BitVec 32) (i : Instr), inPlace w = some i → s.me.pfxp = true →
    Instr.prefixBad i w (Pfx.of s.me.latch) = true →
    s.runWords w none = .next (takeTrap (s.atWord .lone w) ⟨Cause.illegalPrefix, w.setWidth 64, s.me.pc.setWidth 48⟩)) ∧
  (∀ (s : State), s.me.woken = none → s.me.linkedAt = none → ∀ v a, (takeTrap s ⟨Cause.illegalPrefix, v, a⟩).me.pfxp = false) ∧
  (∀ (s : State), s.me.pfxp = true → s.cur.role = .lone →
    s.rmode = (if (Pfx.of s.me.latch).rm ≠ 0 then (Pfx.of s.me.latch).rm else s.me.rm.toNat)) ∧
  (∀ (s : State), s.me.pfxp = false → s.rmode = s.me.rm.toNat)

/-- RECV, RPEEK, RACK, QSTAT, EMIT, EMITL, TIDE, TSREAD and TSINH complete. Outside a gang follower and a paired context:
EMIT and EMITL send their record to the destination of R226 and wait for its status; TIDE raises T_out of the core;
TSREAD with selector 0 writes T_out; TSINH writes the old stamp to gd and raises the stamp; none of these needs a
queue. For a queue bound for the task's context: QSTAT writes the value of its selector, 0 to 2; TSREAD of a queue
with a window writes the tidemark of a subscribed source (selector 1), the end of the last closed window or 0 (2), or
that of the open window (3), and takes ILLEGAL_INSTRUCTION for a queue without a window or a source that is not in the
table or not subscribed. If it is polled: RECV outside the service slot and RPEEK of a queue with a record write the
four ev registers, TSINH and gd from the record at the head, the queue unchanged; RECV of an empty queue waits, RPEEK
of one writes 0 to gd; RACK of an empty queue has no effect, and otherwise moves head past the record; where that is a
window close of a TADV queue, its end raises done of the queue, and T_out of the core follows the least done of the
context's TADV queues there. (R205, R206, R210, R213, R223, R224, R225, R226, R227, R228, R229, R230) -/
def Obligations.QueueInstructionResults : Prop :=
  ∀ (s : State) (b a d : BitVec 5), s.follower = false → s.paired = false →
    (∀ (w : Target), emitTarget (s.rg a) s = .ok (w, s) →
      let late : Nat := if tsBefore s.me.tsinh (s.toutOf s.myCore s.me.ctx.toNat) then 1 else 0
      let E : Rec → State := fun r => (s.post (Agent.slot s.myCore s.mySlot) w.agent
        (.record r s.me.ctx.toNat w (.slot s.myCore s.mySlot s.me.taskid) false)).advance.modMe (fun k => { k with reply := some (d, s.msgSeq), life := .stalled .emit, started := s.dtime.toNat })
      let v := (s.rv b).toNat
      exec (.emit b a d) s = .next (E ⟨mkRec s.me.tsinh (s.srcId 1 s.myCore) 2 late ((s.rg b).toNat % 2 ^ 48), []⟩) ∧
      exec (.emitl b a d) s = .next (E ⟨mkRec s.me.tsinh (s.srcId 1 s.myCore) 2 (late + 4) (bits v 384 48),
        [BitVec.ofNat 128 v, BitVec.ofNat 128 (v / 2 ^ 128), BitVec.ofNat 128 (v / 2 ^ 256)]⟩)) ∧
    exec (.tide a) s = .next ((s.raiseTout s.myCore s.me.ctx.toNat ((s.rg a).setWidth 48)).advance) ∧
    exec (.tsread 0 a d) s = .next ((s.wg d ((s.toutOf s.myCore s.me.ctx.toNat).setWidth 64)).advance) ∧
    (∃ t, exec (.tsinh a d) s = .next t ∧ (d ≠ 0 → t.rg d = s.me.tsinh.setWidth 64) ∧
      t.me.tsinh = tsMax s.me.tsinh ((s.rg a).setWidth 48) ∧ t.me.pc = s.nextPc ∧ GSame s t d ∧ ElsewhereSame s t) ∧
    ∀ (q : BitVec 4) (u : Queue), (s.core s.myCore).queues.find q.toNat = some u → u.ctx = s.me.ctx.toNat →
    let rec1 : Rec := (s.ringRec s.myCore u u.head).1
    let n : Nat := (s.ringRec s.myCore u u.head).2
    let Head : Instr → Prop := fun i => ∃ t, exec i s = .next t ∧
      (d ≠ 0 → (t.rg d).toNat = 1 + (if n = 4 then 2 else 0) + u.head % 2 ^ u.size * 2 ^ 16) ∧ t.me.ev = rec1.evs ∧
      t.me.tsinh = rec1.ts ∧ t.me.pc = s.nextPc ∧ GSame s t d ∧ ElsewhereSame s t
    let W : Instr → Word → Prop := fun i x => exec i s = .next ((s.wg d x).advance)
    let with_ : Queue → State := fun u => s.modCore s.myCore (fun k => { k with queues := k.queues.set q.toNat u })
    let past : Queue := { u with head := (u.head + n) % 2 ^ (u.size + 1) }
    let ga := (s.rg a).toNat
    W (.qstat q 0 d) (BitVec.ofNat 64 (u.head % 2 ^ u.size + (if u.ovfPending then 2 ^ 16 else 0) +
      u.tail % 2 ^ u.size * 2 ^ 32 + u.free * 2 ^ 48)) ∧
    W (.qstat q 1 d) (BitVec.ofNat 64 (u.drops.toNat + u.lateDrops.toNat * 2 ^ 32)) ∧
    W (.qstat q 2 d) (u.lateCount.setWidth 64) ∧
    (bits ga 8 4 = q.toNat →
      (u.wlen ≠ 0 → bits ga 0 6 < s.myCtx.sources.length → u.subs.getLsbD (bits ga 0 6) = true →
        W (.tsread 1 a d) ((u.tm.getD (bits ga 0 6) 0).setWidth 64)) ∧
      (u.wlen = 0 ∨ s.myCtx.sources.length ≤ bits ga 0 6 ∨ u.subs.getLsbD (bits ga 0 6) = false →
        exec (.tsread 1 a d) s = .next (takeTrap s (illegalTrap s)))) ∧
    (bits ga 0 4 = q.toNat →
      (u.wlen ≠ 0 → W (.tsread 2 a d) ((u.lastClosed.getD 0).setWidth 64) ∧
        W (.tsread 3 a d) ((windowEnd u.wlen u.wphase u.window).setWidth 64)) ∧
      (u.wlen = 0 → exec (.tsread 2 a d) s = .next (takeTrap s (illegalTrap s)) ∧
        exec (.tsread 3 a d) s = .next (takeTrap s (illegalTrap s)))) ∧
    (u.poll = true →
      (u.size ≤ 15 → u.tail ≠ u.head → Head (.rpeek q d) ∧ (s.mySlot ≠ 4 → Head (.recv q d))) ∧
      (u.tail = u.head →
        exec (.rpeek q d) s = .next ((s.wg d 0).advance) ∧ exec (.rack q) s = .next s.advance ∧
        (s.mySlot ≠ 4 → exec (.recv q d) s = .next (stall s .recv))) ∧
      (u.tail ≠ u.head → (rec1.kind ≠ 5 ∨ u.tadv = false → exec (.rack q) s = .next ((with_ past).advance)) ∧
        (rec1.kind = 5 → u.tadv = true →
          let z := with_ { past with done := tsMax u.done rec1.ts }
          ∀ x l, ((z.core s.myCore).queues.filter (fun p => p.2.ctx == u.ctx && p.2.tadv)).map (fun p => p.2.done) = x :: l →
            exec (.rack q) s = .next ((z.raiseTout s.myCore u.ctx (l.foldl tsMin x)).advance))))

/-- TFLUSH, TGET, TREL and TSTAT complete. Outside a gang follower and a paired context: TFLUSH on a stream bound for the
task's context, outside the service slot, sends one flush step to the stream and waits for its reply. For a handle
whose bits [63:16] are 0: TGET with a destination that is a multiple of 64 and a tile that may be claimed claims it,
and starts the copy whose reply writes gd, where the range is local and resident; with another status it writes the
status; TREL frees a tile of status 0 and writes its status; TSTAT on a handle writes the tile's state, cause and
home. TSTAT on a stream writes the counts of its selector. A handle above 16 bits takes ILLEGAL_INSTRUCTION. (R242,
R245, R246, R247, R248, Table 11.5) -/
def Obligations.TileInstructionResults : Prop :=
  ∀ (s : State) (n : BitVec 3) (b a d : BitVec 5), s.follower = false → s.paired = false →
    let bw := (s.cove (coveOf s.myCore)).bw
    let h := (s.rg a).toNat
    (∀ k, bw.streams.find n.toNat = some k → k.ctx = s.me.ctx.toNat →
      (s.mySlot ≠ 4 → ∃ t, exec (.tflush n d) s = .next t ∧ t.me.life = .stalled .reply ∧ t.me.pc = s.nextPc ∧
        (∀ r, t.rg r = s.rg r) ∧ t.me.reply.map (·.1) = some d ∧
        t.net = s.net ++ [⟨s.msgSeq, Agent.slot s.myCore s.mySlot, Agent.tileStream (coveOf s.myCore) n.toNat,
          .flush (coveOf s.myCore) n.toNat s.myCore s.mySlot s.me.ctx.toNat s.me.taskid⟩]) ∧
      (exec (.tstat n 1 d) s = .next ((s.wg d (BitVec.ofNat 64 (k.late.toNat + k.outside.toNat * 2 ^ 32))).advance)) ∧
      (exec (.tstat n 2 d) s = .next ((s.wg d (BitVec.ofNat 64 (k.fifo.toNat + k.pressure.toNat * 2 ^ 32))).advance)) ∧
      let count : (TileState → Bool) → Nat := fun p => (bw.tiles.filter (fun o => o.stream == n.toNat && p o.state)).length
      let x : Nat := count (fun y => y != .collecting && y != .freeing)
      let y : Nat := count (fun y => y == .collecting)
      exec (.tstat n 0 d) s = .next ((s.wg d (BitVec.ofNat 64 (x + y * 2 ^ 16 + bw.heldBy n.toNat * 2 ^ 32 + bw.freeBlocks * 2 ^ 48))).advance)) ∧
    (h < 2 ^ 16 → (s.rg b).toNat % 64 = 0 →
      (∀ st, tgetStatus s h = (st, none) → 0 < st → exec (.tget b a d) s = .next ((s.wg d (BitVec.ofNat 64 st)).advance)) ∧
      (∀ k s1 s2, tgetStatus s h = (0, some k) →
        let size : Nat := 32 + (bw.stream k.stream).dataBytes
        k.num < 2 ^ 64 → localRange (s.rg b) (s.rg b).toNat size true s = .ok ((), s1) →
        localRange (s.rg b) (s.rg b).toNat size true (s1.claimTile k) = .ok ((), s2) →
        ∃ t, exec (.tget b a d) s = .next t ∧ t.me.life = .stalled .reply ∧ t.me.reply.map (·.1) = some d ∧
          t.me.copying = some (k.num, (s.rg b).toNat, BitVec.ofNat 64 size <<< 16) ∧ t.me.pc = s2.nextPc)) ∧
    (h < 2 ^ 16 → (∀ st, trelStatus s h = (st, none) → exec (.trel a d) s = .next ((s.wg d (BitVec.ofNat 64 st)).advance)) ∧
      (∀ k, trelStatus s h = (0, some k) → exec (.trel a d) s = .next (((s.modCove (coveOf s.myCore)
        (fun v => { v with bw := v.bw.release (fun o => o.num == k.num) })).wg d 0).advance))) ∧
    (h < 2 ^ 16 → (bw.named h = none → exec (.tstatHandle a d) s = .next ((s.wg d 0).advance)) ∧
      ∀ k, bw.named h = some k → ∃ x : Nat, exec (.tstatHandle a d) s = .next ((s.wg d (BitVec.ofNat 64 (x + k.cause * 2 ^ 4 +
        (if k.early then 2 ^ 8 else 0) + k.home * 2 ^ 16))).advance) ∧ (k.state = .dispatched → x = 3) ∧
        (k.state = .collecting → x = 1) ∧ (k.state = .sealed → x = 2) ∧ (k.state = .claimed → x = 4) ∧ (k.state = .inJob → x = 5)) ∧
    (2 ^ 16 ≤ h → exec (.tget b a d) s = .next (takeTrap s (illegalTrap s)) ∧
      exec (.trel a d) s = .next (takeTrap s (illegalTrap s)) ∧ exec (.tstatHandle a d) s = .next (takeTrap s (illegalTrap s)))

/-- MXQ, MXPOLL, MXWAIT, MXCAN, EBQ, EBWAIT and EBWAIT.NW complete. Outside a paired context: MXQ, whose descriptor at a
multiple of 128 has been read, sends it to the cove's MXE and waits for the identifier; MXCAN sends its cancel and
waits for the answer; MXPOLL and EBWAIT.NW write the status word of the named job, 7 where the cove's engine keeps no
such job of the context; MXWAIT and EBWAIT, outside the service slot, write 7 for an unknown job, the status after an
acquire at CSCOPE for a done job, take JOB_FAULT with the status and the address for a faulted one, and wait for one
that is not final. EBQ, whose descriptor has been read, writes 0 where 32 commands are unfinished or the context
drains, and else enters the command and writes its identifier. An identifier above 32 bits takes ILLEGAL_INSTRUCTION.
(R260, R268, R269, R270, R271, R351, R353, R354) -/
def Obligations.JobInstructionResults : Prop :=
  ∀ (s s1 : State) (a d : BitVec 5) (w : List Word), s.paired = false →
    let id : BitVec 32 := (s.rg a).setWidth 32
    let Sent : Body → State → State := fun m u =>
      (u.post (Agent.slot u.myCore u.mySlot) (Agent.mxe (coveOf u.myCore)) m).advance.modMe
        (fun t => { t with reply := some (d, u.msgSeq), life := .stalled .reply })
    (descriptor (s.rg a) 128 s = .ok ((w, true), s1) → exec (.mxq a d) s = .next (Sent (.mxq w s1.me.ctx.toNat s1.me.tsinh
      s1.lateNow s1.me.prio.toNat s1.me.taskid s1.myCore s1.mySlot) s1)) ∧
    (descriptor (s.rg a) 64 s = .ok ((w, true), s1) →
      let full := 32 ≤ (((s1.cove (coveOf s1.myCore)).ebb.jobs.filter (fun j => j.class4 && !j.finished)).length) ∨ s1.myCtx.state = .draining
      let e := s1.enqueueEbb (coveOf s1.myCore) (s1.newEbb w)
      (full → exec (.ebq a d) s = .next ((s1.wg d 0).advance)) ∧ (¬ full → exec (.ebq a d) s = .next ((e.2.wg d e.1).advance))) ∧
    ((s.rg a).toNat < 2 ^ 32 →
      exec (.mxcan a d) s = .next (Sent (.mxcan id s.me.ctx.toNat s.myCore s.mySlot s.me.taskid) s) ∧
      exec (.mxpoll a d) s = .next ((s.wg d (jobStatus (s.myJob id))).advance) ∧
      exec (.ebwaitNw a d) s = .next ((s.wg d (ebbStatus (s.myEbb id))).advance) ∧
      (s.mySlot ≠ 4 →
        (s.myJob id = none → exec (.mxwait a d) s = .next ((s.wg d 7).advance)) ∧
        (∀ j, s.myJob id = some j →
          (j.state = .done → exec (.mxwait a d) s = .next (((s.acquireAt s.myCore j.cscope).wg d (jobStatus (some j))).advance)) ∧
          (j.state = .faulted →
            exec (.mxwait a d) s = .next (takeTrap s ⟨Cause.jobFault, jobStatus (some j), BitVec.ofNat 48 j.addr⟩)) ∧
          (j.state.final = false → exec (.mxwait a d) s = .next (stall s .job))) ∧
        (s.myEbb id = none → exec (.ebwait a d) s = .next ((s.wg d 7).advance)) ∧
        (∀ j, s.myEbb id = some j →
          (j.state = .done → exec (.ebwait a d) s = .next (((s.acquireAt s.myCore j.cscope).wg d (ebbStatus (some j))).advance)) ∧
          (j.state = .faulted →
            exec (.ebwait a d) s = .next (takeTrap s ⟨Cause.jobFault, ebbStatus (some j), BitVec.ofNat 48 j.addr⟩)) ∧
          (j.state.final = false → exec (.ebwait a d) s = .next (stall s .ebb))))) ∧
    (2 ^ 32 ≤ (s.rg a).toNat → ∀ i ∈ [Instr.mxcan a d, Instr.mxpoll a d, Instr.mxwait a d, Instr.ebwait a d, Instr.ebwaitNw a d],
      exec i s = .next (takeTrap s (illegalTrap s)))

/-- CBLD, CBLDA, CBSWAP, CBINV, CBRD, CBSTAT and CBX complete. For a bank in the context's mask, outside a paired context:
CBLD, outside the service slot, with legal operands, waits for the claim and for the side, and once its copy has begun
counts as done with its status still to come, or writes the status 1 where too few units are free; CBLDA enters a
CBFETCH command and writes its identifier; CBSWAP and CBINV of a bank that the context holds change it as Table 13.1,
of R275, gives, CBSWAP writing the new generation; CBRD writes the entry to vd for an index below CNT and takes
CB_INDEX otherwise; CBSTAT writes the fields of R288, and 0 for a bank not held; CBX writes the expansion of its
operand. CBSWAP and CBINV of a bank that is not held, and CBX of a bank that gives no side, take CB_EMPTY. A bank
outside the mask is ILLEGAL_INSTRUCTION. That CBLDA answers 0 only while the context is draining is the model's choice
(log 18). (R116, R131, R275, R276, R278, R282, R283, R284, R285, R286, R287, R288) -/
def Obligations.BankInstructionResults : Prop :=
  ∀ (s s1 : State) (m : BitVec 2) (k : BitVec 3) (g : BitVec 4) (t b a d : BitVec 5), s.paired = false →
    let y := (s.core s.myCore).bank k.toNat
    let Held := s.holdsBank s.myCore k.toNat s.me.ctx.toNat = true
    let Illegal : Out := .next (takeTrap s (illegalTrap s))
    let Put : Bank → State := fun z => s.modCore s.myCore (fun c => c.setBank k.toNat z)
    (s.myCtx.cbmask.getLsbD k.toNat = true →
      (∀ q, loadArgs m k b a s = .ok (q, s) →
        (s.mySlot ≠ 4 →
          (cbStart q s = .ok (none, s1) → exec (.cbld m k b a d) s = .next (s1.advance.modMe
            (fun t => { t with reply := some (d, s.msgSeq), life := .stalled .reply }))) ∧
          (∀ x, cbStart q s = .ok (some x, s1) → exec (.cbld m k b a d) s = .next ((s1.wg d x).advance))) ∧
        (release 1 s = .ok ((), s1) → s1.paired = false →
          (s1.myCtx.state = .draining → exec (.cblda m k b a d) s = .next ((s1.wg d 0).advance)) ∧
          (s1.myCtx.state ≠ .draining →
            let e := s1.enqueueEbb (coveOf s1.myCore) { s1.newEbb [] with fetch := some (s1.myCore, q.bank, q.src, q.mode, q.fmt) }
            exec (.cblda m k b a d) s = .next ((e.2.wg d e.1).advance)))) ∧
      (s.mySlot ≠ 4 → Held →
        ((y.side y.shadow).state ≠ .loading → exec (.cbswap k d) s = .next (((Put y.swap).wg d (y.swap.gen.setWidth 64)).advance)) ∧
        ((y.side 0).state ≠ .loading → (y.side 1).state ≠ .loading → exec (.cbinv k) s = .next (Put y.invalidate).advance)) ∧
      (s.mySlot ≠ 4 → ¬ Held → exec (.cbswap k d) s = .next (takeTrap s ⟨Cause.cbEmpty, k.setWidth 64, 0⟩) ∧
        exec (.cbinv k) s = .next (takeTrap s ⟨Cause.cbEmpty, k.setWidth 64, 0⟩)) ∧
      (∀ x, sample k.toNat s = .ok (x, s) →
        let i : Nat := (s.rg b).toNat
        (i < x.cnt → s.entryBad s.myCore x i = false →
          exec (.cbrd k b d) s = .next ((s.wv d (BitVec.ofNat 512 (s.entry s.myCore x i))).advance)) ∧
        (x.cnt ≤ i → exec (.cbrd k b d) s =
          .next (takeTrap s ⟨Cause.cbIndex, BitVec.ofNat 64 (i % 2 ^ 16 + k.toNat * 2 ^ 24 + 2 ^ 28), 0⟩))) ∧
      (¬ Held → exec (.cbstat k d) s = .next ((s.wg d 0).advance)) ∧
      (Held →
        let sh := y.side y.shadow
        let code : Nat := match sh.state with
          | .loading => 1
          | .standby => 2
          | .held _ => 3
          | _ => 0
        let lv : Nat := match y.live with
          | some l => 2 ^ 3 + (if (y.side l).clean then 2 ^ 4 else 0) + ((y.side l).cnt - 1) * 2 ^ 16 + (y.side l).et * 2 ^ 32 +
              (y.side l).el * 2 ^ 37 + min (y.side l).readers 255 * 2 ^ 40
          | none => 0
        exec (.cbstat k d) s = .next ((s.wg d (BitVec.ofNat 64 (code + (if sh.clean then 2 ^ 5 else 0) + y.gen.toNat * 2 ^ 8 + lv +
          min sh.readers 255 * 2 ^ 48 + 2 ^ 56))).advance))) ∧
    (s.myCtx.cbmask.getLsbD k.toNat = false → Illegal = exec (.cbrd k b d) s ∧ Illegal = exec (.cbstat k d) s ∧
      Illegal = exec (.cblda m k b a d) s ∧ Illegal = exec (.cbld m k b a d) s ∧ Illegal = exec (.cbswap k d) s ∧
      Illegal = exec (.cbinv k) s) ∧
    (∀ (n : BitVec 5) x v, sample n.toNat s = .ok (x, s) → segmentOk x (typeBits t.toNat) g.toNat = true →
      expand (s.rv a) (typeBits t.toNat) n.toNat g.toNat 0 x s = .ok (v, s) →
      exec (.cbx g t n a d) s = .next ((s.wv d v).advance)) ∧
    (∀ n : BitVec 5, ((s.core s.myCore).bank n.toNat).holder ≠ some s.me.ctx.toNat →
      exec (.cbx g t n a d) s = .next (takeTrap s ⟨Cause.cbEmpty, BitVec.ofNat 64 n.toNat, 0⟩))

/-- SPAWN, SPAWNR, AMSG, MIGRATE, LAUNCH, JOIN, JDONE, JWAIT, GANG, SPLIT and PAIRCHK complete. Outside a paired context:
SPAWN with a handler below NH and a priority in the context's band counts the join counter up and pushes the entry
onto the core's deque, writing the new identifier, or writes 0 with the counter as it was where the deque is full;
SPAWNR to its own core is a SPAWN, and to another core that the context has it counts the counter up, sends its entry
once and waits, and writes the reply when it has come; AMSG with gd = g0 posts its message while fewer than sixteen
effects are outstanding, and otherwise, outside the service slot, sends it once, waits and writes its result; MIGRATE
to its own core writes 0, and to another, with nothing that holds the task back, leaves with its state after a release
and frees the slot; LAUNCH on a firmware core makes a pending item and writes its identifier, and elsewhere takes
PRIVILEGE; JOIN adds gb to its counter and lets waiters test again; JDONE posts a decrement after a release; JWAIT,
outside the service slot, writes a counter that is not positive after an acquire, and waits while it is positive; GANG
of cores that can all be claimed writes their number and forms the gang, and else writes 0; SPLIT of a follower takes
a new identifier and goes on alone, and otherwise leaves the gang; PAIRCHK does nothing outside a pair, and in one
goes on once the two copies of its operand agree. (R178, R191, R192, R193, R194, R195, R196, R197, R308, R312, R318,
Table 9.3) -/
def Obligations.TaskInstructionResults : Prop :=
  (∀ (s s1 : State) (p : BitVec 6) (k : BitVec 2) (b a d : BitVec 5) (c o la pa : Nat), s.paired = false →
    let x := s.rg a
    let y := s.rg b
    let h : Nat := x.toNat % 2 ^ 16
    let n : Nat := s.me.ctx.toNat
    let Fits := h < s.myCtx.handlers.length ∧ s.myCtx.pmin ≤ s.spawnPrio p ∧ s.spawnPrio p ≤ s.myCtx.pmax
    (Fits → (y = 0 ∧ s1 = s ∨ y ≠ 0 ∧ counterArg y true s = .ok ((c, la), s) ∧ counterAt c la s = .ok (pa, s1)) → s1.paired = false →
      let id := (s1.nextTaskId s1.myCore).1
      let s3 := (s1.nextTaskId s1.myCore).2
      let up := if y = 0 then s3 else s3.addCounter pa 1
      let r := up.pushDeque up.myCore (up.spawnStart h (s.spawnPrio p) y id)
      (r.2 = true → exec (.spawn p b a d) s = .next ((r.1.wg d (id.setWidth 64)).advance)) ∧
      (r.2 = false → exec (.spawn p b a d) s = .next ((s3.wg d 0).advance))) ∧
    (Fits → s.mySlot ≠ 4 → targetCore x n s = .ok (c, s) →
      (s.sameCore c s.myCore = true → exec (.spawnr p b a d) s = exec (.spawn p b a d) s) ∧
      (s.sameCore c s.myCore = false →
        (y = 0 ∧ s1 = s ∨ y ≠ 0 ∧ counterArg y true s = .ok ((o, la), s) ∧ counterAt o la s = .ok (pa, s1)) → s1.paired = false →
        (∀ v, s1.me.got = some v → exec (.spawnr p b a d) s = .next ((s1.wg d v).advance)) ∧
        (s1.me.got = none → s1.me.ask = none → ∃ t m st, exec (.spawnr p b a d) s = .next t ∧ t.me.life = .stalled .reply ∧
          t.me.ask = some m.id ∧ t.mem = (if y = 0 then s1 else s1.addCounter pa 1).mem ∧ t.net = s1.net ++ [m] ∧
          m.dst = Agent.owner c ∧ m.body = .spawnr st s1.myCore s1.mySlot s1.me.taskid ∧ st.handler = h ∧ st.prio = s.spawnPrio p ∧
          st.args = #v[s1.rg 1, s1.rg 2, s1.rg 3, s1.rg 4] ∧ st.id = (s1.nextTaskId s1.myCore).1 ∧ st.join = y))) ∧
    (y.toNat % 2 ^ 16 < s.myCtx.handlers.length → targetCore x n s = .ok (c, s) →
      let Sent : State := s.post (Agent.slot s.myCore s.mySlot) (Agent.owner c) (.amsg {
        handler := y.toNat % 2 ^ 16, ctx := n, prio := s.me.prio.toNat, limit := 256, id := 0
        args := #v[s.rg 1, s.rg 2, s.rg 3, s.rg 4], g5 := BitVec.ofNat 64 (x.toNat % 2 ^ 48), tsinh := s.me.tsinh }
        s.myCore s.mySlot s.me.taskid (d != 0))
      (d = 0 → s.postedBy s.myCore s.mySlot < 16 → exec (.amsg b a d) s = .next Sent.advance) ∧
      (d ≠ 0 → s.mySlot ≠ 4 → (∀ v, s.me.got = some v → exec (.amsg b a d) s = .next ((s.wg d v).advance)) ∧
        (s.me.got = none → s.me.ask = none →
          exec (.amsg b a d) s = .next (stall (Sent.modMe (fun t => { t with ask := some s.msgSeq })) .reply)))) ∧
    (targetCore x n s = .ok (c, s) → (s.sameCore c s.myCore = true → exec (.migrate a d) s = .next ((s.wg d 0).advance)) ∧
      (s.sameCore c s.myCore = false →
        (s.unfit ≠ 0 → exec (.migrate a d) s = .next (takeTrap s ⟨Cause.migrateState, BitVec.ofNat 64 s.unfit, x.setWidth 48⟩)) ∧
        (s.unfit = 0 → s.me.loads = [] → release (scopeOf s.myCore c) s = .ok ((), s1) →
          let t := s1.me
          let s3 := s1.post (Agent.slot s1.myCore s1.mySlot) (Agent.owner (s1.homeOf c t.ctx.toNat)) (.migrate
            { handler := t.handler, ctx := t.ctx.toNat, prio := t.prio.toNat, limit := t.limit.toNat, id := t.taskid,
              tsinh := t.tsinh, join := t.join } (s1.carried (scopeOf s.myCore c) d))
          exec (.migrate a d) s = .next ((s3.freeSlot s3.myCore s3.mySlot).afterFree s3.myCore s3.mySlot t.ctx.toNat)))) ∧
    (s.isFw s.myCore = false →
      exec (.launch p b a d) s = .next (takeTrap s ⟨Cause.privilege, s.cur.word.setWidth 64, s.wordPc.setWidth 48⟩)) ∧
    (let e : Nat := y.toNat / 2 ^ 16 % 16
     let g : Nat := y.toNat % 2 ^ 16
     let q := (s.ctx e).launchPrio p g
     s.isFw s.myCore = true → g < (s.ctx e).handlers.length → (s.ctx e).pmin ≤ q → q ≤ (s.ctx e).pmax → targetCore x e s = .ok (c, s) →
      let r := s.launch c e g q #v[s.rg 1, s.rg 2, s.rg 3, s.rg 4] (BitVec.ofNat 64 (x.toNat % 2 ^ 48))
      exec (.launch p b a d) s = .next ((r.1.wg d (r.2.setWidth 64)).advance)) ∧
    (counterArg x true s = .ok ((c, la), s) → counterAt c la s = .ok (pa, s1) → s1.paired = false →
      exec (.join b a) s = .next (((s1.addCounter pa y).wakeCounter c s1.me.ctx.toNat la pa).advance) ∧
      (s.mySlot ≠ 4 → let v : Nat := s1.num pa 8
        (v = 0 ∨ 2 ^ 63 ≤ v → exec (.jwait a d) s = .next (((s1.acquireAt s1.myCore 3).wg d (BitVec.ofNat 64 v)).advance)) ∧
        (0 < v → v < 2 ^ 63 → exec (.jwait a d) s = .next (stall (s1.modMe (fun t => { t with joinOn := some la })) .join)))) ∧
    (counterArg x false s = .ok ((c, la), s) → release (scopeOf s.myCore c) s = .ok ((), s1) → s1.postedBy s1.myCore s1.mySlot < 16 →
      exec (.jdone a) s = .next (s1.post (Agent.slot s1.myCore s1.mySlot) (Agent.owner c)
        (.jdone s1.me.ctx.toNat la s1.myCore s1.mySlot s1.me.taskid)).advance) ∧
    (s.mySlot ≠ 4 → s.me.gang = false → s.me.loads = [] →
      let size : Nat := 2 ^ k.toNat
      let others := groupOf s.myCore size
      (others.all (s.claimable n) = false → exec (.gang k d) s = .next ((s.wg d 0).advance)) ∧
      (others.all (s.claimable n) = true → exec (.gang k d) s = .next (((others.foldl (fun u o => (u.modCore o (fun c => c.activate n)).setSlot o 0
        (((s.wg d (BitVec.ofNat 64 size)).me.followerOf (s.myCore, u.mySlot) u.nextPc k.toNat
          ((posOf o + size - posOf s.myCore % size) % size)).over (u.slot o 0))) (s.wg d (BitVec.ofNat 64 size))).modMe
        (fun t => { t with gang := true, gk := k, lane := 0 })).advance))) ∧
    (s.follower = false → exec .split s = .next ((s.modMe (fun t => { t with gang := false, gk := 0, lane := 0 })).advance)) ∧
    (s.follower = true → ∃ t, exec .split s = .next t ∧ t.me.taskid = (s.nextTaskId s.myCore).1 ∧ t.me.gang = false ∧
      t.me.leader = none ∧ t.me.join = 0 ∧ t.me.pc = s.nextPc ∧ (∀ r, t.rg r = s.rg r)) ∧
    exec (.pairchk k a) s = .next s.advance) ∧
  (∀ (s : State) (k : BitVec 2) (a : BitVec 5) (go : Bool), Passes s go → exec (.pairchk k a) s = .next s.advance)

/-- BARA, BARW, BART, WAITQ and WAKE complete. Outside a paired context: BARA, outside the service slot, in an episode
that the slot has not arrived at, arrives after the release of R331 (none with .ns), keeps the arm and writes the
episode; BARW whose arm names a past episode, with no release still on its way to the core, acquires at the domain's
scope (not with .ns nor after draining), drops the arm and writes 0, or 1 after draining; BARW with no arm arrives and
waits; BART with 0 writes the episode with the bits of the missing set and of the arm, with 1 to 8 a word of the
missing set, and above 8 takes ILLEGAL_INSTRUCTION; WAITQ sends its link once and waits, and writes the answer when it
has come, after an acquire where it was woken; WAKE is posted with gd = g0, and otherwise the slot waits for the
count. (R323, R327, R328, R329, R330, R331, R332, R333, R334) -/
def Obligations.BarrierInstructionResults : Prop :=
  ∀ (s s1 : State) (o ch : BitVec 2) (ns : BitVec 1) (b a d : BitVec 5), s.paired = false →
    let key : Nat := armKey ch.toNat o.toNat
    let k : Nat := s.myBarrier o ch
    let now : BitVec 32 := (s.barrier k).episode
    let u := s.modMe (fun t => { t with started := if t.started = 0 then s.dtime.toNat + 1 else t.started })
    (s.mySlot ≠ 4 →
      (∀ e, arriveNow o ch ns s = .ok (e, s1) → s.me.arms.find key ≠ some now →
        exec (.bara o ch ns d) s = .next ((s1.wg d (e.setWidth 64)).advance)) ∧
      (∀ e, arriveNow o ch ns u = .ok (e, s1) → s.me.arms.find key = none → e = (s1.barrier k).episode →
        ∃ t, exec (.barw o ch ns d) s = .next t ∧ t.me.life = .stalled .barrier ∧ k ∈ t.me.awaiting ∧ t.me.pc = s1.me.pc) ∧
      (s.me.arms.find key = some now → exec (.bara o ch ns d) s = .next (stall s .episode)) ∧
      (∀ e, s.me.arms.find key = some e → armHolds e now = true → e ≠ now → s.me.awaiting.contains k = false →
        let drained := (s.barrier k).drained == some e
        let v := if ns = 0 ∧ drained = false then u.acquireAt u.myCore (domainScope o) else u
        exec (.barw o ch ns d) s = .next (((v.modMe (fun t => { t with arms := t.arms.del key })).wg d
          (if drained then 1 else 0)).advance))) ∧
    (s.rg a = 0 → exec (.bart o ch a d) s = .next ((s.wg d (BitVec.ofNat 64 (now.toNat * 2 ^ 32 +
      (if (s.barrier k).missing.isSome then 2 else 0) + (if s.me.arms.find key = some now then 0 else 1)))).advance)) ∧
    (1 ≤ (s.rg a).toNat → (s.rg a).toNat ≤ 8 → ∃ x : Word, exec (.bart o ch a d) s = .next ((s.wg d x).advance) ∧
      ∀ i, i < 64 → x.getLsbD i = ((s.barrier k).missing.getD []).contains (64 * ((s.rg a).toNat - 1) + i)) ∧
    (8 < (s.rg a).toNat → exec (.bart o ch a d) s = .next (takeTrap s (illegalTrap s))) ∧
    (∀ c la, cellArg (s.rg a) s = .ok ((c, la), s) →
      (s.mySlot ≠ 4 → let u := s.modMe (fun t => { t with wq := some (d, s.nextPc) })
        (∀ x, s.me.got = some x → exec (.waitq b a d) s =
          .next (((if x = 0 then u else u.acquireAt u.myCore 3).wg d x).advance)) ∧
        (s.me.got = none → s.me.ask = none → exec (.waitq b a d) s = .next (stall ((u.post (Agent.slot s.myCore s.mySlot)
          (Agent.owner c) (.waitq s.me.ctx.toNat la s.myCore s.mySlot s.me.taskid (s.rg b))).modMe
          (fun t => { t with ask := some s.msgSeq })) .linked))) ∧
      (release 3 s = .ok ((), s1) →
        let Sent := (s1.post (Agent.slot s1.myCore s1.mySlot) (Agent.owner c)
          (.wake s1.me.ctx.toNat la s1.myCore s1.mySlot s1.me.taskid (s.rg b))).advance
        (d = 0 → s1.postedBy s1.myCore s1.mySlot < 16 → exec (.wake b a d) s = .next Sent) ∧
        (d ≠ 0 → exec (.wake b a d) s = .next (Sent.modMe
          (fun t => { t with reply := some (d, s1.msgSeq), life := .stalled .reply })))))

/-- RAISE, TINSP, TRESUME and TKILL complete. RAISE takes SOFTWARE with ga in TVAL. Outside a gang follower and a paired
context, for a target word that names a core of the context and a slot: TINSP of a legal offset, its write form with a
legal value, TRESUME with a budget below 2^24, after a release at .dev, and TKILL act at once on the issuing core and
write their result (the write form writes no register); on another core they send their request once and wait, and
write the answer when it has come. A target word with a reserved bit set or a slot above 4, and an offset or value
that is not legal, take ILLEGAL_INSTRUCTION; a core that the context does not have takes LOCAL_BOUNDS. That TINSP's
write form traps at its issue, before the target is reached, on an offset or value that is not legal is the model's
choice (log 31). (R380, R381, R382, R383, R384, notes/assumptions/31.md) -/
def Obligations.TrapInstructionResults : Prop :=
  ∀ (s s1 : State) (x b a d : BitVec 5),
    exec (.raise a) s = .next (takeTrap s ⟨Cause.software, s.rg a, 0⟩) ∧
    (s.follower = false → s.paired = false →
      let w := s.rg a
      let o := s.rg b
      (∀ c j, trapTarget w s = .ok ((c, j), s) →
        let Acts : State → Nat → BitVec 5 → Word → Word → Out → Prop := fun u op r arg data out =>
          let e := u.trapOpAt op u.me.ctx.toNat c j (w.setWidth 32) arg data
          (c = s.myCore → out = .next ((e.1.wg r e.2).advance)) ∧
          (c ≠ s.myCore → (∀ v, u.me.got = some v → out = .next ((u.wg r v).advance)) ∧
            (u.me.got = none → u.me.ask = none → out = .next (stall ((u.post (Agent.slot u.myCore u.mySlot) (Agent.owner c)
              (.trapOp op w arg data u.me.ctx.toNat u.myCore u.mySlot u.me.taskid)).modMe
              (fun t => { t with ask := some u.msgSeq })) .reply)))
        ((frameOffset o.toNat = true ∨ o.toNat = 0xFF8) → Acts s 0 d o 0 (exec (.tinsp b a d) s)) ∧
        (frameOffset o.toNat = true → frameValueOk o.toNat (s.rg x) = true → Acts s 1 0 o (s.rg x) (exec (.tinspW b a x) s)) ∧
        (o.toNat < 2 ^ 24 → release 3 s = .ok ((), s1) → s1.paired = false → s1.myCore = s.myCore →
          Acts s1 2 d o 0 (exec (.tresume b a d) s)) ∧
        Acts s 3 d 0 0 (exec (.tkill a d) s) ∧
        (frameOffset o.toNat = false → o.toNat ≠ 0xFF8 → exec (.tinsp b a d) s = .next (takeTrap s (illegalTrap s))) ∧
        (frameOffset o.toNat = false ∨ frameValueOk o.toNat (s.rg x) = false →
          exec (.tinspW b a x) s = .next (takeTrap s (illegalTrap s))) ∧
        (2 ^ 24 ≤ o.toNat → exec (.tresume b a d) s = .next (takeTrap s (illegalTrap s)))) ∧
      (∀ i ∈ [Instr.tinsp b a d, Instr.tinspW b a x, Instr.tresume b a d, Instr.tkill a d],
        (2 ^ 57 ≤ w.toNat ∨ w.toNat / 2 ^ 35 % 2 ^ 13 ≠ 0 ∨ 4 < w.toNat / 2 ^ 32 % 8 → exec i s = .next (takeTrap s (illegalTrap s))) ∧
        (w.toNat < 2 ^ 57 → w.toNat / 2 ^ 35 % 2 ^ 13 = 0 → w.toNat / 2 ^ 32 % 8 ≤ 4 →
          s.myCtx.has (w.toNat / 2 ^ 48 % 2 ^ 9) = false → exec i s = .next (takeTrap s ⟨Cause.localBounds, 2, w.setWidth 48⟩))))

/-- The predicates and the exact-sum instructions complete. For each of GORI2, GORI3, GINC, GINS and GSEG, with its
coordinate (and, under tie mode 1, identifier) registers within v0 to v31 and every coordinate of an active lane
finite or NFQ set: where no live lane needs stage C, the sign masks and the counters are written and the bundle
completes; where one does and the datapath is free, the slot holds the datapath and waits for the predicate, whose
PREDICATE_COMPLETE, while the task's budget lasts, writes the results and completes the bundle, or takes GEOM_TIEID
for a shared key; while another slot holds the datapath it waits. A register past v31 takes ILLEGAL_INSTRUCTION, and
with NFQ clear a coordinate that is not finite takes GEOM_NONFINITE with the lane and the register. XCLR clears its
64-byte accumulators, XADD adds each active lane to its accumulator exactly, and XRND reads sixteen accumulators into
vd, once the addresses are legal and resident, outside a paired context. (R293, R294, R295, R296, R297, R299, R300,
R301, R303, R304, R305, Table 14.2) -/
def Obligations.GeometryInstructionResults : Prop :=
  (∀ (s : State) (f : BitVec 1) (m : BitVec 3) (a d : BitVec 5) (k : Pred) (i : Instr),
    (k, i) ∈ [(Pred.ori2, Instr.gori2 f m a d), (Pred.ori3, Instr.gori3 f m a d), (Pred.inc, Instr.ginc f m a d), (Pred.ins, Instr.gins f m a d), (Pred.seg, Instr.gseg f m a d)] →
    let t : Nat := if f = 1 then 16 else 15
    let w : Nat := typeBits t
    let nc : Nat := k.points * k.dim
    let size : Nat := nc + (if s.me.tie = 1 ∧ k ≠ .seg then k.points else 0)
    let reg : Nat → Nat → Nat := fun r j => laneW w (s.rv (BitVec.ofNat 5 (a.toNat + r))) j
    let on : List Nat := (List.range (512 / w)).filter (active (s.rmask m.toNat))
    let bad : Nat → Option Nat := fun j => (List.range nc).find? (fun r => notFinite t (reg r j))
    let live : List Nat := on.filter (fun j => (bad j).isNone)
    let p := gatherLanes s.cur.word d.toNat (on.any (fun j => (bad j).isSome)) (live.map (fun j =>
      (j, k.lane (fun q c => widen t (reg (k.dim * q + c) j)) (fun q => reg (nc + q) j % 2 ^ 32) s.me.tie.toNat)))
    (32 < a.toNat + size → exec i s = .next (takeTrap s (illegalTrap s))) ∧
    (a.toNat + size ≤ 32 →
      (∀ j r, s.me.nfq = false → on.find? (fun j => (bad j).isSome) = some j → bad j = some r →
        exec i s = .next (takeTrap s ⟨Cause.geomNonfinite, BitVec.ofNat 64 (j + (a.toNat + r) * 2 ^ 8), s.wordPc.setWidth 48⟩)) ∧
      (s.me.nfq = true ∨ on.all (fun j => (bad j).isNone) = true →
        (p.nc = 0 → exec i s = .next ((s.modMe (fun u => u.putPredicate p)).advance)) ∧
        (p.nc ≠ 0 → (s.core s.myCore).datapath.isSome = true → exec i s = .next (stall s .predicate)) ∧
        (p.nc ≠ 0 → (s.core s.myCore).datapath = none → exec i s = .next (stall
          ((s.modCore s.myCore (fun c => { c with datapath := some s.mySlot })).modMe (fun u => { u with predicate := some p }))
          .predicate))))) ∧
  (∀ (s : State) (c j : Nat) (p : Predicate), (s.slot c j).predicate = some p → (s.slot c j).life = .stalled .predicate →
    (s.slot c j).frozen = false → ((s.slot c j).left ≠ 0 ∨ (s.slot c j).leader.isSome = true) → (s.core c).datapath = some j →
    let u := s.modCore c (fun k => { k with datapath := none })
    (∀ v, p.tie = some v → exec (.predicateComplete c j) s = .next (u.trapSlot c j ⟨Cause.geomTieid, v, (s.slot c j).pc.setWidth 48⟩)) ∧
    (p.tie = none → (s.slot c j).gang = false → (s.slot c j).leader = none →
      exec (.predicateComplete c j) s = .next (u.modSlot c j (fun t => { (t.putPredicate p).settle with pc := (s.slot c j).pc + 4 })))) ∧
  (∀ (s s1 : State) (t b a m d : BitVec 5) (l : List Nat), s1.paired = false →
    (cells (s.rg a) (lanes t.toNat) true false s = .ok (l, s1) →
      exec (.xclr t a) s = .next ((l.foldl (fun u x => u.putNum x 64 0) s1).advance)) ∧
    ((s1.core s1.myCore).datapath = none →
      (cells (s.rg a) (lanes t.toNat) true true s = .ok (l, s1) →
        exec (.xadd t b a m) s = .next (((l.zipIdx).foldl (fun u q =>
          let r := xaccAdd (u.cell q.1) (Fp.read (fmtOf t.toNat) (lane t.toNat (s.rv b) q.2))
          if active (s.rmask m.toNat) q.2 then (u.putNum q.1 64 r.1.toNat).orFlags r.2 else u) s1).advance)) ∧
      (cells (s.rg a) 16 false true s = .ok (l, s1) →
        let r := l.map (fun x => xaccRead (s1.cell x))
        exec (.xrnd a d) s = .next (((s1.wv d (ofLanes 32 (r.map (·.1)))).orFlags (r.foldl (fun g q => g ||| q.2) 0)).advance))))

/-- Budgets, returning loads, accesses, atomics, replies, services, steals, spawns, messages and migrations perform. Each
event of the mesh that is enabled performs as its rule gives: TASK_BUDGET traps a going slot whose count is 0;
GLOBAL_LOAD_RETURN fills the sector and returns the lane; COVE_ACCESS_ARRIVE stores or reads at the target once the
page is resident; WRITEBACK_ACK performs a write-back that no earlier one of the same bytes precedes; ATOMIC_PERFORM
replaces the bytes, takes the flags and replies, deposits, or reads and clears the flag word; the replies reach their
slots, that of a refused SPAWNR lowering its counter again; SYS_HEARTBEAT and SYS_TRACE answer their sender; steals,
spawns, messages, migrations and decrements act at their owner in one event; TRAP_TARGET_ARRIVE acts at the target and
TGET_COPY_DONE delivers a tile, that of a task that has ended too. Contexts are unpaired where a slot is written. The
model's choices in it: an access of the cove leaves its slot once its page is there, and an arrival whose page has
gone asks for it and waits (log 43); a core in a boundary commit turns a delivery away with the answers of log 74; a
TRACE that drops its own value counts it (log 84); a stolen entry stands in the thief's deque (log 86); a posted
message is acknowledged as it arrives (log 47). (R105, R109, R139, R141, R152, R153, R155, R182, R188, R192, R193,
R197) -/
def Obligations.MeshEventsComplete : Prop :=
  (∀ (s : State) (c j : Nat), let t := s.slot c j
    (t.going = true → t.left = 0 → t.frozen = false → s.phase = .running →
      exec (.taskBudget c j) s = .next (s.trapSlot c j ⟨Cause.taskBudget, t.limit.setWidth 64, 0⟩)) ∧
    ((s.ctx t.ctx.toNat).pair = false → ∀ (n i k a : Nat) (l : Load), t.lanesOut[n]? = some (i, k, a) → t.loads[i]? = some l →
      (l.cove = true → ∀ bs, l.data.find k = some bs →
        exec (.globalLoadReturn c j n) s = .next (s.modSlot c j (fun t => t.laneBack i k bs))) ∧
      (l.cove = false → t.earlier n a l.size = false → (crossDie c a && s.rowShut (c / 16 % 16)) = false →
        let u := s.fillSector c a
        exec (.globalLoadReturn c j n) s = .next (u.modSlot c j (fun t => t.laneBack i k ((List.range l.size).map
          (fun q => u.seen c (a + q))))))) ∧
    (∀ (n : Nat) (w : WriteBack), (s.core c).wb[n]? = some w → ((s.core c).wb.take n).any (fun o => o.meets w) = false →
      (w.held && s.regionFrom.isSome) = false → (s.rowShut (c / 16 % 16) && w.bytes.any (fun b => crossDie c b.1)) = false →
      exec (.writebackAck c n) s = .next ((s.modCore c (fun k => { k with wb := (s.core c).wb.eraseIdx n })).performWb c w)) ∧
    (t.life = .free → t.stealing = true → t.probes = [] → t.started ≠ 0 → t.started + 999 ≤ s.dtime.toNat →
      exec (.stealRetry c j) s = .next ((s.modSlot c j (fun t => { t with stealing := false, started := 0 })).schedule c)) ∧
    (∀ num la v d ask tile, t.copying = some (num, la, v) → t.reply = some (d, ask) → (s.ctx t.ctx.toNat).pair = false →
      (s.core c).copies.find? (fun p => p.1 == j) = none → (s.cove (coveOf c)).bw.tile num = some tile → let l := s.tileBytes (coveOf c) tile
      s.missing c t.ctx.toNat la l.length j = none → ∀ u, ((s.putLocal c t.ctx.toNat la l).leave c j).giveReply c j t.taskid ask v = some u →
        exec (.tgetCopyDone c j) s = .next u) ∧
    (∀ x num la, (s.core c).copies.find? (fun p => p.1 == j) = some (j, x, num, la) →
      exec (.tgetCopyDone c j) s = .next (s.lateCopy c j x num la) ∧
      (∀ tile, (s.ctx x).pair = false → (s.cove (coveOf c)).bw.tile num = some tile → let l := s.tileBytes (coveOf c) tile
        s.missing c x la l.length (engineWho 1 j) = none →
          (s.lateCopy c j x num la).mem = (s.putLocal c x la l).mem))) ∧
  (∀ (s u : State) (id : Nat) (m : Msg), s.take id = some (m, u) →
    let c : Nat := m.dst / 8
    let w : Nat := msgWho id
    (s.shut c = true → exec (.coveAccessArrive id) s = .next (u.turnAway m)) ∧
    (s.shut c = false →
      (∀ x d j la n data, m.body = .coveStore x d j la n data → u.missing c x la n w = none →
        exec (.coveAccessArrive id) s = .next ((u.putLocal c x la (leBytes n data.toNat)).leave c w)) ∧
      (∀ x d l, m.body = .coveScatter x d l → (∀ p ∈ l, u.missing c x p.1 1 w = none) →
        exec (.coveAccessArrive id) s = .next ((l.foldl (fun s p => s.putLocal c x p.1 [p.2]) u).leave c w)) ∧
      (∀ x d j la n f a, m.body = .coveLoad x d j la n → u.missing c x la n w = none →
        u.local? c x la = .here f a → exec (.coveAccessArrive id) s =
          .next (((u.modCore c (fun k => k.touch f false)).leave c w).modSlot d j (fun t => t.coveData id (u.localBytes c x la n))))) ∧
    (∀ a, m.body = .atomic a →
      (a.glob = true → u.poisoned a.la a.bytes = false → let r := atomicAt a (u.bytes a.la a.bytes)
        exec (.atomicPerform id) s = .next (((u.putBytes a.la r.1).forget a).replyAtomic m a r.2.1)) ∧
      (a.glob = false → s.shut c = false → u.ownerReady c a.ctx a.core a.slot = true →
        (a.op = 0x0F → exec (.atomicPerform id) s = .next ((u.depositAt c a).2.replyAtomic m a (u.depositAt c a).1)) ∧
        (a.op = 0x10 → exec (.atomicPerform id) s = .next ((u.modCore c (fun k => { k with flagWords := k.flagWords.del a.ctx })).replyAtomic
          m a (((u.core c).flagWords.getD a.ctx 0).setWidth 64))) ∧
        (a.op < 0x0F → u.unservable c a.ctx a.la a.bytes w = false → u.missing c a.ctx a.la a.bytes w = none →
          (∀ i p, i < a.bytes → u.localByte c a.ctx (a.la + i) = some p → u.poisoned p 1 = false) →
          let r := atomicAt a (u.localBytes c a.ctx a.la a.bytes)
          exec (.atomicPerform id) s =
            .next (((u.putLocal c a.ctx a.la r.1).modCore c (fun k => (k.orFlags a.ctx r.2.2).leave w)).replyAtomic m a r.2.1)))) ∧
    (∀ d j task ask v t, (m.body = .reply .atomic d j task ask v → u.giveReply d j task ask v = some t →
        exec (.atomicReply id) s = .next t) ∧
      (m.body = .reply .emit d j task ask v → u.giveReply d j task ask v = some t → exec (.emitAccept id) s = .next t) ∧
      (m.body = .reply .sys d j task ask v → u.giveAnswer d j task ask v = some t → exec (.sysReply id) s = .next t) ∧
      (m.body = .reply .spawnr d j task ask v → u.giveAnswer d j task ask v = some t → exec (.spawnrReply id) s = .next t) ∧
      (m.body = .reply .amsg d j task ask v → u.giveAnswer d j task ask v = some t → exec (.amsgReply id) s = .next t)) ∧
    (∀ x d j task v, m.body = .sys 0 x d j task v → let k := u.ctx x
      (k.hbwatch = 0 → exec (.sysHeartbeat id) s = .next (u.replySys m d j task 1)) ∧
      (k.hbwatch ≠ 0 → u.missDue x = false →
        (k.hbSeq.toNat < v.toNat % 2 ^ 32 → exec (.sysHeartbeat id) s = .next ((u.setCtx x
          { k with hbSeq := v.setWidth 32, hbLast := u.dtime.toNat, hbAt := u.dtime.setWidth 32 }).replySys m d j task 0)) ∧
        (v.toNat % 2 ^ 32 ≤ k.hbSeq.toNat → exec (.sysHeartbeat id) s = .next (u.replySys m d j task 2)))) ∧
    (∀ x d j task v, m.body = .sys 1 x d j task v → let k := u.ctx x
      (k.trace.length < 4096 → k.traceDrops < 2 ^ 32 → exec (.sysTrace id) s = .next ((u.setCtx x
        { k with trace := k.trace ++ [v], traceDrops := 0 }).replySys m d j task (BitVec.ofNat 64 k.traceDrops))) ∧
      (4096 ≤ k.trace.length → exec (.sysTrace id) s = .next ((u.setCtx x { k with traceDrops := 0 }).replySys m d j task
        (BitVec.ofNat 64 (min (k.traceDrops + 1) (2 ^ 32 - 1)))))) ∧
    (∀ th j v, m.body = .stealProbe th j v → let w := u.schedule v
      let e := w.offer v th
      let z := match e with
        | some i => w.dropItem v i
        | none => w
      exec (.stealProbe id) s = .next (z.post (Agent.owner v) (Agent.slot th j) (.stealReply th j e))) ∧
    (∀ th j, (∀ i, m.body = .stealReply th j (some i) → exec (.stealReply id) s =
        .next ((u.modSlot th j (fun t => { t with stealing := false, probes := [] })).takeStolen th j i.start)) ∧
      (m.body = .stealReply th j none → (u.slot th j).life = .free → (u.slot th j).stealing = true → u.pick th j = none →
        exec (.stealReply id) s = .next (if (u.slot th j).probes = [] then
          u.modSlot th j (fun t => { t with started := u.dtime.toNat + 1 }) else u.probeNext th j))) ∧
    (∀ st d j task, m.body = .spawnr st d j task → u.shut c = false → let r := u.pushDeque c st
      exec (.spawnrArrive id) s = .next (r.1.post m.dst (Agent.slot d j)
        (if r.2 then .reply .spawnr d j task m.id (st.id.setWidth 64) else .unspawn d j task m.id st.ctx st.join))) ∧
    (∀ d j task ask x join t f a, m.body = .unspawn d j task ask x join → u.giveAnswer d j task ask 0 = some t →
      (join = 0 → exec (.spawnrReply id) s = .next t) ∧
      (join ≠ 0 → t.local? (ownerOf join).1 x (ownerOf join).2 = .here f a → exec (.spawnrReply id) s =
        .next ((t.modCore (ownerOf join).1 (fun k => k.touch f true)).addCounter a (BitVec.allOnes 64)))) ∧
    (∀ st d j task waits, m.body = .amsg st d j task waits → u.shut c = false → u.takesItems st.ctx = true → let o := u.homeOf c st.ctx
      let r := u.nextTaskId o
      let i : SvcItem := { num := (r.2.core o).itemSeq, start := { st with id := r.1 }
                           answer := if waits then some (d, j, task, m.id) else none }
      let z := r.2.modCore o (fun k => { k.activate st.ctx with svc := k.svc ++ [i], itemSeq := k.itemSeq + 1 })
      let y := if waits then z else z.post m.dst (Agent.slot d j) (.reply .atomic d j task m.id 0)
      exec (.amsgArrive id) s = .next (y.startService o)) ∧
    (∀ st k, m.body = .migrate st k → u.shut c = false → exec (.migrateArrive id) s = .next (u.offerItem c (.migration k) st)) ∧
    (∀ x la d j task f a, m.body = .jdone x la d j task → s.shut c = false → u.ownerReady c x d j = true →
      u.unservable c x la 8 w = false → u.missing c x la 8 w = none → u.local? c x la = .here f a → exec (.jdonePerform id) s = .next ((((u.modCore c (fun k => (k.touch f true).leave w)).addCounter a
        (BitVec.allOnes 64)).wakeCounter c x la a).post m.dst (Agent.slot d j) (.reply .atomic d j task m.id 0))) ∧
    (∀ op w arg data x d j task t, m.body = .trapOp op w arg data x d j task →
      let r := u.trapOpAt op x c (bits w.toNat 32 3) (w.setWidth 32) arg data
      r.1.giveAnswer d j task m.id r.2 = some t → exec (.trapTargetArrive id) s = .next t))

/-- Records, closes, tidemarks, emit outcomes and timers perform. Each event of the queues that is enabled performs:
RECORD_ARRIVE tells the sender that its record is accepted or rejected, and refuses one that finds no room as R207
gives; RECORD_RESEND delivers the trap store first and then the oldest waiting sender; RECORD_RESEND_RETRY sends again
once its time has come; OVERFLOW_RECORD places a record with the drops since the last one; EMIT_TIMEOUT withdraws a
record that is late and gives the status 1; SENSOR_HEARTBEAT promises the device time of an idle stream;
TIDEMARK_UPDATE_ARRIVE raises the tidemarks and closes windows; WINDOW_TIMEOUT and WINDOW_END_CLOSE close the windows
that are due; WCLOSE_WRITE places the oldest close; TIMER_EXPIRY sends a TIMER record and begins the next period. The
model's choices in it: a TIMER record names the first firmware core as its source (log 55), and a late record that
LATEP drops counts as accepted (log 46). (R206, R207, R211, R212, R215, R217, R218, R219, R226, R365, R374,
notes/assumptions/46.md) -/
def Obligations.RecordEventsComplete : Prop :=
  (∀ (s u : State) (id : Nat) (m : Msg), s.take id = some (m, u) →
    (∀ r x c q w o, m.body = .record r x (.queue c q) w o →
      (∀ t, u.arriveRec c q r x = .accepted t → exec (.recordArrive id) s = .next (t.tell m w 0)) ∧
      (∀ t, u.arriveRec c q r x = .rejected t → exec (.recordArrive id) s = .next (t.tell m w 2)) ∧
      (∀ t y, u.arriveRec c q r x = .full t → t.refuse m c q r x w = some y → exec (.recordArrive id) s = .next y)) ∧
    (∀ c q x src v y, m.body = .tidemark (.queue c q) x src v → u.recordAhead m src = false → (u.core c).queues.find q = some y →
      y.ctx = x → u.shut c = false → exec (.tidemarkUpdateArrive id) s =
        .next (u.modCore c (fun k => { k with queues := k.queues.set q ((y.tide (u.ctx x) src v).closeNormal (u.ctx x)) }))) ∧
    (∀ v n x src a t, m.body = .tidemark (.stream v n) x src a → u.recordAhead m src = false → (u.cove v).bw.streams.find n = some t →
      t.ctx = x → (u.cove v).bw.fifo.length < 256 → exec (.tidemarkUpdateArrive id) s =
        .next (u.modCove v (fun k => { k with bw := { k.bw with fifo := k.bw.fifo ++ [.tidemark n src a] } })))) ∧
  (∀ (s : State) (c q : Nat) (u : Queue), (s.core c).queues.find q = some u →
    let x := s.ctx u.ctx
    (s.homeOf c u.ctx = c → s.goesFirst c q u.ctx u = false → u.ovfPending = false → u.closes = [] →
      let store := if s.homeOf x.trapcore u.ctx = c ∧ x.trapq = q then x.store else []
      (∀ r l, store = r :: l → 4 ≤ s.roomOf c q u.ctx → exec (.recordResend c q) s =
        .next ((s.setCtx u.ctx { x with store := l }).place c q u.ctx { r with head := r.head ||| BitVec.ofNat 128 (2 ^ 100) })) ∧
      (∀ m l t, store = [] → u.waiters = m :: l → (s.modQueue c q u.ctx (fun u => { u with waiters := l })).sendAgain m = some t →
        exec (.recordResend c q) s = .next t)) ∧
    (u.ovfPending = true → x.stopped = false → s.homeOf c u.ctx = c → 1 ≤ s.roomOf c q u.ctx → exec (.overflowRecord c q) s =
      .next ((s.modQueue c q u.ctx (fun u => { u with ovfPending := false, dropsSent := u.drops })).place c q u.ctx
        ⟨mkRec u.ovfStamp (s.srcId 3 c) 0x0C 0 (u.drops - u.dropsSent).toNat, []⟩)) ∧
    (let lag := laggards x u.subs u.tm (windowEnd u.wlen u.wphase u.window)
     u.wlen ≠ 0 → u.stale ≠ 0 → lag ≠ [] → windowEndTime u.wlen u.wphase u.window + u.stale ≤ (s.dtime.toNat : Int) →
      exec (.windowTimeout c q) s = .next (s.modQueue c q u.ctx (fun v => (v.close (timeoutCount x u.subs u.tm u.wlen u.wphase u.stale
        s.dtime.toNat u.window) true (lagMask lag)).closeNormal x))) ∧
    (u.wlen ≠ 0 → x.liveSubs u.subs = [] → exec (.windowEndClose c q) s =
      .next (s.modQueue c q u.ctx (fun v => v.close (endedCount s.dtime.toNat u.wlen u.wphase u.window) false 0))) ∧
    (∀ k n late mask l, u.closes = (k, n, late, mask) :: l → u.ovfPending = false → x.stopped = false → s.homeOf c u.ctx = c →
      closeSize u ≤ s.roomOf c q u.ctx → exec (.wcloseWrite c q) s =
        .next ((s.modQueue c q u.ctx (fun u => { u with closes := l })).place c q u.ctx (s.closeRec c q u k n late mask)))) ∧
  (∀ (s : State) (n : Nat),
    (∀ due m, s.retries[n]? = some (due, m) → due ≤ s.dtime.toNat → ∀ r x c q w o, m.body = .record r x (.queue c q) w o →
      let u := { s with retries := s.retries.eraseIdx n }
      (∀ t, u.arriveRec c q r x = .accepted t → exec (.recordResendRetry n) s = .next (t.tell m w 0)) ∧
      (∀ t, u.arriveRec c q r x = .rejected t → exec (.recordResendRetry n) s = .next (t.tell m w 2)) ∧
      (∀ t y, u.arriveRec c q r x = .full t → t.refuse m c q r x w = some y → exec (.recordResendRetry n) s = .next y)) ∧
    (∀ t, s.streams.find n = some t → t.en = true → t.cut = false → s.portUp n = true →
      t.lastSend + 1000 * t.hbeat ≤ s.dtime.toNat → exec (.sensorHeartbeat n) s =
        .next ({ s with streams := s.streams.set n { t with lastSend := s.dtime.toNat } }.sendTides (Agent.stream n) t.ctx
          (s.srcId 0 n) s.now48)) ∧
    (∀ t, s.timers[n]? = some t → t.due ≤ s.dtime.toNat → exec (.timerExpiry n) s =
      .next ({ s with timers := s.timers.set n { t with count := t.count + 1, due := t.due + 1000 * t.period } }.post Agent.firmware
        (Agent.queue t.core t.queue) (.record ⟨mkRec s.now48 (s.srcId 3 s.firstFw) 6 0 (t.num + (t.count + 1).toNat * 2 ^ 16), []⟩
          t.ctx (.queue t.core t.queue) .system false))) ∧
    (∀ j d r x g w o m u v, (s.slot n j).reply = some (d, m.id) → m ∈ s.net → m.src = Agent.slot n j → m.body = .record r x g w o →
      (s.slot n j).started + (s.slot n j).emitto.toNat ≤ s.dtime.toNat → s.withdraw m.id = some u →
      u.giveReply n j (s.slot n j).taskid m.id 1 = some v → exec (.emitTimeout n j) s = .next v))

/-- The steps of a cove's Breakwater perform. Each Breakwater event that is enabled performs: BW_RECORD_ARRIVE puts a
record of a bound stream into the FIFO while it has room and tells the sender, rejects one for a stream that is not
bound, or of a context that has stopped, drops a sensor's where the FIFO is full, and puts a flush behind every
earlier message of its core; the steps take the FIFO's first item, a record landing in its tiles and advancing its
source's tidemark, a tidemark closing windows, a flush sealing tiles and answering, a release returning blocks (but
for a tile that a job reads still, log 90); BW_AGE_SEAL seals a tile that is old enough, at the due nanosecond itself
after the steps of the FIFO; the window events close the windows that are due; BW_TILE_DISPATCH sends the TILE record
of the next sealed tile, and BW_JOB_SUBMIT submits its job. The model's choices in it: a context that is frozen out of
draining has stopped, a record of a stopped context that stands in the FIFO is dropped, a core record of another
device advances no tidemark at a stream, and a job template that cannot be read is reported and its tile stays sealed
(log 93); among windows that end together the next tile to be sealed is free (log 94). (R235, R236, R237, R239, R240,
R242, R243, R244, R246, R261, notes/assumptions/93.md, notes/assumptions/94.md) -/
def Obligations.BreakwaterEventsComplete : Prop :=
  (∀ (s u : State) (id : Nat) (m : Msg), s.take id = some (m, u) →
    (∀ r x v n w o, m.body = .record r x (.stream v n) w o →
      (∀ t, (u.cove v).bw.streams.find n = some t → t.ctx = x → (u.ctx x).stopped = false →
        ((u.cove v).bw.fifo.length < 256 → exec (.bwRecordArrive id) s =
          .next ((u.modCove v (fun k => { k with bw := { k.bw with fifo := k.bw.fifo ++ [.record n r] } })).tell m w 0)) ∧
        (256 ≤ (u.cove v).bw.fifo.length → r.cls = 0 →
          exec (.bwRecordArrive id) s = .next (u.modStream v n (fun t => { t with fifo := bump t.fifo })))) ∧
      ((u.cove v).bw.streams.find n = none ∨ (u.ctx x).stopped = true → exec (.bwRecordArrive id) s = .next (u.tell m w 2))) ∧
    (∀ v n c j x task, m.body = .flush v n c j x task → (u.cove v).bw.fifo.length < 256 →
      u.net.any (fun o => o.dst == m.dst && decide (o.id < m.id) && o.src / 8 == c) = false → exec (.bwRecordArrive id) s =
        .next (u.modCove v (fun k => { k with bw := { k.bw with fifo := k.bw.fifo ++ [.flush n c j x task m.id] } })))) ∧
  (∀ (s : State) (v : Nat),
    (∀ n r l t, (s.cove v).bw.fifo = .record n r :: l → (s.cove v).bw.streams.find n = some t → (s.ctx t.ctx).stopped = false →
      let u := (s.bwPop v).bwRecord v n t r
      (¬ (r.cls = 0 ∧ t.wlen ≠ 0) → exec (.bwRecordStep v) s = .next (u.sendBwTide v t.ctx)) ∧
      (r.cls = 0 → t.wlen ≠ 0 → exec (.bwRecordStep v) s =
        .next (((u.modStream v n (fun t => t.tide (u.ctx t.ctx) r.src r.ts)).closeStream v n).sendBwTide v t.ctx))) ∧
    (∀ n src a l t, (s.cove v).bw.fifo = .tidemark n src a :: l → (s.cove v).bw.streams.find n = some t →
      exec (.bwTidemarkStep v) s =
        .next ((((s.bwPop v).modStream v n (fun t => t.tide (s.ctx t.ctx) src a)).closeStream v n).sendBwTide v t.ctx)) ∧
    (∀ n c j x task ask l u, (s.cove v).bw.fifo = .flush n c j x task ask :: l →
      let mine : Tile → Bool := fun t => t.stream == n && t.ctx == x
      let k := ((s.cove v).bw.tiles.filter (fun t => decide (t.state = .collecting) && mine t && decide (t.home ≥ 1))).length
      (((s.bwPop v).sealAll v mine 4).sendBwTide v x).giveReply c j task ask (BitVec.ofNat 64 k) = some u →
        exec (.bwFlushStep v) s = .next u) ∧
    (∀ num l, (s.cove v).bw.fifo = .release num :: l → s.copied v num = false →
      ((s.cove v).jobHolds num = false → exec (.bwReleaseStep v) s = .next ((s.bwPop v).modCove v
        (fun k => { k with bw := { k.bw with tiles := k.bw.tiles.filter (fun t => t.num != num) } }))) ∧
      ((s.cove v).jobHolds num = true → exec (.bwReleaseStep v) s = .next (s.bwPop v))) ∧
    (∀ num o, (s.cove v).bw.tile num = some o → o.state = .collecting → 1 ≤ o.home →
      (o.tfirst + ((s.cove v).bw.stream o.stream).tage < s.dtime.toNat ∨
        (o.tfirst + ((s.cove v).bw.stream o.stream).tage = s.dtime.toNat ∧ (s.cove v).bw.fifo = [])) → exec (.bwAgeSeal v num) s = .next (s.seal v o 1 false)) ∧
    (∀ n t, (s.cove v).bw.streams.find n = some t → t.wlen ≠ 0 → let x := s.ctx t.ctx
      let lag := laggards x t.subs t.tm (windowEnd t.wlen t.wphase t.window)
      (t.stale ≠ 0 → lag ≠ [] → windowEndTime t.wlen t.wphase t.window + t.stale ≤ (s.dtime.toNat : Int) →
        exec (.bwWindowTimeout v n) s = .next (((s.closeTiles v n (timeoutCount x t.subs t.tm t.wlen t.wphase t.stale s.dtime.toNat
          t.window) 3).closeStream v n).sendBwTide v t.ctx)) ∧
      (x.liveSubs t.subs = [] → exec (.bwWindowEndClose v n) s =
        .next ((s.closeTiles v n (endedCount s.dtime.toNat t.wlen t.wphase t.window) 2).sendBwTide v t.ctx))) ∧
    (∀ n o, let t := (s.cove v).bw.stream n
      (s.cove v).bw.nextTile n = some o →
      (t.toJob = false → let a : Nat := ((t.d[6]?).getD 0).toNat
        let g := Target.queue (bits a 4 9) (bits a 0 4)
        exec (.bwTileDispatch v n) s = .next ((s.putTileState v { o with sent := true }).post (Agent.engine v 1) g.agent
          (.record (s.tileRec v o) t.ctx g (.tile v o.num) false))) ∧
      (t.toJob = true → let c := (ownerOf ((t.d[6]?).getD 0)).1
        let la := (ownerOf ((t.d[6]?).getD 0)).2
        let w : Nat := 2 ^ 40 + 2 ^ 10 * v + n
        s.unservable c t.ctx la 128 w = false → s.missing c t.ctx la 128 w = none →
        let bs := s.localBytes c t.ctx la 128
        let d := (List.range 16).map (fun i => BitVec.ofNat 64 (leNat ((bs.drop (8 * i)).take 8)))
        let r := (s.touchRead c t.ctx la 128).submit v {
          id := 0, d := d, ctx := t.ctx, stamp := o.ts, late := tsBefore o.ts (s.toutOf c t.ctx)
          prio := bits ((d[14]?).getD 0).toNat 0 6, task := 0, core := c, tile := some o.num }
        r.1 ≠ 0 → exec (.bwJobSubmit v n) s = .next (((r.2.leave c w).putTileState v { o with state := .inJob }).sendBwTide v t.ctx))))

/-- The events of the matrix engine perform. Each event of a cove's MXE that is enabled performs: MXE_ACCEPT takes a
submission and answers its slot; JOB_BANK_SAMPLE gives a job the live side of its bank, or records that there is none;
MXE_ADMIT of the first queued job that waits for no overlap faults it with DESC or ACC, or admits it and gives it its
region; MXE_OPERAND_ARRIVE brings the operands of a slot; MXE_SLOT_BOUNDARY with no cancel and no stagger runs a slot
of the job that the grant names, or idles; MXE_DRAIN_END of a job without a drain, or whose pages are all there and
whose second drain agrees, sends its writes; MXE_JOB_DONE ends a job that has drained as done; MXE_CANCEL answers 0,
1, 2 or 3 by the job's state. The model's choices in it: one compute slot is one step (log 16), its energy is a free
value that the meter adds as it happens (logs 6 and 61), and of several faults of a job the first is the one that log
93 orders. (R257, R258, R259, R261, R262, R263, R264, R265, R266, R267, R271, R276) -/
def Obligations.MatrixEngineEventsComplete : Prop :=
  (∀ (s u : State) (id : Nat) (m : Msg), s.take id = some (m, u) →
    (∀ d x stamp late prio task c j, m.body = .mxq d x stamp late prio task c j →
      let r := u.submit (coveOf c) { id := 0, d := d, ctx := x, stamp := stamp, late := late, prio := prio, task := task, core := c }
      ∀ t, r.2.giveReply c j task id r.1 = some t → exec (.mxeAccept id) s = .next t) ∧
    (∀ v n o c b j, m.body = .sample v n o c b → (u.cove v).mxe.job n = some j → j.state ≠ .cancelled →
      let r := u.sampleFor c b j.ctx
      (∀ sd, r.2 = some sd → exec (.jobBankSample id) s =
        .next (r.1.setJob v { j with sampling := j.sampling - 1, sides := j.sides ++ [(o, c, b, sd)] })) ∧
      (r.2 = none → exec (.jobBankSample id) s = .next (r.1.setJob v { j with sampling := j.sampling - 1, noSide := true }))) ∧
    (∀ n x c j task, m.body = .mxcan n x c j task → let v := coveOf c
      s.submitAhead id c = false →
      let job := (u.cove v).mxe.jobs.find? (fun j => j.id == n && j.ctx == x)
      let Ends : State → Word → Prop := fun w a => ∀ t, w.giveReply c j task id a = some t → exec (.mxeCancel id) s = .next t
      (job = none → Ends u 3) ∧
      ∀ k, job = some k → (k.state = .draining → Ends u 2) ∧
        (k.state = .done ∨ k.state = .faulted ∨ k.state = .cancelled → Ends u 1) ∧
        (k.state = .running → Ends (u.setJob v { k with cancel := true }) 0) ∧
        (k.state = .queued ∨ k.state = .admitted → Ends (u.endJob v k .cancelled 0 0 true) 0))) ∧
  (∀ (s : State) (v n : Nat) (j : Job), (s.cove v).mxe.job n = some j →
    (j.state = .queued → j.sampling = 0 → s.overlapped v j = false →
      ((s.cove v).mxe.jobs.takeWhile (fun o => o.id != j.id)).any (fun o => o.state == .queued && !s.overlapped v o) = false →
      (s.descOk v j = false → exec (.mxeAdmit v n) s = .next (s.faultJob v j 1 0)) ∧
      (s.descOk v j = true → s.regionBad v j = true → exec (.mxeAdmit v n) s = .next (s.faultJob v j 6 0)) ∧
      (s.descOk v j = true → s.regionBad v j = false → exec (.mxeAdmit v n) s = .next ((s.modCove v (fun c => { c with mxe := { c.mxe with
        owners := (s.chunks v j).foldl (fun o k => o.set k j.ctx) c.mxe.owners } })).setJob v { j with state := .admitted }))) ∧
    (j.state = .admitted ∨ j.state = .running → j.arrived < min (s.totalSlots v j) (j.slots + 2) →
      (∀ r new, s.slotReached v j j.arrived = .ok (r, new) → exec (.mxeOperandArrive v n) s = .next (s.withWalks v new (fun u =>
        (u.leaveAll j.who).setJob v { j with arrived := j.arrived + 1 }))) ∧
      (∀ c p, s.slotReached v j j.arrived = .error (.absent c p) →
        exec (.mxeOperandArrive v n) s = .next (((s.keepPages j).1.setJob v (s.keepPages j).2).waitPage c j.ctx p j.who))) ∧
    (j.state = .draining → j.sent = true →
      exec (.mxeJobDone v n) s = .next ((s.tagLines j.lines j.cscope j.core j.ctx).endJob v { j with sent := false } .done 0 0 true)) ∧
    (j.state = .draining → j.sent = false →
      (j.nodr = true → exec (.mxeDrainEnd v n) s = .next (s.setJob v { j with sent := true })) ∧
      (j.nodr = false → s.poisoned (accAt v (4096 * j.accoff)) (4 * (s.rowsOf v j * j.n)) = false →
        let b := (s.drainBytes v j).1
        let k := { j with flags := j.flags ||| (s.drainBytes v j).2, checked := s.jobPaired j }
        let Z : State → State := fun u => (u.leaveAll j.who).meter j.ctx (Config.mxeEnergy u.free)
        ∀ places new, s.reach v (fun u => (b.drop j.written).mapM (fun p => u.jobByte j.who v j.ctx j.dloc j.dcore p.1 .engineWrite)) = .ok (places, new) →
          (k.checked = true → k.drain ≠ k.flags.setWidth 8 :: b.map (·.2) →
            exec (.mxeDrainEnd v n) s = .next (s.withWalks v new (fun u => (Z u).faultJob v k 9 0))) ∧
          (k.checked = false ∨ k.drain = k.flags.setWidth 8 :: b.map (·.2) →
            exec (.mxeDrainEnd v n) s = .next (s.withWalks v new (fun u => (((b.drop j.written).zip places).foldl
              (fun s p => (s.setByte p.2 p.1.2).dirtied v j.ctx j.dloc j.dcore p.1.1) (Z u)).setJob v
              { k with sent := true, lines := if j.dloc = 2 then (places.map (· / 256)).dedup else [] })))))) ∧
  (∀ (s : State) (v : Nat), let m := (s.cove v).mxe
    m.jobs.any (fun j => j.cancel && j.state == .running) = false → m.hold = 0 → m.idle < m.slot % 64 + 64 →
    let w := (s.modCove v (fun c => { c with mxe := { c.mxe with slot := (m.slot + 1) % 64, used := if m.slot % 64 = 0 then [] else
      c.mxe.used } })).modCove v (fun c => { c with mxe := { c.mxe with hold := 0 } })
    let u := w.settleArrivals v
    (u.grant v m.slot = none → exec (.mxeSlotBoundary v) s =
      .next ((u.modCove v (fun c => { c with mxe := { c.mxe with idle := c.mxe.idle + 1 } })).askLeft (w.leftPages v))) ∧
    (∀ j, u.grant v m.slot = some j → exec (.mxeSlotBoundary v) s = .next ((((u.modCove v (fun c => { c with mxe := { c.mxe with
      idle := 0, used := c.mxe.used.set j.ctx (c.mxe.used.getD j.ctx 0 + 1) } })).meter j.ctx (Config.mxeEnergy u.free)).runSlot v j).askLeft
        (w.leftPages v))))

/-- Walks, invalidations, local pages, banks and the jobs of the Ebb engine perform. Each event that is enabled performs:
PAGE_WALK_DONE fills the TLBs of the cores whose accesses and hints wait for it, and the hints act, or fails every
access that waits for the walk, its hints counted as dropped; TLB_INVALIDATE of a cove in which nothing that the
entries translated is under way drops the translations of the range and acknowledges; LOCAL_PAGE_FILL_DONE and
LOCAL_PAGE_SPILL_DONE copy a page between its frame and the spill area; EBB_FOOTPRINT of an item that no earlier one
goes before pins the resident pages of its footprint, requests the absent ones, claims its banks, and serves it once
all are there; BANK_CLAIM_PASS passes an idle bank to the oldest claim, BANK_SAVE moves the next chunk of 1 KiB of the
modified sides that leave, the last ending the save, and BANK_RESTORE refills the next chunk of a saved image;
CB_LOAD_START lets a waiting load go on, CB_LOAD_DONE moves the next chunk of one, the last ending it; CBFETCH begins
its copy, or faults; EBB_COPY, EBB_FILL and EBB_SPILL move the next part of the job whose turn it is, and EBB_JOB_DONE
ends it and sends its record. The model's choices in it: a copy moves at most 1 KiB of one run in a step and
overlapped bytes are free (log 17), a job's translations and pins stand until it ends (log 88), and an engine's walk
takes one step, waiting for one in progress, every entry it brings having its place in the directory first (log 89).
(R185, R279, R280, R283, R284, R340, R341, R342, R343, R349, R350, R351) -/
def Obligations.PageAndEbbEventsComplete : Prop :=
  (∀ (s : State) (v n : Nat),
    (∀ w, (s.cove v).walks[n]? = some w → w.again = false →
      let left := s.modCove v (fun k => { k with walks := k.walks.eraseIdx n })
      let drop := match (left.cove v).misses with
        | [] => left
        | m :: l => (left.modCove v (fun k => { k with misses := l })).enterWalk v m
      (∀ st, s.walk w.ctx w.va = .error st → exec (.pageWalkDone v n) s = .next ((w.waiters.foldl (fun s p => s.modSlot p.1 p.2.1 (fun t =>
        if t.life = .stalled .walk then { t with walkFail := some (p.2.2 / 2 ^ 14, st) } else t)) drop).endHints w.hints none)) ∧
      (∀ t, s.walk w.ctx w.va = .ok t → s.dirRoom v t = true → exec (.pageWalkDone v n) s =
        .next ((drop.fillTlb v t (w.waiters.map (·.1) ++ w.hints.map (·.core)).dedup).endHints w.hints (some t)))) ∧
    (∀ i, s.invals[n]? = some i → i.coves.contains v = true → i.coves.filter (· != v) ≠ [] →
      let hit : TlbEntry → Bool := fun e => e.ctx == i.ctx && decide (e.va < i.hi) && decide (i.lo < e.va + e.size)
      (∀ e ∈ (s.cove v).tlb, hit e = true → s.translates v e = false ∧ ∀ q, q < 8 → s.flushHeld (coreAt v q) e = false) →
      s.keeps v hit = false → ∃ t, exec (.tlbInvalidate v n) s = .next t ∧
        t.invals = s.invals.set n { i with coves := i.coves.filter (· != v) } ∧
        (t.cove v).tlb = (s.cove v).tlb.filter (fun e => !hit e)) ∧
    (∀ j, (s.cove v).ebb.jobs.find? (fun j => j.id.toNat == n) = some j →
      (∀ c bank src mode fmt, j.fetch = some (c, bank, src, mode, fmt) → j.state = .queued → (s.ctx j.ctx).state ≠ .frozen →
        s.pageDue v 3 = false → (s.ctx j.ctx).pair = false → let u := s.ownBank c bank j.ctx
        u.holdsBank c bank j.ctx = true → (((u.core c).bank bank).side ((u.core c).bank bank).shadow).busy = false →
        (u.ctx j.ctx).pair = false →
          let check : State → Except JobStop (List (Nat × TlbEntry)) := fun w => w.fetchCheck v j.ctx mode src (formatBytes fmt)
          (∀ e a, u.reach v check = .error (.fault e a) →
            let z := u.modCore c (fun k => k.setBank bank ((k.bank bank).mod (k.bank bank).shadow Side.emptied))
            exec (.cbfetch v n) s = .next ((if e = 7 then z.report 3 c j.ctx else z).modEbbJob v n (fun j => j.ended e a))) ∧
          (∀ pages new z, u.reach v check = .ok (pages, new) → u.fillWalks v new new = (z, true) →
            let r := z.beginLoad c ⟨bank, mode, src, fmt, false⟩ none (some n) pages
              (mode == 2 && pages.all (fun p => !p.2.allows .engineWrite))
            let mine := ((r.1.core c).bank bank).loaders.filter (fun l => l.job = some n)
            r.2 = none → exec (.cbfetch v n) s = .next ((mine.foldl (fun s l => (s.pinLoad c bank j.ctx l).1) r.1).modEbbJob v n
              (fun j => { j with state := .running })))) ∧
      (j.class4 = true → j.moved = true → j.state.final = false →
        let u := (if j.code = 0 then s.tagLines j.lines j.cscope j.core j.ctx else s).modEbbJob v n
          (fun j => { j with state := if j.code = 0 then .done else .faulted })
        (j.f 0 41 1 = 1 → exec (.ebbJobDone v n) s = .next (u.ebbOver v n)) ∧
        (j.f 0 41 1 ≠ 1 → exec (.ebbJobDone v n) s = .next ((u.modEbbJob v n (fun j => { j with sent := true })).post (Agent.engine v 2)
          (Agent.queue (j.f 0 42 9) (j.f 0 51 4)) (.record ⟨mkRec j.stamp (u.srcId 2 (4 * v + 2)) 4 (if j.late then 1 else 0)
            (j.id.toNat + (if j.code = 0 then 0 else 2 ^ 32) + j.code * 2 ^ 35), []⟩ j.ctx (.queue (j.f 0 42 9) (j.f 0 51 4)) (.ebb v n) false)))) ∧
      (s.ebbTurn v = some j → s.pageDue v 4 = false → s.bankDue v = false → (j.state ≠ .queued ∨ s.ebbDescOk v j = true) →
        (j.cmd = 1 → let p : Nat := j.f 1 0 48 / 2 ^ 14 + j.pos
          (∀ f a, s.local? (j.f 1 52 9) j.ctx (p * 2 ^ 14) = .here f a → exec (.ebbFill v n) s =
            .next (((s.leaveAll j.who).meter j.ctx (Config.ebbEnergy s.free)).modEbbJob v n
              (fun j => { j with state := .running, pos := j.pos + 1, moved := decide (j.pos + 1 = j.len) }))) ∧
          (∀ p', s.local? (j.f 1 52 9) j.ctx (p * 2 ^ 14) = .absent p' → exec (.ebbFill v n) s = .next ((s.modEbbJob v n
            (fun j => { j with state := .running })).waitPage (j.f 1 52 9) j.ctx p' j.who 4))) ∧
        (j.cmd = 2 → let c : Nat := j.f 1 52 9
          let p : Nat := j.f 1 0 48 / 2 ^ 14 + j.pos / 2 ^ 14
          let i : Nat := j.pos % 2 ^ 14 / 1024
          ((s.core c).frameOf j.ctx p = none → exec (.ebbSpill v n) s = .next (s.modEbbJob v n (fun j => { j with
            state := .running, pos := j.pos + 2 ^ 14, pins := [], moved := decide (j.pos + 2 ^ 14 = 2 ^ 14 * j.len) }))) ∧
          (∀ f fr l new, (s.core c).frameOf j.ctx p = some (f, fr) → fr.state = .resident → (fr.dirty = true ∨ 0 < i) →
            s.poisoned (poolAt c ((s.core c).frameOff f + 1024 * i)) 1024 = false → s.homeSectors c fr i 1 .engineWrite = .ok (l, new) →
            ∃ t, exec (.ebbSpill v n) s = .next t ∧ ((s.fillWalks v new new).2 = true →
              t.mem = (s.copySectors ((s.frameSectors c f i 1).zip l)).mem ∧ ((s.core c).frames.find f = some fr → i < 15 →
                ((t.core c).frames.find f).map (·.dirty) = some fr.dirty)))) ∧
        (j.cmd = 0 → j.state = .queued →
          (∀ e a, s.reach v (fun u => u.copyCheck v j) = .error (.fault e a) → exec (.ebbCopy v n) s =
            .next ((if e = 7 then s.report 3 j.core j.ctx else s).ebbMoved v j e a)) ∧
          (∀ pages new, s.reach v (fun u => u.copyCheck v j) = .ok (pages, new) → exec (.ebbCopy v n) s = .next (s.withWalks v new
            (fun u => u.modEbbJob v n (fun j => { j with state := .running, pages := pages }))))) ∧
        (j.cmd = 0 → j.state ≠ .queued → let k : Nat := min 1024 (j.len - j.pos % j.len)
          let run : Nat := j.pos / j.len
          let off : Nat := j.pos % j.len
          let r := s.pinChunk v j (j.sidePages v run off k 1 ++ j.sidePages v run off k 2).dedup
          let u := r.1
          let place : Nat → Nat → Except JobStop (Nat × Nat) := fun w i =>
            (r.2.place u v run w (off + i)).map (fun x => (r.2.key v run w (off + i) x, x))
          ∀ a b, (List.range k).mapM (place 1) = .ok a → (List.range k).mapM (place 2) = .ok b → (∀ p ∈ a, u.poisoned p.2 1 = false) →
            ∃ t, exec (.ebbCopy v n) s = .next t ∧ ((∀ p, p ∈ a ∨ p ∈ b → j.wrote p.1 = none) →
              t.mem = Mem.puts u.mem (b.zipWith (fun q p => (q.2, u.byte p.2)) a)))))) ∧
  (∀ (s : State) (c n : Nat),
    (∀ fr, (s.core c).frames.find n = some fr →
      let left : Nat := 16 - fr.pos
      (fr.fault = false → fr.state = .filling → s.pageYields c n fr = false → ∀ l new, s.homeSectors c fr fr.pos left .load = .ok (l, new) →
        (l.any (fun a => s.poisoned a 128) = true → exec (.localPageFillDone c n) s = .next (s.fillFails c n fr)) ∧
        (l.any (fun a => s.poisoned a 128) = false → exec (.localPageFillDone c n) s = .next (s.withWalks (coveOf c) new (fun u =>
          let z := u.copySectors (l.zip (u.frameSectors c n fr.pos left))
          z.modCore c (fun k => { k with
            stamp := k.stamp + 1
            frames := k.frames.set n { fr with
              state := .resident, dirty := false, pos := 0, pins := z.newPins c fr, stamp := k.stamp + 1 } }.retryFills))))) ∧
      (fr.state = .spilling → fr.demand = false → s.pageYields c n fr = false → ∀ r l new, fr.next = some r →
        s.homeSectors c fr fr.pos left .engineWrite = .ok (l, new) → exec (.localPageSpillDone c n) s =
          .next (s.withWalks (coveOf c) new (fun u => (u.copySectors ((u.frameSectors c n fr.pos left).zip l)).modCore c (fun k =>
            { k with frames := k.frames.set n r.frame }))))) ∧
    (∀ f, (s.core c).footprint n = some f → let x : Nat := f.start.ctx
      f.served = false → (s.ctx x).state ≠ .frozen → (s.ctx x).pair = false → ((s.core c).earlier n).any s.unasked = false →
      let h := (s.ctx x).handler f.start.handler
      let new := h.footPages.filter (fun p => !f.pins.contains p)
      let here := new.filter (s.residentOn [c] x)
      let banks := (List.range 8).filter (fun b => h.cbm.getLsbD b)
      let w := s.modCore c (fun k => (new.filter (fun p => !here.contains p)).foldl (fun k p => k.request x p 2)
        (here.foldl (fun k p => k.pinPage x p) k))
      let u := banks.foldl (fun s b => s.ownBank c b x) w
      let all : Bool := here.length == new.length && banks.all (fun b => u.holdsBank c b x)
      let z := u.modCore c (fun k => k.setFootprint n { f with asked := true, served := all, pins := f.pins ++ here })
      exec (.ebbFootprint c n) s = .next (if all then (z.schedule c).startService c else z)) ∧
    (let y := (s.core c).bank n
     (∀ d x l, y.holder = some d → y.claims = x :: l → s.bankIdle c n d = true → n < 8 → exec (.bankClaimPass c n) s =
        .next (s.modCore c (fun k => { k.setBank n { y.bump with holder := some x, claims := l, since := k.stamp
                                                                 passing := if (y.side 0).used || (y.side 1).used then some d else none }
                                       with stamp := k.stamp + 1 }))) ∧
     (∀ d x, y.passing = some d → y.holder = some x → (s.ctx x).state ≠ .frozen → s.pageDue (coveOf c) 3 = false → let chunks := savedChunks (y.savedSides.filter (fun v => !v.clean))
        (chunks[y.moved]? = none → exec (.bankSave c n) s = .next (s.endSave c n d)) ∧
        (∀ v k as new, chunks[y.moved]? = some (v, k) → s.reach (coveOf c) (fun u =>
            u.engineRun c d ((u.ctx d).bankVa c n v.side + 1024 * k) (v.chunkBytes k) .engineWrite) = .ok (as, new) →
          exec (.bankSave c n) s = .next (s.withWalks (coveOf c) new (fun u =>
            let z := { u with mem := Mem.puts u.mem (as.mapIdx (fun i a => (a, u.byte (u.sideAddr c (y.side v.side) (1024 * k + i))))) }
            if y.moved + 1 = chunks.length then z.endSave c n d
            else z.modCore c (fun q => q.setBank n { q.bank n with moved := y.moved + 1 }))))) ∧
     (∀ x l ps, y.holder = some x → y.passing = none → (s.ctx x).saved.find (cbKey c n) = some l →
        (s.ctx x).state ≠ .frozen → s.pageDue (coveOf c) 3 = false → s.restorable c n l = true →
        ((savedChunks l)[y.moved]? = none → exec (.bankRestore c n) s = .next (s.endRestore c n x l)) ∧
        (∀ v k new, (savedChunks l)[y.moved]? = some (v, k) → s.reach (coveOf c) (fun u =>
            u.engineRun c x (u.savedVa c n x v + 1024 * k) (v.chunkBytes k) .load) = .ok (ps, new) → exec (.bankRestore c n) s =
          .next (s.withWalks (coveOf c) new (fun u =>
            let z := (if y.moved = 0 then u.beginRestore c n l else u).restoreChunk c n x v k ps
            if y.moved + 1 = (savedChunks l).length then z.endRestore c n x l
            else z.modCore c (fun q => q.setBank n { q.bank n with moved := y.moved + 1 }))))) ∧
     (∀ l rest x as, y.loaders = l :: rest → y.holder = some x → s.mateOf c n x l = none → (l.job.isSome && (s.paused x || s.pageDue (coveOf c) 3)) = false →
        l.slot.any (s.storing c) = false → let r := if l.job.isSome then s.pinLoad c n x l else (s, l)
        let near := if (r.1.ctx x).pair then primaryOf c else c
        let hit : Nat → Option Byte := fun a => if r.2.slot.isSome && r.2.mode == 2 then r.1.l1Get near a else none
        r.1.loadSource c n x r.2.part = .ok as → (∀ a ∈ as, r.1.poisoned a 1 = false ∨ (hit a).isSome = true) →
        ∃ t, exec (.cbLoadDone c n) s = .next t ∧ t.mem = Mem.puts r.1.mem (as.mapIdx (fun i a =>
          (r.1.sideAddr c (((r.1.core c).bank n).side r.2.side) (l.pos + i), (hit a).getD (r.1.byte a)))) ∧
          (n < 8 → l.pos + as.length ≠ l.len → ((t.core c).bank n).loaders = y.loaders.map (fun o =>
            if o.side = l.side then { r.2 with pos := l.pos + as.length } else o)))) ∧
    (∀ r, n < 5 → (s.slot c n).cbreq = some r → (s.slot c n).frozen = false →
      ((s.slot c n).life = .stalled .claim ∨ (s.slot c n).life = .stalled .side) →
      s.holdsBank c r.bank (s.slot c n).ctx.toNat = true →
      (((s.core c).bank r.bank).side ((s.core c).bank r.bank).shadow).busy = false →
      exec (.cbLoadStart c n) s = .next (s.modSlot c n (fun t => { t with life := .running }))))

/-- Pair comparisons, barriers, wait queues, context ends, commits and the governor perform. Each event that is enabled
performs: PAIR_COMPARE lets two equal copies go on and traps both cores on a difference, PAIR_COMPARE_TIMEOUT traps
after 854 ns; BARRIER_COMPLETE opens the next episode, BARRIER_RELEASE_ARRIVE lets the core's waiters of a past
episode go on, BARRIER_TIMEOUT traps and keeps the missing set; WAITQ_AT_OWNER links a slot whose cell holds the
value, and answers 0 otherwise; WAKE_AT_OWNER wakes the first waiters and returns their count; WAITER_WOKEN answers
the slot; CONTEXT_LOAD_DONE makes a checked kernel's context ready once its fixed pages and banks are there, and ends
a load in error; CONTEXT_DRAIN_DONE releases a context of which nothing remains, CONTEXT_SCRUB_DONE frees its number;
BOUNDARY_COMMIT starts or refuses a commit, BOUNDARY_COMMIT_DONE ends it; REGION_COMMIT and REGION_SWITCH switch the
region table; GOVERNOR_PERIOD, QUOTA_EXHAUSTED, ENRG_DELIVERY, DVFS_STEP_DONE and THERMAL_SAMPLE renew the accounts,
the steps and the temperatures, and a core whose ENRG_DELIVERY clears OVER decides. The model's choices in it: each
core of a pair sends its own TRAP record, and on a timeout both trap at the instruction of the effect (log 38); the
fields of an error report that names no core or context (log 54); what the switch of the region table waits for (log
56); the page tables of a released context go at once (log 58); spending is a free value that is metered as it happens
(log 61); a boundary commit frees the core's local frames and keeps every GEN (log 81). (R73, R162, R163, R169, R171,
R315, R316, R325, R329, R332, R333, R400) -/
def Obligations.SyncContextAndGovernorEventsComplete : Prop :=
  (∀ (s : State) (c j : Nat), let t := s.slot c j
    let u := s.slot (twinOf c) j
    (∀ a b, t.copy = some a → u.copy = some b → c % 2 = 0 → t.agreed = false → u.agreed = false →
      (mismatch a b = 0 → exec (.pairCompare c j) s = .next ((s.modSlot c j (fun t => { t with agreed := true })).modSlot (twinOf c) j
        (fun t => { t with agreed := true }))) ∧
      (mismatch a b ≠ 0 → exec (.pairCompare c j) s = .next (s.redundancyTrap c j (mismatch a b) a.addr))) ∧
    (∀ a, t.copy = some a → u.copy = none → t.agreed = false → isPairchk a.word = false → a.since + 854 ≤ s.dtime.toNat →
      exec (.pairCompareTimeout c j) s = .next (s.redundancyTrap c j 8 a.addr)) ∧
    (∀ k l, t.awaiting = k :: l → let b := s.barrier k
      t.life = .stalled .barrier → t.barto ≠ 0 → b.completing = false → t.armAt k = some b.episode →
      t.started + t.barto.toNat ≤ s.dtime.toNat + 1 → let m := (b.members s k).filter (fun c => !b.flags.contains c)
      exec (.barrierTimeout c j) s = .next ({ s with barriers := s.barriers.set k { b with missing := some m } }.trapSlot c j
        ⟨Cause.barrierTimeout, BitVec.ofNat 64 (barrierTval k m), 0⟩))) ∧
  (∀ (s : State) (k : Nat), ((s.barrier k).completing = true → exec (.barrierComplete k) s = .next (s.openNext k)) ∧
    ∀ c, exec (.barrierReleaseArrive c k) s = .next (s.modCore c (fun q => { q with slots := q.slots.map (fun t =>
      if t.life = .stalled .barrier ∧ t.awaiting.contains k ∧ t.armAt k ≠ some (s.barrier k).episode then
        { t with awaiting := t.awaiting.filter (· != k), life := .running } else t) }))) ∧
  (∀ (s u : State) (id : Nat) (m : Msg), s.take id = some (m, u) → let o : Nat := m.dst / 8
    (∀ c j task ask v t, m.body = .reply .woken c j task ask v → u.giveAnswer c j task ask v = some t → exec (.waiterWoken id) s = .next t) ∧
    (∀ x la c j task v, m.body = .waitq x la c j task v → (s.slot c j).taskid = task → (s.slot c j).ask = some id →
      s.shut o = false → u.ownerReady o x c j = true → u.unservable o x la 16 (msgWho id) = false →
      u.missing o x la 16 (msgWho id) = none → let w := (u.leave o (msgWho id)).checkCell o x la
      (leNat (w.localBytes o x la 8) = v.toNat → exec (.waitqAtOwner id) s = .next ((w.setWaiters o (cellKey x la) ((w.core o).links.getD
        (cellKey x la) [] ++ [(c * 8 + j, task, id)])).modSlot c j (fun t => { t with linkedAt := some (o, cellKey x la) }))) ∧
      (leNat (w.localBytes o x la 8) ≠ v.toNat → ∀ t, w.giveAnswer c j task id 0 = some t → exec (.waitqAtOwner id) s = .next t)) ∧
    (∀ x la c j task n, m.body = .wake x la c j task n → s.shut o = false → u.ownerReady o x c j = true →
      u.unservable o x la 16 (msgWho id) = false → u.missing o x la 16 (msgWho id) = none →
      let w := (u.leave o (msgWho id)).checkCell o x la
      let l := (w.core o).links.getD (cellKey x la) []
      let k : Nat := min n.toNat l.length
      exec (.wakeAtOwner id) s = .next ((((l.take k).foldl (fun s q => s.wakeOne o q 1) w).setWaiters o (cellKey x la) (l.drop k)).post
        m.dst (Agent.slot c j) (.reply .atomic c j task id (BitVec.ofNat 64 k))))) ∧
  (∀ (s : State) (x c : Nat),
    ((s.ctx x).state = .loading → (s.ctx x).pending = some false → exec (.contextLoadDone x) s = .next ((s.release x).endLoad x 5)) ∧
    ((s.ctx x).state = .draining → s.remains x = false → exec (.contextDrainDone x) s = .next (s.release x)) ∧
    ((s.ctx x).state = .loading → (s.ctx x).pending = some true → let cores := (List.range 512).filter (s.ctx x).has
      cores.all (fun k => (s.fixedState x k).1 && !(s.fixedState x k).2) = true → s.invals.any (fun i => i.ctx == x) = false →
      ∀ u, s.preload x (s.ctx x).preloads = some (u, true) → exec (.contextLoadDone x) s = .next ((u.makeReady x).endLoad x 0)) ∧
    ((s.ctx x).state = .released → s.invals.any (fun i => i.ctx == x) = false →
      ∃ t, exec (.contextScrubDone x) s = .next t ∧ t.ctxs = s.ctxs.del x ∧ t.timers = s.timers.filter (fun t => t.ctx != x)) ∧
    (∀ t n0 n1 n2, s.commitDue c = some (t, n0, n1, n2) → let u := { s with commits := s.commits.filter (fun q => q.1 != c) }
      (u.quiescent t = false ∨ boundsOk n0.toNat n1.toNat n2.toNat = false →
        exec (.boundaryCommit c) s = .next (u.modCore c (fun k => { k with pbstate := 2 }))) ∧
      (u.quiescent t = true → boundsOk n0.toNat n1.toNat n2.toNat = true →
        exec (.boundaryCommit c) s = .next ((u.modCore c (fun k => { k with pbstate := 1 })).modCore t (fun k =>
          { k with committing := some (c, n0, n1, n2), l1 := [], banks := k.banks.map (fun b => { gen := b.gen }) })))) ∧
    (s.isFw c = true → s.phase = .running → (s.core c).regionState = 1 →
      (s.regionFrom = none → (s.regionRefused c = true → exec (.regionCommit c) s =
          .next (s.modCore c (fun k => { k with regionState := 2 }))) ∧
        (s.regionRefused c = false → exec (.regionCommit c) s = .next { s.modCore c (fun k => { k with regionState := 1 }) with
          regionFrom := some c, regionNew := (List.range 128).map (fun i => (i, s.shadowAt c i)) }))) ∧
    (∀ f n0 n1 n2, (s.core c).committing = some (f, n0, n1, n2) → exec (.boundaryCommitDone c) s = .next ((((s.zeroChanged c
      ((s.core c).b0.toNat, (s.core c).b1.toNat, (s.core c).b2.toNat) (n0.toNat, n1.toNat, n2.toNat)).modCore c (fun k =>
        { k with committing := none, b0 := n0, b1 := n1, b2 := n2, frames := [] })).modCore f (fun k => { k with pbstate := 3 })).schedule c)) ∧
    (∀ f, s.regionFrom = some f → s.crossing = false → exec .regionSwitch s = .next
      { s.modCore f (fun k => { k with regionState := 0 }) with
        regions := s.regionNew, regionFrom := none, regionNew := []
        cores := (s.modCore f (fun k => { k with regionState := 0 })).cores.map (fun p : Nat × Core => (p.1, p.2.moved s.moved))
        msc := s.msc.foldl (fun (m : FMap MscLine) p => m.set (s.moved (256 * p.1) / 256) p.2) [] })) ∧
  (∀ (s : State) (x c : Nat) (t0 t1 : List Nat),
    ((s.ctx x).state.shares = true → (s.ctx x).spentOut = false → (s.ctx x).quota ≤ (s.ctx x).spent → exec (.quotaExhausted x) s = .next (s.setCtx x { s.ctx x with
      spentOut := true, state := if (s.ctx x).state = .ready then .quotaHeld else (s.ctx x).state })) ∧
    ((s.ctx x).has c = true → (s.ctx x).state ≠ .free →
      let u := s.modCore c (fun k => { k with enrg := k.enrg.set x ⟨(s.ctx x).spentOut, sat32 ((s.ctx x).quota - (s.ctx x).spent)⟩ })
      exec (.enrgDelivery c x) s =
        .next (if ((s.core c).enrg.getD x {}).spentOut = true ∧ (s.ctx x).spentOut = false then u.schedule c else u)) ∧
    (s.phase = .running → s.dtime.toNat / 100000 % 2 ^ 16 ≠ s.period.toNat →
      ∃ t, exec .governorPeriod s = .next t ∧ t.period = s.period + 1 ∧ t.allowance = s.allowanceFor (Config.baseEnergy s.free) ∧
        (∀ i : Fin 2, (t.dies[i]).next = (let n := nextStep (s.dies[i]).temp s.ttgt (s.dies[i]).step
          if n = (s.dies[i]).step then none else some n))) ∧
    (∀ i : Fin 2, ∃ t, exec (.dvfsStepDone i.val) s = .next t ∧ (t.dies[i]).next = none ∧
      (t.dies[i]).step = (s.dies[i]).next.getD (s.dies[i]).step) ∧
    (∃ t, exec (.thermalSample t0 t1) s = .next t ∧ (∀ k : Fin 8,
      (t.dies[0]).sensors[k] = t0.getD k.val 0 ∧ (t.dies[1]).sensors[k] = t1.getD k.val 0) ∧
      t.net.length = s.net.length + (t0.take 8 ++ t1.take 8).countP (fun x => decide (115 ≤ x))))

/-- Freezes, releases, errors, inspection, pins, the harts, boot and the fetch traps perform. HFRZ_GO freezes the contexts
that HFRZ names; HREL_GO, while FRZ_N is high, marks the frozen ones that HREL names, and FREEZE_RELEASE releases them
once every slot has stopped; ERROR_REPORT reaches Headland; HEARTBEAT_MISS sets its bit and is a fault event; a
watchdog that has run out, a lockstep mismatch and a clock fault restart the harts with their error bit; FRZ_N_ASSERT
latches the pins and freezes every context, FRZ_N_DEASSERT ends the hold; HICMD_READ and HICMD_WRITE read and write
the frame entry of a stopped slot, writing only a frozen one, or give their status; HELOG_POP takes the oldest entry,
HWDOG_RELOAD reloads the watchdog, HTIME_READ latches the high word, HFWMB_POST posts a request of Table 18.3; a step
of the main hart fetches at its pc and leaves the hart as its manuals give it, the checker running what the main hart
ran two instructions before, and a difference is a lockstep mismatch; a hart takes the machine external interrupt with
cause 11 and the interrupt bit, a fetch that faults with cause 1, a word that encodes nothing with cause 2; the resets
keep what R401 gives and boot; a recovery command stages, commits or answers; RESERVED_ENCODING takes
ILLEGAL_INSTRUCTION and FETCH_PAGE_TRAP its page trap, or ECC_UNCORRECTABLE for code 7, the mark of an error in a
table entry that log 9 names. Not the spec's: the harts follow the RISC-V manuals (log 12, PRESUMED). The model's
choices in it: where an ECC error of a table entry stands, with its code 7 (log 9); what a restart keeps (log 40);
what a write of HFWMB asks (log 41); the fields of an error report (log 54); what a warm reset keeps (log 62); the
order of HICMD's checks (log 63); boot in one step (log 65); where boot puts the images (log 91). (R336, R378, R379,
R385, R386, R387, R388, R389, R392, R394, R397, R398) -/
def Obligations.HeadlandAndBootEventsComplete : Prop :=
  ∀ (s : State), let h := s.headland
    exec .hfrzGo s = .next (s.freeze (fun k => h.frzAll || k == h.frzCtx.toNat) h.frzNum) ∧
    (h.pinhold = false → ∃ t, exec .hrelGo s = .next t ∧ ∀ k, k < 16 → t.headland.relPending.getLsbD k =
      (h.relPending.getLsbD k || ((h.relAll || k == h.relCtx.toNat) && s.frozenMask.getLsbD k))) ∧
    (h.pinhold = true → exec .hrelGo s = .next s) ∧
    (h.relPending ≠ 0 → h.pinhold = false → s.stopped = true → exec .freezeRelease s = .next (((List.range 16).filter
      (fun c => h.relPending.getLsbD c)).foldl (fun s c => s.releaseFreeze c) { s with headland := { h with relPending := 0 } })) ∧
    (∀ id m u src c x, s.take id = some (m, u) → m.body = .error src c x → exec (.errorReport id) s = .next (u.errorAt src c x)) ∧
    (∀ x, s.missDue x = true → let u := s.modCtx x (fun k => { k with hbLast := k.hbLast + k.hbwatch + 1 })
      exec (.heartbeatMiss x) s = .next (({ u with headland := { h with hbmiss := h.hbmiss ||| BitVec.ofNat 16 (2 ^ x) } }.report 2 0 x).faultEvent
        0 x)) ∧
    (h.hwdog = 0 → exec .watchdogFault s = .next (s.hartFault 10)) ∧
    exec .lockstepMismatch s = .next (s.hartFault 11) ∧ exec .clockFault s = .next (s.hartFault 12) ∧
    exec .frzNAssert s = .next ({ s with headland := { (h.note (s.dtime.setWidth 32) 9 0 0) with
      pinhold := true, relPending := 0 } }.latchPins.freezeAll 0xFFFF) ∧
    exec .frzNDeassert s = .next { s with headland := { h with pinhold := false } } ∧
    (∀ st, s.inspected = .error st → ∀ i ∈ [Instr.hicmdRead, Instr.hicmdWrite],
      exec i s = .next { s with headland := { h with icst := BitVec.ofNat 2 st } }) ∧
    (∀ c j o, s.inspected = .ok (c, j, o) →
      (let x : Word := if o = 0xFF8 then (if (s.slot c j).frozen then 2 else 1) else s.frameEntry c j o
       exec .hicmdRead s = .next { s with headland := { h with idl := x.setWidth 32, idh := (x >>> 32).setWidth 32, icst := 0 } }) ∧
      (o ≠ 0xFF8 → (s.slot c j).frozen = true → frameValueOk o (h.idh ++ h.idl) = true → exec .hicmdWrite s = .next
        { s.modSlot c j (fun t => t.putEntry o (h.idh ++ h.idl)) with headland := { h with icst := 0 } }) ∧
      (o ≠ 0xFF8 → (s.slot c j).frozen = false → exec .hicmdWrite s = .next { s with headland := { h with icst := 3 } })) ∧
    (h.log = [] → exec .helogPop s = .next { s with headland := { h with popped := 0 } }) ∧
    (∀ e l, h.log = e :: l → exec .helogPop s = .next { s with headland := { h with popped := e.word, log := l } }) ∧
    (∀ v, exec (.hwdogReload v) s = .next { s with headland := { h with hwdog := v, hwFrac := 0 } }) ∧
    exec .htimeRead s = .next { s with headland := { h with timeh := (s.dtime >>> 32).setWidth 32 } } ∧
    (∀ r w l, Config.mailboxWords r = w :: l → w ≠ 0 → w.toNat ≤ 9 →
      exec (.hfwmbPost r) s = .next { s with headland := { h with posts := h.posts + 1, mail := h.mail ++ [r] } }) ∧
    (∀ r, Config.mailboxWords r = [] → exec (.hfwmbPost r) s = .next { s with headland := { h with posts := h.posts + 1, fwstatus := 2 } }) ∧
    (∀ l, s.agenda = .hart :: l → step s = .next (s.agendaTo l).hartStep) ∧
    (s.phase = .running →
      let f := s.hartFetch h.main.pc
      let r := s.hartServe (h.main.request h.irq f.1)
      let g : HartIn := ⟨h.irq, f.1, f.2, r.1⟩
      (h.behind.length < 2 → s.hartStep.headland.main = h.main.next g) ∧
      (∀ o a, h.behind = [o, a] → let k := r.2.headland.checker
        (k.pc = o.fetch ∧ k.request o.given.irq o.given.word = o.req →
          s.hartStep.headland.main = h.main.next g ∧ s.hartStep.headland.checker = k.next o.given) ∧
        (k.pc ≠ o.fetch ∨ k.request o.given.irq o.given.word ≠ o.req → ∃ z : State, s.hartStep = z.hartFault 11))) ∧
    (∀ (k : Hart) (g : HartIn),
      (g.irq = true → k.mie = true → k.meie = true → (k.next g).mepc = k.pc ∧ (k.next g).mcause = 0x8000000B ∧
        (k.next g).mie = false ∧ (k.next g).mpie = true) ∧
      ((g.irq && k.mie && k.meie) = false →
        (g.word = none → (k.next g).mepc = k.pc ∧ (k.next g).mcause = 1 ∧ (k.next g).mtval = g.badAt) ∧
        (∀ w, g.word = some w → rvDecode (if rvIsWide w then w else w &&& 0xFFFF) = none →
          (k.next g).mepc = k.pc ∧ (k.next g).mcause = 2 ∧ (k.next g).mtval = (if rvIsWide w then w else w &&& 0xFFFF)))) ∧
    exec .powerOnReset s = .next (s.kept false).boot ∧ exec .warmReset s = .next (s.kept true).boot ∧
    (s.recovering 2 = true → s.cmdLen ≠ 0 → s.cmdAddr + s.cmdLen ≤ imageMax →
      exec .recoveryStageWrite s = .next ((s.putBytes (stagingAt s.cmdAddr) (s.bytes (windowAt 32) s.cmdLen)).endCommand 0)) ∧
    (s.recovering 2 = true → s.cmdLen = 0 →
      (∀ k, s.bootStep (stagingAt 0) = some k → exec .recoveryCommit s = .next (s.endCommand 5)) ∧
      (s.bootStep (stagingAt 0) = none → exec .recoveryCommit s = .next (({ s with
        mem := Mem.copy s.mem (stagingAt 0) (norAt 0) (s.sigAt (stagingAt 0) + 132)
        fuse := max s.fuse (s.imageSvn (stagingAt 0)) }.kept true).boot))) ∧
    (s.recovering 4 = true → ∀ k, s.phase = .recovery (k + 1) → exec .recoveryQuery s = .next (s.endReply (wordBytes [1, k + 1]))) ∧
    (∀ (w : BitVec 32) (tail : Bool), exec (.reservedEncoding w tail) s = .next (takeTrap s ⟨Cause.illegalInstruction, w.setWidth 64,
      (if tail then s.me.pc + 4 else s.me.pc).setWidth 48⟩)) ∧
    (∀ (va : Word) (st : BitVec 6),
      (st.toNat % 16 = 7 → exec (.fetchPageTrap va st) s = .next (takeTrap s ⟨Cause.eccUncorrectable, 0, va.setWidth 48⟩)) ∧
      (st.toNat % 16 ≠ 7 → ∃ cause, exec (.fetchPageTrap va st) s = .next (takeTrap s ⟨cause, st.setWidth 64, va.setWidth 48⟩) ∧
        (st.toNat % 16 = 6 → cause = Cause.layoutAlias) ∧ (st.toNat % 16 ≠ 6 → cause = Cause.fetchPage)))

/-- Host commands, firmware requests, links and sensors perform. REGISTER_WRITE of DOORBELL takes the command in the
window, of MBSTAT clears DONE, of a Headland register writes it and starts its command, of an unlisted or read-only
number takes the hart's illegal-instruction exception. A command in progress ends with the status and the reply of its
rule: a launch, a read, a write and a trace read of a legal range; the queries; an attestation of 64 bytes; each
firmware request whose payload Table 18.4 allows acts and ends with 0, or ends with 5 where it is refused (an unmap
ends once no invalidation of the context is left, a kernel load with the load). Links go from down to training, to up
or degraded, or down again, each change reported; a replay is counted; a module's rows take the nearest module that is
up; a record for another device leaves over a link that carries, and one that arrives here is delivered. A camera's
frame start sets the base, a packet of a stream that is cut off, enabled or not, or that is not enabled and has no
base, is discarded and counted; a taxel port begins to scan and ends its frame; a watchdog cuts the stream with a
LENVIOL record. The model's choices in it: DTIME is aligned as a Rhoash link has trained, with a free value that
stands for device 0's (log 76, the hypothesis on State.aligned); the host's writes of the window (log 25); the parts
of a large leaf that is unmapped in part (log 49); the edges of firmware requests (log 64); counts of a stream (log
67); the order of the checks of host commands (log 68); queries and trace reads (log 69). (R356, R357, R358, R361,
R362, R363, R364, R365, R366, R368, R369, R370) -/
def Obligations.HostLinkAndSensorEventsComplete : Prop :=
  (∀ (s : State),
    (∀ v : Word, v.getLsbD 0 = true → exec (.registerWrite 0x12000 v) s = .next s.doorbell) ∧
    (∀ v : Word, v.getLsbD 1 = true → s.sdioUp = true → exec (.registerWrite 0x12004 v) s = .next { s with sdioDone := false }) ∧
    (∀ (n : Nat) (v : Word), n ∈ [0x7C0, 0x7C1, 0x7C4, 0x7C5, 0x7C6, 0x7C7, 0x7C8, 0x7C9, 0x7D0, 0x7D1, 0x7D2, 0x7D8, 0x7DA, 0x7DC] →
      ∃ t, s.hput n (v.setWidth 32) = some t ∧ exec (.registerWrite n v) s = .next t) ∧
    (∀ (n : Nat) (v : Word), n ∈ [0x7C2, 0x7C3, 0x7D9, 0xFC0, 0xFC3, 0xFC5] → s.phase = .running →
      exec (.registerWrite n v) s = .next (s.hartRun (some 0) 0)) ∧
    (s.serving 1 none = true →
      (∀ st, s.launchRefused = some st → exec .sdioLaunch s = .next (s.endCommand st)) ∧
      (s.launchRefused = none → exec .sdioLaunch s = .next ((s.launchCores.foldl (fun t c =>
        (t.launch c s.cmdCtx (bits s.cmdArg 0 16) ((s.ctx s.cmdCtx).launchPrio (BitVec.ofNat 6 (bits s.cmdArg 16 6)) (bits s.cmdArg 0 16))
          s.launchArgs (BitVec.ofNat 64 (s.cmdAddr % 2 ^ 48))).1) s).endCommand 0))) ∧
    (s.serving 2 none = true → s.cmdCtx < 16 → (s.ctx s.cmdCtx).state.absent = false →
      (∀ l, s.vaddrs s.cmdCtx s.cmdAddr s.cmdLen .store = some l → l.any (s.heldBack s.firstFw) = false → exec .sdioWrite s = .next (({ s with
        mem := Mem.puts s.mem (l.zip (s.bytes (windowAt 32) s.cmdLen)) }.tagLines (linesOf l) 3 s.firstFw s.cmdCtx).endCommand 0)) ∧
      (s.vaddrs s.cmdCtx s.cmdAddr s.cmdLen .store = none → exec .sdioWrite s = .next (s.endCommand 4))) ∧
    (s.serving 3 none = true → s.cmdCtx < 16 → (s.ctx s.cmdCtx).state.absent = false →
      ∀ l, s.vaddrs s.cmdCtx s.cmdAddr s.cmdLen .load = some l → l.any (s.heldBack s.firstFw) = false → (∀ a ∈ l, s.poisoned a 1 = false) →
        exec .sdioRead s = .next (s.endReply (l.map s.byte))) ∧
    (s.serving 3 (some 0xFE) = true → s.cmdAddr < 16 → s.cmdLen % 8 = 0 → (s.ctx s.cmdAddr).state.absent = false →
      exec .sdioTraceRead s = .next ((s.modCtx s.cmdAddr (fun x => { x with trace := x.trace.drop (s.cmdLen / 8) })).endReply
        (wordBytes (((s.ctx s.cmdAddr).trace.take (s.cmdLen / 8)).map (·.toNat))))) ∧
    (s.serving 5 none = true → s.cmdLen = 64 →
      exec .sdioAttest s = .next (s.endReply (s.reportBody ++ leBytes 132 (Config.sign (sha512 s.reportBody)).toNat))) ∧
    (s.querying 0 = true → ∃ l : List Nat, l.length = 12 ∧ l[1]? = some s.svn ∧ l[2]? = some s.dtime.toNat ∧
      exec .queryDevice s = .next (s.endReply (wordBytes l))) ∧
    (s.querying 1 = true → ∃ l : List Nat, l.length = 32 ∧ exec .queryContexts s = .next (s.endReply (wordBytes l)) ∧
      ∀ c, c < 16 → (l[c]?).map (· % 2 ^ 8) = some (s.ctx c).state.code) ∧
    (s.querying 2 = true → ∃ l : List Nat, l.length = 38 ∧ exec .queryLinks s = .next (s.endReply (wordBytes l)) ∧
      ∀ i, i < 19 → l[2 * i + 1]? = some (s.link i).dropped.toNat) ∧
    (s.querying 3 = true → bits s.cmdArg 16 7 ≤ 67 → ∃ l : List Nat, l.length = 8 ∧
      l.head? = some (s.stream (bits s.cmdArg 16 7)).sent.toNat ∧ exec .queryStream s = .next (s.endReply (wordBytes l))) ∧
    (s.querying 4 = true → ∃ l : List Nat, l.length = 10 ∧ l.head? = some (s.cove (bits s.cmdArg 16 6)).mxe.rejected.toNat ∧
      exec .queryCove s = .next (s.endReply (wordBytes l)))) ∧
  (∀ (s : State), let c : Nat := s.pf 1 0 4
    let x := s.ctx c
    (s.requested 1 = true → 14 ≤ s.reqWords → s.pf 13 0 7 ≤ 64 → s.badWords (createMasks (s.pf 13 0 7)) = false →
      s.created.outOfRange = false →
      (s.createRefused c s.created = false → exec .fwCreateContext s = .next ((s.createContext c s.created).endRequest 0)) ∧
      (s.createRefused c s.created = true → exec .fwCreateContext s = .next (s.endRequest 5))) ∧
    (s.requested 2 = true → s.badWords [0xF] = false →
      (x.state = .ready ∨ x.state = .quotaHeld ∨ x.state = .faulted →
        exec .fwDrainContext s = .next ((s.enterDraining c).endRequest 0)) ∧
      (x.state = .frozen → exec .fwDrainContext s = .next ((s.modCtx c (fun x => { x with drainRecorded := true })).endRequest 0))) ∧
    (s.requested 3 = true → s.badWords [0xF] = false →
      (x.state = .faulted → exec .fwResumeContext s = .next (((s.modCtx c (fun x => { x with
        state := if x.spentOut then .quotaHeld else .ready })).scheduleAll c).endRequest 0)) ∧
      (x.state ≠ .faulted → exec .fwResumeContext s = .next (s.endRequest 5))) ∧
    (s.requested 4 = true → s.badRange = false → x.state.absent = false → s.reqWord 4 ≠ 0 →
      (s.pf 1 8 1 = 1 → ¬(s.pf 1 12 1 = 1 ∧ s.reqWord 3 < capFrame + 2 ^ 14 ∧ capFrame < s.reqWord 3 + s.reqWord 4) →
        s.mapRefused c (s.reqWord 2) (s.reqWord 3) (s.reqWord 4) (s.pf 1 16 2) = false →
        exec .fwMap s = .next ((s.mapRange c (s.reqWord 2) (s.reqWord 3) (s.reqWord 4) (s.pf 1 11 3) (s.pf 1 16 2)).endRequest 0)) ∧
      (s.pf 1 8 1 ≠ 1 → s.reqWait = false → x.touchesSpill (s.reqWord 2) (s.reqWord 4) = false → s.meetsCaps (s.reqWord 2) (s.reqWord 4) = false →
        let u := s.unmapRange c (s.reqWord 2) (s.reqWord 4)
        exec .fwUnmap s = .next (if u.invals.any (fun i => i.ctx == c) then u.requestWaits else u.endRequest 0))) ∧
    (s.requested 5 = true → s.badWords [0x101FF] = false → s.isFw (s.pf 1 0 9) = false →
      (s.pf 1 16 1 ≠ 0 → exec .fwParkCore s = .next (((s.fixParticipants (s.pf 1 0 9)).modCore (s.pf 1 0 9)
        (fun k => { k with parked := true })).endRequest 0)) ∧
      (s.pf 1 16 1 ≠ 1 → exec .fwUnparkCore s = .next (([s.pf 1 0 9, primaryOf (s.pf 1 0 9)].dedup.foldl (fun s d =>
        (s.schedule d).startService d) ((s.fixParticipants (s.pf 1 0 9)).modCore (s.pf 1 0 9) (fun k => { k with parked := false }))).endRequest 0))) ∧
    (s.requested 6 = true → s.badSource = false → s.sourceRefused = false →
      (s.pf 1 16 1 ≠ 0 → exec .fwRetireSource s = .next ((s.setSource c (s.pf 1 8 6) false).endRequest 0)) ∧
      (s.pf 1 16 1 ≠ 1 → exec .fwReviveSource s = .next ((s.setSource c (s.pf 1 8 6) true).endRequest 0))) ∧
    (s.requested 7 = true → s.badWords [0x3F0F0FFFF3007F, 0x1FFFFFFFFFFFF, 0x1FFFFF001FFFFF, 0xFFFFF7F7F] = false → s.pf 1 0 7 ≤ 67 →
      s.configured.outOfRange = false → (s.ctx s.configured.ctx).state.absent = false →
      (∀ e, (s.ctx s.configured.ctx).sources[s.configured.entry]? = some e → e.id = s.srcId 0 (s.pf 1 0 7) →
        exec .fwConfigureStream s = .next ((s.setStream (s.pf 1 0 7) s.configured).endRequest 0))) ∧
    (s.requested 8 = true → s.badWords [0xFFFF0F, 0xF1FFFFFFFFFF] = false → x.state.absent = false → s.pf 2 0 32 ≠ 0 →
      exec .fwSetTimer s = .next ({ s with timers := s.timers.filter (fun (t : Timer) => !(t.ctx == c && t.num == s.pf 1 8 16)) ++
        ([⟨c, s.pf 1 8 16, s.pf 2 0 32, s.pf 2 32 9, s.pf 2 44 4, s.dtime.toNat + 1000 * s.pf 2 0 32, 0⟩] : List Timer) }.endRequest 0)) ∧
    (s.requested 9 = true → s.badWords [0xF, 2 ^ 48 - 1] = false →
      (x.state = .loading → x.pending = none → s.regionFrom = none → exec .fwLoadKernel s = .next (s.beginKernel c (s.reqWord 2))) ∧
      (x.state ≠ .loading → exec .fwLoadKernel s = .next (s.endRequest 5)))) ∧
  (∀ (s : State) (i : Nat), i < 19 → let l := s.link i
    (l.state = .down → exec (.linkEnable i) s = .next (s.linkTo i { l with state := .training, since := s.dtime.toNat })) ∧
    (let u := if i = 4 ∨ i = 5 then s.aligned else s
     l.state = .training → exec (.linkTrainingDone i 0) s = .next (u.linkTo i { l with state := .up, lost := 0 }) ∧
      exec (.linkTrainingTimeout i) s = .next (s.linkTo i { l with state := .down
                                                                   failures := BitVec.ofNat 16 (min 0xFFFF (l.failures.toNat + 1)) }) ∧
      ∀ k, 0 < k → k ≤ 4 → i < 6 → exec (.linkTrainingDone i k) s = .next (u.linkTo i { l with state := .degraded, lost := k })) ∧
    (l.state = .up → exec (.linkLaneLost i) s = .next (s.linkTo i { l with state := .training, since := s.dtime.toNat }) ∧
      exec (.linkDisable i) s = .next (s.linkTo i { l with state := .down }) ∧
      (i < 4 → exec (.ucieReplay i) s = .next (s.setLink i { l with replays := bump l.replays })) ∧
      (i = 4 ∨ i = 5 → exec (.rhoashFrameReplay i) s = .next (s.setLink i { l with replays := bump l.replays })) ∧
      (i < 4 → s.rowTraffic i = false → exec (.ucieReroute i) s = .next (s.setLink i { l with route := none }))) ∧
    (i < 4 → l.state = .down ∨ l.state = .degraded → s.rowTraffic i = false → ∀ k, s.nearestUp i = some k →
      exec (.ucieReroute i) s = .next (s.setLink i { l with route := some k }))) ∧
  (∀ (s u : State) (id : Nat) (m : Msg), s.take id = some (m, u) →
    (∀ r x d word w o, m.body = .record r x (.device d word) w o → (u.route d = none → exec (.rhoashRecordArrive id) s = .next (u.tell m w 2)) ∧
      (∀ l, u.route d = some l → (u.link l).state.carries = true → exec (.rhoashRecordArrive id) s = .next ((u.tell m w 0).post
        (Agent.device u.dev.toNat) (Agent.device d) (.rhoash r d word l)))) ∧
    (∀ r word l, m.body = .rhoash r u.dev.toNat word l → exec (.rhoashRecordArrive id) s = .next (u.deliverPeer r word))) ∧
  (∀ (s : State) (n : Nat) (t : Stream), s.streams.find n = some t → t.en = false → n < 64 → s.portUp (8 * (n / 8)) = true → ∀ ws,
    exec (.csi2Packet (n / 8) (n % 8) 0x30 ws) s = .next (if t.cut = true ∨ t.base = none then
      s.setStream n { t with discarded := bump t.discarded } else s)) ∧
  (∀ (s : State) (n : Nat) (t : Stream), s.streams.find n = some t → t.en = true → s.portUp n = true →
    (n < 64 → exec (.csi2FrameStart n) s = .next (s.setStream n { t with base := some (s.dtime - BitVec.ofNat 64 t.offset) }) ∧
      (t.cut = true → ∀ ws, s.portUp (8 * (n / 8)) = true → exec (.csi2Packet (n / 8) (n % 8) 0x30 ws) s =
        .next (s.setStream n { t with discarded := bump t.discarded })) ∧
      (t.cut = false → t.base.isSome = true → ∀ ws : List Word, ws.length * 4 ≤ t.maxb → s.portUp (8 * (n / 8)) = true →
        exec (.csi2Packet (n / 8) (n % 8) 0x30 ws) s = .next (ws.foldl (fun s v => s.cameraWord n 0x30 v) s)) ∧
      (t.cut = false → ∀ k, exec (.decoderWatchdog n k) s = .next (s.lenviol n k true))) ∧
    (64 ≤ n → t.cut = false →
      (t.scanning = false → t.scanAt ≤ s.dtime.toNat → exec (.taxelScan n) s = .next (s.setStream n { t with
        scanning := true, scanFrom := s.dtime.toNat, scanAt := t.scanAt + 1000 * t.period })) ∧
      (t.scanning = true → ∀ vs : List (BitVec 16), vs.length = t.rows * t.cols → s.dtime.toNat ≤ maxcEnd t.scanFrom t.maxc →
        exec (.taxelFrameDone n vs) s = .next ((vs.mapIdx (fun i v => (i, v))).foldl (fun s p => s.taxel n p.1 p.2)
          (s.setStream n { t with scanning := false })))))
end

