-- ==== Sys2Proof/Laws/Memory.lean ====
section
/-! SUPPORT. Laws of the one memory: what a write leaves and changes, and that every memory operation keeps the canonical form. -/

namespace Sys2Proof.Machine

/-- The canonical form, said of the whole list: addresses strictly rising and no entry equal to an unlisted byte. -/
theorem Mem.wf_iff (m : List Host.Cell) :
    Mem.wf m = true ↔ m.Pairwise (fun p q => p.1 < q.1) ∧ ∀ p ∈ m, p.2 ≠ Mem.unlisted := by
  induction m with
  | nil => simp [Mem.wf]
  | cons p t ih =>
    cases t with
    | nil => simp [Mem.wf]
    | cons q t =>
      simp only [Mem.wf, Bool.and_eq_true, bne_iff_ne, decide_eq_true_eq, ih]
      constructor
      · rintro ⟨⟨hx, hab⟩, hp, hv⟩
        refine ⟨List.pairwise_cons.2 ⟨fun r hr => ?_, hp⟩, ?_⟩
        · rcases List.mem_cons.1 hr with rfl | hr
          · exact hab
          · exact lt_trans hab ((List.pairwise_cons.1 hp).1 r hr)
        · intro r hr
          rcases List.mem_cons.1 hr with rfl | hr
          · exact hx
          · exact hv r hr
      · rintro ⟨hp, hv⟩
        have h := List.pairwise_cons.1 hp
        exact ⟨⟨hv _ (by simp), h.1 q (by simp)⟩, h.2, fun r hr => hv r (List.mem_cons_of_mem _ hr)⟩

@[simp] theorem Mem.wf_nil : Mem.wf [] = true := rfl
/-- An address below every listed one reads as unlisted. -/
theorem Mem.get_below (m : List Host.Cell) (a : Nat) (h : ∀ p ∈ m, a < p.1) : Mem.get m a = Mem.unlisted := by
  induction m with
  | nil => rfl
  | cons p t ih =>
    have hp := h p (by simp)
    simp only [Mem.get]
    rw [if_neg (by omega)]
    exact ih (fun r hr => h r (List.mem_cons_of_mem _ hr))
/-- A listed byte reads as its entry. -/
theorem Mem.get_of_mem (m : List Host.Cell) (h : m.Pairwise (fun p q => p.1 < q.1)) (p : Host.Cell) (hp : p ∈ m) :
    Mem.get m p.1 = p.2 := by
  induction m with
  | nil => cases hp
  | cons q t ih =>
    have hq := List.pairwise_cons.1 h
    rcases List.mem_cons.1 hp with rfl | hp
    · simp [Mem.get]
    · have := hq.1 p hp
      simp only [Mem.get]
      rw [if_neg (by omega)]
      exact ih hq.2 hp
/-- Addresses that a byte's write lists: the old ones and its own. -/
theorem Mem.mem_set (m : List Host.Cell) (k : Nat) (x : Byte) (p : Host.Cell) (h : p ∈ Mem.set m k x) :
    p ∈ m ∨ (p = (k, x) ∧ x ≠ Mem.unlisted) := by
  induction m with
  | nil =>
    simp only [Mem.set] at h
    split at h
    · cases h
    · exact .inr ⟨by simpa using h, by assumption⟩
  | cons q t ih =>
    simp only [Mem.set] at h
    split at h
    · split at h <;> simp_all <;> tauto
    · split at h
      · split at h <;> simp_all <;> tauto
      · simp_all; tauto
theorem Mem.wf_set (m : List Host.Cell) (k : Nat) (x : Byte) (h : Mem.wf m = true) : Mem.wf (Mem.set m k x) = true := by
  rw [Mem.wf_iff] at h ⊢
  obtain ⟨hp, hv⟩ := h
  refine ⟨?_, fun p hp' => ?_⟩
  · induction m with
    | nil => simp only [Mem.set]; split <;> simp
    | cons q t ih =>
      have hq := List.pairwise_cons.1 hp
      have iht := ih hq.2 (fun r hr => hv r (List.mem_cons_of_mem _ hr))
      simp only [Mem.set]
      split
      · subst k
        split
        · exact hq.2
        · exact List.pairwise_cons.2 ⟨hq.1, hq.2⟩
      · split
        · split
          · exact hp
          · refine List.pairwise_cons.2 ⟨fun r hr => ?_, hp⟩
            rcases List.mem_cons.1 hr with rfl | hr
            · assumption
            · exact lt_trans (by assumption) (hq.1 r hr)
        · refine List.pairwise_cons.2 ⟨fun r hr => ?_, iht⟩
          rcases Mem.mem_set t k x r hr with hr | ⟨rfl, -⟩
          · exact hq.1 r hr
          · show q.1 < k; omega
  · rcases Mem.mem_set m k x p hp' with h | ⟨rfl, h⟩
    · exact hv p h
    · exact h
/-- A byte written reads back; every other byte is as before. -/
theorem Mem.get_set (m : List Host.Cell) (k b : Nat) (x : Byte) (h : Mem.wf m = true) :
    Mem.get (Mem.set m k x) b = if b = k then x else Mem.get m b := by
  have hp := ((Mem.wf_iff m).1 h).1
  clear h
  induction m with
  | nil => simp only [Mem.set]; split <;> simp_all [Mem.get]
  | cons q t ih =>
    have hq := List.pairwise_cons.1 hp
    simp only [Mem.set]
    split
    · subst k
      split
      · split
        · subst b x; exact Mem.get_below t q.1 hq.1
        · simp_all [Mem.get]
      · simp only [Mem.get]
        split <;> simp_all
    · split
      · split
        · split
          · subst b x
            rw [Mem.get_below]
            intro r hr
            rcases List.mem_cons.1 hr with rfl | hr
            · assumption
            · exact lt_trans (by assumption) (hq.1 r hr)
          · rfl
        · simp only [Mem.get]
      · simp only [Mem.get, ih hq.2]
        split <;> split <;> simp_all
theorem Mem.wf_filter (m : List Host.Cell) (f : Host.Cell → Bool) (h : Mem.wf m = true) : Mem.wf (m.filter f) = true := by
  rw [Mem.wf_iff] at h ⊢
  exact ⟨h.1.filter f, fun p hp => h.2 p (List.mem_filter.1 hp).1⟩
theorem Mem.wf_clear (m : List Host.Cell) (lo n : Nat) (h : Mem.wf m = true) : Mem.wf (Mem.clear m lo n) = true :=
  Mem.wf_filter m _ h
theorem Mem.wf_puts (l : List (Nat × Byte)) : ∀ m : List Host.Cell, Mem.wf m = true → Mem.wf (Mem.puts m l) = true := by
  induction l with
  | nil => exact fun m h => h
  | cons p t ih => exact fun m h => ih _ (Mem.wf_set m p.1 p.2 h)
theorem Mem.wf_copy (m : List Host.Cell) (a b n : Nat) (h : Mem.wf m = true) : Mem.wf (Mem.copy m a b n) = true :=
  Mem.wf_puts _ _ (Mem.wf_clear m b n h)
/-- Bytes that a list of writes does not name are as before. -/
theorem Mem.get_puts_ne (l : List (Nat × Byte)) (b : Nat) (hb : ∀ p ∈ l, p.1 ≠ b) :
    ∀ m : List Host.Cell, Mem.wf m = true → Mem.get (Mem.puts m l) b = Mem.get m b := by
  induction l with
  | nil => exact fun m _ => rfl
  | cons p t ih =>
    intro m h
    have := hb p (by simp)
    show Mem.get (Mem.puts (Mem.set m p.1 p.2) t) b = _
    rw [ih (fun q hq => hb q (List.mem_cons_of_mem _ hq)) _ (Mem.wf_set m p.1 p.2 h), Mem.get_set m p.1 b p.2 h,
      if_neg (by omega)]
/-- Clearing makes a range unlisted and leaves the rest. -/
theorem Mem.get_filter (m : List Host.Cell) (f : Host.Cell → Bool) (b : Nat) (y : Byte) (hf : ∀ x, f (b, x) = f (b, y)) :
    Mem.get (m.filter f) b = if f (b, y) then Mem.get m b else Mem.unlisted := by
  induction m with
  | nil => simp [Mem.get]
  | cons p t ih =>
    obtain ⟨a, x⟩ := p
    by_cases hx : f (a, x) = true
    · rw [List.filter_cons_of_pos hx]
      simp only [Mem.get, ih]
      by_cases hb : b = a
      · subst hb; simp [← hf x, hx]
      · simp [hb]
    · rw [List.filter_cons_of_neg hx, ih]
      simp only [Mem.get]
      by_cases hb : b = a
      · subst hb; simp [← hf x, hx]
      · simp [hb]

@[simp] theorem State.reset_memOk : State.reset.MemOk := rfl
theorem State.MemOk.setByte {s : State} (h : s.MemOk) (a : Nat) (x : Byte) : (s.setByte a x).MemOk := Mem.wf_set _ _ _ h
theorem State.MemOk.putBytes {s : State} (h : s.MemOk) (a : Nat) (l : List Byte) : (s.putBytes a l).MemOk :=
  Mem.wf_puts _ _ h
theorem State.MemOk.putNum {s : State} (h : s.MemOk) (a n x : Nat) : (s.putNum a n x).MemOk := h.putBytes a _
/-- The form is one of the memory alone: a state with the same memory has it too. -/
theorem State.MemOk.of_mem {s t : State} (h : s.MemOk) (e : t.mem = s.mem) : t.MemOk := by
  unfold State.MemOk at *; rw [e]; exact h

end Sys2Proof.Machine
end

