-- ==== Sys2Proof/Laws/State.lean ====
section
/-! SUPPORT. Small laws of tables and of the updates of the state: what each update leaves, and what it changes. -/

namespace Sys2Proof

theorem FMap.find_set {α : Type} (m : FMap α) (k j : Nat) (x : α) :
    (m.set k x).find j = if j = k then some x else m.find j := by
  induction m with
  | nil => simp [FMap.set, FMap.find]
  | cons p t ih =>
    simp only [FMap.set]
    split
    · subst k; simp only [FMap.find]; split <;> rfl
    · split
      · simp [FMap.find]
      · simp only [FMap.find, ih]; split <;> split <;> simp_all
@[simp] theorem FMap.find_set_self {α : Type} (m : FMap α) (k : Nat) (x : α) : (m.set k x).find k = some x := by
  simp [FMap.find_set]
theorem FMap.find_set_ne {α : Type} (m : FMap α) (k j : Nat) (x : α) (h : j ≠ k) : (m.set k x).find j = m.find j := by
  simp [FMap.find_set, h]
@[simp] theorem FMap.getD_set_self {α : Type} (m : FMap α) (k : Nat) (x d : α) : (m.set k x).getD k d = x := by
  simp [FMap.getD]
theorem FMap.getD_set_ne {α : Type} (m : FMap α) (k j : Nat) (x d : α) (h : j ≠ k) : (m.set k x).getD j d = m.getD j d := by
  simp [FMap.getD, FMap.find_set, h]
@[simp] theorem FMap.set_set {α : Type} (m : FMap α) (k : Nat) (x y : α) : (m.set k x).set k y = m.set k y := by
  induction m with
  | nil => simp [FMap.set]
  | cons p t ih =>
    simp only [FMap.set]
    split
    · simp [FMap.set]
    · split
      · simp [FMap.set]
      · simp_all [FMap.set]

end Sys2Proof

namespace Sys2Proof.Machine

/-! ### Fields that an update of the state leaves -/

@[simp] theorem State.setCore_coves (s : State) (c : Nat) (k : Core) : (s.setCore c k).coves = s.coves := rfl
@[simp] theorem State.setCore_ctxs (s : State) (c : Nat) (k : Core) : (s.setCore c k).ctxs = s.ctxs := rfl
@[simp] theorem State.setCore_mem (s : State) (c : Nat) (k : Core) : (s.setCore c k).mem = s.mem := rfl
@[simp] theorem State.setCore_poison (s : State) (c : Nat) (k : Core) : (s.setCore c k).poison = s.poison := rfl
@[simp] theorem State.setCore_msc (s : State) (c : Nat) (k : Core) : (s.setCore c k).msc = s.msc := rfl
@[simp] theorem State.setCore_trapDrops (s : State) (c : Nat) (k : Core) : (s.setCore c k).trapDrops = s.trapDrops := rfl
@[simp] theorem State.setCore_regions (s : State) (c : Nat) (k : Core) : (s.setCore c k).regions = s.regions := rfl
@[simp] theorem State.setCore_commits (s : State) (c : Nat) (k : Core) : (s.setCore c k).commits = s.commits := rfl
@[simp] theorem State.setCore_firewall (s : State) (c : Nat) (k : Core) : (s.setCore c k).firewall = s.firewall := rfl
@[simp] theorem State.setCore_regionFrom (s : State) (c : Nat) (k : Core) : (s.setCore c k).regionFrom = s.regionFrom := rfl
@[simp] theorem State.setCore_regionNew (s : State) (c : Nat) (k : Core) : (s.setCore c k).regionNew = s.regionNew := rfl
@[simp] theorem State.setCore_frameLay (s : State) (c : Nat) (k : Core) : (s.setCore c k).frameLay = s.frameLay := rfl
@[simp] theorem State.setCore_dies (s : State) (c : Nat) (k : Core) : (s.setCore c k).dies = s.dies := rfl
@[simp] theorem State.setCore_invals (s : State) (c : Nat) (k : Core) : (s.setCore c k).invals = s.invals := rfl
@[simp] theorem State.setCore_period (s : State) (c : Nat) (k : Core) : (s.setCore c k).period = s.period := rfl
@[simp] theorem State.setCore_allowance (s : State) (c : Nat) (k : Core) : (s.setCore c k).allowance = s.allowance := rfl
@[simp] theorem State.setCore_net (s : State) (c : Nat) (k : Core) : (s.setCore c k).net = s.net := rfl
@[simp] theorem State.setCore_msgSeq (s : State) (c : Nat) (k : Core) : (s.setCore c k).msgSeq = s.msgSeq := rfl
@[simp] theorem State.setCore_streams (s : State) (c : Nat) (k : Core) : (s.setCore c k).streams = s.streams := rfl
@[simp] theorem State.setCore_portBadVc (s : State) (c : Nat) (k : Core) : (s.setCore c k).portBadVc = s.portBadVc := rfl
@[simp] theorem State.setCore_portBadType (s : State) (c : Nat) (k : Core) : (s.setCore c k).portBadType = s.portBadType := rfl
@[simp] theorem State.setCore_portRate (s : State) (c : Nat) (k : Core) : (s.setCore c k).portRate = s.portRate := rfl
@[simp] theorem State.setCore_links (s : State) (c : Nat) (k : Core) : (s.setCore c k).links = s.links := rfl
@[simp] theorem State.setCore_timers (s : State) (c : Nat) (k : Core) : (s.setCore c k).timers = s.timers := rfl
@[simp] theorem State.setCore_retries (s : State) (c : Nat) (k : Core) : (s.setCore c k).retries = s.retries := rfl
@[simp] theorem State.setCore_sdioBusy (s : State) (c : Nat) (k : Core) : (s.setCore c k).sdioBusy = s.sdioBusy := rfl
@[simp] theorem State.setCore_sdioDone (s : State) (c : Nat) (k : Core) : (s.setCore c k).sdioDone = s.sdioDone := rfl
@[simp] theorem State.setCore_sdioWait (s : State) (c : Nat) (k : Core) : (s.setCore c k).sdioWait = s.sdioWait := rfl
@[simp] theorem State.setCore_cccr (s : State) (c : Nat) (k : Core) : (s.setCore c k).cccr = s.cccr := rfl
@[simp] theorem State.setCore_barriers (s : State) (c : Nat) (k : Core) : (s.setCore c k).barriers = s.barriers := rfl
@[simp] theorem State.setCore_headland (s : State) (c : Nat) (k : Core) : (s.setCore c k).headland = s.headland := rfl
@[simp] theorem State.setCore_phase (s : State) (c : Nat) (k : Core) : (s.setCore c k).phase = s.phase := rfl
@[simp] theorem State.setCore_fuse (s : State) (c : Nat) (k : Core) : (s.setCore c k).fuse = s.fuse := rfl
@[simp] theorem State.setCore_svn (s : State) (c : Nat) (k : Core) : (s.setCore c k).svn = s.svn := rfl
@[simp] theorem State.setCore_measured (s : State) (c : Nat) (k : Core) : (s.setCore c k).measured = s.measured := rfl
@[simp] theorem State.setCore_conf (s : State) (c : Nat) (k : Core) : (s.setCore c k).conf = s.conf := rfl
@[simp] theorem State.setCore_dtime (s : State) (c : Nat) (k : Core) : (s.setCore c k).dtime = s.dtime := rfl
@[simp] theorem State.setCore_dev (s : State) (c : Nat) (k : Core) : (s.setCore c k).dev = s.dev := rfl
@[simp] theorem State.setCore_ring (s : State) (c : Nat) (k : Core) : (s.setCore c k).ring = s.ring := rfl
@[simp] theorem State.setCore_capptr (s : State) (c : Nat) (k : Core) : (s.setCore c k).capptr = s.capptr := rfl
@[simp] theorem State.setCore_cur (s : State) (c : Nat) (k : Core) : (s.setCore c k).cur = s.cur := rfl
@[simp] theorem State.setCore_agenda (s : State) (c : Nat) (k : Core) : (s.setCore c k).agenda = s.agenda := rfl
@[simp] theorem State.setCore_free (s : State) (c : Nat) (k : Core) : (s.setCore c k).free = s.free := rfl
@[simp] theorem State.setCove_cores (s : State) (n : Nat) (k : Cove) : (s.setCove n k).cores = s.cores := rfl
@[simp] theorem State.setCove_ctxs (s : State) (n : Nat) (k : Cove) : (s.setCove n k).ctxs = s.ctxs := rfl
@[simp] theorem State.setCove_mem (s : State) (n : Nat) (k : Cove) : (s.setCove n k).mem = s.mem := rfl
@[simp] theorem State.setCove_poison (s : State) (n : Nat) (k : Cove) : (s.setCove n k).poison = s.poison := rfl
@[simp] theorem State.setCove_msc (s : State) (n : Nat) (k : Cove) : (s.setCove n k).msc = s.msc := rfl
@[simp] theorem State.setCove_trapDrops (s : State) (n : Nat) (k : Cove) : (s.setCove n k).trapDrops = s.trapDrops := rfl
@[simp] theorem State.setCove_regions (s : State) (n : Nat) (k : Cove) : (s.setCove n k).regions = s.regions := rfl
@[simp] theorem State.setCove_commits (s : State) (n : Nat) (k : Cove) : (s.setCove n k).commits = s.commits := rfl
@[simp] theorem State.setCove_firewall (s : State) (n : Nat) (k : Cove) : (s.setCove n k).firewall = s.firewall := rfl
@[simp] theorem State.setCove_regionFrom (s : State) (n : Nat) (k : Cove) : (s.setCove n k).regionFrom = s.regionFrom := rfl
@[simp] theorem State.setCove_regionNew (s : State) (n : Nat) (k : Cove) : (s.setCove n k).regionNew = s.regionNew := rfl
@[simp] theorem State.setCove_frameLay (s : State) (n : Nat) (k : Cove) : (s.setCove n k).frameLay = s.frameLay := rfl
@[simp] theorem State.setCove_dies (s : State) (n : Nat) (k : Cove) : (s.setCove n k).dies = s.dies := rfl
@[simp] theorem State.setCove_invals (s : State) (n : Nat) (k : Cove) : (s.setCove n k).invals = s.invals := rfl
@[simp] theorem State.setCove_period (s : State) (n : Nat) (k : Cove) : (s.setCove n k).period = s.period := rfl
@[simp] theorem State.setCove_allowance (s : State) (n : Nat) (k : Cove) : (s.setCove n k).allowance = s.allowance := rfl
@[simp] theorem State.setCove_net (s : State) (n : Nat) (k : Cove) : (s.setCove n k).net = s.net := rfl
@[simp] theorem State.setCove_msgSeq (s : State) (n : Nat) (k : Cove) : (s.setCove n k).msgSeq = s.msgSeq := rfl
@[simp] theorem State.setCove_streams (s : State) (n : Nat) (k : Cove) : (s.setCove n k).streams = s.streams := rfl
@[simp] theorem State.setCove_portBadVc (s : State) (n : Nat) (k : Cove) : (s.setCove n k).portBadVc = s.portBadVc := rfl
@[simp] theorem State.setCove_portBadType (s : State) (n : Nat) (k : Cove) : (s.setCove n k).portBadType = s.portBadType := rfl
@[simp] theorem State.setCove_portRate (s : State) (n : Nat) (k : Cove) : (s.setCove n k).portRate = s.portRate := rfl
@[simp] theorem State.setCove_links (s : State) (n : Nat) (k : Cove) : (s.setCove n k).links = s.links := rfl
@[simp] theorem State.setCove_timers (s : State) (n : Nat) (k : Cove) : (s.setCove n k).timers = s.timers := rfl
@[simp] theorem State.setCove_retries (s : State) (n : Nat) (k : Cove) : (s.setCove n k).retries = s.retries := rfl
@[simp] theorem State.setCove_sdioBusy (s : State) (n : Nat) (k : Cove) : (s.setCove n k).sdioBusy = s.sdioBusy := rfl
@[simp] theorem State.setCove_sdioDone (s : State) (n : Nat) (k : Cove) : (s.setCove n k).sdioDone = s.sdioDone := rfl
@[simp] theorem State.setCove_sdioWait (s : State) (n : Nat) (k : Cove) : (s.setCove n k).sdioWait = s.sdioWait := rfl
@[simp] theorem State.setCove_cccr (s : State) (n : Nat) (k : Cove) : (s.setCove n k).cccr = s.cccr := rfl
@[simp] theorem State.setCove_barriers (s : State) (n : Nat) (k : Cove) : (s.setCove n k).barriers = s.barriers := rfl
@[simp] theorem State.setCove_headland (s : State) (n : Nat) (k : Cove) : (s.setCove n k).headland = s.headland := rfl
@[simp] theorem State.setCove_phase (s : State) (n : Nat) (k : Cove) : (s.setCove n k).phase = s.phase := rfl
@[simp] theorem State.setCove_fuse (s : State) (n : Nat) (k : Cove) : (s.setCove n k).fuse = s.fuse := rfl
@[simp] theorem State.setCove_svn (s : State) (n : Nat) (k : Cove) : (s.setCove n k).svn = s.svn := rfl
@[simp] theorem State.setCove_measured (s : State) (n : Nat) (k : Cove) : (s.setCove n k).measured = s.measured := rfl
@[simp] theorem State.setCove_conf (s : State) (n : Nat) (k : Cove) : (s.setCove n k).conf = s.conf := rfl
@[simp] theorem State.setCove_dtime (s : State) (n : Nat) (k : Cove) : (s.setCove n k).dtime = s.dtime := rfl
@[simp] theorem State.setCove_dev (s : State) (n : Nat) (k : Cove) : (s.setCove n k).dev = s.dev := rfl
@[simp] theorem State.setCove_ring (s : State) (n : Nat) (k : Cove) : (s.setCove n k).ring = s.ring := rfl
@[simp] theorem State.setCove_capptr (s : State) (n : Nat) (k : Cove) : (s.setCove n k).capptr = s.capptr := rfl
@[simp] theorem State.setCove_cur (s : State) (n : Nat) (k : Cove) : (s.setCove n k).cur = s.cur := rfl
@[simp] theorem State.setCove_agenda (s : State) (n : Nat) (k : Cove) : (s.setCove n k).agenda = s.agenda := rfl
@[simp] theorem State.setCove_free (s : State) (n : Nat) (k : Cove) : (s.setCove n k).free = s.free := rfl
@[simp] theorem State.setCtx_cores (s : State) (c : Nat) (x : Ctx) : (s.setCtx c x).cores = s.cores := rfl
@[simp] theorem State.setCtx_coves (s : State) (c : Nat) (x : Ctx) : (s.setCtx c x).coves = s.coves := rfl
@[simp] theorem State.setCtx_mem (s : State) (c : Nat) (x : Ctx) : (s.setCtx c x).mem = s.mem := rfl
@[simp] theorem State.setCtx_poison (s : State) (c : Nat) (x : Ctx) : (s.setCtx c x).poison = s.poison := rfl
@[simp] theorem State.setCtx_msc (s : State) (c : Nat) (x : Ctx) : (s.setCtx c x).msc = s.msc := rfl
@[simp] theorem State.setCtx_trapDrops (s : State) (c : Nat) (x : Ctx) : (s.setCtx c x).trapDrops = s.trapDrops := rfl
@[simp] theorem State.setCtx_regions (s : State) (c : Nat) (x : Ctx) : (s.setCtx c x).regions = s.regions := rfl
@[simp] theorem State.setCtx_commits (s : State) (c : Nat) (x : Ctx) : (s.setCtx c x).commits = s.commits := rfl
@[simp] theorem State.setCtx_firewall (s : State) (c : Nat) (x : Ctx) : (s.setCtx c x).firewall = s.firewall := rfl
@[simp] theorem State.setCtx_regionFrom (s : State) (c : Nat) (x : Ctx) : (s.setCtx c x).regionFrom = s.regionFrom := rfl
@[simp] theorem State.setCtx_regionNew (s : State) (c : Nat) (x : Ctx) : (s.setCtx c x).regionNew = s.regionNew := rfl
@[simp] theorem State.setCtx_frameLay (s : State) (c : Nat) (x : Ctx) : (s.setCtx c x).frameLay = s.frameLay := rfl
@[simp] theorem State.setCtx_dies (s : State) (c : Nat) (x : Ctx) : (s.setCtx c x).dies = s.dies := rfl
@[simp] theorem State.setCtx_invals (s : State) (c : Nat) (x : Ctx) : (s.setCtx c x).invals = s.invals := rfl
@[simp] theorem State.setCtx_period (s : State) (c : Nat) (x : Ctx) : (s.setCtx c x).period = s.period := rfl
@[simp] theorem State.setCtx_allowance (s : State) (c : Nat) (x : Ctx) : (s.setCtx c x).allowance = s.allowance := rfl
@[simp] theorem State.setCtx_net (s : State) (c : Nat) (x : Ctx) : (s.setCtx c x).net = s.net := rfl
@[simp] theorem State.setCtx_msgSeq (s : State) (c : Nat) (x : Ctx) : (s.setCtx c x).msgSeq = s.msgSeq := rfl
@[simp] theorem State.setCtx_streams (s : State) (c : Nat) (x : Ctx) : (s.setCtx c x).streams = s.streams := rfl
@[simp] theorem State.setCtx_portBadVc (s : State) (c : Nat) (x : Ctx) : (s.setCtx c x).portBadVc = s.portBadVc := rfl
@[simp] theorem State.setCtx_portBadType (s : State) (c : Nat) (x : Ctx) : (s.setCtx c x).portBadType = s.portBadType := rfl
@[simp] theorem State.setCtx_portRate (s : State) (c : Nat) (x : Ctx) : (s.setCtx c x).portRate = s.portRate := rfl
@[simp] theorem State.setCtx_links (s : State) (c : Nat) (x : Ctx) : (s.setCtx c x).links = s.links := rfl
@[simp] theorem State.setCtx_timers (s : State) (c : Nat) (x : Ctx) : (s.setCtx c x).timers = s.timers := rfl
@[simp] theorem State.setCtx_retries (s : State) (c : Nat) (x : Ctx) : (s.setCtx c x).retries = s.retries := rfl
@[simp] theorem State.setCtx_sdioBusy (s : State) (c : Nat) (x : Ctx) : (s.setCtx c x).sdioBusy = s.sdioBusy := rfl
@[simp] theorem State.setCtx_sdioDone (s : State) (c : Nat) (x : Ctx) : (s.setCtx c x).sdioDone = s.sdioDone := rfl
@[simp] theorem State.setCtx_sdioWait (s : State) (c : Nat) (x : Ctx) : (s.setCtx c x).sdioWait = s.sdioWait := rfl
@[simp] theorem State.setCtx_cccr (s : State) (c : Nat) (x : Ctx) : (s.setCtx c x).cccr = s.cccr := rfl
@[simp] theorem State.setCtx_barriers (s : State) (c : Nat) (x : Ctx) : (s.setCtx c x).barriers = s.barriers := rfl
@[simp] theorem State.setCtx_headland (s : State) (c : Nat) (x : Ctx) : (s.setCtx c x).headland = s.headland := rfl
@[simp] theorem State.setCtx_phase (s : State) (c : Nat) (x : Ctx) : (s.setCtx c x).phase = s.phase := rfl
@[simp] theorem State.setCtx_fuse (s : State) (c : Nat) (x : Ctx) : (s.setCtx c x).fuse = s.fuse := rfl
@[simp] theorem State.setCtx_svn (s : State) (c : Nat) (x : Ctx) : (s.setCtx c x).svn = s.svn := rfl
@[simp] theorem State.setCtx_measured (s : State) (c : Nat) (x : Ctx) : (s.setCtx c x).measured = s.measured := rfl
@[simp] theorem State.setCtx_conf (s : State) (c : Nat) (x : Ctx) : (s.setCtx c x).conf = s.conf := rfl
@[simp] theorem State.setCtx_dtime (s : State) (c : Nat) (x : Ctx) : (s.setCtx c x).dtime = s.dtime := rfl
@[simp] theorem State.setCtx_dev (s : State) (c : Nat) (x : Ctx) : (s.setCtx c x).dev = s.dev := rfl
@[simp] theorem State.setCtx_ring (s : State) (c : Nat) (x : Ctx) : (s.setCtx c x).ring = s.ring := rfl
@[simp] theorem State.setCtx_capptr (s : State) (c : Nat) (x : Ctx) : (s.setCtx c x).capptr = s.capptr := rfl
@[simp] theorem State.setCtx_cur (s : State) (c : Nat) (x : Ctx) : (s.setCtx c x).cur = s.cur := rfl
@[simp] theorem State.setCtx_agenda (s : State) (c : Nat) (x : Ctx) : (s.setCtx c x).agenda = s.agenda := rfl
@[simp] theorem State.setCtx_free (s : State) (c : Nat) (x : Ctx) : (s.setCtx c x).free = s.free := rfl
@[simp] theorem State.setMe_coves (s : State) (x : Slot) : (s.setMe x).coves = s.coves := rfl
@[simp] theorem State.setMe_ctxs (s : State) (x : Slot) : (s.setMe x).ctxs = s.ctxs := rfl
@[simp] theorem State.setMe_mem (s : State) (x : Slot) : (s.setMe x).mem = s.mem := rfl
@[simp] theorem State.setMe_poison (s : State) (x : Slot) : (s.setMe x).poison = s.poison := rfl
@[simp] theorem State.setMe_msc (s : State) (x : Slot) : (s.setMe x).msc = s.msc := rfl
@[simp] theorem State.setMe_trapDrops (s : State) (x : Slot) : (s.setMe x).trapDrops = s.trapDrops := rfl
@[simp] theorem State.setMe_regions (s : State) (x : Slot) : (s.setMe x).regions = s.regions := rfl
@[simp] theorem State.setMe_commits (s : State) (x : Slot) : (s.setMe x).commits = s.commits := rfl
@[simp] theorem State.setMe_firewall (s : State) (x : Slot) : (s.setMe x).firewall = s.firewall := rfl
@[simp] theorem State.setMe_regionFrom (s : State) (x : Slot) : (s.setMe x).regionFrom = s.regionFrom := rfl
@[simp] theorem State.setMe_regionNew (s : State) (x : Slot) : (s.setMe x).regionNew = s.regionNew := rfl
@[simp] theorem State.setMe_frameLay (s : State) (x : Slot) : (s.setMe x).frameLay = s.frameLay := rfl
@[simp] theorem State.setMe_dies (s : State) (x : Slot) : (s.setMe x).dies = s.dies := rfl
@[simp] theorem State.setMe_invals (s : State) (x : Slot) : (s.setMe x).invals = s.invals := rfl
@[simp] theorem State.setMe_period (s : State) (x : Slot) : (s.setMe x).period = s.period := rfl
@[simp] theorem State.setMe_allowance (s : State) (x : Slot) : (s.setMe x).allowance = s.allowance := rfl
@[simp] theorem State.setMe_net (s : State) (x : Slot) : (s.setMe x).net = s.net := rfl
@[simp] theorem State.setMe_msgSeq (s : State) (x : Slot) : (s.setMe x).msgSeq = s.msgSeq := rfl
@[simp] theorem State.setMe_streams (s : State) (x : Slot) : (s.setMe x).streams = s.streams := rfl
@[simp] theorem State.setMe_portBadVc (s : State) (x : Slot) : (s.setMe x).portBadVc = s.portBadVc := rfl
@[simp] theorem State.setMe_portBadType (s : State) (x : Slot) : (s.setMe x).portBadType = s.portBadType := rfl
@[simp] theorem State.setMe_portRate (s : State) (x : Slot) : (s.setMe x).portRate = s.portRate := rfl
@[simp] theorem State.setMe_links (s : State) (x : Slot) : (s.setMe x).links = s.links := rfl
@[simp] theorem State.setMe_timers (s : State) (x : Slot) : (s.setMe x).timers = s.timers := rfl
@[simp] theorem State.setMe_retries (s : State) (x : Slot) : (s.setMe x).retries = s.retries := rfl
@[simp] theorem State.setMe_sdioBusy (s : State) (x : Slot) : (s.setMe x).sdioBusy = s.sdioBusy := rfl
@[simp] theorem State.setMe_sdioDone (s : State) (x : Slot) : (s.setMe x).sdioDone = s.sdioDone := rfl
@[simp] theorem State.setMe_sdioWait (s : State) (x : Slot) : (s.setMe x).sdioWait = s.sdioWait := rfl
@[simp] theorem State.setMe_cccr (s : State) (x : Slot) : (s.setMe x).cccr = s.cccr := rfl
@[simp] theorem State.setMe_barriers (s : State) (x : Slot) : (s.setMe x).barriers = s.barriers := rfl
@[simp] theorem State.setMe_headland (s : State) (x : Slot) : (s.setMe x).headland = s.headland := rfl
@[simp] theorem State.setMe_phase (s : State) (x : Slot) : (s.setMe x).phase = s.phase := rfl
@[simp] theorem State.setMe_fuse (s : State) (x : Slot) : (s.setMe x).fuse = s.fuse := rfl
@[simp] theorem State.setMe_svn (s : State) (x : Slot) : (s.setMe x).svn = s.svn := rfl
@[simp] theorem State.setMe_measured (s : State) (x : Slot) : (s.setMe x).measured = s.measured := rfl
@[simp] theorem State.setMe_conf (s : State) (x : Slot) : (s.setMe x).conf = s.conf := rfl
@[simp] theorem State.setMe_dtime (s : State) (x : Slot) : (s.setMe x).dtime = s.dtime := rfl
@[simp] theorem State.setMe_dev (s : State) (x : Slot) : (s.setMe x).dev = s.dev := rfl
@[simp] theorem State.setMe_ring (s : State) (x : Slot) : (s.setMe x).ring = s.ring := rfl
@[simp] theorem State.setMe_capptr (s : State) (x : Slot) : (s.setMe x).capptr = s.capptr := rfl
@[simp] theorem State.setMe_cur (s : State) (x : Slot) : (s.setMe x).cur = s.cur := rfl
@[simp] theorem State.setMe_agenda (s : State) (x : Slot) : (s.setMe x).agenda = s.agenda := rfl
@[simp] theorem State.setMe_free (s : State) (x : Slot) : (s.setMe x).free = s.free := rfl
@[simp] theorem State.setByte_cores (s : State) (a : Nat) (x : Byte) : (s.setByte a x).cores = s.cores := rfl
@[simp] theorem State.setByte_coves (s : State) (a : Nat) (x : Byte) : (s.setByte a x).coves = s.coves := rfl
@[simp] theorem State.setByte_ctxs (s : State) (a : Nat) (x : Byte) : (s.setByte a x).ctxs = s.ctxs := rfl
@[simp] theorem State.setByte_poison (s : State) (a : Nat) (x : Byte) : (s.setByte a x).poison = s.poison := rfl
@[simp] theorem State.setByte_msc (s : State) (a : Nat) (x : Byte) : (s.setByte a x).msc = s.msc := rfl
@[simp] theorem State.setByte_trapDrops (s : State) (a : Nat) (x : Byte) : (s.setByte a x).trapDrops = s.trapDrops := rfl
@[simp] theorem State.setByte_regions (s : State) (a : Nat) (x : Byte) : (s.setByte a x).regions = s.regions := rfl
@[simp] theorem State.setByte_commits (s : State) (a : Nat) (x : Byte) : (s.setByte a x).commits = s.commits := rfl
@[simp] theorem State.setByte_firewall (s : State) (a : Nat) (x : Byte) : (s.setByte a x).firewall = s.firewall := rfl
@[simp] theorem State.setByte_regionFrom (s : State) (a : Nat) (x : Byte) : (s.setByte a x).regionFrom = s.regionFrom := rfl
@[simp] theorem State.setByte_regionNew (s : State) (a : Nat) (x : Byte) : (s.setByte a x).regionNew = s.regionNew := rfl
@[simp] theorem State.setByte_frameLay (s : State) (a : Nat) (x : Byte) : (s.setByte a x).frameLay = s.frameLay := rfl
@[simp] theorem State.setByte_dies (s : State) (a : Nat) (x : Byte) : (s.setByte a x).dies = s.dies := rfl
@[simp] theorem State.setByte_invals (s : State) (a : Nat) (x : Byte) : (s.setByte a x).invals = s.invals := rfl
@[simp] theorem State.setByte_period (s : State) (a : Nat) (x : Byte) : (s.setByte a x).period = s.period := rfl
@[simp] theorem State.setByte_allowance (s : State) (a : Nat) (x : Byte) : (s.setByte a x).allowance = s.allowance := rfl
@[simp] theorem State.setByte_net (s : State) (a : Nat) (x : Byte) : (s.setByte a x).net = s.net := rfl
@[simp] theorem State.setByte_msgSeq (s : State) (a : Nat) (x : Byte) : (s.setByte a x).msgSeq = s.msgSeq := rfl
@[simp] theorem State.setByte_streams (s : State) (a : Nat) (x : Byte) : (s.setByte a x).streams = s.streams := rfl
@[simp] theorem State.setByte_portBadVc (s : State) (a : Nat) (x : Byte) : (s.setByte a x).portBadVc = s.portBadVc := rfl
@[simp] theorem State.setByte_portBadType (s : State) (a : Nat) (x : Byte) : (s.setByte a x).portBadType = s.portBadType := rfl
@[simp] theorem State.setByte_portRate (s : State) (a : Nat) (x : Byte) : (s.setByte a x).portRate = s.portRate := rfl
@[simp] theorem State.setByte_links (s : State) (a : Nat) (x : Byte) : (s.setByte a x).links = s.links := rfl
@[simp] theorem State.setByte_timers (s : State) (a : Nat) (x : Byte) : (s.setByte a x).timers = s.timers := rfl
@[simp] theorem State.setByte_retries (s : State) (a : Nat) (x : Byte) : (s.setByte a x).retries = s.retries := rfl
@[simp] theorem State.setByte_sdioBusy (s : State) (a : Nat) (x : Byte) : (s.setByte a x).sdioBusy = s.sdioBusy := rfl
@[simp] theorem State.setByte_sdioDone (s : State) (a : Nat) (x : Byte) : (s.setByte a x).sdioDone = s.sdioDone := rfl
@[simp] theorem State.setByte_sdioWait (s : State) (a : Nat) (x : Byte) : (s.setByte a x).sdioWait = s.sdioWait := rfl
@[simp] theorem State.setByte_cccr (s : State) (a : Nat) (x : Byte) : (s.setByte a x).cccr = s.cccr := rfl
@[simp] theorem State.setByte_barriers (s : State) (a : Nat) (x : Byte) : (s.setByte a x).barriers = s.barriers := rfl
@[simp] theorem State.setByte_headland (s : State) (a : Nat) (x : Byte) : (s.setByte a x).headland = s.headland := rfl
@[simp] theorem State.setByte_phase (s : State) (a : Nat) (x : Byte) : (s.setByte a x).phase = s.phase := rfl
@[simp] theorem State.setByte_fuse (s : State) (a : Nat) (x : Byte) : (s.setByte a x).fuse = s.fuse := rfl
@[simp] theorem State.setByte_svn (s : State) (a : Nat) (x : Byte) : (s.setByte a x).svn = s.svn := rfl
@[simp] theorem State.setByte_measured (s : State) (a : Nat) (x : Byte) : (s.setByte a x).measured = s.measured := rfl
@[simp] theorem State.setByte_conf (s : State) (a : Nat) (x : Byte) : (s.setByte a x).conf = s.conf := rfl
@[simp] theorem State.setByte_dtime (s : State) (a : Nat) (x : Byte) : (s.setByte a x).dtime = s.dtime := rfl
@[simp] theorem State.setByte_dev (s : State) (a : Nat) (x : Byte) : (s.setByte a x).dev = s.dev := rfl
@[simp] theorem State.setByte_ring (s : State) (a : Nat) (x : Byte) : (s.setByte a x).ring = s.ring := rfl
@[simp] theorem State.setByte_capptr (s : State) (a : Nat) (x : Byte) : (s.setByte a x).capptr = s.capptr := rfl
@[simp] theorem State.setByte_cur (s : State) (a : Nat) (x : Byte) : (s.setByte a x).cur = s.cur := rfl
@[simp] theorem State.setByte_agenda (s : State) (a : Nat) (x : Byte) : (s.setByte a x).agenda = s.agenda := rfl
@[simp] theorem State.setByte_free (s : State) (a : Nat) (x : Byte) : (s.setByte a x).free = s.free := rfl
@[simp] theorem State.putBytes_cores (s : State) (a : Nat) (l : List Byte) : (s.putBytes a l).cores = s.cores := rfl
@[simp] theorem State.putBytes_coves (s : State) (a : Nat) (l : List Byte) : (s.putBytes a l).coves = s.coves := rfl
@[simp] theorem State.putBytes_ctxs (s : State) (a : Nat) (l : List Byte) : (s.putBytes a l).ctxs = s.ctxs := rfl
@[simp] theorem State.putBytes_poison (s : State) (a : Nat) (l : List Byte) : (s.putBytes a l).poison = s.poison := rfl
@[simp] theorem State.putBytes_msc (s : State) (a : Nat) (l : List Byte) : (s.putBytes a l).msc = s.msc := rfl
@[simp] theorem State.putBytes_trapDrops (s : State) (a : Nat) (l : List Byte) : (s.putBytes a l).trapDrops = s.trapDrops := rfl
@[simp] theorem State.putBytes_regions (s : State) (a : Nat) (l : List Byte) : (s.putBytes a l).regions = s.regions := rfl
@[simp] theorem State.putBytes_commits (s : State) (a : Nat) (l : List Byte) : (s.putBytes a l).commits = s.commits := rfl
@[simp] theorem State.putBytes_firewall (s : State) (a : Nat) (l : List Byte) : (s.putBytes a l).firewall = s.firewall := rfl
@[simp] theorem State.putBytes_regionFrom (s : State) (a : Nat) (l : List Byte) : (s.putBytes a l).regionFrom = s.regionFrom := rfl
@[simp] theorem State.putBytes_regionNew (s : State) (a : Nat) (l : List Byte) : (s.putBytes a l).regionNew = s.regionNew := rfl
@[simp] theorem State.putBytes_frameLay (s : State) (a : Nat) (l : List Byte) : (s.putBytes a l).frameLay = s.frameLay := rfl
@[simp] theorem State.putBytes_dies (s : State) (a : Nat) (l : List Byte) : (s.putBytes a l).dies = s.dies := rfl
@[simp] theorem State.putBytes_invals (s : State) (a : Nat) (l : List Byte) : (s.putBytes a l).invals = s.invals := rfl
@[simp] theorem State.putBytes_period (s : State) (a : Nat) (l : List Byte) : (s.putBytes a l).period = s.period := rfl
@[simp] theorem State.putBytes_allowance (s : State) (a : Nat) (l : List Byte) : (s.putBytes a l).allowance = s.allowance := rfl
@[simp] theorem State.putBytes_net (s : State) (a : Nat) (l : List Byte) : (s.putBytes a l).net = s.net := rfl
@[simp] theorem State.putBytes_msgSeq (s : State) (a : Nat) (l : List Byte) : (s.putBytes a l).msgSeq = s.msgSeq := rfl
@[simp] theorem State.putBytes_streams (s : State) (a : Nat) (l : List Byte) : (s.putBytes a l).streams = s.streams := rfl
@[simp] theorem State.putBytes_portBadVc (s : State) (a : Nat) (l : List Byte) : (s.putBytes a l).portBadVc = s.portBadVc := rfl
@[simp] theorem State.putBytes_portBadType (s : State) (a : Nat) (l : List Byte) : (s.putBytes a l).portBadType = s.portBadType := rfl
@[simp] theorem State.putBytes_portRate (s : State) (a : Nat) (l : List Byte) : (s.putBytes a l).portRate = s.portRate := rfl
@[simp] theorem State.putBytes_links (s : State) (a : Nat) (l : List Byte) : (s.putBytes a l).links = s.links := rfl
@[simp] theorem State.putBytes_timers (s : State) (a : Nat) (l : List Byte) : (s.putBytes a l).timers = s.timers := rfl
@[simp] theorem State.putBytes_retries (s : State) (a : Nat) (l : List Byte) : (s.putBytes a l).retries = s.retries := rfl
@[simp] theorem State.putBytes_sdioBusy (s : State) (a : Nat) (l : List Byte) : (s.putBytes a l).sdioBusy = s.sdioBusy := rfl
@[simp] theorem State.putBytes_sdioDone (s : State) (a : Nat) (l : List Byte) : (s.putBytes a l).sdioDone = s.sdioDone := rfl
@[simp] theorem State.putBytes_sdioWait (s : State) (a : Nat) (l : List Byte) : (s.putBytes a l).sdioWait = s.sdioWait := rfl
@[simp] theorem State.putBytes_cccr (s : State) (a : Nat) (l : List Byte) : (s.putBytes a l).cccr = s.cccr := rfl
@[simp] theorem State.putBytes_barriers (s : State) (a : Nat) (l : List Byte) : (s.putBytes a l).barriers = s.barriers := rfl
@[simp] theorem State.putBytes_headland (s : State) (a : Nat) (l : List Byte) : (s.putBytes a l).headland = s.headland := rfl
@[simp] theorem State.putBytes_phase (s : State) (a : Nat) (l : List Byte) : (s.putBytes a l).phase = s.phase := rfl
@[simp] theorem State.putBytes_fuse (s : State) (a : Nat) (l : List Byte) : (s.putBytes a l).fuse = s.fuse := rfl
@[simp] theorem State.putBytes_svn (s : State) (a : Nat) (l : List Byte) : (s.putBytes a l).svn = s.svn := rfl
@[simp] theorem State.putBytes_measured (s : State) (a : Nat) (l : List Byte) : (s.putBytes a l).measured = s.measured := rfl
@[simp] theorem State.putBytes_conf (s : State) (a : Nat) (l : List Byte) : (s.putBytes a l).conf = s.conf := rfl
@[simp] theorem State.putBytes_dtime (s : State) (a : Nat) (l : List Byte) : (s.putBytes a l).dtime = s.dtime := rfl
@[simp] theorem State.putBytes_dev (s : State) (a : Nat) (l : List Byte) : (s.putBytes a l).dev = s.dev := rfl
@[simp] theorem State.putBytes_ring (s : State) (a : Nat) (l : List Byte) : (s.putBytes a l).ring = s.ring := rfl
@[simp] theorem State.putBytes_capptr (s : State) (a : Nat) (l : List Byte) : (s.putBytes a l).capptr = s.capptr := rfl
@[simp] theorem State.putBytes_cur (s : State) (a : Nat) (l : List Byte) : (s.putBytes a l).cur = s.cur := rfl
@[simp] theorem State.putBytes_agenda (s : State) (a : Nat) (l : List Byte) : (s.putBytes a l).agenda = s.agenda := rfl
@[simp] theorem State.putBytes_free (s : State) (a : Nat) (l : List Byte) : (s.putBytes a l).free = s.free := rfl
@[simp] theorem State.post_cores (s : State) (a b : Nat) (m : Body) : (s.post a b m).cores = s.cores := rfl
@[simp] theorem State.post_coves (s : State) (a b : Nat) (m : Body) : (s.post a b m).coves = s.coves := rfl
@[simp] theorem State.post_ctxs (s : State) (a b : Nat) (m : Body) : (s.post a b m).ctxs = s.ctxs := rfl
@[simp] theorem State.post_mem (s : State) (a b : Nat) (m : Body) : (s.post a b m).mem = s.mem := rfl
@[simp] theorem State.post_poison (s : State) (a b : Nat) (m : Body) : (s.post a b m).poison = s.poison := rfl
@[simp] theorem State.post_msc (s : State) (a b : Nat) (m : Body) : (s.post a b m).msc = s.msc := rfl
@[simp] theorem State.post_trapDrops (s : State) (a b : Nat) (m : Body) : (s.post a b m).trapDrops = s.trapDrops := rfl
@[simp] theorem State.post_regions (s : State) (a b : Nat) (m : Body) : (s.post a b m).regions = s.regions := rfl
@[simp] theorem State.post_commits (s : State) (a b : Nat) (m : Body) : (s.post a b m).commits = s.commits := rfl
@[simp] theorem State.post_firewall (s : State) (a b : Nat) (m : Body) : (s.post a b m).firewall = s.firewall := rfl
@[simp] theorem State.post_regionFrom (s : State) (a b : Nat) (m : Body) : (s.post a b m).regionFrom = s.regionFrom := rfl
@[simp] theorem State.post_regionNew (s : State) (a b : Nat) (m : Body) : (s.post a b m).regionNew = s.regionNew := rfl
@[simp] theorem State.post_frameLay (s : State) (a b : Nat) (m : Body) : (s.post a b m).frameLay = s.frameLay := rfl
@[simp] theorem State.post_dies (s : State) (a b : Nat) (m : Body) : (s.post a b m).dies = s.dies := rfl
@[simp] theorem State.post_invals (s : State) (a b : Nat) (m : Body) : (s.post a b m).invals = s.invals := rfl
@[simp] theorem State.post_period (s : State) (a b : Nat) (m : Body) : (s.post a b m).period = s.period := rfl
@[simp] theorem State.post_allowance (s : State) (a b : Nat) (m : Body) : (s.post a b m).allowance = s.allowance := rfl
@[simp] theorem State.post_streams (s : State) (a b : Nat) (m : Body) : (s.post a b m).streams = s.streams := rfl
@[simp] theorem State.post_portBadVc (s : State) (a b : Nat) (m : Body) : (s.post a b m).portBadVc = s.portBadVc := rfl
@[simp] theorem State.post_portBadType (s : State) (a b : Nat) (m : Body) : (s.post a b m).portBadType = s.portBadType := rfl
@[simp] theorem State.post_portRate (s : State) (a b : Nat) (m : Body) : (s.post a b m).portRate = s.portRate := rfl
@[simp] theorem State.post_links (s : State) (a b : Nat) (m : Body) : (s.post a b m).links = s.links := rfl
@[simp] theorem State.post_timers (s : State) (a b : Nat) (m : Body) : (s.post a b m).timers = s.timers := rfl
@[simp] theorem State.post_retries (s : State) (a b : Nat) (m : Body) : (s.post a b m).retries = s.retries := rfl
@[simp] theorem State.post_sdioBusy (s : State) (a b : Nat) (m : Body) : (s.post a b m).sdioBusy = s.sdioBusy := rfl
@[simp] theorem State.post_sdioDone (s : State) (a b : Nat) (m : Body) : (s.post a b m).sdioDone = s.sdioDone := rfl
@[simp] theorem State.post_sdioWait (s : State) (a b : Nat) (m : Body) : (s.post a b m).sdioWait = s.sdioWait := rfl
@[simp] theorem State.post_cccr (s : State) (a b : Nat) (m : Body) : (s.post a b m).cccr = s.cccr := rfl
@[simp] theorem State.post_barriers (s : State) (a b : Nat) (m : Body) : (s.post a b m).barriers = s.barriers := rfl
@[simp] theorem State.post_headland (s : State) (a b : Nat) (m : Body) : (s.post a b m).headland = s.headland := rfl
@[simp] theorem State.post_phase (s : State) (a b : Nat) (m : Body) : (s.post a b m).phase = s.phase := rfl
@[simp] theorem State.post_fuse (s : State) (a b : Nat) (m : Body) : (s.post a b m).fuse = s.fuse := rfl
@[simp] theorem State.post_svn (s : State) (a b : Nat) (m : Body) : (s.post a b m).svn = s.svn := rfl
@[simp] theorem State.post_measured (s : State) (a b : Nat) (m : Body) : (s.post a b m).measured = s.measured := rfl
@[simp] theorem State.post_conf (s : State) (a b : Nat) (m : Body) : (s.post a b m).conf = s.conf := rfl
@[simp] theorem State.post_dtime (s : State) (a b : Nat) (m : Body) : (s.post a b m).dtime = s.dtime := rfl
@[simp] theorem State.post_dev (s : State) (a b : Nat) (m : Body) : (s.post a b m).dev = s.dev := rfl
@[simp] theorem State.post_ring (s : State) (a b : Nat) (m : Body) : (s.post a b m).ring = s.ring := rfl
@[simp] theorem State.post_capptr (s : State) (a b : Nat) (m : Body) : (s.post a b m).capptr = s.capptr := rfl
@[simp] theorem State.post_cur (s : State) (a b : Nat) (m : Body) : (s.post a b m).cur = s.cur := rfl
@[simp] theorem State.post_agenda (s : State) (a b : Nat) (m : Body) : (s.post a b m).agenda = s.agenda := rfl
@[simp] theorem State.post_free (s : State) (a b : Nat) (m : Body) : (s.post a b m).free = s.free := rfl
@[simp] theorem State.modCore_mem (s : State) (c : Nat) (f : Core → Core) : (s.modCore c f).mem = s.mem := rfl
@[simp] theorem State.modCore_ctxs (s : State) (c : Nat) (f : Core → Core) : (s.modCore c f).ctxs = s.ctxs := rfl
@[simp] theorem State.modCore_coves (s : State) (c : Nat) (f : Core → Core) : (s.modCore c f).coves = s.coves := rfl
@[simp] theorem State.modCore_net (s : State) (c : Nat) (f : Core → Core) : (s.modCore c f).net = s.net := rfl
@[simp] theorem State.modCore_msgSeq (s : State) (c : Nat) (f : Core → Core) : (s.modCore c f).msgSeq = s.msgSeq := rfl
@[simp] theorem State.modCore_cur (s : State) (c : Nat) (f : Core → Core) : (s.modCore c f).cur = s.cur := rfl
@[simp] theorem State.modCore_dtime (s : State) (c : Nat) (f : Core → Core) : (s.modCore c f).dtime = s.dtime := rfl
@[simp] theorem State.modCore_agenda (s : State) (c : Nat) (f : Core → Core) : (s.modCore c f).agenda = s.agenda := rfl
@[simp] theorem State.modCore_barriers (s : State) (c : Nat) (f : Core → Core) : (s.modCore c f).barriers = s.barriers := rfl
@[simp] theorem State.modCore_headland (s : State) (c : Nat) (f : Core → Core) : (s.modCore c f).headland = s.headland := rfl
@[simp] theorem State.modCore_free (s : State) (c : Nat) (f : Core → Core) : (s.modCore c f).free = s.free := rfl
@[simp] theorem State.modCore_invals (s : State) (c : Nat) (f : Core → Core) : (s.modCore c f).invals = s.invals := rfl
@[simp] theorem State.modCore_streams (s : State) (c : Nat) (f : Core → Core) : (s.modCore c f).streams = s.streams := rfl
@[simp] theorem State.modCore_links (s : State) (c : Nat) (f : Core → Core) : (s.modCore c f).links = s.links := rfl
@[simp] theorem State.modCore_timers (s : State) (c : Nat) (f : Core → Core) : (s.modCore c f).timers = s.timers := rfl
@[simp] theorem State.modCore_phase (s : State) (c : Nat) (f : Core → Core) : (s.modCore c f).phase = s.phase := rfl
@[simp] theorem State.modCore_dies (s : State) (c : Nat) (f : Core → Core) : (s.modCore c f).dies = s.dies := rfl
@[simp] theorem State.modCove_mem (s : State) (n : Nat) (f : Cove → Cove) : (s.modCove n f).mem = s.mem := rfl
@[simp] theorem State.modCove_ctxs (s : State) (n : Nat) (f : Cove → Cove) : (s.modCove n f).ctxs = s.ctxs := rfl
@[simp] theorem State.modCove_net (s : State) (n : Nat) (f : Cove → Cove) : (s.modCove n f).net = s.net := rfl
@[simp] theorem State.modCove_msgSeq (s : State) (n : Nat) (f : Cove → Cove) : (s.modCove n f).msgSeq = s.msgSeq := rfl
@[simp] theorem State.modCove_cur (s : State) (n : Nat) (f : Cove → Cove) : (s.modCove n f).cur = s.cur := rfl
@[simp] theorem State.modCove_dtime (s : State) (n : Nat) (f : Cove → Cove) : (s.modCove n f).dtime = s.dtime := rfl
@[simp] theorem State.modCove_agenda (s : State) (n : Nat) (f : Cove → Cove) : (s.modCove n f).agenda = s.agenda := rfl
@[simp] theorem State.modCove_barriers (s : State) (n : Nat) (f : Cove → Cove) : (s.modCove n f).barriers = s.barriers := rfl
@[simp] theorem State.modCove_headland (s : State) (n : Nat) (f : Cove → Cove) : (s.modCove n f).headland = s.headland := rfl
@[simp] theorem State.modCove_free (s : State) (n : Nat) (f : Cove → Cove) : (s.modCove n f).free = s.free := rfl
@[simp] theorem State.modCove_invals (s : State) (n : Nat) (f : Cove → Cove) : (s.modCove n f).invals = s.invals := rfl
@[simp] theorem State.modCove_streams (s : State) (n : Nat) (f : Cove → Cove) : (s.modCove n f).streams = s.streams := rfl
@[simp] theorem State.modCove_links (s : State) (n : Nat) (f : Cove → Cove) : (s.modCove n f).links = s.links := rfl
@[simp] theorem State.modCove_timers (s : State) (n : Nat) (f : Cove → Cove) : (s.modCove n f).timers = s.timers := rfl
@[simp] theorem State.modCove_phase (s : State) (n : Nat) (f : Cove → Cove) : (s.modCove n f).phase = s.phase := rfl
@[simp] theorem State.modCove_dies (s : State) (n : Nat) (f : Cove → Cove) : (s.modCove n f).dies = s.dies := rfl
@[simp] theorem State.modCtx_mem (s : State) (c : Nat) (f : Ctx → Ctx) : (s.modCtx c f).mem = s.mem := rfl
@[simp] theorem State.modCtx_coves (s : State) (c : Nat) (f : Ctx → Ctx) : (s.modCtx c f).coves = s.coves := rfl
@[simp] theorem State.modCtx_net (s : State) (c : Nat) (f : Ctx → Ctx) : (s.modCtx c f).net = s.net := rfl
@[simp] theorem State.modCtx_msgSeq (s : State) (c : Nat) (f : Ctx → Ctx) : (s.modCtx c f).msgSeq = s.msgSeq := rfl
@[simp] theorem State.modCtx_cur (s : State) (c : Nat) (f : Ctx → Ctx) : (s.modCtx c f).cur = s.cur := rfl
@[simp] theorem State.modCtx_dtime (s : State) (c : Nat) (f : Ctx → Ctx) : (s.modCtx c f).dtime = s.dtime := rfl
@[simp] theorem State.modCtx_agenda (s : State) (c : Nat) (f : Ctx → Ctx) : (s.modCtx c f).agenda = s.agenda := rfl
@[simp] theorem State.modCtx_barriers (s : State) (c : Nat) (f : Ctx → Ctx) : (s.modCtx c f).barriers = s.barriers := rfl
@[simp] theorem State.modCtx_headland (s : State) (c : Nat) (f : Ctx → Ctx) : (s.modCtx c f).headland = s.headland := rfl
@[simp] theorem State.modCtx_free (s : State) (c : Nat) (f : Ctx → Ctx) : (s.modCtx c f).free = s.free := rfl
@[simp] theorem State.modCtx_invals (s : State) (c : Nat) (f : Ctx → Ctx) : (s.modCtx c f).invals = s.invals := rfl
@[simp] theorem State.modCtx_streams (s : State) (c : Nat) (f : Ctx → Ctx) : (s.modCtx c f).streams = s.streams := rfl
@[simp] theorem State.modCtx_links (s : State) (c : Nat) (f : Ctx → Ctx) : (s.modCtx c f).links = s.links := rfl
@[simp] theorem State.modCtx_timers (s : State) (c : Nat) (f : Ctx → Ctx) : (s.modCtx c f).timers = s.timers := rfl
@[simp] theorem State.modCtx_phase (s : State) (c : Nat) (f : Ctx → Ctx) : (s.modCtx c f).phase = s.phase := rfl
@[simp] theorem State.modCtx_dies (s : State) (c : Nat) (f : Ctx → Ctx) : (s.modCtx c f).dies = s.dies := rfl
@[simp] theorem State.modMe_mem (s : State) (f : Slot → Slot) : (s.modMe f).mem = s.mem := rfl
@[simp] theorem State.modMe_ctxs (s : State) (f : Slot → Slot) : (s.modMe f).ctxs = s.ctxs := rfl
@[simp] theorem State.modMe_coves (s : State) (f : Slot → Slot) : (s.modMe f).coves = s.coves := rfl
@[simp] theorem State.modMe_net (s : State) (f : Slot → Slot) : (s.modMe f).net = s.net := rfl
@[simp] theorem State.modMe_msgSeq (s : State) (f : Slot → Slot) : (s.modMe f).msgSeq = s.msgSeq := rfl
@[simp] theorem State.modMe_cur (s : State) (f : Slot → Slot) : (s.modMe f).cur = s.cur := rfl
@[simp] theorem State.modMe_dtime (s : State) (f : Slot → Slot) : (s.modMe f).dtime = s.dtime := rfl
@[simp] theorem State.modMe_agenda (s : State) (f : Slot → Slot) : (s.modMe f).agenda = s.agenda := rfl
@[simp] theorem State.modMe_barriers (s : State) (f : Slot → Slot) : (s.modMe f).barriers = s.barriers := rfl
@[simp] theorem State.modMe_headland (s : State) (f : Slot → Slot) : (s.modMe f).headland = s.headland := rfl
@[simp] theorem State.modMe_free (s : State) (f : Slot → Slot) : (s.modMe f).free = s.free := rfl
@[simp] theorem State.modMe_invals (s : State) (f : Slot → Slot) : (s.modMe f).invals = s.invals := rfl
@[simp] theorem State.modMe_streams (s : State) (f : Slot → Slot) : (s.modMe f).streams = s.streams := rfl
@[simp] theorem State.modMe_links (s : State) (f : Slot → Slot) : (s.modMe f).links = s.links := rfl
@[simp] theorem State.modMe_timers (s : State) (f : Slot → Slot) : (s.modMe f).timers = s.timers := rfl
@[simp] theorem State.modMe_phase (s : State) (f : Slot → Slot) : (s.modMe f).phase = s.phase := rfl
@[simp] theorem State.modMe_dies (s : State) (f : Slot → Slot) : (s.modMe f).dies = s.dies := rfl
@[simp] theorem State.setSlot_mem (s : State) (c j : Nat) (x : Slot) : (s.setSlot c j x).mem = s.mem := rfl
@[simp] theorem State.setSlot_ctxs (s : State) (c j : Nat) (x : Slot) : (s.setSlot c j x).ctxs = s.ctxs := rfl
@[simp] theorem State.setSlot_coves (s : State) (c j : Nat) (x : Slot) : (s.setSlot c j x).coves = s.coves := rfl
@[simp] theorem State.setSlot_net (s : State) (c j : Nat) (x : Slot) : (s.setSlot c j x).net = s.net := rfl
@[simp] theorem State.setSlot_msgSeq (s : State) (c j : Nat) (x : Slot) : (s.setSlot c j x).msgSeq = s.msgSeq := rfl
@[simp] theorem State.setSlot_cur (s : State) (c j : Nat) (x : Slot) : (s.setSlot c j x).cur = s.cur := rfl
@[simp] theorem State.setSlot_dtime (s : State) (c j : Nat) (x : Slot) : (s.setSlot c j x).dtime = s.dtime := rfl
@[simp] theorem State.setSlot_agenda (s : State) (c j : Nat) (x : Slot) : (s.setSlot c j x).agenda = s.agenda := rfl
@[simp] theorem State.setSlot_barriers (s : State) (c j : Nat) (x : Slot) : (s.setSlot c j x).barriers = s.barriers := rfl
@[simp] theorem State.setSlot_headland (s : State) (c j : Nat) (x : Slot) : (s.setSlot c j x).headland = s.headland := rfl
@[simp] theorem State.setSlot_free (s : State) (c j : Nat) (x : Slot) : (s.setSlot c j x).free = s.free := rfl
@[simp] theorem State.setSlot_invals (s : State) (c j : Nat) (x : Slot) : (s.setSlot c j x).invals = s.invals := rfl
@[simp] theorem State.setSlot_streams (s : State) (c j : Nat) (x : Slot) : (s.setSlot c j x).streams = s.streams := rfl
@[simp] theorem State.setSlot_links (s : State) (c j : Nat) (x : Slot) : (s.setSlot c j x).links = s.links := rfl
@[simp] theorem State.setSlot_timers (s : State) (c j : Nat) (x : Slot) : (s.setSlot c j x).timers = s.timers := rfl
@[simp] theorem State.setSlot_phase (s : State) (c j : Nat) (x : Slot) : (s.setSlot c j x).phase = s.phase := rfl
@[simp] theorem State.setSlot_dies (s : State) (c j : Nat) (x : Slot) : (s.setSlot c j x).dies = s.dies := rfl
@[simp] theorem State.modSlot_mem (s : State) (c j : Nat) (f : Slot → Slot) : (s.modSlot c j f).mem = s.mem := rfl
@[simp] theorem State.modSlot_ctxs (s : State) (c j : Nat) (f : Slot → Slot) : (s.modSlot c j f).ctxs = s.ctxs := rfl
@[simp] theorem State.modSlot_coves (s : State) (c j : Nat) (f : Slot → Slot) : (s.modSlot c j f).coves = s.coves := rfl
@[simp] theorem State.modSlot_net (s : State) (c j : Nat) (f : Slot → Slot) : (s.modSlot c j f).net = s.net := rfl
@[simp] theorem State.modSlot_msgSeq (s : State) (c j : Nat) (f : Slot → Slot) : (s.modSlot c j f).msgSeq = s.msgSeq := rfl
@[simp] theorem State.modSlot_cur (s : State) (c j : Nat) (f : Slot → Slot) : (s.modSlot c j f).cur = s.cur := rfl
@[simp] theorem State.modSlot_dtime (s : State) (c j : Nat) (f : Slot → Slot) : (s.modSlot c j f).dtime = s.dtime := rfl
@[simp] theorem State.modSlot_agenda (s : State) (c j : Nat) (f : Slot → Slot) : (s.modSlot c j f).agenda = s.agenda := rfl
@[simp] theorem State.modSlot_barriers (s : State) (c j : Nat) (f : Slot → Slot) : (s.modSlot c j f).barriers = s.barriers := rfl
@[simp] theorem State.modSlot_headland (s : State) (c j : Nat) (f : Slot → Slot) : (s.modSlot c j f).headland = s.headland := rfl
@[simp] theorem State.modSlot_free (s : State) (c j : Nat) (f : Slot → Slot) : (s.modSlot c j f).free = s.free := rfl
@[simp] theorem State.modSlot_invals (s : State) (c j : Nat) (f : Slot → Slot) : (s.modSlot c j f).invals = s.invals := rfl
@[simp] theorem State.modSlot_streams (s : State) (c j : Nat) (f : Slot → Slot) : (s.modSlot c j f).streams = s.streams := rfl
@[simp] theorem State.modSlot_links (s : State) (c j : Nat) (f : Slot → Slot) : (s.modSlot c j f).links = s.links := rfl
@[simp] theorem State.modSlot_timers (s : State) (c j : Nat) (f : Slot → Slot) : (s.modSlot c j f).timers = s.timers := rfl
@[simp] theorem State.modSlot_phase (s : State) (c j : Nat) (f : Slot → Slot) : (s.modSlot c j f).phase = s.phase := rfl
@[simp] theorem State.modSlot_dies (s : State) (c j : Nat) (f : Slot → Slot) : (s.modSlot c j f).dies = s.dies := rfl
@[simp] theorem State.wg_mem (s : State) (r : BitVec 5) (x : Word) : (s.wg r x).mem = s.mem := rfl
@[simp] theorem State.wg_ctxs (s : State) (r : BitVec 5) (x : Word) : (s.wg r x).ctxs = s.ctxs := rfl
@[simp] theorem State.wg_coves (s : State) (r : BitVec 5) (x : Word) : (s.wg r x).coves = s.coves := rfl
@[simp] theorem State.wg_net (s : State) (r : BitVec 5) (x : Word) : (s.wg r x).net = s.net := rfl
@[simp] theorem State.wg_msgSeq (s : State) (r : BitVec 5) (x : Word) : (s.wg r x).msgSeq = s.msgSeq := rfl
@[simp] theorem State.wg_cur (s : State) (r : BitVec 5) (x : Word) : (s.wg r x).cur = s.cur := rfl
@[simp] theorem State.wg_dtime (s : State) (r : BitVec 5) (x : Word) : (s.wg r x).dtime = s.dtime := rfl
@[simp] theorem State.wg_agenda (s : State) (r : BitVec 5) (x : Word) : (s.wg r x).agenda = s.agenda := rfl
@[simp] theorem State.wg_barriers (s : State) (r : BitVec 5) (x : Word) : (s.wg r x).barriers = s.barriers := rfl
@[simp] theorem State.wg_headland (s : State) (r : BitVec 5) (x : Word) : (s.wg r x).headland = s.headland := rfl
@[simp] theorem State.wg_free (s : State) (r : BitVec 5) (x : Word) : (s.wg r x).free = s.free := rfl
@[simp] theorem State.wg_invals (s : State) (r : BitVec 5) (x : Word) : (s.wg r x).invals = s.invals := rfl
@[simp] theorem State.wg_streams (s : State) (r : BitVec 5) (x : Word) : (s.wg r x).streams = s.streams := rfl
@[simp] theorem State.wg_links (s : State) (r : BitVec 5) (x : Word) : (s.wg r x).links = s.links := rfl
@[simp] theorem State.wg_timers (s : State) (r : BitVec 5) (x : Word) : (s.wg r x).timers = s.timers := rfl
@[simp] theorem State.wg_phase (s : State) (r : BitVec 5) (x : Word) : (s.wg r x).phase = s.phase := rfl
@[simp] theorem State.wg_dies (s : State) (r : BitVec 5) (x : Word) : (s.wg r x).dies = s.dies := rfl
@[simp] theorem State.wv_mem (s : State) (r : BitVec 5) (x : Vec) : (s.wv r x).mem = s.mem := rfl
@[simp] theorem State.wv_ctxs (s : State) (r : BitVec 5) (x : Vec) : (s.wv r x).ctxs = s.ctxs := rfl
@[simp] theorem State.wv_coves (s : State) (r : BitVec 5) (x : Vec) : (s.wv r x).coves = s.coves := rfl
@[simp] theorem State.wv_net (s : State) (r : BitVec 5) (x : Vec) : (s.wv r x).net = s.net := rfl
@[simp] theorem State.wv_msgSeq (s : State) (r : BitVec 5) (x : Vec) : (s.wv r x).msgSeq = s.msgSeq := rfl
@[simp] theorem State.wv_cur (s : State) (r : BitVec 5) (x : Vec) : (s.wv r x).cur = s.cur := rfl
@[simp] theorem State.wv_dtime (s : State) (r : BitVec 5) (x : Vec) : (s.wv r x).dtime = s.dtime := rfl
@[simp] theorem State.wv_agenda (s : State) (r : BitVec 5) (x : Vec) : (s.wv r x).agenda = s.agenda := rfl
@[simp] theorem State.wv_barriers (s : State) (r : BitVec 5) (x : Vec) : (s.wv r x).barriers = s.barriers := rfl
@[simp] theorem State.wv_headland (s : State) (r : BitVec 5) (x : Vec) : (s.wv r x).headland = s.headland := rfl
@[simp] theorem State.wv_free (s : State) (r : BitVec 5) (x : Vec) : (s.wv r x).free = s.free := rfl
@[simp] theorem State.wv_invals (s : State) (r : BitVec 5) (x : Vec) : (s.wv r x).invals = s.invals := rfl
@[simp] theorem State.wv_streams (s : State) (r : BitVec 5) (x : Vec) : (s.wv r x).streams = s.streams := rfl
@[simp] theorem State.wv_links (s : State) (r : BitVec 5) (x : Vec) : (s.wv r x).links = s.links := rfl
@[simp] theorem State.wv_timers (s : State) (r : BitVec 5) (x : Vec) : (s.wv r x).timers = s.timers := rfl
@[simp] theorem State.wv_phase (s : State) (r : BitVec 5) (x : Vec) : (s.wv r x).phase = s.phase := rfl
@[simp] theorem State.wv_dies (s : State) (r : BitVec 5) (x : Vec) : (s.wv r x).dies = s.dies := rfl
@[simp] theorem State.wmask_mem (s : State) (r : Nat) (x : Word) : (s.wmask r x).mem = s.mem := rfl
@[simp] theorem State.wmask_ctxs (s : State) (r : Nat) (x : Word) : (s.wmask r x).ctxs = s.ctxs := rfl
@[simp] theorem State.wmask_coves (s : State) (r : Nat) (x : Word) : (s.wmask r x).coves = s.coves := rfl
@[simp] theorem State.wmask_net (s : State) (r : Nat) (x : Word) : (s.wmask r x).net = s.net := rfl
@[simp] theorem State.wmask_msgSeq (s : State) (r : Nat) (x : Word) : (s.wmask r x).msgSeq = s.msgSeq := rfl
@[simp] theorem State.wmask_cur (s : State) (r : Nat) (x : Word) : (s.wmask r x).cur = s.cur := rfl
@[simp] theorem State.wmask_dtime (s : State) (r : Nat) (x : Word) : (s.wmask r x).dtime = s.dtime := rfl
@[simp] theorem State.wmask_agenda (s : State) (r : Nat) (x : Word) : (s.wmask r x).agenda = s.agenda := rfl
@[simp] theorem State.wmask_barriers (s : State) (r : Nat) (x : Word) : (s.wmask r x).barriers = s.barriers := rfl
@[simp] theorem State.wmask_headland (s : State) (r : Nat) (x : Word) : (s.wmask r x).headland = s.headland := rfl
@[simp] theorem State.wmask_free (s : State) (r : Nat) (x : Word) : (s.wmask r x).free = s.free := rfl
@[simp] theorem State.wmask_invals (s : State) (r : Nat) (x : Word) : (s.wmask r x).invals = s.invals := rfl
@[simp] theorem State.wmask_streams (s : State) (r : Nat) (x : Word) : (s.wmask r x).streams = s.streams := rfl
@[simp] theorem State.wmask_links (s : State) (r : Nat) (x : Word) : (s.wmask r x).links = s.links := rfl
@[simp] theorem State.wmask_timers (s : State) (r : Nat) (x : Word) : (s.wmask r x).timers = s.timers := rfl
@[simp] theorem State.wmask_phase (s : State) (r : Nat) (x : Word) : (s.wmask r x).phase = s.phase := rfl
@[simp] theorem State.wmask_dies (s : State) (r : Nat) (x : Word) : (s.wmask r x).dies = s.dies := rfl
@[simp] theorem State.orFlags_mem (s : State) (f : Flags) : (s.orFlags f).mem = s.mem := rfl
@[simp] theorem State.orFlags_ctxs (s : State) (f : Flags) : (s.orFlags f).ctxs = s.ctxs := rfl
@[simp] theorem State.orFlags_coves (s : State) (f : Flags) : (s.orFlags f).coves = s.coves := rfl
@[simp] theorem State.orFlags_net (s : State) (f : Flags) : (s.orFlags f).net = s.net := rfl
@[simp] theorem State.orFlags_msgSeq (s : State) (f : Flags) : (s.orFlags f).msgSeq = s.msgSeq := rfl
@[simp] theorem State.orFlags_cur (s : State) (f : Flags) : (s.orFlags f).cur = s.cur := rfl
@[simp] theorem State.orFlags_dtime (s : State) (f : Flags) : (s.orFlags f).dtime = s.dtime := rfl
@[simp] theorem State.orFlags_agenda (s : State) (f : Flags) : (s.orFlags f).agenda = s.agenda := rfl
@[simp] theorem State.orFlags_barriers (s : State) (f : Flags) : (s.orFlags f).barriers = s.barriers := rfl
@[simp] theorem State.orFlags_headland (s : State) (f : Flags) : (s.orFlags f).headland = s.headland := rfl
@[simp] theorem State.orFlags_free (s : State) (f : Flags) : (s.orFlags f).free = s.free := rfl
@[simp] theorem State.orFlags_invals (s : State) (f : Flags) : (s.orFlags f).invals = s.invals := rfl
@[simp] theorem State.orFlags_streams (s : State) (f : Flags) : (s.orFlags f).streams = s.streams := rfl
@[simp] theorem State.orFlags_links (s : State) (f : Flags) : (s.orFlags f).links = s.links := rfl
@[simp] theorem State.orFlags_timers (s : State) (f : Flags) : (s.orFlags f).timers = s.timers := rfl
@[simp] theorem State.orFlags_phase (s : State) (f : Flags) : (s.orFlags f).phase = s.phase := rfl
@[simp] theorem State.orFlags_dies (s : State) (f : Flags) : (s.orFlags f).dies = s.dies := rfl
@[simp] theorem State.goto_mem (s : State) (p : Word) : (s.goto p).mem = s.mem := rfl
@[simp] theorem State.goto_ctxs (s : State) (p : Word) : (s.goto p).ctxs = s.ctxs := rfl
@[simp] theorem State.goto_coves (s : State) (p : Word) : (s.goto p).coves = s.coves := rfl
@[simp] theorem State.goto_net (s : State) (p : Word) : (s.goto p).net = s.net := rfl
@[simp] theorem State.goto_msgSeq (s : State) (p : Word) : (s.goto p).msgSeq = s.msgSeq := rfl
@[simp] theorem State.goto_cur (s : State) (p : Word) : (s.goto p).cur = s.cur := rfl
@[simp] theorem State.goto_dtime (s : State) (p : Word) : (s.goto p).dtime = s.dtime := rfl
@[simp] theorem State.goto_agenda (s : State) (p : Word) : (s.goto p).agenda = s.agenda := rfl
@[simp] theorem State.goto_barriers (s : State) (p : Word) : (s.goto p).barriers = s.barriers := rfl
@[simp] theorem State.goto_headland (s : State) (p : Word) : (s.goto p).headland = s.headland := rfl
@[simp] theorem State.goto_free (s : State) (p : Word) : (s.goto p).free = s.free := rfl
@[simp] theorem State.goto_invals (s : State) (p : Word) : (s.goto p).invals = s.invals := rfl
@[simp] theorem State.goto_streams (s : State) (p : Word) : (s.goto p).streams = s.streams := rfl
@[simp] theorem State.goto_links (s : State) (p : Word) : (s.goto p).links = s.links := rfl
@[simp] theorem State.goto_timers (s : State) (p : Word) : (s.goto p).timers = s.timers := rfl
@[simp] theorem State.goto_phase (s : State) (p : Word) : (s.goto p).phase = s.phase := rfl
@[simp] theorem State.goto_dies (s : State) (p : Word) : (s.goto p).dies = s.dies := rfl
@[simp] theorem State.advance_mem (s : State)  : (s.advance).mem = s.mem := rfl
@[simp] theorem State.advance_ctxs (s : State)  : (s.advance).ctxs = s.ctxs := rfl
@[simp] theorem State.advance_coves (s : State)  : (s.advance).coves = s.coves := rfl
@[simp] theorem State.advance_net (s : State)  : (s.advance).net = s.net := rfl
@[simp] theorem State.advance_msgSeq (s : State)  : (s.advance).msgSeq = s.msgSeq := rfl
@[simp] theorem State.advance_cur (s : State)  : (s.advance).cur = s.cur := rfl
@[simp] theorem State.advance_dtime (s : State)  : (s.advance).dtime = s.dtime := rfl
@[simp] theorem State.advance_agenda (s : State)  : (s.advance).agenda = s.agenda := rfl
@[simp] theorem State.advance_barriers (s : State)  : (s.advance).barriers = s.barriers := rfl
@[simp] theorem State.advance_headland (s : State)  : (s.advance).headland = s.headland := rfl
@[simp] theorem State.advance_free (s : State)  : (s.advance).free = s.free := rfl
@[simp] theorem State.advance_invals (s : State)  : (s.advance).invals = s.invals := rfl
@[simp] theorem State.advance_streams (s : State)  : (s.advance).streams = s.streams := rfl
@[simp] theorem State.advance_links (s : State)  : (s.advance).links = s.links := rfl
@[simp] theorem State.advance_timers (s : State)  : (s.advance).timers = s.timers := rfl
@[simp] theorem State.advance_phase (s : State)  : (s.advance).phase = s.phase := rfl
@[simp] theorem State.advance_dies (s : State)  : (s.advance).dies = s.dies := rfl

/-! ### Parts after an update -/

@[simp] theorem State.core_setCore_self (s : State) (c : Nat) (k : Core) : (s.setCore c k).core c = k := by
  simp [State.core, State.setCore]
theorem State.core_setCore_ne (s : State) (c d : Nat) (k : Core) (h : d ≠ c) : (s.setCore c k).core d = s.core d := by
  simp [State.core, State.setCore, FMap.getD_set_ne _ _ _ _ _ h]
@[simp] theorem State.setCore_setCore (s : State) (c : Nat) (k l : Core) : (s.setCore c k).setCore c l = s.setCore c l := by
  simp [State.setCore]
@[simp] theorem State.core_modCore_self (s : State) (c : Nat) (f : Core → Core) : (s.modCore c f).core c = f (s.core c) := by
  simp [State.modCore]
theorem State.core_modCore_ne (s : State) (c d : Nat) (f : Core → Core) (h : d ≠ c) : (s.modCore c f).core d = s.core d :=
  s.core_setCore_ne c d _ h
@[simp] theorem State.cove_setCore (s : State) (c n : Nat) (k : Core) : (s.setCore c k).cove n = s.cove n := rfl
@[simp] theorem State.ctx_setCore (s : State) (c x : Nat) (k : Core) : (s.setCore c k).ctx x = s.ctx x := rfl
@[simp] theorem State.core_setCove (s : State) (n c : Nat) (k : Cove) : (s.setCove n k).core c = s.core c := rfl
@[simp] theorem State.ctx_setCove (s : State) (n x : Nat) (k : Cove) : (s.setCove n k).ctx x = s.ctx x := rfl
@[simp] theorem State.core_setCtx (s : State) (x c : Nat) (k : Ctx) : (s.setCtx x k).core c = s.core c := rfl
@[simp] theorem State.cove_setCtx (s : State) (x n : Nat) (k : Ctx) : (s.setCtx x k).cove n = s.cove n := rfl
@[simp] theorem State.cove_setCove_self (s : State) (n : Nat) (k : Cove) : (s.setCove n k).cove n = k := by
  simp [State.cove, State.setCove]
@[simp] theorem State.cove_modCove_self (s : State) (n : Nat) (f : Cove → Cove) : (s.modCove n f).cove n = f (s.cove n) := by
  simp [State.modCove]
@[simp] theorem State.core_modCove (s : State) (n c : Nat) (f : Cove → Cove) : (s.modCove n f).core c = s.core c := rfl
@[simp] theorem State.ctx_modCove (s : State) (n x : Nat) (f : Cove → Cove) : (s.modCove n f).ctx x = s.ctx x := rfl
@[simp] theorem State.ctx_setCtx_self (s : State) (x : Nat) (k : Ctx) : (s.setCtx x k).ctx x = k := by
  simp [State.ctx, State.setCtx]
@[simp] theorem State.core_post (s : State) (a b : Nat) (m : Body) (c : Nat) : (s.post a b m).core c = s.core c := rfl
@[simp] theorem State.cove_post (s : State) (a b : Nat) (m : Body) (c : Nat) : (s.post a b m).cove c = s.cove c := rfl
@[simp] theorem State.ctx_post (s : State) (a b : Nat) (m : Body) (c : Nat) : (s.post a b m).ctx c = s.ctx c := rfl
@[simp] theorem State.slot_post (s : State) (a b : Nat) (m : Body) (c j : Nat) : (s.post a b m).slot c j = s.slot c j := rfl
@[simp] theorem State.me_post (s : State) (a b : Nat) (m : Body) : (s.post a b m).me = s.me := rfl
@[simp] theorem State.me_setCove (s : State) (n : Nat) (k : Cove) : (s.setCove n k).me = s.me := rfl
@[simp] theorem State.me_modCove (s : State) (n : Nat) (f : Cove → Cove) : (s.modCove n f).me = s.me := rfl
@[simp] theorem State.me_setCtx (s : State) (x : Nat) (k : Ctx) : (s.setCtx x k).me = s.me := rfl
@[simp] theorem State.me_setByte (s : State) (a : Nat) (x : Byte) : (s.setByte a x).me = s.me := rfl
@[simp] theorem State.me_putBytes (s : State) (a : Nat) (l : List Byte) : (s.putBytes a l).me = s.me := rfl

/-! ### The issuing slot -/

@[simp] theorem State.me_setMe (s : State) (x : Slot) : (s.setMe x).me = x := by simp [State.setMe, State.me]
@[simp] theorem State.setMe_setMe (s : State) (x y : Slot) : (s.setMe x).setMe y = s.setMe y := by simp [State.setMe]
@[simp] theorem State.me_modMe (s : State) (f : Slot → Slot) : (s.modMe f).me = f s.me := by simp [State.modMe]
@[simp] theorem State.setMe_modMe (s : State) (f : Slot → Slot) (y : Slot) : (s.modMe f).setMe y = s.setMe y := by
  simp [State.modMe]
@[simp] theorem State.modMe_setMe (s : State) (f : Slot → Slot) (y : Slot) : (s.setMe y).modMe f = s.setMe (f y) := by
  simp [State.modMe]
theorem State.modMe_modMe (s : State) (f g : Slot → Slot) : (s.modMe f).modMe g = s.modMe (fun t => g (f t)) := by
  simp [State.modMe]
@[simp] theorem State.myCore_setMe (s : State) (x : Slot) : (s.setMe x).myCore = s.myCore := rfl
@[simp] theorem State.mySlot_setMe (s : State) (x : Slot) : (s.setMe x).mySlot = s.mySlot := rfl
@[simp] theorem State.myCore_modMe (s : State) (f : Slot → Slot) : (s.modMe f).myCore = s.myCore := rfl
@[simp] theorem State.mySlot_modMe (s : State) (f : Slot → Slot) : (s.modMe f).mySlot = s.mySlot := rfl
@[simp] theorem State.myCore_post (s : State) (a b : Nat) (m : Body) : (s.post a b m).myCore = s.myCore := rfl
@[simp] theorem State.mySlot_post (s : State) (a b : Nat) (m : Body) : (s.post a b m).mySlot = s.mySlot := rfl
@[simp] theorem State.myCore_modCore (s : State) (c : Nat) (f : Core → Core) : (s.modCore c f).myCore = s.myCore := rfl
@[simp] theorem State.mySlot_modCore (s : State) (c : Nat) (f : Core → Core) : (s.modCore c f).mySlot = s.mySlot := rfl
@[simp] theorem State.nextPc_post (s : State) (a b : Nat) (m : Body) : (s.post a b m).nextPc = s.nextPc := rfl
theorem State.slot_me (s : State) : s.slot s.myCore s.mySlot = s.me := by
  simp [State.slot, State.me, Core.slot, State.myCore, State.mySlot]
/-- Putting the issuing slot's own value back changes no core's contents. -/
theorem State.core_setMe_ne (s : State) (x : Slot) (c : Nat) (h : c ≠ s.myCore) : (s.setMe x).core c = s.core c :=
  s.core_setCore_ne _ c _ h

/-! ### Registers of a slot -/

@[simp] theorem Slot.wg_v (t : Slot) (r : BitVec 5) (x : Word) : (t.wg r x).v = t.v := by unfold Slot.wg; split <;> rfl
@[simp] theorem Slot.wg_m (t : Slot) (r : BitVec 5) (x : Word) : (t.wg r x).m = t.m := by unfold Slot.wg; split <;> rfl
@[simp] theorem Slot.wg_ev (t : Slot) (r : BitVec 5) (x : Word) : (t.wg r x).ev = t.ev := by unfold Slot.wg; split <;> rfl
@[simp] theorem Slot.wg_mb (t : Slot) (r : BitVec 5) (x : Word) : (t.wg r x).mb = t.mb := by unfold Slot.wg; split <;> rfl
@[simp] theorem Slot.wg_mbFull (t : Slot) (r : BitVec 5) (x : Word) : (t.wg r x).mbFull = t.mbFull := by unfold Slot.wg; split <;> rfl
@[simp] theorem Slot.wg_pc (t : Slot) (r : BitVec 5) (x : Word) : (t.wg r x).pc = t.pc := by unfold Slot.wg; split <;> rfl
@[simp] theorem Slot.wg_latch (t : Slot) (r : BitVec 5) (x : Word) : (t.wg r x).latch = t.latch := by unfold Slot.wg; split <;> rfl
@[simp] theorem Slot.wg_pfxp (t : Slot) (r : BitVec 5) (x : Word) : (t.wg r x).pfxp = t.pfxp := by unfold Slot.wg; split <;> rfl
@[simp] theorem Slot.wg_unord (t : Slot) (r : BitVec 5) (x : Word) : (t.wg r x).unord = t.unord := by unfold Slot.wg; split <;> rfl
@[simp] theorem Slot.wg_prio (t : Slot) (r : BitVec 5) (x : Word) : (t.wg r x).prio = t.prio := by unfold Slot.wg; split <;> rfl
@[simp] theorem Slot.wg_gang (t : Slot) (r : BitVec 5) (x : Word) : (t.wg r x).gang = t.gang := by unfold Slot.wg; split <;> rfl
@[simp] theorem Slot.wg_taskid (t : Slot) (r : BitVec 5) (x : Word) : (t.wg r x).taskid = t.taskid := by unfold Slot.wg; split <;> rfl
@[simp] theorem Slot.wg_ctx (t : Slot) (r : BitVec 5) (x : Word) : (t.wg r x).ctx = t.ctx := by unfold Slot.wg; split <;> rfl
@[simp] theorem Slot.wg_gk (t : Slot) (r : BitVec 5) (x : Word) : (t.wg r x).gk = t.gk := by unfold Slot.wg; split <;> rfl
@[simp] theorem Slot.wg_lane (t : Slot) (r : BitVec 5) (x : Word) : (t.wg r x).lane = t.lane := by unfold Slot.wg; split <;> rfl
@[simp] theorem Slot.wg_tsinh (t : Slot) (r : BitVec 5) (x : Word) : (t.wg r x).tsinh = t.tsinh := by unfold Slot.wg; split <;> rfl
@[simp] theorem Slot.wg_avt (t : Slot) (r : BitVec 5) (x : Word) : (t.wg r x).avt = t.avt := by unfold Slot.wg; split <;> rfl
@[simp] theorem Slot.wg_rm (t : Slot) (r : BitVec 5) (x : Word) : (t.wg r x).rm = t.rm := by unfold Slot.wg; split <;> rfl
@[simp] theorem Slot.wg_fflags (t : Slot) (r : BitVec 5) (x : Word) : (t.wg r x).fflags = t.fflags := by unfold Slot.wg; split <;> rfl
@[simp] theorem Slot.wg_nfs (t : Slot) (r : BitVec 5) (x : Word) : (t.wg r x).nfs = t.nfs := by unfold Slot.wg; split <;> rfl
@[simp] theorem Slot.wg_nfq (t : Slot) (r : BitVec 5) (x : Word) : (t.wg r x).nfq = t.nfq := by unfold Slot.wg; split <;> rfl
@[simp] theorem Slot.wg_tie (t : Slot) (r : BitVec 5) (x : Word) : (t.wg r x).tie = t.tie := by unfold Slot.wg; split <;> rfl
@[simp] theorem Slot.wg_gstat (t : Slot) (r : BitVec 5) (x : Word) : (t.wg r x).gstat = t.gstat := by unfold Slot.wg; split <;> rfl
@[simp] theorem Slot.wg_tcause (t : Slot) (r : BitVec 5) (x : Word) : (t.wg r x).tcause = t.tcause := by unfold Slot.wg; split <;> rfl
@[simp] theorem Slot.wg_tval (t : Slot) (r : BitVec 5) (x : Word) : (t.wg r x).tval = t.tval := by unfold Slot.wg; split <;> rfl
@[simp] theorem Slot.wg_tepc (t : Slot) (r : BitVec 5) (x : Word) : (t.wg r x).tepc = t.tepc := by unfold Slot.wg; split <;> rfl
@[simp] theorem Slot.wg_ttile (t : Slot) (r : BitVec 5) (x : Word) : (t.wg r x).ttile = t.ttile := by unfold Slot.wg; split <;> rfl
@[simp] theorem Slot.wg_ttask (t : Slot) (r : BitVec 5) (x : Word) : (t.wg r x).ttask = t.ttask := by unfold Slot.wg; split <;> rfl
@[simp] theorem Slot.wg_taddr (t : Slot) (r : BitVec 5) (x : Word) : (t.wg r x).taddr = t.taddr := by unfold Slot.wg; split <;> rfl
@[simp] theorem Slot.wg_limit (t : Slot) (r : BitVec 5) (x : Word) : (t.wg r x).limit = t.limit := by unfold Slot.wg; split <;> rfl
@[simp] theorem Slot.wg_left (t : Slot) (r : BitVec 5) (x : Word) : (t.wg r x).left = t.left := by unfold Slot.wg; split <;> rfl
@[simp] theorem Slot.wg_emitto (t : Slot) (r : BitVec 5) (x : Word) : (t.wg r x).emitto = t.emitto := by unfold Slot.wg; split <;> rfl
@[simp] theorem Slot.wg_hintdrop (t : Slot) (r : BitVec 5) (x : Word) : (t.wg r x).hintdrop = t.hintdrop := by unfold Slot.wg; split <;> rfl
@[simp] theorem Slot.wg_barto (t : Slot) (r : BitVec 5) (x : Word) : (t.wg r x).barto = t.barto := by unfold Slot.wg; split <;> rfl
@[simp] theorem Slot.wg_life (t : Slot) (r : BitVec 5) (x : Word) : (t.wg r x).life = t.life := by unfold Slot.wg; split <;> rfl
@[simp] theorem Slot.wg_frozen (t : Slot) (r : BitVec 5) (x : Word) : (t.wg r x).frozen = t.frozen := by unfold Slot.wg; split <;> rfl
@[simp] theorem Slot.wg_freezeNum (t : Slot) (r : BitVec 5) (x : Word) : (t.wg r x).freezeNum = t.freezeNum := by unfold Slot.wg; split <;> rfl
@[simp] theorem Slot.wg_thaw (t : Slot) (r : BitVec 5) (x : Word) : (t.wg r x).thaw = t.thaw := by unfold Slot.wg; split <;> rfl
@[simp] theorem Slot.wg_stopAt (t : Slot) (r : BitVec 5) (x : Word) : (t.wg r x).stopAt = t.stopAt := by unfold Slot.wg; split <;> rfl
@[simp] theorem Slot.wg_feed (t : Slot) (r : BitVec 5) (x : Word) : (t.wg r x).feed = t.feed := by unfold Slot.wg; split <;> rfl
@[simp] theorem Slot.wg_reply (t : Slot) (r : BitVec 5) (x : Word) : (t.wg r x).reply = t.reply := by unfold Slot.wg; split <;> rfl
@[simp] theorem Slot.wg_ask (t : Slot) (r : BitVec 5) (x : Word) : (t.wg r x).ask = t.ask := by unfold Slot.wg; split <;> rfl
@[simp] theorem Slot.wg_got (t : Slot) (r : BitVec 5) (x : Word) : (t.wg r x).got = t.got := by unfold Slot.wg; split <;> rfl
@[simp] theorem Slot.wg_begun (t : Slot) (r : BitVec 5) (x : Word) : (t.wg r x).begun = t.begun := by unfold Slot.wg; split <;> rfl
@[simp] theorem Slot.wg_loads (t : Slot) (r : BitVec 5) (x : Word) : (t.wg r x).loads = t.loads := by unfold Slot.wg; split <;> rfl
@[simp] theorem Slot.wg_held (t : Slot) (r : BitVec 5) (x : Word) : (t.wg r x).held = t.held := by unfold Slot.wg; split <;> rfl
@[simp] theorem Slot.wg_arms (t : Slot) (r : BitVec 5) (x : Word) : (t.wg r x).arms = t.arms := by unfold Slot.wg; split <;> rfl
@[simp] theorem Slot.wg_awaiting (t : Slot) (r : BitVec 5) (x : Word) : (t.wg r x).awaiting = t.awaiting := by unfold Slot.wg; split <;> rfl
@[simp] theorem Slot.wg_origin (t : Slot) (r : BitVec 5) (x : Word) : (t.wg r x).origin = t.origin := by unfold Slot.wg; split <;> rfl
@[simp] theorem Slot.wg_handler (t : Slot) (r : BitVec 5) (x : Word) : (t.wg r x).handler = t.handler := by unfold Slot.wg; split <;> rfl
@[simp] theorem Slot.wg_join (t : Slot) (r : BitVec 5) (x : Word) : (t.wg r x).join = t.join := by unfold Slot.wg; split <;> rfl
@[simp] theorem Slot.wg_pins (t : Slot) (r : BitVec 5) (x : Word) : (t.wg r x).pins = t.pins := by unfold Slot.wg; split <;> rfl
@[simp] theorem Slot.wg_reader (t : Slot) (r : BitVec 5) (x : Word) : (t.wg r x).reader = t.reader := by unfold Slot.wg; split <;> rfl
@[simp] theorem Slot.wg_rbanks (t : Slot) (r : BitVec 5) (x : Word) : (t.wg r x).rbanks = t.rbanks := by unfold Slot.wg; split <;> rfl
@[simp] theorem Slot.wg_predicate (t : Slot) (r : BitVec 5) (x : Word) : (t.wg r x).predicate = t.predicate := by unfold Slot.wg; split <;> rfl
@[simp] theorem Slot.wg_walkFail (t : Slot) (r : BitVec 5) (x : Word) : (t.wg r x).walkFail = t.walkFail := by unfold Slot.wg; split <;> rfl
@[simp] theorem Slot.wg_relBegun (t : Slot) (r : BitVec 5) (x : Word) : (t.wg r x).relBegun = t.relBegun := by unfold Slot.wg; split <;> rfl
@[simp] theorem Slot.wg_relUpto (t : Slot) (r : BitVec 5) (x : Word) : (t.wg r x).relUpto = t.relUpto := by unfold Slot.wg; split <;> rfl
@[simp] theorem Slot.wg_relDone (t : Slot) (r : BitVec 5) (x : Word) : (t.wg r x).relDone = t.relDone := by unfold Slot.wg; split <;> rfl
@[simp] theorem Slot.wg_leader (t : Slot) (r : BitVec 5) (x : Word) : (t.wg r x).leader = t.leader := by unfold Slot.wg; split <;> rfl
@[simp] theorem Slot.wg_bundles (t : Slot) (r : BitVec 5) (x : Word) : (t.wg r x).bundles = t.bundles := by unfold Slot.wg; split <;> rfl
@[simp] theorem Slot.wg_issued (t : Slot) (r : BitVec 5) (x : Word) : (t.wg r x).issued = t.issued := by unfold Slot.wg; split <;> rfl
@[simp] theorem Slot.wg_answer (t : Slot) (r : BitVec 5) (x : Word) : (t.wg r x).answer = t.answer := by unfold Slot.wg; split <;> rfl
@[simp] theorem Slot.wg_copy (t : Slot) (r : BitVec 5) (x : Word) : (t.wg r x).copy = t.copy := by unfold Slot.wg; split <;> rfl
@[simp] theorem Slot.wg_agreed (t : Slot) (r : BitVec 5) (x : Word) : (t.wg r x).agreed = t.agreed := by unfold Slot.wg; split <;> rfl
@[simp] theorem Slot.wg_probes (t : Slot) (r : BitVec 5) (x : Word) : (t.wg r x).probes = t.probes := by unfold Slot.wg; split <;> rfl
@[simp] theorem Slot.wg_stealing (t : Slot) (r : BitVec 5) (x : Word) : (t.wg r x).stealing = t.stealing := by unfold Slot.wg; split <;> rfl
@[simp] theorem Slot.wg_started (t : Slot) (r : BitVec 5) (x : Word) : (t.wg r x).started = t.started := by unfold Slot.wg; split <;> rfl
@[simp] theorem Slot.wg_cbreq (t : Slot) (r : BitVec 5) (x : Word) : (t.wg r x).cbreq = t.cbreq := by unfold Slot.wg; split <;> rfl
@[simp] theorem Slot.wg_joinOn (t : Slot) (r : BitVec 5) (x : Word) : (t.wg r x).joinOn = t.joinOn := by unfold Slot.wg; split <;> rfl
@[simp] theorem Slot.wg_copying (t : Slot) (r : BitVec 5) (x : Word) : (t.wg r x).copying = t.copying := by unfold Slot.wg; split <;> rfl
@[simp] theorem Slot.wg_linkedAt (t : Slot) (r : BitVec 5) (x : Word) : (t.wg r x).linkedAt = t.linkedAt := by unfold Slot.wg; split <;> rfl
@[simp] theorem Slot.wg_wq (t : Slot) (r : BitVec 5) (x : Word) : (t.wg r x).wq = t.wq := by unfold Slot.wg; split <;> rfl
@[simp] theorem Slot.wg_woken (t : Slot) (r : BitVec 5) (x : Word) : (t.wg r x).woken = t.woken := by unfold Slot.wg; split <;> rfl
@[simp] theorem Slot.wg_mbLanding (t : Slot) (r : BitVec 5) (x : Word) : (t.wg r x).mbLanding = t.mbLanding := by unfold Slot.wg; split <;> rfl
@[simp] theorem Slot.wg_mbNew (t : Slot) (r : BitVec 5) (x : Word) : (t.wg r x).mbNew = t.mbNew := by unfold Slot.wg; split <;> rfl
@[simp] theorem Slot.wv_g (t : Slot) (r : BitVec 5) (x : Vec) : (t.wv r x).g = t.g := rfl
@[simp] theorem Slot.wv_m (t : Slot) (r : BitVec 5) (x : Vec) : (t.wv r x).m = t.m := rfl
@[simp] theorem Slot.wv_ev (t : Slot) (r : BitVec 5) (x : Vec) : (t.wv r x).ev = t.ev := rfl
@[simp] theorem Slot.wv_mb (t : Slot) (r : BitVec 5) (x : Vec) : (t.wv r x).mb = t.mb := rfl
@[simp] theorem Slot.wv_mbFull (t : Slot) (r : BitVec 5) (x : Vec) : (t.wv r x).mbFull = t.mbFull := rfl
@[simp] theorem Slot.wv_pc (t : Slot) (r : BitVec 5) (x : Vec) : (t.wv r x).pc = t.pc := rfl
@[simp] theorem Slot.wv_latch (t : Slot) (r : BitVec 5) (x : Vec) : (t.wv r x).latch = t.latch := rfl
@[simp] theorem Slot.wv_pfxp (t : Slot) (r : BitVec 5) (x : Vec) : (t.wv r x).pfxp = t.pfxp := rfl
@[simp] theorem Slot.wv_unord (t : Slot) (r : BitVec 5) (x : Vec) : (t.wv r x).unord = t.unord := rfl
@[simp] theorem Slot.wv_prio (t : Slot) (r : BitVec 5) (x : Vec) : (t.wv r x).prio = t.prio := rfl
@[simp] theorem Slot.wv_gang (t : Slot) (r : BitVec 5) (x : Vec) : (t.wv r x).gang = t.gang := rfl
@[simp] theorem Slot.wv_taskid (t : Slot) (r : BitVec 5) (x : Vec) : (t.wv r x).taskid = t.taskid := rfl
@[simp] theorem Slot.wv_ctx (t : Slot) (r : BitVec 5) (x : Vec) : (t.wv r x).ctx = t.ctx := rfl
@[simp] theorem Slot.wv_gk (t : Slot) (r : BitVec 5) (x : Vec) : (t.wv r x).gk = t.gk := rfl
@[simp] theorem Slot.wv_lane (t : Slot) (r : BitVec 5) (x : Vec) : (t.wv r x).lane = t.lane := rfl
@[simp] theorem Slot.wv_tsinh (t : Slot) (r : BitVec 5) (x : Vec) : (t.wv r x).tsinh = t.tsinh := rfl
@[simp] theorem Slot.wv_avt (t : Slot) (r : BitVec 5) (x : Vec) : (t.wv r x).avt = t.avt := rfl
@[simp] theorem Slot.wv_rm (t : Slot) (r : BitVec 5) (x : Vec) : (t.wv r x).rm = t.rm := rfl
@[simp] theorem Slot.wv_fflags (t : Slot) (r : BitVec 5) (x : Vec) : (t.wv r x).fflags = t.fflags := rfl
@[simp] theorem Slot.wv_nfs (t : Slot) (r : BitVec 5) (x : Vec) : (t.wv r x).nfs = t.nfs := rfl
@[simp] theorem Slot.wv_nfq (t : Slot) (r : BitVec 5) (x : Vec) : (t.wv r x).nfq = t.nfq := rfl
@[simp] theorem Slot.wv_tie (t : Slot) (r : BitVec 5) (x : Vec) : (t.wv r x).tie = t.tie := rfl
@[simp] theorem Slot.wv_gstat (t : Slot) (r : BitVec 5) (x : Vec) : (t.wv r x).gstat = t.gstat := rfl
@[simp] theorem Slot.wv_tcause (t : Slot) (r : BitVec 5) (x : Vec) : (t.wv r x).tcause = t.tcause := rfl
@[simp] theorem Slot.wv_tval (t : Slot) (r : BitVec 5) (x : Vec) : (t.wv r x).tval = t.tval := rfl
@[simp] theorem Slot.wv_tepc (t : Slot) (r : BitVec 5) (x : Vec) : (t.wv r x).tepc = t.tepc := rfl
@[simp] theorem Slot.wv_ttile (t : Slot) (r : BitVec 5) (x : Vec) : (t.wv r x).ttile = t.ttile := rfl
@[simp] theorem Slot.wv_ttask (t : Slot) (r : BitVec 5) (x : Vec) : (t.wv r x).ttask = t.ttask := rfl
@[simp] theorem Slot.wv_taddr (t : Slot) (r : BitVec 5) (x : Vec) : (t.wv r x).taddr = t.taddr := rfl
@[simp] theorem Slot.wv_limit (t : Slot) (r : BitVec 5) (x : Vec) : (t.wv r x).limit = t.limit := rfl
@[simp] theorem Slot.wv_left (t : Slot) (r : BitVec 5) (x : Vec) : (t.wv r x).left = t.left := rfl
@[simp] theorem Slot.wv_emitto (t : Slot) (r : BitVec 5) (x : Vec) : (t.wv r x).emitto = t.emitto := rfl
@[simp] theorem Slot.wv_hintdrop (t : Slot) (r : BitVec 5) (x : Vec) : (t.wv r x).hintdrop = t.hintdrop := rfl
@[simp] theorem Slot.wv_barto (t : Slot) (r : BitVec 5) (x : Vec) : (t.wv r x).barto = t.barto := rfl
@[simp] theorem Slot.wv_life (t : Slot) (r : BitVec 5) (x : Vec) : (t.wv r x).life = t.life := rfl
@[simp] theorem Slot.wv_frozen (t : Slot) (r : BitVec 5) (x : Vec) : (t.wv r x).frozen = t.frozen := rfl
@[simp] theorem Slot.wv_freezeNum (t : Slot) (r : BitVec 5) (x : Vec) : (t.wv r x).freezeNum = t.freezeNum := rfl
@[simp] theorem Slot.wv_thaw (t : Slot) (r : BitVec 5) (x : Vec) : (t.wv r x).thaw = t.thaw := rfl
@[simp] theorem Slot.wv_stopAt (t : Slot) (r : BitVec 5) (x : Vec) : (t.wv r x).stopAt = t.stopAt := rfl
@[simp] theorem Slot.wv_feed (t : Slot) (r : BitVec 5) (x : Vec) : (t.wv r x).feed = t.feed := rfl
@[simp] theorem Slot.wv_reply (t : Slot) (r : BitVec 5) (x : Vec) : (t.wv r x).reply = t.reply := rfl
@[simp] theorem Slot.wv_ask (t : Slot) (r : BitVec 5) (x : Vec) : (t.wv r x).ask = t.ask := rfl
@[simp] theorem Slot.wv_got (t : Slot) (r : BitVec 5) (x : Vec) : (t.wv r x).got = t.got := rfl
@[simp] theorem Slot.wv_begun (t : Slot) (r : BitVec 5) (x : Vec) : (t.wv r x).begun = t.begun := rfl
@[simp] theorem Slot.wv_loads (t : Slot) (r : BitVec 5) (x : Vec) : (t.wv r x).loads = t.loads := rfl
@[simp] theorem Slot.wv_held (t : Slot) (r : BitVec 5) (x : Vec) : (t.wv r x).held = t.held := rfl
@[simp] theorem Slot.wv_arms (t : Slot) (r : BitVec 5) (x : Vec) : (t.wv r x).arms = t.arms := rfl
@[simp] theorem Slot.wv_awaiting (t : Slot) (r : BitVec 5) (x : Vec) : (t.wv r x).awaiting = t.awaiting := rfl
@[simp] theorem Slot.wv_origin (t : Slot) (r : BitVec 5) (x : Vec) : (t.wv r x).origin = t.origin := rfl
@[simp] theorem Slot.wv_handler (t : Slot) (r : BitVec 5) (x : Vec) : (t.wv r x).handler = t.handler := rfl
@[simp] theorem Slot.wv_join (t : Slot) (r : BitVec 5) (x : Vec) : (t.wv r x).join = t.join := rfl
@[simp] theorem Slot.wv_pins (t : Slot) (r : BitVec 5) (x : Vec) : (t.wv r x).pins = t.pins := rfl
@[simp] theorem Slot.wv_reader (t : Slot) (r : BitVec 5) (x : Vec) : (t.wv r x).reader = t.reader := rfl
@[simp] theorem Slot.wv_rbanks (t : Slot) (r : BitVec 5) (x : Vec) : (t.wv r x).rbanks = t.rbanks := rfl
@[simp] theorem Slot.wv_predicate (t : Slot) (r : BitVec 5) (x : Vec) : (t.wv r x).predicate = t.predicate := rfl
@[simp] theorem Slot.wv_walkFail (t : Slot) (r : BitVec 5) (x : Vec) : (t.wv r x).walkFail = t.walkFail := rfl
@[simp] theorem Slot.wv_relBegun (t : Slot) (r : BitVec 5) (x : Vec) : (t.wv r x).relBegun = t.relBegun := rfl
@[simp] theorem Slot.wv_relUpto (t : Slot) (r : BitVec 5) (x : Vec) : (t.wv r x).relUpto = t.relUpto := rfl
@[simp] theorem Slot.wv_relDone (t : Slot) (r : BitVec 5) (x : Vec) : (t.wv r x).relDone = t.relDone := rfl
@[simp] theorem Slot.wv_leader (t : Slot) (r : BitVec 5) (x : Vec) : (t.wv r x).leader = t.leader := rfl
@[simp] theorem Slot.wv_bundles (t : Slot) (r : BitVec 5) (x : Vec) : (t.wv r x).bundles = t.bundles := rfl
@[simp] theorem Slot.wv_issued (t : Slot) (r : BitVec 5) (x : Vec) : (t.wv r x).issued = t.issued := rfl
@[simp] theorem Slot.wv_answer (t : Slot) (r : BitVec 5) (x : Vec) : (t.wv r x).answer = t.answer := rfl
@[simp] theorem Slot.wv_copy (t : Slot) (r : BitVec 5) (x : Vec) : (t.wv r x).copy = t.copy := rfl
@[simp] theorem Slot.wv_agreed (t : Slot) (r : BitVec 5) (x : Vec) : (t.wv r x).agreed = t.agreed := rfl
@[simp] theorem Slot.wv_probes (t : Slot) (r : BitVec 5) (x : Vec) : (t.wv r x).probes = t.probes := rfl
@[simp] theorem Slot.wv_stealing (t : Slot) (r : BitVec 5) (x : Vec) : (t.wv r x).stealing = t.stealing := rfl
@[simp] theorem Slot.wv_started (t : Slot) (r : BitVec 5) (x : Vec) : (t.wv r x).started = t.started := rfl
@[simp] theorem Slot.wv_cbreq (t : Slot) (r : BitVec 5) (x : Vec) : (t.wv r x).cbreq = t.cbreq := rfl
@[simp] theorem Slot.wv_joinOn (t : Slot) (r : BitVec 5) (x : Vec) : (t.wv r x).joinOn = t.joinOn := rfl
@[simp] theorem Slot.wv_copying (t : Slot) (r : BitVec 5) (x : Vec) : (t.wv r x).copying = t.copying := rfl
@[simp] theorem Slot.wv_linkedAt (t : Slot) (r : BitVec 5) (x : Vec) : (t.wv r x).linkedAt = t.linkedAt := rfl
@[simp] theorem Slot.wv_wq (t : Slot) (r : BitVec 5) (x : Vec) : (t.wv r x).wq = t.wq := rfl
@[simp] theorem Slot.wv_woken (t : Slot) (r : BitVec 5) (x : Vec) : (t.wv r x).woken = t.woken := rfl
@[simp] theorem Slot.wv_mbLanding (t : Slot) (r : BitVec 5) (x : Vec) : (t.wv r x).mbLanding = t.mbLanding := rfl
@[simp] theorem Slot.wv_mbNew (t : Slot) (r : BitVec 5) (x : Vec) : (t.wv r x).mbNew = t.mbNew := rfl
@[simp] theorem Slot.wm_g (t : Slot) (r : Nat) (x : Word) : (t.wm r x).g = t.g := by unfold Slot.wm; split <;> rfl
@[simp] theorem Slot.wm_v (t : Slot) (r : Nat) (x : Word) : (t.wm r x).v = t.v := by unfold Slot.wm; split <;> rfl
@[simp] theorem Slot.wm_ev (t : Slot) (r : Nat) (x : Word) : (t.wm r x).ev = t.ev := by unfold Slot.wm; split <;> rfl
@[simp] theorem Slot.wm_mb (t : Slot) (r : Nat) (x : Word) : (t.wm r x).mb = t.mb := by unfold Slot.wm; split <;> rfl
@[simp] theorem Slot.wm_mbFull (t : Slot) (r : Nat) (x : Word) : (t.wm r x).mbFull = t.mbFull := by unfold Slot.wm; split <;> rfl
@[simp] theorem Slot.wm_pc (t : Slot) (r : Nat) (x : Word) : (t.wm r x).pc = t.pc := by unfold Slot.wm; split <;> rfl
@[simp] theorem Slot.wm_latch (t : Slot) (r : Nat) (x : Word) : (t.wm r x).latch = t.latch := by unfold Slot.wm; split <;> rfl
@[simp] theorem Slot.wm_pfxp (t : Slot) (r : Nat) (x : Word) : (t.wm r x).pfxp = t.pfxp := by unfold Slot.wm; split <;> rfl
@[simp] theorem Slot.wm_unord (t : Slot) (r : Nat) (x : Word) : (t.wm r x).unord = t.unord := by unfold Slot.wm; split <;> rfl
@[simp] theorem Slot.wm_prio (t : Slot) (r : Nat) (x : Word) : (t.wm r x).prio = t.prio := by unfold Slot.wm; split <;> rfl
@[simp] theorem Slot.wm_gang (t : Slot) (r : Nat) (x : Word) : (t.wm r x).gang = t.gang := by unfold Slot.wm; split <;> rfl
@[simp] theorem Slot.wm_taskid (t : Slot) (r : Nat) (x : Word) : (t.wm r x).taskid = t.taskid := by unfold Slot.wm; split <;> rfl
@[simp] theorem Slot.wm_ctx (t : Slot) (r : Nat) (x : Word) : (t.wm r x).ctx = t.ctx := by unfold Slot.wm; split <;> rfl
@[simp] theorem Slot.wm_gk (t : Slot) (r : Nat) (x : Word) : (t.wm r x).gk = t.gk := by unfold Slot.wm; split <;> rfl
@[simp] theorem Slot.wm_lane (t : Slot) (r : Nat) (x : Word) : (t.wm r x).lane = t.lane := by unfold Slot.wm; split <;> rfl
@[simp] theorem Slot.wm_tsinh (t : Slot) (r : Nat) (x : Word) : (t.wm r x).tsinh = t.tsinh := by unfold Slot.wm; split <;> rfl
@[simp] theorem Slot.wm_avt (t : Slot) (r : Nat) (x : Word) : (t.wm r x).avt = t.avt := by unfold Slot.wm; split <;> rfl
@[simp] theorem Slot.wm_rm (t : Slot) (r : Nat) (x : Word) : (t.wm r x).rm = t.rm := by unfold Slot.wm; split <;> rfl
@[simp] theorem Slot.wm_fflags (t : Slot) (r : Nat) (x : Word) : (t.wm r x).fflags = t.fflags := by unfold Slot.wm; split <;> rfl
@[simp] theorem Slot.wm_nfs (t : Slot) (r : Nat) (x : Word) : (t.wm r x).nfs = t.nfs := by unfold Slot.wm; split <;> rfl
@[simp] theorem Slot.wm_nfq (t : Slot) (r : Nat) (x : Word) : (t.wm r x).nfq = t.nfq := by unfold Slot.wm; split <;> rfl
@[simp] theorem Slot.wm_tie (t : Slot) (r : Nat) (x : Word) : (t.wm r x).tie = t.tie := by unfold Slot.wm; split <;> rfl
@[simp] theorem Slot.wm_gstat (t : Slot) (r : Nat) (x : Word) : (t.wm r x).gstat = t.gstat := by unfold Slot.wm; split <;> rfl
@[simp] theorem Slot.wm_tcause (t : Slot) (r : Nat) (x : Word) : (t.wm r x).tcause = t.tcause := by unfold Slot.wm; split <;> rfl
@[simp] theorem Slot.wm_tval (t : Slot) (r : Nat) (x : Word) : (t.wm r x).tval = t.tval := by unfold Slot.wm; split <;> rfl
@[simp] theorem Slot.wm_tepc (t : Slot) (r : Nat) (x : Word) : (t.wm r x).tepc = t.tepc := by unfold Slot.wm; split <;> rfl
@[simp] theorem Slot.wm_ttile (t : Slot) (r : Nat) (x : Word) : (t.wm r x).ttile = t.ttile := by unfold Slot.wm; split <;> rfl
@[simp] theorem Slot.wm_ttask (t : Slot) (r : Nat) (x : Word) : (t.wm r x).ttask = t.ttask := by unfold Slot.wm; split <;> rfl
@[simp] theorem Slot.wm_taddr (t : Slot) (r : Nat) (x : Word) : (t.wm r x).taddr = t.taddr := by unfold Slot.wm; split <;> rfl
@[simp] theorem Slot.wm_limit (t : Slot) (r : Nat) (x : Word) : (t.wm r x).limit = t.limit := by unfold Slot.wm; split <;> rfl
@[simp] theorem Slot.wm_left (t : Slot) (r : Nat) (x : Word) : (t.wm r x).left = t.left := by unfold Slot.wm; split <;> rfl
@[simp] theorem Slot.wm_emitto (t : Slot) (r : Nat) (x : Word) : (t.wm r x).emitto = t.emitto := by unfold Slot.wm; split <;> rfl
@[simp] theorem Slot.wm_hintdrop (t : Slot) (r : Nat) (x : Word) : (t.wm r x).hintdrop = t.hintdrop := by unfold Slot.wm; split <;> rfl
@[simp] theorem Slot.wm_barto (t : Slot) (r : Nat) (x : Word) : (t.wm r x).barto = t.barto := by unfold Slot.wm; split <;> rfl
@[simp] theorem Slot.wm_life (t : Slot) (r : Nat) (x : Word) : (t.wm r x).life = t.life := by unfold Slot.wm; split <;> rfl
@[simp] theorem Slot.wm_frozen (t : Slot) (r : Nat) (x : Word) : (t.wm r x).frozen = t.frozen := by unfold Slot.wm; split <;> rfl
@[simp] theorem Slot.wm_freezeNum (t : Slot) (r : Nat) (x : Word) : (t.wm r x).freezeNum = t.freezeNum := by unfold Slot.wm; split <;> rfl
@[simp] theorem Slot.wm_thaw (t : Slot) (r : Nat) (x : Word) : (t.wm r x).thaw = t.thaw := by unfold Slot.wm; split <;> rfl
@[simp] theorem Slot.wm_stopAt (t : Slot) (r : Nat) (x : Word) : (t.wm r x).stopAt = t.stopAt := by unfold Slot.wm; split <;> rfl
@[simp] theorem Slot.wm_feed (t : Slot) (r : Nat) (x : Word) : (t.wm r x).feed = t.feed := by unfold Slot.wm; split <;> rfl
@[simp] theorem Slot.wm_reply (t : Slot) (r : Nat) (x : Word) : (t.wm r x).reply = t.reply := by unfold Slot.wm; split <;> rfl
@[simp] theorem Slot.wm_ask (t : Slot) (r : Nat) (x : Word) : (t.wm r x).ask = t.ask := by unfold Slot.wm; split <;> rfl
@[simp] theorem Slot.wm_got (t : Slot) (r : Nat) (x : Word) : (t.wm r x).got = t.got := by unfold Slot.wm; split <;> rfl
@[simp] theorem Slot.wm_begun (t : Slot) (r : Nat) (x : Word) : (t.wm r x).begun = t.begun := by unfold Slot.wm; split <;> rfl
@[simp] theorem Slot.wm_loads (t : Slot) (r : Nat) (x : Word) : (t.wm r x).loads = t.loads := by unfold Slot.wm; split <;> rfl
@[simp] theorem Slot.wm_held (t : Slot) (r : Nat) (x : Word) : (t.wm r x).held = t.held := by unfold Slot.wm; split <;> rfl
@[simp] theorem Slot.wm_arms (t : Slot) (r : Nat) (x : Word) : (t.wm r x).arms = t.arms := by unfold Slot.wm; split <;> rfl
@[simp] theorem Slot.wm_awaiting (t : Slot) (r : Nat) (x : Word) : (t.wm r x).awaiting = t.awaiting := by unfold Slot.wm; split <;> rfl
@[simp] theorem Slot.wm_origin (t : Slot) (r : Nat) (x : Word) : (t.wm r x).origin = t.origin := by unfold Slot.wm; split <;> rfl
@[simp] theorem Slot.wm_handler (t : Slot) (r : Nat) (x : Word) : (t.wm r x).handler = t.handler := by unfold Slot.wm; split <;> rfl
@[simp] theorem Slot.wm_join (t : Slot) (r : Nat) (x : Word) : (t.wm r x).join = t.join := by unfold Slot.wm; split <;> rfl
@[simp] theorem Slot.wm_pins (t : Slot) (r : Nat) (x : Word) : (t.wm r x).pins = t.pins := by unfold Slot.wm; split <;> rfl
@[simp] theorem Slot.wm_reader (t : Slot) (r : Nat) (x : Word) : (t.wm r x).reader = t.reader := by unfold Slot.wm; split <;> rfl
@[simp] theorem Slot.wm_rbanks (t : Slot) (r : Nat) (x : Word) : (t.wm r x).rbanks = t.rbanks := by unfold Slot.wm; split <;> rfl
@[simp] theorem Slot.wm_predicate (t : Slot) (r : Nat) (x : Word) : (t.wm r x).predicate = t.predicate := by unfold Slot.wm; split <;> rfl
@[simp] theorem Slot.wm_walkFail (t : Slot) (r : Nat) (x : Word) : (t.wm r x).walkFail = t.walkFail := by unfold Slot.wm; split <;> rfl
@[simp] theorem Slot.wm_relBegun (t : Slot) (r : Nat) (x : Word) : (t.wm r x).relBegun = t.relBegun := by unfold Slot.wm; split <;> rfl
@[simp] theorem Slot.wm_relUpto (t : Slot) (r : Nat) (x : Word) : (t.wm r x).relUpto = t.relUpto := by unfold Slot.wm; split <;> rfl
@[simp] theorem Slot.wm_relDone (t : Slot) (r : Nat) (x : Word) : (t.wm r x).relDone = t.relDone := by unfold Slot.wm; split <;> rfl
@[simp] theorem Slot.wm_leader (t : Slot) (r : Nat) (x : Word) : (t.wm r x).leader = t.leader := by unfold Slot.wm; split <;> rfl
@[simp] theorem Slot.wm_bundles (t : Slot) (r : Nat) (x : Word) : (t.wm r x).bundles = t.bundles := by unfold Slot.wm; split <;> rfl
@[simp] theorem Slot.wm_issued (t : Slot) (r : Nat) (x : Word) : (t.wm r x).issued = t.issued := by unfold Slot.wm; split <;> rfl
@[simp] theorem Slot.wm_answer (t : Slot) (r : Nat) (x : Word) : (t.wm r x).answer = t.answer := by unfold Slot.wm; split <;> rfl
@[simp] theorem Slot.wm_copy (t : Slot) (r : Nat) (x : Word) : (t.wm r x).copy = t.copy := by unfold Slot.wm; split <;> rfl
@[simp] theorem Slot.wm_agreed (t : Slot) (r : Nat) (x : Word) : (t.wm r x).agreed = t.agreed := by unfold Slot.wm; split <;> rfl
@[simp] theorem Slot.wm_probes (t : Slot) (r : Nat) (x : Word) : (t.wm r x).probes = t.probes := by unfold Slot.wm; split <;> rfl
@[simp] theorem Slot.wm_stealing (t : Slot) (r : Nat) (x : Word) : (t.wm r x).stealing = t.stealing := by unfold Slot.wm; split <;> rfl
@[simp] theorem Slot.wm_started (t : Slot) (r : Nat) (x : Word) : (t.wm r x).started = t.started := by unfold Slot.wm; split <;> rfl
@[simp] theorem Slot.wm_cbreq (t : Slot) (r : Nat) (x : Word) : (t.wm r x).cbreq = t.cbreq := by unfold Slot.wm; split <;> rfl
@[simp] theorem Slot.wm_joinOn (t : Slot) (r : Nat) (x : Word) : (t.wm r x).joinOn = t.joinOn := by unfold Slot.wm; split <;> rfl
@[simp] theorem Slot.wm_copying (t : Slot) (r : Nat) (x : Word) : (t.wm r x).copying = t.copying := by unfold Slot.wm; split <;> rfl
@[simp] theorem Slot.wm_linkedAt (t : Slot) (r : Nat) (x : Word) : (t.wm r x).linkedAt = t.linkedAt := by unfold Slot.wm; split <;> rfl
@[simp] theorem Slot.wm_wq (t : Slot) (r : Nat) (x : Word) : (t.wm r x).wq = t.wq := by unfold Slot.wm; split <;> rfl
@[simp] theorem Slot.wm_woken (t : Slot) (r : Nat) (x : Word) : (t.wm r x).woken = t.woken := by unfold Slot.wm; split <;> rfl
@[simp] theorem Slot.wm_mbLanding (t : Slot) (r : Nat) (x : Word) : (t.wm r x).mbLanding = t.mbLanding := by unfold Slot.wm; split <;> rfl
@[simp] theorem Slot.wm_mbNew (t : Slot) (r : Nat) (x : Word) : (t.wm r x).mbNew = t.mbNew := by unfold Slot.wm; split <;> rfl
@[simp] theorem Slot.settle_g (t : Slot) : t.settle.g = t.g := rfl
@[simp] theorem Slot.settle_v (t : Slot) : t.settle.v = t.v := rfl
@[simp] theorem Slot.settle_m (t : Slot) : t.settle.m = t.m := rfl
@[simp] theorem Slot.settle_ev (t : Slot) : t.settle.ev = t.ev := rfl
@[simp] theorem Slot.settle_mb (t : Slot) : t.settle.mb = t.mb := rfl
@[simp] theorem Slot.settle_mbFull (t : Slot) : t.settle.mbFull = t.mbFull := rfl
@[simp] theorem Slot.settle_pc (t : Slot) : t.settle.pc = t.pc := rfl
@[simp] theorem Slot.settle_latch (t : Slot) : t.settle.latch = t.latch := rfl
@[simp] theorem Slot.settle_unord (t : Slot) : t.settle.unord = t.unord := rfl
@[simp] theorem Slot.settle_prio (t : Slot) : t.settle.prio = t.prio := rfl
@[simp] theorem Slot.settle_gang (t : Slot) : t.settle.gang = t.gang := rfl
@[simp] theorem Slot.settle_taskid (t : Slot) : t.settle.taskid = t.taskid := rfl
@[simp] theorem Slot.settle_ctx (t : Slot) : t.settle.ctx = t.ctx := rfl
@[simp] theorem Slot.settle_gk (t : Slot) : t.settle.gk = t.gk := rfl
@[simp] theorem Slot.settle_lane (t : Slot) : t.settle.lane = t.lane := rfl
@[simp] theorem Slot.settle_tsinh (t : Slot) : t.settle.tsinh = t.tsinh := rfl
@[simp] theorem Slot.settle_avt (t : Slot) : t.settle.avt = t.avt := rfl
@[simp] theorem Slot.settle_rm (t : Slot) : t.settle.rm = t.rm := rfl
@[simp] theorem Slot.settle_fflags (t : Slot) : t.settle.fflags = t.fflags := rfl
@[simp] theorem Slot.settle_nfs (t : Slot) : t.settle.nfs = t.nfs := rfl
@[simp] theorem Slot.settle_nfq (t : Slot) : t.settle.nfq = t.nfq := rfl
@[simp] theorem Slot.settle_tie (t : Slot) : t.settle.tie = t.tie := rfl
@[simp] theorem Slot.settle_gstat (t : Slot) : t.settle.gstat = t.gstat := rfl
@[simp] theorem Slot.settle_tcause (t : Slot) : t.settle.tcause = t.tcause := rfl
@[simp] theorem Slot.settle_tval (t : Slot) : t.settle.tval = t.tval := rfl
@[simp] theorem Slot.settle_tepc (t : Slot) : t.settle.tepc = t.tepc := rfl
@[simp] theorem Slot.settle_ttile (t : Slot) : t.settle.ttile = t.ttile := rfl
@[simp] theorem Slot.settle_ttask (t : Slot) : t.settle.ttask = t.ttask := rfl
@[simp] theorem Slot.settle_taddr (t : Slot) : t.settle.taddr = t.taddr := rfl
@[simp] theorem Slot.settle_limit (t : Slot) : t.settle.limit = t.limit := rfl
@[simp] theorem Slot.settle_left (t : Slot) : t.settle.left = t.left := rfl
@[simp] theorem Slot.settle_emitto (t : Slot) : t.settle.emitto = t.emitto := rfl
@[simp] theorem Slot.settle_hintdrop (t : Slot) : t.settle.hintdrop = t.hintdrop := rfl
@[simp] theorem Slot.settle_barto (t : Slot) : t.settle.barto = t.barto := rfl
@[simp] theorem Slot.settle_frozen (t : Slot) : t.settle.frozen = t.frozen := rfl
@[simp] theorem Slot.settle_freezeNum (t : Slot) : t.settle.freezeNum = t.freezeNum := rfl
@[simp] theorem Slot.settle_thaw (t : Slot) : t.settle.thaw = t.thaw := rfl
@[simp] theorem Slot.settle_stopAt (t : Slot) : t.settle.stopAt = t.stopAt := rfl
@[simp] theorem Slot.settle_reply (t : Slot) : t.settle.reply = t.reply := rfl
@[simp] theorem Slot.settle_loads (t : Slot) : t.settle.loads = t.loads := rfl
@[simp] theorem Slot.settle_arms (t : Slot) : t.settle.arms = t.arms := rfl
@[simp] theorem Slot.settle_origin (t : Slot) : t.settle.origin = t.origin := rfl
@[simp] theorem Slot.settle_handler (t : Slot) : t.settle.handler = t.handler := rfl
@[simp] theorem Slot.settle_join (t : Slot) : t.settle.join = t.join := rfl
@[simp] theorem Slot.settle_pins (t : Slot) : t.settle.pins = t.pins := rfl
@[simp] theorem Slot.settle_reader (t : Slot) : t.settle.reader = t.reader := rfl
@[simp] theorem Slot.settle_rbanks (t : Slot) : t.settle.rbanks = t.rbanks := rfl
@[simp] theorem Slot.settle_predicate (t : Slot) : t.settle.predicate = t.predicate := rfl
@[simp] theorem Slot.settle_relUpto (t : Slot) : t.settle.relUpto = t.relUpto := rfl
@[simp] theorem Slot.settle_leader (t : Slot) : t.settle.leader = t.leader := rfl
@[simp] theorem Slot.settle_bundles (t : Slot) : t.settle.bundles = t.bundles := rfl
@[simp] theorem Slot.settle_answer (t : Slot) : t.settle.answer = t.answer := rfl
@[simp] theorem Slot.settle_probes (t : Slot) : t.settle.probes = t.probes := rfl
@[simp] theorem Slot.settle_stealing (t : Slot) : t.settle.stealing = t.stealing := rfl
@[simp] theorem Slot.settle_copying (t : Slot) : t.settle.copying = t.copying := rfl
@[simp] theorem Slot.settle_linkedAt (t : Slot) : t.settle.linkedAt = t.linkedAt := rfl
@[simp] theorem Slot.settle_mbLanding (t : Slot) : t.settle.mbLanding = t.mbLanding := rfl
@[simp] theorem Slot.settle_mbNew (t : Slot) : t.settle.mbNew = t.mbNew := rfl
@[simp] theorem Slot.settle_pfxp (t : Slot) : t.settle.pfxp = false := rfl
@[simp] theorem Slot.settle_begun (t : Slot) : t.settle.begun = none := rfl
@[simp] theorem Slot.settle_cbreq (t : Slot) : t.settle.cbreq = none := rfl
@[simp] theorem Slot.settle_got (t : Slot) : t.settle.got = none := rfl
@[simp] theorem Slot.settle_ask (t : Slot) : t.settle.ask = none := rfl
@[simp] theorem Slot.settle_walkFail (t : Slot) : t.settle.walkFail = none := rfl
@[simp] theorem Slot.settle_issued (t : Slot) : t.settle.issued = t.issued + 1 := rfl
@[simp] theorem Slot.rg_zero (t : Slot) : t.rg 0#5 = 0#64 := rfl
theorem Slot.rg_wg (t : Slot) (r d : BitVec 5) (x : Word) (h : d ≠ 0) : (t.wg d x).rg r = if r = d then x else t.rg r := by
  unfold Slot.wg Slot.rg
  rw [if_neg h]
  have hn : (d.toNat = r.toNat) ↔ r = d := ⟨fun e => (BitVec.eq_of_toNat_eq e).symm, fun e => e ▸ rfl⟩
  by_cases h0 : r = 0
  · rw [if_pos h0, if_neg (fun e : r = d => h (e ▸ h0)), if_pos h0]
  · rw [if_neg h0, if_neg h0, Vector.getElem_set]
    simp only [hn]
@[simp] theorem Slot.rg_wg_self (t : Slot) (d : BitVec 5) (x : Word) (h : d ≠ 0) : (t.wg d x).rg d = x := by
  simp [Slot.rg_wg t d d x h]
theorem Slot.rg_wg_ne (t : Slot) (r d : BitVec 5) (x : Word) (h : r ≠ d) : (t.wg d x).rg r = t.rg r := by
  by_cases hd : d = 0
  · simp [Slot.wg, hd]
  · simp [Slot.rg_wg t r d x hd, h]
@[simp] theorem Slot.wg_zero (t : Slot) (x : Word) : t.wg 0#5 x = t := rfl
theorem Slot.rv_wv (t : Slot) (r d : BitVec 5) (x : Vec) : (t.wv d x).rv r = if r = d then x else t.rv r := by
  have hn : (d.toNat = r.toNat) ↔ r = d := ⟨fun e => (BitVec.eq_of_toNat_eq e).symm, fun e => e ▸ rfl⟩
  simp [Slot.wv, Slot.rv, Vector.getElem_set, hn]
theorem Slot.rm_wm (t : Slot) (r d : Nat) (x : Word) (h : d % 8 ≠ 0) :
    (t.wm d x).rm' r = if r % 8 = d % 8 then x else t.rm' r := by
  unfold Slot.wm Slot.rm'
  simp only [h, if_false]
  have hd := Nat.mod_lt d (show 0 < 8 by decide)
  have hr := Nat.mod_lt r (show 0 < 8 by decide)
  by_cases h0 : r % 8 = 0
  · simp [h0]; omega
  · simp only [h0, if_false, Vector.getElem?_setIfInBounds]
    by_cases e : d % 8 = r % 8
    · simp [e, hr]
    · have e' : ¬ r % 8 = d % 8 := fun h => e h.symm
      simp [e, e', hr]
@[simp] theorem Slot.rg_settle (t : Slot) (r : BitVec 5) : t.settle.rg r = t.rg r := rfl
@[simp] theorem Slot.rv_settle (t : Slot) (r : BitVec 5) : t.settle.rv r = t.rv r := rfl
@[simp] theorem Slot.rm_settle (t : Slot) (r : Nat) : t.settle.rm' r = t.rm' r := rfl
@[simp] theorem State.rg_setMe (s : State) (x : Slot) (r : BitVec 5) : (s.setMe x).rg r = x.rg r := by simp [State.rg]
@[simp] theorem State.rv_setMe (s : State) (x : Slot) (r : BitVec 5) : (s.setMe x).rv r = x.rv r := by simp [State.rv]
@[simp] theorem State.rmask_setMe (s : State) (x : Slot) (r : Nat) : (s.setMe x).rmask r = x.rm' r := by simp [State.rmask]
@[simp] theorem State.rg_zero (s : State) : s.rg 0#5 = 0#64 := rfl
@[simp] theorem State.me_wg (s : State) (r : BitVec 5) (x : Word) : (s.wg r x).me = s.me.wg r x := by simp [State.wg]
@[simp] theorem State.me_wv (s : State) (r : BitVec 5) (x : Vec) : (s.wv r x).me = s.me.wv r x := by simp [State.wv]
@[simp] theorem State.me_wmask (s : State) (r : Nat) (x : Word) : (s.wmask r x).me = s.me.wm r x := by simp [State.wmask]
@[simp] theorem State.me_orFlags (s : State) (f : Flags) : (s.orFlags f).me = { s.me with fflags := s.me.fflags ||| f } := by
  simp [State.orFlags]
@[simp] theorem State.me_goto (s : State) (p : Word) : (s.goto p).me = { s.me.settle with pc := p } := by simp [State.goto]
@[simp] theorem State.me_advance (s : State) : s.advance.me = { s.me.settle with pc := s.nextPc } := by
  simp [State.advance]
@[simp] theorem State.nextPc_wg (s : State) (r : BitVec 5) (x : Word) : (s.wg r x).nextPc = s.nextPc := by
  simp [State.nextPc]
@[simp] theorem State.nextPc_wv (s : State) (r : BitVec 5) (x : Vec) : (s.wv r x).nextPc = s.nextPc := by
  simp [State.nextPc]
@[simp] theorem State.nextPc_wmask (s : State) (r : Nat) (x : Word) : (s.wmask r x).nextPc = s.nextPc := by
  simp [State.nextPc]

/-! ### Runs of meanings -/

theorem M.bind_run {α β : Type} (x : M α) (f : α → M β) (s : State) :
    (x >>= f) s = match x s with
      | .ok (a, t) => f a t
      | .error e => .error e := by
  simp only [bind, StateT.bind, Except.bind]
  cases x s <;> rfl
theorem M.map_run {α β : Type} (f : α → β) (x : M α) (s : State) :
    (f <$> x) s = match x s with
      | .ok (a, t) => .ok (f a, t)
      | .error e => .error e := by
  show (x >>= fun a => pure (f a)) s = _
  rw [M.bind_run]; rfl
@[simp] theorem M.get_run (s : State) : (get : M State) s = .ok (s, s) := rfl
@[simp] theorem M.set_run (t s : State) : (set t : M PUnit) s = .ok ((), t) := rfl
@[simp] theorem M.modify_run (f : State → State) (s : State) : (modify f : M PUnit) s = .ok ((), f s) := rfl
@[simp] theorem M.pure_run {α : Type} (a : α) (s : State) : (pure a : M α) s = .ok (a, s) := rfl
@[simp] theorem getG_run (r : BitVec 5) (s : State) : getG r s = .ok (s.rg r, s) := rfl
@[simp] theorem retG_run (d : BitVec 5) (x : Word) (s : State) : retG d x s = .ok ((), (s.wg d x).advance) := rfl
@[simp] theorem done_run (s : State) : done s = .ok ((), s.advance) := rfl
@[simp] theorem waitFor_run {α : Type} (w : Wait) (s : State) : (waitFor w : M α) s = .error (.wait w s) := rfl
@[simp] theorem stopTrap_run {α : Type} (x : Trap) (s : State) : (stopTrap x : M α) s = .error (.trap x) := rfl
@[simp] theorem illegal_run {α : Type} (s : State) : (illegal : M α) s = .error (.trap (illegalTrap s)) := rfl
@[simp] theorem misaligned_run {α : Type} (n : Nat) (a : Word) (s : State) :
    (misaligned n a : M α) s = .error (.trap ⟨Cause.misaligned, BitVec.ofNat 64 n, a.setWidth 48⟩) := rfl
@[simp] theorem bounds_run {α : Type} (n : Nat) (a : Word) (s : State) :
    (bounds n a : M α) s = .error (.trap ⟨Cause.localBounds, BitVec.ofNat 64 n, a.setWidth 48⟩) := rfl
@[simp] theorem raise_run {α : Type} (c : BitVec 8) (v : Word) (a : BitVec 48) (s : State) :
    (raise c v a : M α) s = .error (.trap ⟨c, v, a⟩) := rfl
@[simp] theorem replyLater_run (d : BitVec 5) (n : Nat) (s : State) : replyLater d n s =
    .ok ((), (s.advance).modMe (fun t => { t with reply := some (d, n), life := .stalled .reply })) := rfl
theorem outbound_alone (a : Word) (l k : List Word) (s : State) (h : s.paired = false) : outbound a l k s = .ok (true, s) := by
  simp [outbound, h]
theorem obtained_alone (x : M (List Word)) (s : State) (h : s.paired = false) : obtained x s = x s := by
  simp [obtained, h]
theorem leaderOnly_leads (d : BitVec 5) (x : M Unit) (s : State) (h : s.follower = false) : leaderOnly d x s = x s := by
  simp [leaderOnly, h]
theorem retOnce_alone (d : BitVec 5) (x : Word) (s : State) (h : s.paired = false) :
    retOnce d x s = .ok ((), (s.wg d x).advance) := by
  simp [retOnce, readOnce, M.bind_run, M.map_run, obtained_alone _ _ h]
@[simp] theorem finish_ok (s t : State) : finish s (.ok ((), t)) = .next t := rfl
@[simp] theorem finish_trap (s : State) (x : Trap) : finish s (.error (.trap x)) = .next (takeTrap s x) := rfl
@[simp] theorem finish_wait (s t : State) (w : Wait) : finish s (.error (.wait w t)) = .next (stall t w) := rfl
/-- A meaning always ends in a next state: completed, at its trap, or stalled. -/
theorem runM_next (x : M Unit) (s : State) : ∃ t, runM x s = .next t := by
  unfold runM
  rcases x s with (⟨x⟩ | ⟨w, t⟩) | ⟨_, t⟩ <;> exact ⟨_, rfl⟩

end Sys2Proof.Machine
end

