-- ==== Sys2Proof/Laws/Ops.lean ====
section
/-! SUPPORT. Laws of the shared operations: how a meaning ends, what a load, a store and an outbound effect do, and folds over lists. -/

namespace Sys2Proof.Machine

/-! ### How a meaning ends (R5) -/

/-- A meaning ends in one of three ways, and each is a next state. -/
theorem runM_cases (x : M Unit) (s : State) :
    (∃ t, x s = .ok ((), t) ∧ runM x s = .next t) ∨
    (∃ p, x s = .error (.trap p) ∧ runM x s = .next (takeTrap s p)) ∨
    (∃ w t, x s = .error (.wait w t) ∧ runM x s = .next (stall t w)) := by
  unfold runM finish
  cases h : x s with
  | ok p => exact .inl ⟨p.2, by rfl, by rfl⟩
  | error e => cases e with
    | trap p => exact .inr (.inl ⟨p, rfl, rfl⟩)
    | wait w t => exact .inr (.inr ⟨w, t, rfl, rfl⟩)
theorem runM_ok {x : M Unit} {s t : State} (h : x s = .ok ((), t)) : runM x s = .next t := by
  unfold runM; rw [h]; rfl
theorem runM_trap {x : M Unit} {s : State} {p : Trap} (h : x s = .error (.trap p)) : runM x s = .next (takeTrap s p) := by
  unfold runM; rw [h]; rfl
theorem runM_wait {x : M Unit} {s t : State} {w : Wait} (h : x s = .error (.wait w t)) : runM x s = .next (stall t w) := by
  unfold runM; rw [h]; rfl

/-! ### Folds -/

/-- What each element of a list keeps, the fold over the list keeps. -/
theorem foldl_inv {α β : Type} (P : β → Prop) (f : β → α → β) (l : List α) : ∀ b, P b → (∀ b a, a ∈ l → P b → P (f b a)) → P (l.foldl f b) := by
  induction l with
  | nil => exact fun b h _ => h
  | cons a t ih => exact fun b h k => ih _ (k b a (by simp) h) (fun b x hx => k b x (List.mem_cons_of_mem _ hx))

/-! ### Loads (R129, R130) -/

/-- A load whose bytes are at hand writes its destination at once. -/
theorem loadTo_ready (m : BitVec 2) (d : Dest) (f : Nat) (ps : List (Nat × Place)) (n : Nat) (s : State)
    (ls : List (Nat × List Byte)) (h : readyBytes m ps n s = some ls) : loadTo m d f ps n s = .ok ((), s.modMe (fun t => t.putLoad d f n ls)) := by
  simp only [loadTo, M.bind_run, M.get_run, h, M.set_run]
/-- Asking for the pieces of a load adds one lane for each, and leaves the issuing slot. -/
theorem askPieces (go : Bool) (n : Nat) (ps : List (Nat × Place)) : ∀ (s : State) (l : List (Nat × Nat)),
    (ps.foldl (askPiece go n) (s, l)).2.length = l.length + ps.length ∧
    (ps.foldl (askPiece go n) (s, l)).1.me = s.me ∧ (ps.foldl (askPiece go n) (s, l)).1.cur = s.cur := by
  induction ps with
  | nil => simp
  | cons p t ih =>
    intro s l
    obtain ⟨h1, h2, h3⟩ := ih (askPiece go n (s, l) p).1 (askPiece go n (s, l) p).2
    have e : (askPiece go n (s, l) p).2.length = l.length + 1 ∧ (askPiece go n (s, l) p).1.me = s.me ∧
        (askPiece go n (s, l) p).1.cur = s.cur := by
      unfold askPiece; split
      · simp
      · cases go <;> simp
    simp only [List.foldl_cons, List.length_cons]
    exact ⟨by rw [h1, e.1]; omega, h2.trans e.2.1, h3.trans e.2.2⟩
/-- A load whose bytes are not at hand, with a miss left, leaves one pending load with a lane for each piece. -/
theorem loadTo_later (m : BitVec 2) (d : Dest) (f : Nat) (ps : List (Nat × Place)) (n : Nat) (s : State)
    (h : readyBytes m ps n s = none) (h2 : m = 2 → s.me.misses < 8) : ∃ u l, loadTo m d f ps n s = .ok ((), u) ∧ u.me.loads = s.me.loads ++ [l] ∧ l.dest = d ∧ l.size = n ∧
      l.form = f ∧ l.pend.length = ps.length ∧ u.cur = s.cur := by
  simp only [loadTo, M.bind_run, M.get_run, h, issueLoad]
  rw [if_neg (by simp; intro a; exact h2 a)]
  obtain ⟨h1, h2, h3⟩ := askPieces (!s.paired || s.myCore % 2 == 0) n ps s []
  exact ⟨_, _, rfl, by rw [State.me_modMe, h2]; rfl, rfl, rfl, rfl, by simpa using h1, h3⟩
/-- A base update and the completion leave the pending loads. -/
theorem loads_based (s : State) (p : Bool) (b : BitVec 5) (nb : Word) : ((based s p b nb).advance).me.loads = s.me.loads := by
  unfold based
  split
  · simp [Slot.settle, Slot.wg]
    split <;> rfl
  · simp [Slot.settle]
theorem putBase_run (p : Bool) (b : BitVec 5) (nb : Word) (s : State) : putBase p b nb s = .ok ((), based s p b nb) := rfl

/-! ### Stores (R127, R315) -/

@[simp] theorem leBytes_length (n x : Nat) : (leBytes n x).length = n := by
  induction n generalizing x with
  | zero => rfl
  | succ n ih => simp [leBytes, ih]
/-- A store whose access is checked and whose outbound effect passes stores at the place that the check gives. -/
theorem storeTo_run (m : BitVec 2) (ea : Word) (l : List Byte) (s s1 : State) (p : Place) (go : Bool) (hp : Passes s1 go)
    (h : checkAccess m ea l.length .store s = .ok (p, s1)) : storeTo m ea l s = storeAt m p l go s1 := by
  simp only [storeTo, M.bind_run, h, hp _ _ _]
/-- Stores of lanes in mode .l put their bytes one after another. -/
theorem storeLanes_local (go : Bool) (l : List (Place × List Byte)) (s : State) :
    storeLanes 0 go l s = .ok ((), l.foldl (fun t q => match q.1 with
      | .at k => t.putBytes k q.2
      | .core .. => t) s) := by
  have e : State.storeLane 0 go = fun t q => match q.1 with
      | .at k => t.putBytes k q.2
      | .core .. => t := by
    funext t q; cases h : q.1 <;> simp [State.storeLane, h]
  simp only [storeLanes, e]; rfl
/-- Stores of lanes in mode .g: the L1 makes room for all of them, and their bytes stand there, dirty. -/
theorem storeLanes_global (l : List (Place × List Byte)) (s t : State)
    (h : s.l1Make s.myCore (l.map laneSector).dedup (l.map laneSector).dedup.length = some t) :
    storeLanes 2 true l s = .ok ((), l.foldl (State.storeLane 2 true) t) := by
  simp only [storeLanes, decide_true, Bool.and_true, if_true, M.bind_run, roomFor, h]; rfl
/-- A store in mode .g with room in the L1 and no load of its bytes outstanding puts them there, dirty. -/
theorem storeGlobal_run (a : Nat) (l : List Byte) (s t : State) (hl : s.me.loading a l.length = false)
    (h : s.l1Make s.myCore [a / 128] 1 = some t) : storeGlobal a l s = .ok ((), t.putGlobal a l) := by
  simp only [storeGlobal, M.bind_run, M.get_run, hl, Bool.false_eq_true, if_false, roomFor, List.length_singleton, h]; rfl
/-- What room in the L1 costs: memory and the other cores stand, and of the core's L1 only clean bytes may have left. -/
theorem l1Make_keeps (c : Nat) (secs : List Nat) : ∀ (n : Nat) (s t : State), s.l1Make c secs n = some t →
    t.mem = s.mem ∧ (∀ d, d ≠ c → t.core d = s.core d) ∧ (∀ p ∈ (t.core c).l1, p ∈ (s.core c).l1) ∧
      ∀ p ∈ (s.core c).l1, p.2.dirty = true → p ∈ (t.core c).l1
  | 0, s, t, h => by
    simp only [State.l1Make] at h
    split at h <;> cases h
    exact ⟨rfl, fun _ _ => rfl, fun _ h => h, fun _ h _ => h⟩
  | n + 1, s, t, h => by
    simp only [State.l1Make] at h
    split at h
    · cases h; exact ⟨rfl, fun _ _ => rfl, fun _ h => h, fun _ h _ => h⟩
    · split at h
      · cases h
      · rename_i x l e
        obtain ⟨hm, ho, hl, hd⟩ := l1Make_keeps c secs n _ t h
        rw [State.core_modCore_self] at hl hd
        refine ⟨hm, fun d h => (ho d h).trans (State.core_modCore_ne _ c d _ h), fun p h => (List.mem_filter.mp (hl p h)).1,
          fun p h k => hd p (List.mem_filter.mpr ⟨h, ?_⟩) k⟩
        have hx : ∀ y ∈ x :: l, (p.1 / 128 != y) = true := fun y hy => by
          rw [← e] at hy
          have := (List.mem_filter.mp hy).2
          simp only [Bool.and_eq_true, Bool.not_eq_true', List.any_eq_false] at this
          simpa [k] using this.2 p h
        refine hx _ ?_
        cases g : (x :: l)[Config.freeNat s.free % (l.length + 1)]? with
        | none => exact List.mem_cons_self ..
        | some y => exact List.mem_of_getElem? g
/-- An engine's access that no walk serves goes on at once. -/
theorem withWalks_nil (s : State) (v : Nat) (f : State → State) : s.withWalks v [] f = f s := rfl
/-- Once every entry that its walks brought has its place, an engine's access goes on (R341). -/
theorem withWalks_room (s u : State) (v : Nat) (new : List TlbEntry) (f : State → State) (h : s.fillWalks v new new = (u, true)) :
    s.withWalks v new f = f u := by
  simp only [State.withWalks, h, if_true]
/-- Outside a pair an outbound effect passes. -/
theorem passes_alone (s : State) (h : s.paired = false) : Passes s true := by
  intro a data lanes; simp only [outbound, h]; rfl

/-! ### Traps (R373) -/

/-- A trap is taken by the slot at its own core and slot number. -/
theorem takeTrap_eq (s : State) (x : Trap) : takeTrap s x = s.trapSlot s.myCore s.mySlot x := rfl
theorem exec_illegal (s : State) : runM illegal s = .next (takeTrap s (illegalTrap s)) := rfl

/-! ### Releases (R141) -/

@[simp] theorem State.writeBack_cur (s : State) (c sec : Nat) (tag : Option (Nat × Nat × Nat)) (drop : Bool) :
    (s.writeBack c sec tag drop).cur = s.cur := by
  unfold State.writeBack; split <;> rfl
@[simp] theorem State.beginRelease_cur (s : State) (n : Nat) : (s.beginRelease n).cur = s.cur := by
  unfold State.beginRelease
  split
  · rfl
  · exact foldl_inv (fun t : State => t.cur = s.cur) _ _ s rfl (fun b a _ h => (State.writeBack_cur b _ a _ _).trans h)
/-- A release that is done answers the state it leaves. -/
theorem release_run {s t : State} {n : Nat} (h : Released s n t) : release n s = .ok ((), t) := by
  unfold release
  rcases h with ⟨hd, rfl⟩ | ⟨hd, hr, rfl⟩
  · simp [hd]
  · have e : (s.beginRelease n).released (s.beginRelease n).myCore (s.beginRelease n).mySlot n = true := by
      simpa [State.myCore, State.mySlot] using hr
    simp [hd, e]

/-! ### Headland's harts (R385) -/

/-- `x0` reads 0 and discards what is written to it. -/
@[simp] theorem Hart.rx_zero (h : Hart) : h.rx 0 = 0 := rfl
@[simp] theorem Hart.wx_zero (h : Hart) (v : BitVec 32) : h.wx 0 v = h := rfl
theorem Hart.rx_wx (h : Hart) (r q : BitVec 5) (v : BitVec 32) (hr : r ≠ 0) :
    (h.wx r v).rx q = if q = r then v else h.rx q := by
  have hq : (r.toNat = q.toNat) ↔ q = r := ⟨fun e => (BitVec.eq_of_toNat_eq e).symm, fun e => by rw [e]⟩
  by_cases h0 : q = 0
  · subst h0; simp only [Hart.rx_zero, if_neg (Ne.symm hr)]
  · simp only [Hart.rx, Hart.wx, hr, h0, if_false]
    by_cases e : q = r
    · subst e; simp
    · simp [e, hq]

end Sys2Proof.Machine
end

