-- ==== Sys2Proof/Laws/PerInstr.lean ====
section
/-! SUPPORT. Families of facts proved of each constructor of `Instr`. -/

namespace Sys2Proof.Laws

/-- Exactly the rows that are instructions of a word have an encoding, and only an instruction of a word goes into a pair. -/
def Coded.Statement (i : Sys2Proof.Instr) : Prop := (encodeNat i).isSome = !i.isEvent ∧ (i.pairs = true → i.isEvent = false)

theorem Coded.nop : Coded.Statement (.nop) :=  ⟨rfl, fun _ => rfl⟩
theorem Coded.halt : Coded.Statement (.halt) :=  ⟨rfl, fun _ => rfl⟩
theorem Coded.haltr : ∀ x0 x1, Coded.Statement (.haltr x0 x1) := fun _ _ => ⟨rfl, fun _ => rfl⟩
theorem Coded.brk : ∀ x0, Coded.Statement (.brk x0) := fun _ => ⟨rfl, fun _ => rfl⟩
theorem Coded.sys : ∀ x0 x1 x2, Coded.Statement (.sys x0 x1 x2) := fun _ _ _ => ⟨rfl, fun _ => rfl⟩
theorem Coded.pfx : ∀ x0 x1 x2 x3 x4 x5 x6 x7, Coded.Statement (.pfx x0 x1 x2 x3 x4 x5 x6 x7) := fun _ _ _ _ _ _ _ _ => ⟨rfl, fun _ => rfl⟩
theorem Coded.br : ∀ x0, Coded.Statement (.br x0) := fun _ => ⟨rfl, fun _ => rfl⟩
theorem Coded.brl : ∀ x0, Coded.Statement (.brl x0) := fun _ => ⟨rfl, fun _ => rfl⟩
theorem Coded.jr : ∀ x0, Coded.Statement (.jr x0) := fun _ => ⟨rfl, fun _ => rfl⟩
theorem Coded.jrl : ∀ x0 x1, Coded.Statement (.jrl x0 x1) := fun _ _ => ⟨rfl, fun _ => rfl⟩
theorem Coded.bcc : ∀ x0 x1 x2 x3, Coded.Statement (.bcc x0 x1 x2 x3) := fun _ _ _ _ => ⟨rfl, fun _ => rfl⟩
theorem Coded.bmask : ∀ x0 x1 x2 x3, Coded.Statement (.bmask x0 x1 x2 x3) := fun _ _ _ _ => ⟨rfl, fun _ => rfl⟩
theorem Coded.loop : ∀ x0 x1, Coded.Statement (.loop x0 x1) := fun _ _ => ⟨rfl, fun _ => rfl⟩
theorem Coded.ld : ∀ x0 x1 x2 x3 x4, Coded.Statement (.ld x0 x1 x2 x3 x4) := fun _ _ _ _ _ => ⟨rfl, fun _ => rfl⟩
theorem Coded.st : ∀ x0 x1 x2 x3 x4, Coded.Statement (.st x0 x1 x2 x3 x4) := fun _ _ _ _ _ => ⟨rfl, fun _ => rfl⟩
theorem Coded.vld : ∀ x0 x1 x2 x3 x4, Coded.Statement (.vld x0 x1 x2 x3 x4) := fun _ _ _ _ _ => ⟨rfl, fun _ => rfl⟩
theorem Coded.vst : ∀ x0 x1 x2 x3 x4, Coded.Statement (.vst x0 x1 x2 x3 x4) := fun _ _ _ _ _ => ⟨rfl, fun _ => rfl⟩
theorem Coded.vgather : ∀ x0 x1 x2 x3 x4 x5 x6, Coded.Statement (.vgather x0 x1 x2 x3 x4 x5 x6) := fun _ _ _ _ _ _ _ => ⟨rfl, fun _ => rfl⟩
theorem Coded.vscatter : ∀ x0 x1 x2 x3 x4 x5 x6, Coded.Statement (.vscatter x0 x1 x2 x3 x4 x5 x6) := fun _ _ _ _ _ _ _ => ⟨rfl, fun _ => rfl⟩
theorem Coded.pref : ∀ x0 x1 x2, Coded.Statement (.pref x0 x1 x2) := fun _ _ _ => ⟨rfl, fun _ => rfl⟩
theorem Coded.prefh : ∀ x0 x1, Coded.Statement (.prefh x0 x1) := fun _ _ => ⟨rfl, fun _ => rfl⟩
theorem Coded.clean : ∀ x0 x1, Coded.Statement (.clean x0 x1) := fun _ _ => ⟨rfl, fun _ => rfl⟩
theorem Coded.inv : ∀ x0 x1, Coded.Statement (.inv x0 x1) := fun _ _ => ⟨rfl, fun _ => rfl⟩
theorem Coded.lda : ∀ x0 x1 x2 x3 x4 x5, Coded.Statement (.lda x0 x1 x2 x3 x4 x5) := fun _ _ _ _ _ _ => ⟨rfl, fun _ => rfl⟩
theorem Coded.strel : ∀ x0 x1 x2 x3 x4 x5, Coded.Statement (.strel x0 x1 x2 x3 x4 x5) := fun _ _ _ _ _ _ => ⟨rfl, fun _ => rfl⟩
theorem Coded.fence : ∀ x0 x1 x2, Coded.Statement (.fence x0 x1 x2) := fun _ _ _ => ⟨rfl, fun _ => rfl⟩
theorem Coded.amoSwap : ∀ x0 x1 x2 x3 x4, Coded.Statement (.amoSwap x0 x1 x2 x3 x4) := fun _ _ _ _ _ => ⟨rfl, fun _ => rfl⟩
theorem Coded.amoCas : ∀ x0 x1 x2 x3 x4, Coded.Statement (.amoCas x0 x1 x2 x3 x4) := fun _ _ _ _ _ => ⟨rfl, fun _ => rfl⟩
theorem Coded.amoAdd : ∀ x0 x1 x2 x3 x4, Coded.Statement (.amoAdd x0 x1 x2 x3 x4) := fun _ _ _ _ _ => ⟨rfl, fun _ => rfl⟩
theorem Coded.amoAnd : ∀ x0 x1 x2 x3 x4, Coded.Statement (.amoAnd x0 x1 x2 x3 x4) := fun _ _ _ _ _ => ⟨rfl, fun _ => rfl⟩
theorem Coded.amoOr : ∀ x0 x1 x2 x3 x4, Coded.Statement (.amoOr x0 x1 x2 x3 x4) := fun _ _ _ _ _ => ⟨rfl, fun _ => rfl⟩
theorem Coded.amoXor : ∀ x0 x1 x2 x3 x4, Coded.Statement (.amoXor x0 x1 x2 x3 x4) := fun _ _ _ _ _ => ⟨rfl, fun _ => rfl⟩
theorem Coded.amoMinS : ∀ x0 x1 x2 x3 x4, Coded.Statement (.amoMinS x0 x1 x2 x3 x4) := fun _ _ _ _ _ => ⟨rfl, fun _ => rfl⟩
theorem Coded.amoMaxS : ∀ x0 x1 x2 x3 x4, Coded.Statement (.amoMaxS x0 x1 x2 x3 x4) := fun _ _ _ _ _ => ⟨rfl, fun _ => rfl⟩
theorem Coded.amoMinZ : ∀ x0 x1 x2 x3 x4, Coded.Statement (.amoMinZ x0 x1 x2 x3 x4) := fun _ _ _ _ _ => ⟨rfl, fun _ => rfl⟩
theorem Coded.amoMaxZ : ∀ x0 x1 x2 x3 x4, Coded.Statement (.amoMaxZ x0 x1 x2 x3 x4) := fun _ _ _ _ _ => ⟨rfl, fun _ => rfl⟩
theorem Coded.amoFadd : ∀ x0 x1 x2 x3 x4, Coded.Statement (.amoFadd x0 x1 x2 x3 x4) := fun _ _ _ _ _ => ⟨rfl, fun _ => rfl⟩
theorem Coded.amoFmin : ∀ x0 x1 x2 x3 x4, Coded.Statement (.amoFmin x0 x1 x2 x3 x4) := fun _ _ _ _ _ => ⟨rfl, fun _ => rfl⟩
theorem Coded.amoFmax : ∀ x0 x1 x2 x3 x4, Coded.Statement (.amoFmax x0 x1 x2 x3 x4) := fun _ _ _ _ _ => ⟨rfl, fun _ => rfl⟩
theorem Coded.amoXadd : ∀ x0 x1 x2 x3 x4, Coded.Statement (.amoXadd x0 x1 x2 x3 x4) := fun _ _ _ _ _ => ⟨rfl, fun _ => rfl⟩
theorem Coded.amoXaddv : ∀ x0 x1 x2 x3, Coded.Statement (.amoXaddv x0 x1 x2 x3) := fun _ _ _ _ => ⟨rfl, fun _ => rfl⟩
theorem Coded.amoDep : ∀ x0 x1 x2, Coded.Statement (.amoDep x0 x1 x2) := fun _ _ _ => ⟨rfl, fun _ => rfl⟩
theorem Coded.amoFlags : ∀ x0 x1 x2, Coded.Statement (.amoFlags x0 x1 x2) := fun _ _ _ => ⟨rfl, fun _ => rfl⟩
theorem Coded.csrrw : ∀ x0 x1 x2, Coded.Statement (.csrrw x0 x1 x2) := fun _ _ _ => ⟨rfl, fun _ => rfl⟩
theorem Coded.csrrs : ∀ x0 x1 x2, Coded.Statement (.csrrs x0 x1 x2) := fun _ _ _ => ⟨rfl, fun _ => rfl⟩
theorem Coded.csrrc : ∀ x0 x1 x2, Coded.Statement (.csrrc x0 x1 x2) := fun _ _ _ => ⟨rfl, fun _ => rfl⟩
theorem Coded.mbtake : ∀ x0 x1 x2, Coded.Statement (.mbtake x0 x1 x2) := fun _ _ _ => ⟨rfl, fun _ => rfl⟩
theorem Coded.mbclr : ∀ x0, Coded.Statement (.mbclr x0) := fun _ => ⟨rfl, fun _ => rfl⟩
theorem Coded.recv : ∀ x0 x1, Coded.Statement (.recv x0 x1) := fun _ _ => ⟨rfl, fun _ => rfl⟩
theorem Coded.rpeek : ∀ x0 x1, Coded.Statement (.rpeek x0 x1) := fun _ _ => ⟨rfl, fun _ => rfl⟩
theorem Coded.rack : ∀ x0, Coded.Statement (.rack x0) := fun _ => ⟨rfl, fun _ => rfl⟩
theorem Coded.qstat : ∀ x0 x1 x2, Coded.Statement (.qstat x0 x1 x2) := fun _ _ _ => ⟨rfl, fun _ => rfl⟩
theorem Coded.emit : ∀ x0 x1 x2, Coded.Statement (.emit x0 x1 x2) := fun _ _ _ => ⟨rfl, fun _ => rfl⟩
theorem Coded.emitl : ∀ x0 x1 x2, Coded.Statement (.emitl x0 x1 x2) := fun _ _ _ => ⟨rfl, fun _ => rfl⟩
theorem Coded.tide : ∀ x0, Coded.Statement (.tide x0) := fun _ => ⟨rfl, fun _ => rfl⟩
theorem Coded.tsread : ∀ x0 x1 x2, Coded.Statement (.tsread x0 x1 x2) := fun _ _ _ => ⟨rfl, fun _ => rfl⟩
theorem Coded.tsinh : ∀ x0 x1, Coded.Statement (.tsinh x0 x1) := fun _ _ => ⟨rfl, fun _ => rfl⟩
theorem Coded.tflush : ∀ x0 x1, Coded.Statement (.tflush x0 x1) := fun _ _ => ⟨rfl, fun _ => rfl⟩
theorem Coded.tget : ∀ x0 x1 x2, Coded.Statement (.tget x0 x1 x2) := fun _ _ _ => ⟨rfl, fun _ => rfl⟩
theorem Coded.trel : ∀ x0 x1, Coded.Statement (.trel x0 x1) := fun _ _ => ⟨rfl, fun _ => rfl⟩
theorem Coded.tstat : ∀ x0 x1 x2, Coded.Statement (.tstat x0 x1 x2) := fun _ _ _ => ⟨rfl, fun _ => rfl⟩
theorem Coded.tstatHandle : ∀ x0 x1, Coded.Statement (.tstatHandle x0 x1) := fun _ _ => ⟨rfl, fun _ => rfl⟩
theorem Coded.mxq : ∀ x0 x1, Coded.Statement (.mxq x0 x1) := fun _ _ => ⟨rfl, fun _ => rfl⟩
theorem Coded.mxpoll : ∀ x0 x1, Coded.Statement (.mxpoll x0 x1) := fun _ _ => ⟨rfl, fun _ => rfl⟩
theorem Coded.mxwait : ∀ x0 x1, Coded.Statement (.mxwait x0 x1) := fun _ _ => ⟨rfl, fun _ => rfl⟩
theorem Coded.mxcan : ∀ x0 x1, Coded.Statement (.mxcan x0 x1) := fun _ _ => ⟨rfl, fun _ => rfl⟩
theorem Coded.ebq : ∀ x0 x1, Coded.Statement (.ebq x0 x1) := fun _ _ => ⟨rfl, fun _ => rfl⟩
theorem Coded.ebwait : ∀ x0 x1, Coded.Statement (.ebwait x0 x1) := fun _ _ => ⟨rfl, fun _ => rfl⟩
theorem Coded.ebwaitNw : ∀ x0 x1, Coded.Statement (.ebwaitNw x0 x1) := fun _ _ => ⟨rfl, fun _ => rfl⟩
theorem Coded.cbld : ∀ x0 x1 x2 x3 x4, Coded.Statement (.cbld x0 x1 x2 x3 x4) := fun _ _ _ _ _ => ⟨rfl, fun _ => rfl⟩
theorem Coded.cblda : ∀ x0 x1 x2 x3 x4, Coded.Statement (.cblda x0 x1 x2 x3 x4) := fun _ _ _ _ _ => ⟨rfl, fun _ => rfl⟩
theorem Coded.cbswap : ∀ x0 x1, Coded.Statement (.cbswap x0 x1) := fun _ _ => ⟨rfl, fun _ => rfl⟩
theorem Coded.cbinv : ∀ x0, Coded.Statement (.cbinv x0) := fun _ => ⟨rfl, fun _ => rfl⟩
theorem Coded.cbrd : ∀ x0 x1 x2, Coded.Statement (.cbrd x0 x1 x2) := fun _ _ _ => ⟨rfl, fun _ => rfl⟩
theorem Coded.cbstat : ∀ x0 x1, Coded.Statement (.cbstat x0 x1) := fun _ _ => ⟨rfl, fun _ => rfl⟩
theorem Coded.spawn : ∀ x0 x1 x2 x3, Coded.Statement (.spawn x0 x1 x2 x3) := fun _ _ _ _ => ⟨rfl, fun _ => rfl⟩
theorem Coded.spawnr : ∀ x0 x1 x2 x3, Coded.Statement (.spawnr x0 x1 x2 x3) := fun _ _ _ _ => ⟨rfl, fun _ => rfl⟩
theorem Coded.amsg : ∀ x0 x1 x2, Coded.Statement (.amsg x0 x1 x2) := fun _ _ _ => ⟨rfl, fun _ => rfl⟩
theorem Coded.migrate : ∀ x0 x1, Coded.Statement (.migrate x0 x1) := fun _ _ => ⟨rfl, fun _ => rfl⟩
theorem Coded.launch : ∀ x0 x1 x2 x3, Coded.Statement (.launch x0 x1 x2 x3) := fun _ _ _ _ => ⟨rfl, fun _ => rfl⟩
theorem Coded.join : ∀ x0 x1, Coded.Statement (.join x0 x1) := fun _ _ => ⟨rfl, fun _ => rfl⟩
theorem Coded.jdone : ∀ x0, Coded.Statement (.jdone x0) := fun _ => ⟨rfl, fun _ => rfl⟩
theorem Coded.jwait : ∀ x0 x1, Coded.Statement (.jwait x0 x1) := fun _ _ => ⟨rfl, fun _ => rfl⟩
theorem Coded.gang : ∀ x0 x1, Coded.Statement (.gang x0 x1) := fun _ _ => ⟨rfl, fun _ => rfl⟩
theorem Coded.split : Coded.Statement (.split) :=  ⟨rfl, fun _ => rfl⟩
theorem Coded.pairchk : ∀ x0 x1, Coded.Statement (.pairchk x0 x1) := fun _ _ => ⟨rfl, fun _ => rfl⟩
theorem Coded.barw : ∀ x0 x1 x2 x3, Coded.Statement (.barw x0 x1 x2 x3) := fun _ _ _ _ => ⟨rfl, fun _ => rfl⟩
theorem Coded.bara : ∀ x0 x1 x2 x3, Coded.Statement (.bara x0 x1 x2 x3) := fun _ _ _ _ => ⟨rfl, fun _ => rfl⟩
theorem Coded.bart : ∀ x0 x1 x2 x3, Coded.Statement (.bart x0 x1 x2 x3) := fun _ _ _ _ => ⟨rfl, fun _ => rfl⟩
theorem Coded.waitq : ∀ x0 x1 x2, Coded.Statement (.waitq x0 x1 x2) := fun _ _ _ => ⟨rfl, fun _ => rfl⟩
theorem Coded.wake : ∀ x0 x1 x2, Coded.Statement (.wake x0 x1 x2) := fun _ _ _ => ⟨rfl, fun _ => rfl⟩
theorem Coded.raise : ∀ x0, Coded.Statement (.raise x0) := fun _ => ⟨rfl, fun _ => rfl⟩
theorem Coded.tinsp : ∀ x0 x1 x2, Coded.Statement (.tinsp x0 x1 x2) := fun _ _ _ => ⟨rfl, fun _ => rfl⟩
theorem Coded.tinspW : ∀ x0 x1 x2, Coded.Statement (.tinspW x0 x1 x2) := fun _ _ _ => ⟨rfl, fun _ => rfl⟩
theorem Coded.tresume : ∀ x0 x1 x2, Coded.Statement (.tresume x0 x1 x2) := fun _ _ _ => ⟨rfl, fun _ => rfl⟩
theorem Coded.tkill : ∀ x0 x1, Coded.Statement (.tkill x0 x1) := fun _ _ => ⟨rfl, fun _ => rfl⟩
theorem Coded.add : ∀ x0 x1 x2 x3, Coded.Statement (.add x0 x1 x2 x3) := fun _ _ _ _ => ⟨rfl, fun _ => rfl⟩
theorem Coded.sub : ∀ x0 x1 x2 x3, Coded.Statement (.sub x0 x1 x2 x3) := fun _ _ _ _ => ⟨rfl, fun _ => rfl⟩
theorem Coded.and : ∀ x0 x1 x2 x3, Coded.Statement (.and x0 x1 x2 x3) := fun _ _ _ _ => ⟨rfl, fun _ => rfl⟩
theorem Coded.or : ∀ x0 x1 x2 x3, Coded.Statement (.or x0 x1 x2 x3) := fun _ _ _ _ => ⟨rfl, fun _ => rfl⟩
theorem Coded.xor : ∀ x0 x1 x2 x3, Coded.Statement (.xor x0 x1 x2 x3) := fun _ _ _ _ => ⟨rfl, fun _ => rfl⟩
theorem Coded.sll : ∀ x0 x1 x2 x3, Coded.Statement (.sll x0 x1 x2 x3) := fun _ _ _ _ => ⟨rfl, fun _ => rfl⟩
theorem Coded.srl : ∀ x0 x1 x2 x3, Coded.Statement (.srl x0 x1 x2 x3) := fun _ _ _ _ => ⟨rfl, fun _ => rfl⟩
theorem Coded.sra : ∀ x0 x1 x2 x3, Coded.Statement (.sra x0 x1 x2 x3) := fun _ _ _ _ => ⟨rfl, fun _ => rfl⟩
theorem Coded.slt : ∀ x0 x1 x2 x3, Coded.Statement (.slt x0 x1 x2 x3) := fun _ _ _ _ => ⟨rfl, fun _ => rfl⟩
theorem Coded.min : ∀ x0 x1 x2 x3, Coded.Statement (.min x0 x1 x2 x3) := fun _ _ _ _ => ⟨rfl, fun _ => rfl⟩
theorem Coded.max : ∀ x0 x1 x2 x3, Coded.Statement (.max x0 x1 x2 x3) := fun _ _ _ _ => ⟨rfl, fun _ => rfl⟩
theorem Coded.adds : ∀ x0 x1 x2 x3, Coded.Statement (.adds x0 x1 x2 x3) := fun _ _ _ _ => ⟨rfl, fun _ => rfl⟩
theorem Coded.subs : ∀ x0 x1 x2 x3, Coded.Statement (.subs x0 x1 x2 x3) := fun _ _ _ _ => ⟨rfl, fun _ => rfl⟩
theorem Coded.clz : ∀ x0 x1 x2, Coded.Statement (.clz x0 x1 x2) := fun _ _ _ => ⟨rfl, fun _ => rfl⟩
theorem Coded.ctz : ∀ x0 x1 x2, Coded.Statement (.ctz x0 x1 x2) := fun _ _ _ => ⟨rfl, fun _ => rfl⟩
theorem Coded.popc : ∀ x0 x1 x2, Coded.Statement (.popc x0 x1 x2) := fun _ _ _ => ⟨rfl, fun _ => rfl⟩
theorem Coded.addi : ∀ x0 x1 x2, Coded.Statement (.addi x0 x1 x2) := fun _ _ _ => ⟨rfl, fun _ => rfl⟩
theorem Coded.andi : ∀ x0 x1 x2, Coded.Statement (.andi x0 x1 x2) := fun _ _ _ => ⟨rfl, fun _ => rfl⟩
theorem Coded.ori : ∀ x0 x1 x2, Coded.Statement (.ori x0 x1 x2) := fun _ _ _ => ⟨rfl, fun _ => rfl⟩
theorem Coded.xori : ∀ x0 x1 x2, Coded.Statement (.xori x0 x1 x2) := fun _ _ _ => ⟨rfl, fun _ => rfl⟩
theorem Coded.slti : ∀ x0 x1 x2, Coded.Statement (.slti x0 x1 x2) := fun _ _ _ => ⟨rfl, fun _ => rfl⟩
theorem Coded.sltiz : ∀ x0 x1 x2, Coded.Statement (.sltiz x0 x1 x2) := fun _ _ _ => ⟨rfl, fun _ => rfl⟩
theorem Coded.slli : ∀ x0 x1 x2, Coded.Statement (.slli x0 x1 x2) := fun _ _ _ => ⟨rfl, fun _ => rfl⟩
theorem Coded.srli : ∀ x0 x1 x2, Coded.Statement (.srli x0 x1 x2) := fun _ _ _ => ⟨rfl, fun _ => rfl⟩
theorem Coded.srai : ∀ x0 x1 x2, Coded.Statement (.srai x0 x1 x2) := fun _ _ _ => ⟨rfl, fun _ => rfl⟩
theorem Coded.rori : ∀ x0 x1 x2, Coded.Statement (.rori x0 x1 x2) := fun _ _ _ => ⟨rfl, fun _ => rfl⟩
theorem Coded.lui : ∀ x0 x1 x2, Coded.Statement (.lui x0 x1 x2) := fun _ _ _ => ⟨rfl, fun _ => rfl⟩
theorem Coded.addpc : ∀ x0 x1, Coded.Statement (.addpc x0 x1) := fun _ _ => ⟨rfl, fun _ => rfl⟩
theorem Coded.ext : ∀ x0 x1 x2 x3 x4, Coded.Statement (.ext x0 x1 x2 x3 x4) := fun _ _ _ _ _ => ⟨rfl, fun _ => rfl⟩
theorem Coded.ins : ∀ x0 x1 x2 x3, Coded.Statement (.ins x0 x1 x2 x3) := fun _ _ _ _ => ⟨rfl, fun _ => rfl⟩
theorem Coded.mul : ∀ x0 x1 x2 x3, Coded.Statement (.mul x0 x1 x2 x3) := fun _ _ _ _ => ⟨rfl, fun _ => rfl⟩
theorem Coded.mulh : ∀ x0 x1 x2 x3, Coded.Statement (.mulh x0 x1 x2 x3) := fun _ _ _ _ => ⟨rfl, fun _ => rfl⟩
theorem Coded.div : ∀ x0 x1 x2 x3, Coded.Statement (.div x0 x1 x2 x3) := fun _ _ _ _ => ⟨rfl, fun _ => rfl⟩
theorem Coded.rem : ∀ x0 x1 x2 x3, Coded.Statement (.rem x0 x1 x2 x3) := fun _ _ _ _ => ⟨rfl, fun _ => rfl⟩
theorem Coded.muls : ∀ x0 x1 x2 x3, Coded.Statement (.muls x0 x1 x2 x3) := fun _ _ _ _ => ⟨rfl, fun _ => rfl⟩
theorem Coded.fadd : ∀ x0 x1 x2 x3, Coded.Statement (.fadd x0 x1 x2 x3) := fun _ _ _ _ => ⟨rfl, fun _ => rfl⟩
theorem Coded.fsub : ∀ x0 x1 x2 x3, Coded.Statement (.fsub x0 x1 x2 x3) := fun _ _ _ _ => ⟨rfl, fun _ => rfl⟩
theorem Coded.fmul : ∀ x0 x1 x2 x3, Coded.Statement (.fmul x0 x1 x2 x3) := fun _ _ _ _ => ⟨rfl, fun _ => rfl⟩
theorem Coded.fdiv : ∀ x0 x1 x2 x3, Coded.Statement (.fdiv x0 x1 x2 x3) := fun _ _ _ _ => ⟨rfl, fun _ => rfl⟩
theorem Coded.fsqrt : ∀ x0 x1 x2, Coded.Statement (.fsqrt x0 x1 x2) := fun _ _ _ => ⟨rfl, fun _ => rfl⟩
theorem Coded.fmin : ∀ x0 x1 x2 x3, Coded.Statement (.fmin x0 x1 x2 x3) := fun _ _ _ _ => ⟨rfl, fun _ => rfl⟩
theorem Coded.fmax : ∀ x0 x1 x2 x3, Coded.Statement (.fmax x0 x1 x2 x3) := fun _ _ _ _ => ⟨rfl, fun _ => rfl⟩
theorem Coded.feq : ∀ x0 x1 x2 x3, Coded.Statement (.feq x0 x1 x2 x3) := fun _ _ _ _ => ⟨rfl, fun _ => rfl⟩
theorem Coded.flt : ∀ x0 x1 x2 x3, Coded.Statement (.flt x0 x1 x2 x3) := fun _ _ _ _ => ⟨rfl, fun _ => rfl⟩
theorem Coded.fle : ∀ x0 x1 x2 x3, Coded.Statement (.fle x0 x1 x2 x3) := fun _ _ _ _ => ⟨rfl, fun _ => rfl⟩
theorem Coded.fcvt : ∀ x0 x1 x2 x3, Coded.Statement (.fcvt x0 x1 x2 x3) := fun _ _ _ _ => ⟨rfl, fun _ => rfl⟩
theorem Coded.fclass : ∀ x0 x1 x2, Coded.Statement (.fclass x0 x1 x2) := fun _ _ _ => ⟨rfl, fun _ => rfl⟩
theorem Coded.fsgnj : ∀ x0 x1 x2 x3, Coded.Statement (.fsgnj x0 x1 x2 x3) := fun _ _ _ _ => ⟨rfl, fun _ => rfl⟩
theorem Coded.fsgnjn : ∀ x0 x1 x2 x3, Coded.Statement (.fsgnjn x0 x1 x2 x3) := fun _ _ _ _ => ⟨rfl, fun _ => rfl⟩
theorem Coded.fsgnjx : ∀ x0 x1 x2 x3, Coded.Statement (.fsgnjx x0 x1 x2 x3) := fun _ _ _ _ => ⟨rfl, fun _ => rfl⟩
theorem Coded.fma : ∀ x0 x1 x2 x3, Coded.Statement (.fma x0 x1 x2 x3) := fun _ _ _ _ => ⟨rfl, fun _ => rfl⟩
theorem Coded.fnma : ∀ x0 x1 x2 x3, Coded.Statement (.fnma x0 x1 x2 x3) := fun _ _ _ _ => ⟨rfl, fun _ => rfl⟩
theorem Coded.vadd : ∀ x0 x1 x2 x3, Coded.Statement (.vadd x0 x1 x2 x3) := fun _ _ _ _ => ⟨rfl, fun _ => rfl⟩
theorem Coded.vsub : ∀ x0 x1 x2 x3, Coded.Statement (.vsub x0 x1 x2 x3) := fun _ _ _ _ => ⟨rfl, fun _ => rfl⟩
theorem Coded.vmul : ∀ x0 x1 x2 x3, Coded.Statement (.vmul x0 x1 x2 x3) := fun _ _ _ _ => ⟨rfl, fun _ => rfl⟩
theorem Coded.vmulh : ∀ x0 x1 x2 x3, Coded.Statement (.vmulh x0 x1 x2 x3) := fun _ _ _ _ => ⟨rfl, fun _ => rfl⟩
theorem Coded.vmin : ∀ x0 x1 x2 x3, Coded.Statement (.vmin x0 x1 x2 x3) := fun _ _ _ _ => ⟨rfl, fun _ => rfl⟩
theorem Coded.vmax : ∀ x0 x1 x2 x3, Coded.Statement (.vmax x0 x1 x2 x3) := fun _ _ _ _ => ⟨rfl, fun _ => rfl⟩
theorem Coded.vadds : ∀ x0 x1 x2 x3, Coded.Statement (.vadds x0 x1 x2 x3) := fun _ _ _ _ => ⟨rfl, fun _ => rfl⟩
theorem Coded.vsubs : ∀ x0 x1 x2 x3, Coded.Statement (.vsubs x0 x1 x2 x3) := fun _ _ _ _ => ⟨rfl, fun _ => rfl⟩
theorem Coded.vmuls : ∀ x0 x1 x2 x3, Coded.Statement (.vmuls x0 x1 x2 x3) := fun _ _ _ _ => ⟨rfl, fun _ => rfl⟩
theorem Coded.vabsd : ∀ x0 x1 x2 x3, Coded.Statement (.vabsd x0 x1 x2 x3) := fun _ _ _ _ => ⟨rfl, fun _ => rfl⟩
theorem Coded.vavg : ∀ x0 x1 x2 x3, Coded.Statement (.vavg x0 x1 x2 x3) := fun _ _ _ _ => ⟨rfl, fun _ => rfl⟩
theorem Coded.vabs : ∀ x0 x1 x2, Coded.Statement (.vabs x0 x1 x2) := fun _ _ _ => ⟨rfl, fun _ => rfl⟩
theorem Coded.vfadd : ∀ x0 x1 x2 x3, Coded.Statement (.vfadd x0 x1 x2 x3) := fun _ _ _ _ => ⟨rfl, fun _ => rfl⟩
theorem Coded.vfsub : ∀ x0 x1 x2 x3, Coded.Statement (.vfsub x0 x1 x2 x3) := fun _ _ _ _ => ⟨rfl, fun _ => rfl⟩
theorem Coded.vfmul : ∀ x0 x1 x2 x3, Coded.Statement (.vfmul x0 x1 x2 x3) := fun _ _ _ _ => ⟨rfl, fun _ => rfl⟩
theorem Coded.vfdiv : ∀ x0 x1 x2 x3, Coded.Statement (.vfdiv x0 x1 x2 x3) := fun _ _ _ _ => ⟨rfl, fun _ => rfl⟩
theorem Coded.vfsqrt : ∀ x0 x1 x2, Coded.Statement (.vfsqrt x0 x1 x2) := fun _ _ _ => ⟨rfl, fun _ => rfl⟩
theorem Coded.vfmin : ∀ x0 x1 x2 x3, Coded.Statement (.vfmin x0 x1 x2 x3) := fun _ _ _ _ => ⟨rfl, fun _ => rfl⟩
theorem Coded.vfmax : ∀ x0 x1 x2 x3, Coded.Statement (.vfmax x0 x1 x2 x3) := fun _ _ _ _ => ⟨rfl, fun _ => rfl⟩
theorem Coded.vfsgnj : ∀ x0 x1 x2 x3, Coded.Statement (.vfsgnj x0 x1 x2 x3) := fun _ _ _ _ => ⟨rfl, fun _ => rfl⟩
theorem Coded.vfsgnjn : ∀ x0 x1 x2 x3, Coded.Statement (.vfsgnjn x0 x1 x2 x3) := fun _ _ _ _ => ⟨rfl, fun _ => rfl⟩
theorem Coded.vfsgnjx : ∀ x0 x1 x2 x3, Coded.Statement (.vfsgnjx x0 x1 x2 x3) := fun _ _ _ _ => ⟨rfl, fun _ => rfl⟩
theorem Coded.vfma : ∀ x0 x1 x2 x3 x4, Coded.Statement (.vfma x0 x1 x2 x3 x4) := fun _ _ _ _ _ => ⟨rfl, fun _ => rfl⟩
theorem Coded.vfnma : ∀ x0 x1 x2 x3 x4, Coded.Statement (.vfnma x0 x1 x2 x3 x4) := fun _ _ _ _ _ => ⟨rfl, fun _ => rfl⟩
theorem Coded.vand : ∀ x0 x1 x2 x3, Coded.Statement (.vand x0 x1 x2 x3) := fun _ _ _ _ => ⟨rfl, fun _ => rfl⟩
theorem Coded.vor : ∀ x0 x1 x2 x3, Coded.Statement (.vor x0 x1 x2 x3) := fun _ _ _ _ => ⟨rfl, fun _ => rfl⟩
theorem Coded.vxor : ∀ x0 x1 x2 x3, Coded.Statement (.vxor x0 x1 x2 x3) := fun _ _ _ _ => ⟨rfl, fun _ => rfl⟩
theorem Coded.vandn : ∀ x0 x1 x2 x3, Coded.Statement (.vandn x0 x1 x2 x3) := fun _ _ _ _ => ⟨rfl, fun _ => rfl⟩
theorem Coded.vsll : ∀ x0 x1 x2 x3, Coded.Statement (.vsll x0 x1 x2 x3) := fun _ _ _ _ => ⟨rfl, fun _ => rfl⟩
theorem Coded.vsrl : ∀ x0 x1 x2 x3, Coded.Statement (.vsrl x0 x1 x2 x3) := fun _ _ _ _ => ⟨rfl, fun _ => rfl⟩
theorem Coded.vsra : ∀ x0 x1 x2 x3, Coded.Statement (.vsra x0 x1 x2 x3) := fun _ _ _ _ => ⟨rfl, fun _ => rfl⟩
theorem Coded.vror : ∀ x0 x1 x2 x3, Coded.Statement (.vror x0 x1 x2 x3) := fun _ _ _ _ => ⟨rfl, fun _ => rfl⟩
theorem Coded.vceq : ∀ x0 x1 x2 x3, Coded.Statement (.vceq x0 x1 x2 x3) := fun _ _ _ _ => ⟨rfl, fun _ => rfl⟩
theorem Coded.vcne : ∀ x0 x1 x2 x3, Coded.Statement (.vcne x0 x1 x2 x3) := fun _ _ _ _ => ⟨rfl, fun _ => rfl⟩
theorem Coded.vclt : ∀ x0 x1 x2 x3, Coded.Statement (.vclt x0 x1 x2 x3) := fun _ _ _ _ => ⟨rfl, fun _ => rfl⟩
theorem Coded.vcle : ∀ x0 x1 x2 x3, Coded.Statement (.vcle x0 x1 x2 x3) := fun _ _ _ _ => ⟨rfl, fun _ => rfl⟩
theorem Coded.vctst : ∀ x0 x1 x2 x3, Coded.Statement (.vctst x0 x1 x2 x3) := fun _ _ _ _ => ⟨rfl, fun _ => rfl⟩
theorem Coded.vsel : ∀ x0 x1 x2 x3 x4, Coded.Statement (.vsel x0 x1 x2 x3 x4) := fun _ _ _ _ _ => ⟨rfl, fun _ => rfl⟩
theorem Coded.vcvt : ∀ x0 x1 x2 x3 x4 x5, Coded.Statement (.vcvt x0 x1 x2 x3 x4 x5) := fun _ _ _ _ _ _ => ⟨rfl, fun _ => rfl⟩
theorem Coded.vperm : ∀ x0 x1 x2 x3, Coded.Statement (.vperm x0 x1 x2 x3) := fun _ _ _ _ => ⟨rfl, fun _ => rfl⟩
theorem Coded.vslideup : ∀ x0 x1 x2 x3, Coded.Statement (.vslideup x0 x1 x2 x3) := fun _ _ _ _ => ⟨rfl, fun _ => rfl⟩
theorem Coded.vslidedn : ∀ x0 x1 x2 x3, Coded.Statement (.vslidedn x0 x1 x2 x3) := fun _ _ _ _ => ⟨rfl, fun _ => rfl⟩
theorem Coded.vbcast : ∀ x0 x1 x2, Coded.Statement (.vbcast x0 x1 x2) := fun _ _ _ => ⟨rfl, fun _ => rfl⟩
theorem Coded.vbcastl : ∀ x0 x1 x2 x3, Coded.Statement (.vbcastl x0 x1 x2 x3) := fun _ _ _ _ => ⟨rfl, fun _ => rfl⟩
theorem Coded.vext : ∀ x0 x1 x2 x3, Coded.Statement (.vext x0 x1 x2 x3) := fun _ _ _ _ => ⟨rfl, fun _ => rfl⟩
theorem Coded.vins : ∀ x0 x1 x2 x3, Coded.Statement (.vins x0 x1 x2 x3) := fun _ _ _ _ => ⟨rfl, fun _ => rfl⟩
theorem Coded.vzipl : ∀ x0 x1 x2 x3, Coded.Statement (.vzipl x0 x1 x2 x3) := fun _ _ _ _ => ⟨rfl, fun _ => rfl⟩
theorem Coded.vziph : ∀ x0 x1 x2 x3, Coded.Statement (.vziph x0 x1 x2 x3) := fun _ _ _ _ => ⟨rfl, fun _ => rfl⟩
theorem Coded.vuzpe : ∀ x0 x1 x2 x3, Coded.Statement (.vuzpe x0 x1 x2 x3) := fun _ _ _ _ => ⟨rfl, fun _ => rfl⟩
theorem Coded.vuzpo : ∀ x0 x1 x2 x3, Coded.Statement (.vuzpo x0 x1 x2 x3) := fun _ _ _ _ => ⟨rfl, fun _ => rfl⟩
theorem Coded.vredsum : ∀ x0 x1 x2 x3, Coded.Statement (.vredsum x0 x1 x2 x3) := fun _ _ _ _ => ⟨rfl, fun _ => rfl⟩
theorem Coded.vredmin : ∀ x0 x1 x2 x3, Coded.Statement (.vredmin x0 x1 x2 x3) := fun _ _ _ _ => ⟨rfl, fun _ => rfl⟩
theorem Coded.vredmax : ∀ x0 x1 x2 x3, Coded.Statement (.vredmax x0 x1 x2 x3) := fun _ _ _ _ => ⟨rfl, fun _ => rfl⟩
theorem Coded.vdot : ∀ x0 x1 x2 x3, Coded.Statement (.vdot x0 x1 x2 x3) := fun _ _ _ _ => ⟨rfl, fun _ => rfl⟩
theorem Coded.vscan : ∀ x0 x1 x2 x3, Coded.Statement (.vscan x0 x1 x2 x3) := fun _ _ _ _ => ⟨rfl, fun _ => rfl⟩
theorem Coded.vscanmin : ∀ x0 x1 x2 x3, Coded.Statement (.vscanmin x0 x1 x2 x3) := fun _ _ _ _ => ⟨rfl, fun _ => rfl⟩
theorem Coded.vscanmax : ∀ x0 x1 x2 x3, Coded.Statement (.vscanmax x0 x1 x2 x3) := fun _ _ _ _ => ⟨rfl, fun _ => rfl⟩
theorem Coded.vmxsc : ∀ x0 x1 x2 x3 x4, Coded.Statement (.vmxsc x0 x1 x2 x3 x4) := fun _ _ _ _ _ => ⟨rfl, fun _ => rfl⟩
theorem Coded.mand : ∀ x0 x1 x2, Coded.Statement (.mand x0 x1 x2) := fun _ _ _ => ⟨rfl, fun _ => rfl⟩
theorem Coded.mor : ∀ x0 x1 x2, Coded.Statement (.mor x0 x1 x2) := fun _ _ _ => ⟨rfl, fun _ => rfl⟩
theorem Coded.mxor : ∀ x0 x1 x2, Coded.Statement (.mxor x0 x1 x2) := fun _ _ _ => ⟨rfl, fun _ => rfl⟩
theorem Coded.mandn : ∀ x0 x1 x2, Coded.Statement (.mandn x0 x1 x2) := fun _ _ _ => ⟨rfl, fun _ => rfl⟩
theorem Coded.mnot : ∀ x0 x1, Coded.Statement (.mnot x0 x1) := fun _ _ => ⟨rfl, fun _ => rfl⟩
theorem Coded.mpopc : ∀ x0 x1, Coded.Statement (.mpopc x0 x1) := fun _ _ => ⟨rfl, fun _ => rfl⟩
theorem Coded.mfirst : ∀ x0 x1, Coded.Statement (.mfirst x0 x1) := fun _ _ => ⟨rfl, fun _ => rfl⟩
theorem Coded.mfromg : ∀ x0 x1, Coded.Statement (.mfromg x0 x1) := fun _ _ => ⟨rfl, fun _ => rfl⟩
theorem Coded.mtog : ∀ x0 x1, Coded.Statement (.mtog x0 x1) := fun _ _ => ⟨rfl, fun _ => rfl⟩
theorem Coded.mlanes : ∀ x0 x1, Coded.Statement (.mlanes x0 x1) := fun _ _ => ⟨rfl, fun _ => rfl⟩
theorem Coded.gori2 : ∀ x0 x1 x2 x3, Coded.Statement (.gori2 x0 x1 x2 x3) := fun _ _ _ _ => ⟨rfl, fun _ => rfl⟩
theorem Coded.gori3 : ∀ x0 x1 x2 x3, Coded.Statement (.gori3 x0 x1 x2 x3) := fun _ _ _ _ => ⟨rfl, fun _ => rfl⟩
theorem Coded.ginc : ∀ x0 x1 x2 x3, Coded.Statement (.ginc x0 x1 x2 x3) := fun _ _ _ _ => ⟨rfl, fun _ => rfl⟩
theorem Coded.gins : ∀ x0 x1 x2 x3, Coded.Statement (.gins x0 x1 x2 x3) := fun _ _ _ _ => ⟨rfl, fun _ => rfl⟩
theorem Coded.gseg : ∀ x0 x1 x2 x3, Coded.Statement (.gseg x0 x1 x2 x3) := fun _ _ _ _ => ⟨rfl, fun _ => rfl⟩
theorem Coded.xclr : ∀ x0 x1, Coded.Statement (.xclr x0 x1) := fun _ _ => ⟨rfl, fun _ => rfl⟩
theorem Coded.xadd : ∀ x0 x1 x2 x3, Coded.Statement (.xadd x0 x1 x2 x3) := fun _ _ _ _ => ⟨rfl, fun _ => rfl⟩
theorem Coded.xrnd : ∀ x0 x1, Coded.Statement (.xrnd x0 x1) := fun _ _ => ⟨rfl, fun _ => rfl⟩
theorem Coded.cbx : ∀ x0 x1 x2 x3 x4, Coded.Statement (.cbx x0 x1 x2 x3 x4) := fun _ _ _ _ _ => ⟨rfl, fun _ => rfl⟩
theorem Coded.taskBudget : ∀ x0 x1, Coded.Statement (.taskBudget x0 x1) := fun _ _ => ⟨rfl, fun h => nomatch h⟩
theorem Coded.globalLoadReturn : ∀ x0 x1 x2, Coded.Statement (.globalLoadReturn x0 x1 x2) := fun _ _ _ => ⟨rfl, fun h => nomatch h⟩
theorem Coded.coveAccessArrive : ∀ x0, Coded.Statement (.coveAccessArrive x0) := fun _ => ⟨rfl, fun h => nomatch h⟩
theorem Coded.writebackAck : ∀ x0 x1, Coded.Statement (.writebackAck x0 x1) := fun _ _ => ⟨rfl, fun h => nomatch h⟩
theorem Coded.atomicPerform : ∀ x0, Coded.Statement (.atomicPerform x0) := fun _ => ⟨rfl, fun h => nomatch h⟩
theorem Coded.atomicReply : ∀ x0, Coded.Statement (.atomicReply x0) := fun _ => ⟨rfl, fun h => nomatch h⟩
theorem Coded.sysHeartbeat : ∀ x0, Coded.Statement (.sysHeartbeat x0) := fun _ => ⟨rfl, fun h => nomatch h⟩
theorem Coded.sysTrace : ∀ x0, Coded.Statement (.sysTrace x0) := fun _ => ⟨rfl, fun h => nomatch h⟩
theorem Coded.sysReply : ∀ x0, Coded.Statement (.sysReply x0) := fun _ => ⟨rfl, fun h => nomatch h⟩
theorem Coded.stealProbe : ∀ x0, Coded.Statement (.stealProbe x0) := fun _ => ⟨rfl, fun h => nomatch h⟩
theorem Coded.stealReply : ∀ x0, Coded.Statement (.stealReply x0) := fun _ => ⟨rfl, fun h => nomatch h⟩
theorem Coded.stealRetry : ∀ x0 x1, Coded.Statement (.stealRetry x0 x1) := fun _ _ => ⟨rfl, fun h => nomatch h⟩
theorem Coded.spawnrArrive : ∀ x0, Coded.Statement (.spawnrArrive x0) := fun _ => ⟨rfl, fun h => nomatch h⟩
theorem Coded.spawnrReply : ∀ x0, Coded.Statement (.spawnrReply x0) := fun _ => ⟨rfl, fun h => nomatch h⟩
theorem Coded.amsgArrive : ∀ x0, Coded.Statement (.amsgArrive x0) := fun _ => ⟨rfl, fun h => nomatch h⟩
theorem Coded.amsgReply : ∀ x0, Coded.Statement (.amsgReply x0) := fun _ => ⟨rfl, fun h => nomatch h⟩
theorem Coded.migrateArrive : ∀ x0, Coded.Statement (.migrateArrive x0) := fun _ => ⟨rfl, fun h => nomatch h⟩
theorem Coded.jdonePerform : ∀ x0, Coded.Statement (.jdonePerform x0) := fun _ => ⟨rfl, fun h => nomatch h⟩
theorem Coded.recordArrive : ∀ x0, Coded.Statement (.recordArrive x0) := fun _ => ⟨rfl, fun h => nomatch h⟩
theorem Coded.recordResend : ∀ x0 x1, Coded.Statement (.recordResend x0 x1) := fun _ _ => ⟨rfl, fun h => nomatch h⟩
theorem Coded.recordResendRetry : ∀ x0, Coded.Statement (.recordResendRetry x0) := fun _ => ⟨rfl, fun h => nomatch h⟩
theorem Coded.overflowRecord : ∀ x0 x1, Coded.Statement (.overflowRecord x0 x1) := fun _ _ => ⟨rfl, fun h => nomatch h⟩
theorem Coded.emitAccept : ∀ x0, Coded.Statement (.emitAccept x0) := fun _ => ⟨rfl, fun h => nomatch h⟩
theorem Coded.emitTimeout : ∀ x0 x1, Coded.Statement (.emitTimeout x0 x1) := fun _ _ => ⟨rfl, fun h => nomatch h⟩
theorem Coded.sensorHeartbeat : ∀ x0, Coded.Statement (.sensorHeartbeat x0) := fun _ => ⟨rfl, fun h => nomatch h⟩
theorem Coded.tidemarkUpdateArrive : ∀ x0, Coded.Statement (.tidemarkUpdateArrive x0) := fun _ => ⟨rfl, fun h => nomatch h⟩
theorem Coded.windowTimeout : ∀ x0 x1, Coded.Statement (.windowTimeout x0 x1) := fun _ _ => ⟨rfl, fun h => nomatch h⟩
theorem Coded.wcloseWrite : ∀ x0 x1, Coded.Statement (.wcloseWrite x0 x1) := fun _ _ => ⟨rfl, fun h => nomatch h⟩
theorem Coded.timerExpiry : ∀ x0, Coded.Statement (.timerExpiry x0) := fun _ => ⟨rfl, fun h => nomatch h⟩
theorem Coded.bwRecordArrive : ∀ x0, Coded.Statement (.bwRecordArrive x0) := fun _ => ⟨rfl, fun h => nomatch h⟩
theorem Coded.bwRecordStep : ∀ x0, Coded.Statement (.bwRecordStep x0) := fun _ => ⟨rfl, fun h => nomatch h⟩
theorem Coded.bwTidemarkStep : ∀ x0, Coded.Statement (.bwTidemarkStep x0) := fun _ => ⟨rfl, fun h => nomatch h⟩
theorem Coded.bwFlushStep : ∀ x0, Coded.Statement (.bwFlushStep x0) := fun _ => ⟨rfl, fun h => nomatch h⟩
theorem Coded.bwReleaseStep : ∀ x0, Coded.Statement (.bwReleaseStep x0) := fun _ => ⟨rfl, fun h => nomatch h⟩
theorem Coded.bwAgeSeal : ∀ x0 x1, Coded.Statement (.bwAgeSeal x0 x1) := fun _ _ => ⟨rfl, fun h => nomatch h⟩
theorem Coded.bwWindowTimeout : ∀ x0 x1, Coded.Statement (.bwWindowTimeout x0 x1) := fun _ _ => ⟨rfl, fun h => nomatch h⟩
theorem Coded.bwTileDispatch : ∀ x0 x1, Coded.Statement (.bwTileDispatch x0 x1) := fun _ _ => ⟨rfl, fun h => nomatch h⟩
theorem Coded.bwJobSubmit : ∀ x0 x1, Coded.Statement (.bwJobSubmit x0 x1) := fun _ _ => ⟨rfl, fun h => nomatch h⟩
theorem Coded.mxeAccept : ∀ x0, Coded.Statement (.mxeAccept x0) := fun _ => ⟨rfl, fun h => nomatch h⟩
theorem Coded.jobBankSample : ∀ x0, Coded.Statement (.jobBankSample x0) := fun _ => ⟨rfl, fun h => nomatch h⟩
theorem Coded.mxeAdmit : ∀ x0 x1, Coded.Statement (.mxeAdmit x0 x1) := fun _ _ => ⟨rfl, fun h => nomatch h⟩
theorem Coded.mxeOperandArrive : ∀ x0 x1, Coded.Statement (.mxeOperandArrive x0 x1) := fun _ _ => ⟨rfl, fun h => nomatch h⟩
theorem Coded.mxeSlotBoundary : ∀ x0, Coded.Statement (.mxeSlotBoundary x0) := fun _ => ⟨rfl, fun h => nomatch h⟩
theorem Coded.mxeDrainEnd : ∀ x0 x1, Coded.Statement (.mxeDrainEnd x0 x1) := fun _ _ => ⟨rfl, fun h => nomatch h⟩
theorem Coded.mxeJobDone : ∀ x0 x1, Coded.Statement (.mxeJobDone x0 x1) := fun _ _ => ⟨rfl, fun h => nomatch h⟩
theorem Coded.mxeCancel : ∀ x0, Coded.Statement (.mxeCancel x0) := fun _ => ⟨rfl, fun h => nomatch h⟩
theorem Coded.cbLoadStart : ∀ x0 x1, Coded.Statement (.cbLoadStart x0 x1) := fun _ _ => ⟨rfl, fun h => nomatch h⟩
theorem Coded.cbLoadDone : ∀ x0 x1, Coded.Statement (.cbLoadDone x0 x1) := fun _ _ => ⟨rfl, fun h => nomatch h⟩
theorem Coded.bankClaimPass : ∀ x0 x1, Coded.Statement (.bankClaimPass x0 x1) := fun _ _ => ⟨rfl, fun h => nomatch h⟩
theorem Coded.bankSave : ∀ x0 x1, Coded.Statement (.bankSave x0 x1) := fun _ _ => ⟨rfl, fun h => nomatch h⟩
theorem Coded.bankRestore : ∀ x0 x1, Coded.Statement (.bankRestore x0 x1) := fun _ _ => ⟨rfl, fun h => nomatch h⟩
theorem Coded.cbfetch : ∀ x0 x1, Coded.Statement (.cbfetch x0 x1) := fun _ _ => ⟨rfl, fun h => nomatch h⟩
theorem Coded.pairCompare : ∀ x0 x1, Coded.Statement (.pairCompare x0 x1) := fun _ _ => ⟨rfl, fun h => nomatch h⟩
theorem Coded.pairCompareTimeout : ∀ x0 x1, Coded.Statement (.pairCompareTimeout x0 x1) := fun _ _ => ⟨rfl, fun h => nomatch h⟩
theorem Coded.barrierComplete : ∀ x0, Coded.Statement (.barrierComplete x0) := fun _ => ⟨rfl, fun h => nomatch h⟩
theorem Coded.barrierReleaseArrive : ∀ x0 x1, Coded.Statement (.barrierReleaseArrive x0 x1) := fun _ _ => ⟨rfl, fun h => nomatch h⟩
theorem Coded.barrierTimeout : ∀ x0 x1, Coded.Statement (.barrierTimeout x0 x1) := fun _ _ => ⟨rfl, fun h => nomatch h⟩
theorem Coded.waitqAtOwner : ∀ x0, Coded.Statement (.waitqAtOwner x0) := fun _ => ⟨rfl, fun h => nomatch h⟩
theorem Coded.wakeAtOwner : ∀ x0, Coded.Statement (.wakeAtOwner x0) := fun _ => ⟨rfl, fun h => nomatch h⟩
theorem Coded.waiterWoken : ∀ x0, Coded.Statement (.waiterWoken x0) := fun _ => ⟨rfl, fun h => nomatch h⟩
theorem Coded.pageWalkDone : ∀ x0 x1, Coded.Statement (.pageWalkDone x0 x1) := fun _ _ => ⟨rfl, fun h => nomatch h⟩
theorem Coded.tlbInvalidate : ∀ x0 x1, Coded.Statement (.tlbInvalidate x0 x1) := fun _ _ => ⟨rfl, fun h => nomatch h⟩
theorem Coded.localPageFillDone : ∀ x0 x1, Coded.Statement (.localPageFillDone x0 x1) := fun _ _ => ⟨rfl, fun h => nomatch h⟩
theorem Coded.localPageSpillDone : ∀ x0 x1, Coded.Statement (.localPageSpillDone x0 x1) := fun _ _ => ⟨rfl, fun h => nomatch h⟩
theorem Coded.ebbFootprint : ∀ x0 x1, Coded.Statement (.ebbFootprint x0 x1) := fun _ _ => ⟨rfl, fun h => nomatch h⟩
theorem Coded.ebbCopy : ∀ x0 x1, Coded.Statement (.ebbCopy x0 x1) := fun _ _ => ⟨rfl, fun h => nomatch h⟩
theorem Coded.ebbFill : ∀ x0 x1, Coded.Statement (.ebbFill x0 x1) := fun _ _ => ⟨rfl, fun h => nomatch h⟩
theorem Coded.ebbSpill : ∀ x0 x1, Coded.Statement (.ebbSpill x0 x1) := fun _ _ => ⟨rfl, fun h => nomatch h⟩
theorem Coded.ebbJobDone : ∀ x0 x1, Coded.Statement (.ebbJobDone x0 x1) := fun _ _ => ⟨rfl, fun h => nomatch h⟩
theorem Coded.governorPeriod : Coded.Statement (.governorPeriod) :=  ⟨rfl, fun h => nomatch h⟩
theorem Coded.quotaExhausted : ∀ x0, Coded.Statement (.quotaExhausted x0) := fun _ => ⟨rfl, fun h => nomatch h⟩
theorem Coded.enrgDelivery : ∀ x0 x1, Coded.Statement (.enrgDelivery x0 x1) := fun _ _ => ⟨rfl, fun h => nomatch h⟩
theorem Coded.dvfsStepDone : ∀ x0, Coded.Statement (.dvfsStepDone x0) := fun _ => ⟨rfl, fun h => nomatch h⟩
theorem Coded.thermalSample : ∀ x0 x1, Coded.Statement (.thermalSample x0 x1) := fun _ _ => ⟨rfl, fun h => nomatch h⟩
theorem Coded.contextLoadDone : ∀ x0, Coded.Statement (.contextLoadDone x0) := fun _ => ⟨rfl, fun h => nomatch h⟩
theorem Coded.contextDrainDone : ∀ x0, Coded.Statement (.contextDrainDone x0) := fun _ => ⟨rfl, fun h => nomatch h⟩
theorem Coded.contextScrubDone : ∀ x0, Coded.Statement (.contextScrubDone x0) := fun _ => ⟨rfl, fun h => nomatch h⟩
theorem Coded.boundaryCommit : ∀ x0, Coded.Statement (.boundaryCommit x0) := fun _ => ⟨rfl, fun h => nomatch h⟩
theorem Coded.boundaryCommitDone : ∀ x0, Coded.Statement (.boundaryCommitDone x0) := fun _ => ⟨rfl, fun h => nomatch h⟩
theorem Coded.regionCommit : ∀ x0, Coded.Statement (.regionCommit x0) := fun _ => ⟨rfl, fun h => nomatch h⟩
theorem Coded.regionSwitch : Coded.Statement (.regionSwitch) :=  ⟨rfl, fun h => nomatch h⟩
theorem Coded.registerWrite : ∀ x0 x1, Coded.Statement (.registerWrite x0 x1) := fun _ _ => ⟨rfl, fun h => nomatch h⟩
theorem Coded.linkEnable : ∀ x0, Coded.Statement (.linkEnable x0) := fun _ => ⟨rfl, fun h => nomatch h⟩
theorem Coded.linkTrainingDone : ∀ x0 x1, Coded.Statement (.linkTrainingDone x0 x1) := fun _ _ => ⟨rfl, fun h => nomatch h⟩
theorem Coded.linkTrainingTimeout : ∀ x0, Coded.Statement (.linkTrainingTimeout x0) := fun _ => ⟨rfl, fun h => nomatch h⟩
theorem Coded.linkLaneLost : ∀ x0, Coded.Statement (.linkLaneLost x0) := fun _ => ⟨rfl, fun h => nomatch h⟩
theorem Coded.linkDisable : ∀ x0, Coded.Statement (.linkDisable x0) := fun _ => ⟨rfl, fun h => nomatch h⟩
theorem Coded.ucieReplay : ∀ x0, Coded.Statement (.ucieReplay x0) := fun _ => ⟨rfl, fun h => nomatch h⟩
theorem Coded.ucieReroute : ∀ x0, Coded.Statement (.ucieReroute x0) := fun _ => ⟨rfl, fun h => nomatch h⟩
theorem Coded.rhoashRecordArrive : ∀ x0, Coded.Statement (.rhoashRecordArrive x0) := fun _ => ⟨rfl, fun h => nomatch h⟩
theorem Coded.sdioLaunch : Coded.Statement (.sdioLaunch) :=  ⟨rfl, fun h => nomatch h⟩
theorem Coded.sdioWrite : Coded.Statement (.sdioWrite) :=  ⟨rfl, fun h => nomatch h⟩
theorem Coded.sdioRead : Coded.Statement (.sdioRead) :=  ⟨rfl, fun h => nomatch h⟩
theorem Coded.sdioTraceRead : Coded.Statement (.sdioTraceRead) :=  ⟨rfl, fun h => nomatch h⟩
theorem Coded.queryDevice : Coded.Statement (.queryDevice) :=  ⟨rfl, fun h => nomatch h⟩
theorem Coded.queryContexts : Coded.Statement (.queryContexts) :=  ⟨rfl, fun h => nomatch h⟩
theorem Coded.queryLinks : Coded.Statement (.queryLinks) :=  ⟨rfl, fun h => nomatch h⟩
theorem Coded.queryStream : Coded.Statement (.queryStream) :=  ⟨rfl, fun h => nomatch h⟩
theorem Coded.queryCove : Coded.Statement (.queryCove) :=  ⟨rfl, fun h => nomatch h⟩
theorem Coded.sdioAttest : Coded.Statement (.sdioAttest) :=  ⟨rfl, fun h => nomatch h⟩
theorem Coded.fwCreateContext : Coded.Statement (.fwCreateContext) :=  ⟨rfl, fun h => nomatch h⟩
theorem Coded.fwDrainContext : Coded.Statement (.fwDrainContext) :=  ⟨rfl, fun h => nomatch h⟩
theorem Coded.fwResumeContext : Coded.Statement (.fwResumeContext) :=  ⟨rfl, fun h => nomatch h⟩
theorem Coded.fwMap : Coded.Statement (.fwMap) :=  ⟨rfl, fun h => nomatch h⟩
theorem Coded.fwUnmap : Coded.Statement (.fwUnmap) :=  ⟨rfl, fun h => nomatch h⟩
theorem Coded.fwParkCore : Coded.Statement (.fwParkCore) :=  ⟨rfl, fun h => nomatch h⟩
theorem Coded.fwUnparkCore : Coded.Statement (.fwUnparkCore) :=  ⟨rfl, fun h => nomatch h⟩
theorem Coded.fwRetireSource : Coded.Statement (.fwRetireSource) :=  ⟨rfl, fun h => nomatch h⟩
theorem Coded.fwReviveSource : Coded.Statement (.fwReviveSource) :=  ⟨rfl, fun h => nomatch h⟩
theorem Coded.fwConfigureStream : Coded.Statement (.fwConfigureStream) :=  ⟨rfl, fun h => nomatch h⟩
theorem Coded.fwSetTimer : Coded.Statement (.fwSetTimer) :=  ⟨rfl, fun h => nomatch h⟩
theorem Coded.fwLoadKernel : Coded.Statement (.fwLoadKernel) :=  ⟨rfl, fun h => nomatch h⟩
theorem Coded.recoveryStageWrite : Coded.Statement (.recoveryStageWrite) :=  ⟨rfl, fun h => nomatch h⟩
theorem Coded.recoveryCommit : Coded.Statement (.recoveryCommit) :=  ⟨rfl, fun h => nomatch h⟩
theorem Coded.recoveryQuery : Coded.Statement (.recoveryQuery) :=  ⟨rfl, fun h => nomatch h⟩
theorem Coded.csi2FrameStart : ∀ x0, Coded.Statement (.csi2FrameStart x0) := fun _ => ⟨rfl, fun h => nomatch h⟩
theorem Coded.csi2Packet : ∀ x0 x1 x2 x3, Coded.Statement (.csi2Packet x0 x1 x2 x3) := fun _ _ _ _ => ⟨rfl, fun h => nomatch h⟩
theorem Coded.decoderWatchdog : ∀ x0 x1, Coded.Statement (.decoderWatchdog x0 x1) := fun _ _ => ⟨rfl, fun h => nomatch h⟩
theorem Coded.taxelScan : ∀ x0, Coded.Statement (.taxelScan x0) := fun _ => ⟨rfl, fun h => nomatch h⟩
theorem Coded.taxelFrameDone : ∀ x0 x1, Coded.Statement (.taxelFrameDone x0 x1) := fun _ _ => ⟨rfl, fun h => nomatch h⟩
theorem Coded.hfrzGo : Coded.Statement (.hfrzGo) :=  ⟨rfl, fun h => nomatch h⟩
theorem Coded.hrelGo : Coded.Statement (.hrelGo) :=  ⟨rfl, fun h => nomatch h⟩
theorem Coded.freezeRelease : Coded.Statement (.freezeRelease) :=  ⟨rfl, fun h => nomatch h⟩
theorem Coded.hicmdRead : Coded.Statement (.hicmdRead) :=  ⟨rfl, fun h => nomatch h⟩
theorem Coded.hicmdWrite : Coded.Statement (.hicmdWrite) :=  ⟨rfl, fun h => nomatch h⟩
theorem Coded.helogPop : Coded.Statement (.helogPop) :=  ⟨rfl, fun h => nomatch h⟩
theorem Coded.hwdogReload : ∀ x0, Coded.Statement (.hwdogReload x0) := fun _ => ⟨rfl, fun h => nomatch h⟩
theorem Coded.htimeRead : Coded.Statement (.htimeRead) :=  ⟨rfl, fun h => nomatch h⟩
theorem Coded.hfwmbPost : ∀ x0, Coded.Statement (.hfwmbPost x0) := fun _ => ⟨rfl, fun h => nomatch h⟩
theorem Coded.errorReport : ∀ x0, Coded.Statement (.errorReport x0) := fun _ => ⟨rfl, fun h => nomatch h⟩
theorem Coded.heartbeatMiss : ∀ x0, Coded.Statement (.heartbeatMiss x0) := fun _ => ⟨rfl, fun h => nomatch h⟩
theorem Coded.lockstepMismatch : Coded.Statement (.lockstepMismatch) :=  ⟨rfl, fun h => nomatch h⟩
theorem Coded.clockFault : Coded.Statement (.clockFault) :=  ⟨rfl, fun h => nomatch h⟩
theorem Coded.watchdogFault : Coded.Statement (.watchdogFault) :=  ⟨rfl, fun h => nomatch h⟩
theorem Coded.frzNAssert : Coded.Statement (.frzNAssert) :=  ⟨rfl, fun h => nomatch h⟩
theorem Coded.frzNDeassert : Coded.Statement (.frzNDeassert) :=  ⟨rfl, fun h => nomatch h⟩
theorem Coded.powerOnReset : Coded.Statement (.powerOnReset) :=  ⟨rfl, fun h => nomatch h⟩
theorem Coded.warmReset : Coded.Statement (.warmReset) :=  ⟨rfl, fun h => nomatch h⟩
theorem Coded.reservedEncoding : ∀ x0 x1, Coded.Statement (.reservedEncoding x0 x1) := fun _ _ => ⟨rfl, fun h => nomatch h⟩
theorem Coded.fetchPageTrap : ∀ x0 x1, Coded.Statement (.fetchPageTrap x0 x1) := fun _ _ => ⟨rfl, fun h => nomatch h⟩
theorem Coded.windowEndClose : ∀ x0 x1, Coded.Statement (.windowEndClose x0 x1) := fun _ _ => ⟨rfl, fun h => nomatch h⟩
theorem Coded.bwWindowEndClose : ∀ x0 x1, Coded.Statement (.bwWindowEndClose x0 x1) := fun _ _ => ⟨rfl, fun h => nomatch h⟩
theorem Coded.predicateComplete : ∀ x0 x1, Coded.Statement (.predicateComplete x0 x1) := fun _ _ => ⟨rfl, fun h => nomatch h⟩
theorem Coded.tgetCopyDone : ∀ x0 x1, Coded.Statement (.tgetCopyDone x0 x1) := fun _ _ => ⟨rfl, fun h => nomatch h⟩
theorem Coded.trapTargetArrive : ∀ x0, Coded.Statement (.trapTargetArrive x0) := fun _ => ⟨rfl, fun h => nomatch h⟩
theorem Coded.rhoashFrameReplay : ∀ x0, Coded.Statement (.rhoashFrameReplay x0) := fun _ => ⟨rfl, fun h => nomatch h⟩

end Sys2Proof.Laws
end

