-- ==== Sys2Proof/Tests/Slice0.lean ====
section
/-! SUPPORT. Tests: reserved values, decoding, single steps, and a witness for the hypotheses of each statement. -/

set_option Elab.async false

namespace Sys2Proof.Tests

open Sys2Proof Sys2Proof.Machine

/-! ### Helpers -/

/-- A small machine: one task of context 0 in slot 0 of core 0, with the word `w` at its PC. -/
def tw (w : Nat) : State := State.reset.withFetchWord 32 w
def t0 : State := tw 0
/-- The result of a meaning that completes. -/
def okb {α : Type} (r : Except Stop (α × State)) (f : α → State → Bool) : Bool := match r with
  | .ok (a, s) => f a s
  | .error _ => false
def isOk {α : Type} [DecidableEq α] (r : Except Stop (α × State)) (a : α) (s : State) : Bool := okb r (fun b t => decide (b = a) && decide (t = s))
theorem isOk_eq {α : Type} [DecidableEq α] {r : Except Stop (α × State)} {a : α} {s : State} (h : isOk r a s = true) : r = .ok (a, s) := by
  unfold isOk okb at h
  split at h
  · simp only [Bool.and_eq_true, decide_eq_true_eq] at h; rw [h.1, h.2]
  · cases h
/-- What a next state holds. -/
def nx (r : Host.Outcome State Fault Refusal) (f : State → Bool) : Bool := match r with
  | .next t => f t
  | _ => false
def faults (r : Host.Outcome State Fault Refusal) : Bool := match r with
  | .fault _ => true
  | _ => false
/-- The outbound effects of an unpaired context pass. -/
theorem passes (s : State) (h : s.paired = false) : Passes s true := by
  intro a data lanes; simp only [outbound, h]; rfl

/-! ### Reserved field values are refused (R30), one term for each check; decoding refuses the word too -/

theorem test_reserved_values_1 : ([.sys 2 19 7, .pfx 2 5 1 1 11 5 31 17, .pfx 2 5 1 1 11 5 31 23, .pfx 2 5 1 1 11 5 0 18, .bmask 1434 6 5 8,
    .bmask 1434 6 8 3, .bmask 1434 4 5 3, .bmask 1434 5 5 3, .ld 358 6 3 13 7, .ld 358 7 1 13 13,
    .st 358 5 3 13 7, .vld 358 5 3 13 7, .vst 358 3 3 13 7, .vst 358 4 2 13 7, .vgather 5 2 3 1 13 19 7,
    .vscatter 5 2 3 1 13 19 7, .pref 358 1 13, .pref 358 3 13, .lda 37 3 2 3 13 7, .lda 37 5 2 2 13 7,
    .strel 37 4 2 3 13 7, .strel 37 5 2 2 13 7, .fence 1 1 5, .fence 0 0 2, .amoSwap 3 2 13 19 7,
    .amoSwap 2 1 13 19 7, .amoCas 3 2 13 19 7, .amoCas 2 1 13 19 7, .amoAdd 3 2 13 19 7, .amoAdd 2 1 13 19 7,
    .amoAnd 3 2 13 19 7, .amoAnd 2 1 13 19 7, .amoOr 3 2 13 19 7, .amoOr 2 1 13 19 7, .amoXor 3 2 13 19 7,
    .amoXor 2 1 13 19 7, .amoMinS 3 2 13 19 7, .amoMinS 2 1 13 19 7, .amoMaxS 3 2 13 19 7, .amoMaxS 2 1 13 19 7] : List Instr).all (fun i => !i.wellFormed) = true := by decide +kernel
theorem test_reserved_values_2 : ([.amoMinZ 3 2 13 19 7, .amoMinZ 2 1 13 19 7, .amoMaxZ 3 2 13 19 7, .amoMaxZ 2 1 13 19 7, .amoFadd 2 2 13 19 7,
    .amoFadd 1 1 13 19 7, .amoFmin 2 2 13 19 7, .amoFmin 0 1 13 19 7, .amoFmax 2 2 13 19 7, .amoFmax 1 1 13 19 7,
    .amoXadd 2 2 13 19 7, .amoXadd 1 3 13 19 7, .amoXaddv 3 13 19 7, .amoFlags 2 19 7, .mbtake 13 4 7,
    .mbclr 4, .tsread 0 1 7, .tstat 5 3 7, .tstat 5 4 7, .tstat 5 31 7, .cbld 3 5 13 19 7, .cblda 3 5 13 19 7,
    .spawn 48 13 19 7, .spawn 62 13 19 7, .spawnr 48 13 19 7, .launch 62 13 19 7, .gang 0 7,
    .pairchk 3 5, .pairchk 2 8, .add 8 13 19 7, .sub 8 13 19 7, .and 8 13 19 7,
    .or 8 13 19 7, .xor 8 13 19 7, .sll 8 13 19 7, .srl 8 13 19 7, .sra 8 13 19 7,
    .slt 8 13 19 7, .min 8 13 19 7, .max 8 13 19 7, .adds 8 13 19 7, .subs 8 13 19 7] : List Instr).all (fun i => !i.wellFormed) = true := by decide +kernel
theorem test_reserved_values_3 : ([.clz 8 19 7, .ctz 8 19 7, .popc 8 19 7, .ext 1 12 52 19 7, .ins 1 63 19 7,
    .mul 8 13 19 7, .mulh 8 13 19 7, .div 8 13 19 7, .rem 8 13 19 7, .muls 8 13 19 7,
    .fadd 12 13 19 7, .fadd 17 13 19 7, .fsub 12 13 19 7, .fsub 17 13 19 7, .fmul 12 13 19 7,
    .fmul 17 13 19 7, .fdiv 12 13 19 7, .fdiv 17 13 19 7, .fsqrt 12 19 7, .fsqrt 17 19 7,
    .fmin 12 13 19 7, .fmin 17 13 19 7, .fmax 12 13 19 7, .fmax 17 13 19 7, .feq 12 13 19 7,
    .feq 17 13 19 7, .flt 12 13 19 7, .flt 17 13 19 7, .fle 12 13 19 7, .fle 17 13 19 7,
    .fcvt 8 6 19 7, .fcvt 14 17 19 7, .fcvt 3 4 19 7, .fclass 12 19 7, .fclass 17 19 7,
    .fsgnj 12 13 19 7, .fsgnj 17 13 19 7, .fsgnjn 12 13 19 7, .fsgnjn 17 13 19 7, .fsgnjx 12 13 19 7] : List Instr).all (fun i => !i.wellFormed) = true := by decide +kernel
theorem test_reserved_values_4 : ([.fsgnjx 17 13 19 7, .vadd 8 13 19 7, .vsub 8 13 19 7, .vmul 8 13 19 7, .vmulh 8 13 19 7,
    .vmin 8 13 19 7, .vmax 8 13 19 7, .vadds 8 13 19 7, .vsubs 8 13 19 7, .vmuls 8 13 19 7,
    .vabsd 8 13 19 7, .vavg 8 13 19 7, .vabs 8 19 7, .vfadd 12 13 19 7, .vfadd 17 13 19 7,
    .vfsub 12 13 19 7, .vfsub 17 13 19 7, .vfmul 12 13 19 7, .vfmul 17 13 19 7, .vfdiv 12 13 19 7,
    .vfdiv 17 13 19 7, .vfsqrt 12 19 7, .vfsqrt 17 19 7, .vfmin 12 13 19 7, .vfmin 17 13 19 7,
    .vfmax 12 13 19 7, .vfmax 17 13 19 7, .vfsgnj 12 13 19 7, .vfsgnj 17 13 19 7, .vfsgnjn 12 13 19 7,
    .vfsgnjn 17 13 19 7, .vfsgnjx 12 13 19 7, .vfsgnjx 17 13 19 7, .vand 8 13 19 7, .vand 12 13 19 7,
    .vand 17 13 19 7, .vor 8 13 19 7, .vor 12 13 19 7, .vor 17 13 19 7, .vxor 8 13 19 7] : List Instr).all (fun i => !i.wellFormed) = true := by decide +kernel
theorem test_reserved_values_5 : ([.vxor 12 13 19 7, .vxor 17 13 19 7, .vandn 8 13 19 7, .vandn 12 13 19 7, .vandn 17 13 19 7,
    .vsll 8 13 19 7, .vsrl 8 13 19 7, .vsra 8 13 19 7, .vror 8 13 19 7, .vceq 8 13 19 7,
    .vceq 12 13 19 7, .vceq 17 13 19 7, .vceq 5 13 19 8, .vcne 8 13 19 7, .vcne 12 13 19 7,
    .vcne 17 13 19 7, .vcne 5 13 19 8, .vclt 8 13 19 7, .vclt 12 13 19 7, .vclt 17 13 19 7,
    .vclt 5 13 19 8, .vcle 8 13 19 7, .vcle 12 13 19 7, .vcle 17 13 19 7, .vcle 5 13 19 8,
    .vctst 8 13 19 7, .vctst 5 13 19 8, .vsel 5 8 13 19 7, .vsel 5 12 13 19 7, .vsel 5 17 13 19 7,
    .vcvt 1 1 17 13 19 7, .vcvt 1 1 15 17 19 7, .vcvt 1 1 18 13 19 7, .vcvt 1 2 15 13 19 7, .vcvt 1 1 16 8 19 7,
    .vperm 8 13 19 7, .vperm 12 13 19 7, .vperm 17 13 19 7, .vslideup 8 13 19 7, .vslideup 12 13 19 7] : List Instr).all (fun i => !i.wellFormed) = true := by decide +kernel
theorem test_reserved_values_6 : ([.vslideup 17 13 19 7, .vslidedn 8 13 19 7, .vslidedn 12 13 19 7, .vslidedn 17 13 19 7, .vbcast 8 13 7,
    .vbcast 12 13 7, .vbcast 17 13 7, .vbcastl 8 13 19 7, .vbcastl 12 13 19 7, .vbcastl 17 13 19 7,
    .vext 8 13 19 7, .vext 12 13 19 7, .vext 17 13 19 7, .vins 8 13 19 7, .vins 12 13 19 7,
    .vins 17 13 19 7, .vzipl 8 13 19 7, .vzipl 12 13 19 7, .vzipl 17 13 19 7, .vziph 8 13 19 7,
    .vziph 12 13 19 7, .vziph 17 13 19 7, .vuzpe 8 13 19 7, .vuzpe 12 13 19 7, .vuzpe 17 13 19 7,
    .vuzpo 8 13 19 7, .vuzpo 12 13 19 7, .vuzpo 17 13 19 7, .vredsum 8 3 19 7, .vredsum 12 3 19 7,
    .vredsum 17 3 19 7, .vredsum 5 8 19 7, .vredmin 8 3 19 7, .vredmin 12 3 19 7, .vredmin 17 3 19 7,
    .vredmin 5 8 19 7, .vredmax 8 3 19 7, .vredmax 12 3 19 7, .vredmax 17 3 19 7, .vredmax 5 8 19 7] : List Instr).all (fun i => !i.wellFormed) = true := by decide +kernel
theorem test_reserved_values_7 : ([.vdot 8 13 19 7, .vdot 12 13 19 7, .vdot 17 13 19 7, .vscan 8 3 19 7, .vscan 12 3 19 7,
    .vscan 17 3 19 7, .vscan 5 8 19 7, .vscanmin 8 3 19 7, .vscanmin 12 3 19 7, .vscanmin 17 3 19 7,
    .vscanmin 5 8 19 7, .vscanmax 8 3 19 7, .vscanmax 12 3 19 7, .vscanmax 17 3 19 7, .vscanmax 5 8 19 7,
    .vmxsc 2 12 9 19 7, .vmxsc 2 16 9 19 7, .vmxsc 2 14 7 19 7, .vmxsc 2 14 13 19 7, .mand 8 3 5,
    .mand 6 8 5, .mand 6 3 8, .mor 8 3 5, .mor 6 8 5, .mor 6 3 8,
    .mxor 8 3 5, .mxor 6 8 5, .mxor 6 3 8, .mandn 8 3 5, .mandn 6 8 5,
    .mandn 6 3 8, .mnot 8 6, .mnot 3 8, .mpopc 8 7, .mfirst 8 7,
    .mfromg 19 8, .mtog 8 7, .mlanes 8 7, .mlanes 12 7, .mlanes 17 7] : List Instr).all (fun i => !i.wellFormed) = true := by decide +kernel
theorem test_reserved_values_8 : ([.mlanes 5 8, .gori2 1 5 9 0, .gori2 1 5 9 6, .gori3 1 5 9 0, .gori3 1 5 9 6,
    .ginc 1 5 9 0, .ginc 1 5 9 6, .gins 1 5 9 0, .gins 1 5 9 6, .gseg 1 5 9 0,
    .gseg 1 5 9 6, .xclr 12 19, .xclr 16 19, .xadd 12 13 19 5, .xadd 16 13 19 5,
    .xadd 14 13 19 8, .cbx 11 17 6 19 7, .cbx 11 23 6 19 7, .cbx 11 19 8 19 7] : List Instr).all (fun i => !i.wellFormed) = true := by decide +kernel
theorem test_reserved_words : decodeWord 0x8400003C = none ∧ decodeWord 0x000C0020 = none ∧ decode 0x000C0020 = .error .reservedValue ∧
    decode 0xFFFFFFFE = .error .reservedEncoding ∧ decodeBytes [0, 0, 0] = .error .truncated ∧ decodeWord 1 = some (.add 0 0 0 0) := by
  decide +kernel
/-! ### Each constructor of a word, from a word written out bit by bit from its encoding table, one theorem per major -/

theorem test_decode_A00 : decodeWord 0b00000010101101100110011100000001 = some (.add 5 13 19 7) ∧
    decodeWord 0b00010010101101100110011100000001 = some (.sub 5 13 19 7) ∧
    decodeWord 0b00100010101101100110011100000001 = some (.and 5 13 19 7) ∧
    decodeWord 0b00110010101101100110011100000001 = some (.or 5 13 19 7) ∧
    decodeWord 0b01000010101101100110011100000001 = some (.xor 5 13 19 7) ∧
    decodeWord 0b01010010101101100110011100000001 = some (.sll 5 13 19 7) ∧
    decodeWord 0b01100010101101100110011100000001 = some (.srl 5 13 19 7) ∧
    decodeWord 0b01110010101101100110011100000001 = some (.sra 5 13 19 7) ∧
    decodeWord 0b10000010101101100110011100000001 = some (.slt 5 13 19 7) ∧
    decodeWord 0b10010010101101100110011100000001 = some (.min 5 13 19 7) ∧
    decodeWord 0b10100010101101100110011100000001 = some (.max 5 13 19 7) ∧
    decodeWord 0b10110010101101100110011100000001 = some (.adds 5 13 19 7) ∧
    decodeWord 0b11000010101101100110011100000001 = some (.subs 5 13 19 7) ∧
    decodeWord 0b11010010100000100110011100000001 = some (.clz 5 19 7) ∧
    decodeWord 0b11100010100000100110011100000001 = some (.ctz 5 19 7) ∧
    decodeWord 0b11110010100000100110011100000001 = some (.popc 5 19 7) := by decide +kernel
theorem test_decode_A01 : decodeWord 0b10110011010111100110011100000101 = some (.addi 11479 19 7) := by decide +kernel
theorem test_decode_A02 : decodeWord 0b10110011010111100110011100001001 = some (.andi 11479 19 7) := by decide +kernel
theorem test_decode_A03 : decodeWord 0b10110011010111100110011100001101 = some (.ori 11479 19 7) := by decide +kernel
theorem test_decode_A04 : decodeWord 0b10110011010111100110011100010001 = some (.xori 11479 19 7) := by decide +kernel
theorem test_decode_A05 : decodeWord 0b01011001101011100110011100010101 = some (.slti 5739 19 7) ∧
    decodeWord 0b11011001101011100110011100010101 = some (.sltiz 5739 19 7) := by decide +kernel
theorem test_decode_A06 : decodeWord 0b00000000100101100110011100011001 = some (.slli 37 19 7) ∧
    decodeWord 0b01000000100101100110011100011001 = some (.srli 37 19 7) ∧
    decodeWord 0b10000000100101100110011100011001 = some (.srai 37 19 7) ∧
    decodeWord 0b11000000100101100110011100011001 = some (.rori 37 19 7) := by decide +kernel
theorem test_decode_A07 : decodeWord 0b10110011010111100110011100011101 = some (.lui 11479 19 7) := by decide +kernel
theorem test_decode_A08 : decodeWord 0b10110011010111000000011100100001 = some (.addpc 11479 7) := by decide +kernel
theorem test_decode_A09 : decodeWord 0b01001011100101100110011100100101 = some (.ext 1 11 37 19 7) ∧
    decodeWord 0b10001011100101100110011100100101 = some (.ins 11 37 19 7) := by decide +kernel
theorem test_decode_A0a : decodeWord 0b00000010101101100110011100101001 = some (.mul 5 13 19 7) ∧
    decodeWord 0b00010010101101100110011100101001 = some (.mulh 5 13 19 7) ∧
    decodeWord 0b00100010101101100110011100101001 = some (.div 5 13 19 7) ∧
    decodeWord 0b00110010101101100110011100101001 = some (.rem 5 13 19 7) ∧
    decodeWord 0b01000010101101100110011100101001 = some (.muls 5 13 19 7) := by decide +kernel
theorem test_decode_A0b : decodeWord 0b00000111001101100110011100101101 = some (.fadd 14 13 19 7) ∧
    decodeWord 0b00010111001101100110011100101101 = some (.fsub 14 13 19 7) ∧
    decodeWord 0b00100111001101100110011100101101 = some (.fmul 14 13 19 7) ∧
    decodeWord 0b00110111001101100110011100101101 = some (.fdiv 14 13 19 7) ∧
    decodeWord 0b01000111000000100110011100101101 = some (.fsqrt 14 19 7) ∧
    decodeWord 0b01010111001101100110011100101101 = some (.fmin 14 13 19 7) ∧
    decodeWord 0b01100111001101100110011100101101 = some (.fmax 14 13 19 7) ∧
    decodeWord 0b01110111001101100110011100101101 = some (.feq 14 13 19 7) ∧
    decodeWord 0b10000111001101100110011100101101 = some (.flt 14 13 19 7) ∧
    decodeWord 0b10010111001101100110011100101101 = some (.fle 14 13 19 7) ∧
    decodeWord 0b10100111000110100110011100101101 = some (.fcvt 14 6 19 7) ∧
    decodeWord 0b10110111000000100110011100101101 = some (.fclass 14 19 7) ∧
    decodeWord 0b11000111001101100110011100101101 = some (.fsgnj 14 13 19 7) ∧
    decodeWord 0b11010111001101100110011100101101 = some (.fsgnjn 14 13 19 7) ∧
    decodeWord 0b11100111001101100110011100101101 = some (.fsgnjx 14 13 19 7) := by decide +kernel
theorem test_decode_A0c : decodeWord 0b00001100101101100110011100110001 = some (.fma 25 13 19 7) ∧
    decodeWord 0b10001100101101100110011100110001 = some (.fnma 25 13 19 7) := by decide +kernel
theorem test_decode_A10 : decodeWord 0b00000010101101100110011101000001 = some (.vadd 5 13 19 7) ∧
    decodeWord 0b00010010101101100110011101000001 = some (.vsub 5 13 19 7) ∧
    decodeWord 0b00100010101101100110011101000001 = some (.vmul 5 13 19 7) ∧
    decodeWord 0b00110010101101100110011101000001 = some (.vmulh 5 13 19 7) ∧
    decodeWord 0b01000010101101100110011101000001 = some (.vmin 5 13 19 7) ∧
    decodeWord 0b01010010101101100110011101000001 = some (.vmax 5 13 19 7) ∧
    decodeWord 0b01100010101101100110011101000001 = some (.vadds 5 13 19 7) ∧
    decodeWord 0b01110010101101100110011101000001 = some (.vsubs 5 13 19 7) ∧
    decodeWord 0b10000010101101100110011101000001 = some (.vmuls 5 13 19 7) ∧
    decodeWord 0b10010010101101100110011101000001 = some (.vabsd 5 13 19 7) ∧
    decodeWord 0b10100010101101100110011101000001 = some (.vavg 5 13 19 7) ∧
    decodeWord 0b10110010100000100110011101000001 = some (.vabs 5 19 7) := by decide +kernel
theorem test_decode_A11 : decodeWord 0b00000111001101100110011101000101 = some (.vfadd 14 13 19 7) ∧
    decodeWord 0b00010111001101100110011101000101 = some (.vfsub 14 13 19 7) ∧
    decodeWord 0b00100111001101100110011101000101 = some (.vfmul 14 13 19 7) ∧
    decodeWord 0b00110111001101100110011101000101 = some (.vfdiv 14 13 19 7) ∧
    decodeWord 0b01000111000000100110011101000101 = some (.vfsqrt 14 19 7) ∧
    decodeWord 0b01010111001101100110011101000101 = some (.vfmin 14 13 19 7) ∧
    decodeWord 0b01100111001101100110011101000101 = some (.vfmax 14 13 19 7) ∧
    decodeWord 0b01110111001101100110011101000101 = some (.vfsgnj 14 13 19 7) ∧
    decodeWord 0b10000111001101100110011101000101 = some (.vfsgnjn 14 13 19 7) ∧
    decodeWord 0b10010111001101100110011101000101 = some (.vfsgnjx 14 13 19 7) := by decide +kernel
theorem test_decode_A12 : decodeWord 0b01011100101101100110011101001001 = some (.vfma 5 25 13 19 7) ∧
    decodeWord 0b11011100101101100110011101001001 = some (.vfnma 5 25 13 19 7) := by decide +kernel
theorem test_decode_A13 : decodeWord 0b00000010101101100110011101001101 = some (.vand 5 13 19 7) ∧
    decodeWord 0b00010010101101100110011101001101 = some (.vor 5 13 19 7) ∧
    decodeWord 0b00100010101101100110011101001101 = some (.vxor 5 13 19 7) ∧
    decodeWord 0b00110010101101100110011101001101 = some (.vandn 5 13 19 7) ∧
    decodeWord 0b01000010101101100110011101001101 = some (.vsll 5 13 19 7) ∧
    decodeWord 0b01010010101101100110011101001101 = some (.vsrl 5 13 19 7) ∧
    decodeWord 0b01100010101101100110011101001101 = some (.vsra 5 13 19 7) ∧
    decodeWord 0b01110010101101100110011101001101 = some (.vror 5 13 19 7) := by decide +kernel
theorem test_decode_A14 : decodeWord 0b00000010101101100110011101010001 = some (.vceq 5 13 19 7) ∧
    decodeWord 0b00010010101101100110011101010001 = some (.vcne 5 13 19 7) ∧
    decodeWord 0b00100010101101100110011101010001 = some (.vclt 5 13 19 7) ∧
    decodeWord 0b00110010101101100110011101010001 = some (.vcle 5 13 19 7) ∧
    decodeWord 0b01000010101101100110011101010001 = some (.vctst 5 13 19 7) ∧
    decodeWord 0b11010010101101100110011101010001 = some (.vsel 5 5 13 19 7) := by decide +kernel
theorem test_decode_A15 : decodeWord 0b10010111101101100110011101010101 = some (.vcvt 1 1 15 13 19 7) := by decide +kernel
theorem test_decode_A16 : decodeWord 0b00000010101101100110011101011001 = some (.vperm 5 13 19 7) ∧
    decodeWord 0b00010010101101100110011101011001 = some (.vslideup 5 13 19 7) ∧
    decodeWord 0b00100010101101100110011101011001 = some (.vslidedn 5 13 19 7) ∧
    decodeWord 0b00110010101101000000011101011001 = some (.vbcast 5 13 7) ∧
    decodeWord 0b01000010101101100110011101011001 = some (.vbcastl 5 13 19 7) ∧
    decodeWord 0b01010010101101100110011101011001 = some (.vext 5 13 19 7) ∧
    decodeWord 0b01100010101101100110011101011001 = some (.vins 5 13 19 7) ∧
    decodeWord 0b01110010101101100110011101011001 = some (.vzipl 5 13 19 7) ∧
    decodeWord 0b10000010101101100110011101011001 = some (.vziph 5 13 19 7) ∧
    decodeWord 0b10010010101101100110011101011001 = some (.vuzpe 5 13 19 7) ∧
    decodeWord 0b10100010101101100110011101011001 = some (.vuzpo 5 13 19 7) := by decide +kernel
theorem test_decode_A17 : decodeWord 0b00000010100011100110011101011101 = some (.vredsum 5 3 19 7) ∧
    decodeWord 0b00010010100011100110011101011101 = some (.vredmin 5 3 19 7) ∧
    decodeWord 0b00100010100011100110011101011101 = some (.vredmax 5 3 19 7) ∧
    decodeWord 0b00110010101101100110011101011101 = some (.vdot 5 13 19 7) ∧
    decodeWord 0b01000010100011100110011101011101 = some (.vscan 5 3 19 7) ∧
    decodeWord 0b01010010100011100110011101011101 = some (.vscanmin 5 3 19 7) ∧
    decodeWord 0b01100010100011100110011101011101 = some (.vscanmax 5 3 19 7) ∧
    decodeWord 0b11100111001001100110011101011101 = some (.vmxsc 2 14 9 19 7) := by decide +kernel
theorem test_decode_A18 : decodeWord 0b00000000000110000110010101100001 = some (.mand 6 3 5) ∧
    decodeWord 0b00010000000110000110010101100001 = some (.mor 6 3 5) ∧
    decodeWord 0b00100000000110000110010101100001 = some (.mxor 6 3 5) ∧
    decodeWord 0b00110000000110000110010101100001 = some (.mandn 6 3 5) ∧
    decodeWord 0b01000000000000000110011001100001 = some (.mnot 3 6) ∧
    decodeWord 0b01010000000000001010011101100001 = some (.mpopc 5 7) ∧
    decodeWord 0b01100000000000001000011101100001 = some (.mfirst 4 7) ∧
    decodeWord 0b01110000000000100110011101100001 = some (.mfromg 19 7) ∧
    decodeWord 0b10000000000000000100011101100001 = some (.mtog 2 7) ∧
    decodeWord 0b10010010100000000000011101100001 = some (.mlanes 5 7) := by decide +kernel
theorem test_decode_A19 : decodeWord 0b00011010000000010010010001100101 = some (.gori2 1 5 9 4) ∧
    decodeWord 0b00111010000000010010010001100101 = some (.gori3 1 5 9 4) ∧
    decodeWord 0b01011010000000010010010001100101 = some (.ginc 1 5 9 4) ∧
    decodeWord 0b01111010000000010010010001100101 = some (.gins 1 5 9 4) ∧
    decodeWord 0b10011010000000010010010001100101 = some (.gseg 1 5 9 4) := by decide +kernel
theorem test_decode_A1a : decodeWord 0b00000111000000100110000001101001 = some (.xclr 14 19) ∧
    decodeWord 0b00010111001101100110010101101001 = some (.xadd 14 13 19 5) ∧
    decodeWord 0b00100111100000100110011101101001 = some (.xrnd 19 7) := by decide +kernel
theorem test_decode_A1b : decodeWord 0b10111001100110100110011101101101 = some (.cbx 11 19 6 19 7) := by decide +kernel
theorem test_decode_C00 : decodeWord 0b00000000000000000000000000000000 = some .nop ∧
    decodeWord 0b00000000100000000000000000000000 = some .halt ∧
    decodeWord 0b00000001001101100110000000000000 = some (.haltr 13 19) ∧
    decodeWord 0b00000001110110100101101100000000 = some (.brk 23131) ∧
    decodeWord 0b00000010000001100110011100000000 = some (.sys 1 19 7) := by decide +kernel
theorem test_decode_C01 : decodeWord 0b10101111011101111111001000000100 = some (.pfx 2 5 1 1 11 5 31 18) := by decide +kernel
theorem test_decode_C02 : decodeWord 0b10110101101001011100001100001000 = some (.br 11904451) := by decide +kernel
theorem test_decode_C03 : decodeWord 0b10110101101001011100001100001100 = some (.brl 11904451) := by decide +kernel
theorem test_decode_C04 : decodeWord 0b00000000000000100110000000010000 = some (.jr 19) ∧
    decodeWord 0b00000000100000100110011100010000 = some (.jrl 19 7) := by decide +kernel
theorem test_decode_C05 : decodeWord 0b10110011010101011011001100010100 = some (.bcc 1434 5 13 19) := by decide +kernel
theorem test_decode_C06 : decodeWord 0b10110011010110001010001100011000 = some (.bmask 1434 6 5 3) := by decide +kernel
theorem test_decode_C07 : decodeWord 0b10110011010110100111100100011100 = some (.loop 367315 25) := by decide +kernel
theorem test_decode_C08 : decodeWord 0b10110011011001011010011100100000 = some (.ld 358 6 1 13 7) := by decide +kernel
theorem test_decode_C09 : decodeWord 0b10110011010110011010011100100100 = some (.st 358 5 2 13 7) := by decide +kernel
theorem test_decode_C0a : decodeWord 0b10110011010101011010011100101000 = some (.vld 358 5 1 13 7) := by decide +kernel
theorem test_decode_C0b : decodeWord 0b10110011001110011010011100101100 = some (.vst 358 3 2 13 7) := by decide +kernel
theorem test_decode_C0c : decodeWord 0b01011010101101100110011100110000 = some (.vgather 5 2 2 1 13 19 7) ∧
    decodeWord 0b11011010101101100110011100110000 = some (.vscatter 5 2 2 1 13 19 7) := by decide +kernel
theorem test_decode_C0d : decodeWord 0b10110011000010011010000000110100 = some (.pref 358 2 13) ∧
    decodeWord 0b10110011000110011010000000110100 = some (.prefh 358 13) ∧
    decodeWord 0b10110011001010011010000000110100 = some (.clean 358 13) ∧
    decodeWord 0b10110011001110011010000000110100 = some (.inv 358 13) := by decide +kernel
theorem test_decode_C0e : decodeWord 0b10010101101010011010011100111000 = some (.lda 37 3 2 2 13 7) ∧
    decodeWord 0b10010110011010011010011100111000 = some (.strel 37 4 2 2 13 7) := by decide +kernel
theorem test_decode_C0f : decodeWord 0b00001101000000000000000000111100 = some (.fence 1 1 2) := by decide +kernel
theorem test_decode_C10 : decodeWord 0b00000101001101100110011101000000 = some (.amoSwap 2 2 13 19 7) ∧
    decodeWord 0b00001101001101100110011101000000 = some (.amoCas 2 2 13 19 7) ∧
    decodeWord 0b00010101001101100110011101000000 = some (.amoAdd 2 2 13 19 7) ∧
    decodeWord 0b00011101001101100110011101000000 = some (.amoAnd 2 2 13 19 7) ∧
    decodeWord 0b00100101001101100110011101000000 = some (.amoOr 2 2 13 19 7) ∧
    decodeWord 0b00101101001101100110011101000000 = some (.amoXor 2 2 13 19 7) ∧
    decodeWord 0b00110101001101100110011101000000 = some (.amoMinS 2 2 13 19 7) ∧
    decodeWord 0b00111101001101100110011101000000 = some (.amoMaxS 2 2 13 19 7) ∧
    decodeWord 0b01000101001101100110011101000000 = some (.amoMinZ 2 2 13 19 7) ∧
    decodeWord 0b01001101001101100110011101000000 = some (.amoMaxZ 2 2 13 19 7) ∧
    decodeWord 0b01010011001101100110011101000000 = some (.amoFadd 1 2 13 19 7) ∧
    decodeWord 0b01011001001101100110011101000000 = some (.amoFmin 0 2 13 19 7) ∧
    decodeWord 0b01100011001101100110011101000000 = some (.amoFmax 1 2 13 19 7) ∧
    decodeWord 0b01101011001101100110011101000000 = some (.amoXadd 1 2 13 19 7) ∧
    decodeWord 0b01110001001101100110011101000000 = some (.amoXaddv 2 13 19 7) ∧
    decodeWord 0b01111001101101100110011101000000 = some (.amoDep 13 19 7) ∧
    decodeWord 0b10000010000000100110011101000000 = some (.amoFlags 1 19 7) := by decide +kernel
theorem test_decode_C11 : decodeWord 0b01110000000010100010011101000100 = some (.csrrw 14 81 7) ∧
    decodeWord 0b01110010000010100010011101000100 = some (.csrrs 14 81 7) ∧
    decodeWord 0b01110100000010100010011101000100 = some (.csrrc 14 81 7) := by decide +kernel
theorem test_decode_C12 : decodeWord 0b00000000001101000110011101001000 = some (.mbtake 13 3 7) ∧
    decodeWord 0b00000000100000000100000001001000 = some (.mbclr 2) := by decide +kernel
theorem test_decode_C14 : decodeWord 0b00000101100000000000011101010000 = some (.recv 11 7) ∧
    decodeWord 0b00001101100000000000011101010000 = some (.rpeek 11 7) ∧
    decodeWord 0b00010101100000000000000001010000 = some (.rack 11) ∧
    decodeWord 0b00011101100010000000011101010000 = some (.qstat 11 2 7) := by decide +kernel
theorem test_decode_C15 : decodeWord 0b00000000001101100110011101010100 = some (.emit 13 19 7) ∧
    decodeWord 0b00001000001101100110011101010100 = some (.emitl 13 19 7) ∧
    decodeWord 0b00010000000000100110000001010100 = some (.tide 19) ∧
    decodeWord 0b00011000000001100110011101010100 = some (.tsread 1 19 7) ∧
    decodeWord 0b00100000000000100110011101010100 = some (.tsinh 19 7) := by decide +kernel
theorem test_decode_C16 : decodeWord 0b00000010100000000000011101011000 = some (.tflush 5 7) ∧
    decodeWord 0b00001000001101100110011101011000 = some (.tget 13 19 7) ∧
    decodeWord 0b00010000000000100110011101011000 = some (.trel 19 7) ∧
    decodeWord 0b00011010100010000000011101011000 = some (.tstat 5 2 7) ∧
    decodeWord 0b00011000000011100110011101011000 = some (.tstatHandle 19 7) := by decide +kernel
theorem test_decode_C17 : decodeWord 0b00000000000000100110011101011100 = some (.mxq 19 7) ∧
    decodeWord 0b00001000000000100110011101011100 = some (.mxpoll 19 7) ∧
    decodeWord 0b00010000000000100110011101011100 = some (.mxwait 19 7) ∧
    decodeWord 0b00011000000000100110011101011100 = some (.mxcan 19 7) := by decide +kernel
theorem test_decode_C18 : decodeWord 0b00000000000000100110011101100000 = some (.ebq 19 7) ∧
    decodeWord 0b00001000000000100110011101100000 = some (.ebwait 19 7) ∧
    decodeWord 0b00001100000000100110011101100000 = some (.ebwaitNw 19 7) := by decide +kernel
theorem test_decode_C19 : decodeWord 0b00000110101101100110011101100100 = some (.cbld 1 5 13 19 7) ∧
    decodeWord 0b00011010101101100110011101100100 = some (.cblda 2 5 13 19 7) ∧
    decodeWord 0b00100010100000000000011101100100 = some (.cbswap 5 7) ∧
    decodeWord 0b00110010100000000000000001100100 = some (.cbinv 5) ∧
    decodeWord 0b01000010101101000000011101100100 = some (.cbrd 5 13 7) ∧
    decodeWord 0b01010010100000000000011101100100 = some (.cbstat 5 7) := by decide +kernel
theorem test_decode_C1a : decodeWord 0b00010010101101100110011101101000 = some (.spawn 37 13 19 7) ∧
    decodeWord 0b00110010101101100110011101101000 = some (.spawnr 37 13 19 7) ∧
    decodeWord 0b01000000001101100110011101101000 = some (.amsg 13 19 7) ∧
    decodeWord 0b01100000000000100110011101101000 = some (.migrate 19 7) ∧
    decodeWord 0b10010010101101100110011101101000 = some (.launch 37 13 19 7) := by decide +kernel
theorem test_decode_C1b : decodeWord 0b00000000001101100110000001101100 = some (.join 13 19) ∧
    decodeWord 0b00000000100000100110000001101100 = some (.jdone 19) ∧
    decodeWord 0b00000001000000100110011101101100 = some (.jwait 19 7) := by decide +kernel
theorem test_decode_C1c : decodeWord 0b00000001000000000000011101110000 = some (.gang 2 7) ∧
    decodeWord 0b00100000000000000000000001110000 = some .split ∧
    decodeWord 0b01000001000000001010000001110000 = some (.pairchk 2 5) := by decide +kernel
theorem test_decode_C1d : decodeWord 0b00010100100000000000011101110100 = some (.barw 2 2 1 7) ∧
    decodeWord 0b00110100100000000000011101110100 = some (.bara 2 2 1 7) ∧
    decodeWord 0b01010100000000100110011101110100 = some (.bart 2 2 19 7) := by decide +kernel
theorem test_decode_C1e : decodeWord 0b00000000001101100110011101111000 = some (.waitq 13 19 7) ∧
    decodeWord 0b00000000101101100110011101111000 = some (.wake 13 19 7) := by decide +kernel
theorem test_decode_C1f : decodeWord 0b00000000000000100110000001111100 = some (.raise 19) ∧
    decodeWord 0b00100000001101100110011101111100 = some (.tinsp 13 19 7) ∧
    decodeWord 0b00110000001101100110111001111100 = some (.tinspW 13 19 14) ∧
    decodeWord 0b01000000001101100110011101111100 = some (.tresume 13 19 7) ∧
    decodeWord 0b01100000000000100110011101111100 = some (.tkill 19 7) := by decide +kernel
/-! ### Witnesses of the statements about a step -/

theorem wit_EncodeDecodes : encodeNat (.addi 16 0 7) = some 0x00400705 ∧ (Instr.addi 16 0 7).wellFormed = true ∧
    encodeNat .halt = some 0x00800000 ∧ Instr.halt.wellFormed = true := by decide +kernel
theorem wit_LoneWordHasOneMeaning : isHead 0x00400705 = false ∧ isTail 0x00400705 = false ∧ decodeWord 0x00400705 = some (.addi 16 0 7) := by
  decide +kernel
theorem wit_DecodedIsWellFormed : isC 0x4C = true ∧ major 0x4C = 0x13 ∧ isC 0x80 = true ∧ major 0x80 = 0x20 ∧ isC 0xFC = true ∧ major 0xFC = 0x3F ∧
    isC 0x35 = false ∧ major 0x35 = 0x0D ∧ isC 0x3D = false ∧ major 0x3D = 0x0F ∧ isC 0x71 = false ∧ major 0x71 = 0x1C := by decide +kernel
theorem wit_Ready (w : Nat) (h : w = 0 ∨ w = 0x00400705 ∨ w = 0xFFFFFFFF ∨ w = 0x02042646) : Ready (tw w) := by
  rcases h with h | h | h | h <;> subst h <;>
    exact ⟨by decide +kernel, by decide +kernel, by decide +kernel, by decide +kernel, by decide +kernel, by decide +kernel⟩
theorem wit_Fetch : Fetches (tw 0x00400705) (tw 0x00400705).me.pc 0 := ⟨isOk_eq (by decide +kernel), by decide +kernel⟩
theorem wit_StepRunsDecoded : (tw 0x00400705).num 0 4 % 4 < 2 ∧
    (match decodeBytes ((tw 0x00400705).bytes 0 4) with | .ok (i, []) => decide (i = .addi 16 0 7) | _ => false) = true ∧
    (tw 0x00400705).me.pfxp = false ∧ (tw 0x00400705).me.hazard (.addi 16 0 7) = false ∧
    nx (step (tw 0x00400705)) (fun t => decide (t.rg 7 = 16) && decide (t.me.pc = 4) && decide (t.me.left = 4095)) = true := by decide +kernel
/-- Two words at the PC. -/
def twoWords (a b : Nat) : State := (tw a).putNum 4 4 b
theorem wit_StepRunsPairs : let s := twoWords 0x02042646 0x00400707
    (isOk (translate s.me.pc .fetch s) 0 s && isOk (translate (s.me.pc + 4) .fetch s) 4 s && !s.heldBack 0 4 && decide (s.agenda = []) &&
     s.mayIssue s.myCore s.mySlot && decide (s.me.pc.toNat % 8 = 0) && decide (s.num 0 4 % 4 = 2) && decide (s.num 4 4 % 4 = 3) &&
     (match decodeBytes (s.bytes 0 4) with | .ok (i, []) => decide (i = .csrrs 0 0x021 6) | _ => false) &&
     (match decodeBytes (s.bytes 4 4) with | .ok (i, []) => decide (i = .addi 16 0 7) | _ => false) &&
     !clash (.csrrs 0 0x021 6) (.addi 16 0 7) && !s.me.pfxp && !s.me.hazard (.csrrs 0 0x021 6) && !s.me.hazard (.addi 16 0 7) &&
     nx (step s) (fun t => decide (t.rg 6 = s.dtime) && decide (t.rg 7 = 16) && decide (t.me.pc = 8))) = true := by decide +kernel
/-- Cores 0 and 1 as a redundant pair, both before the word, and the twin's registers changed. -/
def tpaired (w : Nat) (f : Slot → Slot) : State :=
  let s := (tw w).modCtx 0 (fun x => { x with pair := true, cores := 3 })
  (s.modCore 1 (fun k => { k with tlb := (s.core 0).tlb })).modSlot 1 0 (fun _ => f s.me)
/-- What a pair leaves on its primary and its twin. -/
def pairOf (s : State) : Ending × Ending := match s.runSelf with
  | .next u => match (u.atSlot 1 s.cur.slot).runSelf with
    | .next v => (ending s.me u.me, ending (s.slot 1 0) v.me)
    | _ => (.wait, .wait)
  | _ => (.wait, .wait)
theorem wit_StepRunsPairs_both : let s := tpaired 0x00400705 id
    (decide (s.agenda = []) && s.mayIssue s.myCore s.mySlot && decide (s.partner = some 1) && decide (s.myCore = 0) && decide (s.me.left = 4096) &&
     (match s.nextWords with | .ok (w, t) => decide (w = 0x00400705) && t.isNone | .error _ => false) &&
     decide (pairOf s = (.done, .done)) && decide ((s.slot 1 0).reply = none) && decide ((s.slot 1 0).predicate = none) && decide ((s.slot 1 0).left ≠ 0) &&
     nx (step s) (fun t => decide (t.rg 7 = 16) && decide (t.me.left = 4095) && decide ((t.slot 1 0).g[7] = 16) && decide ((t.slot 1 0).pc = 4))) = true := by decide +kernel
/-- A latch that only the twin holds makes its word illegal: both cores stand before the bundle. -/
theorem wit_StepRunsPairs_trap : let s := tpaired 0x00400705 (fun t => { t with pfxp := true, latch := 0xFFFFFF })
    (decide (s.partner = some 1) && decide (pairOf s = (.done, .trap)) &&
     nx (step s) (fun t => decide (t.rg 7 = 0) && decide (t.me.life = .trapped) && decide (t.me.pc = 0) && decide (t.me.issued = s.me.issued) &&
       decide ((t.slot 1 0).life = .trapped) && decide ((t.slot 1 0).tcause = Cause.illegalPrefix))) = true := by decide +kernel
theorem wit_StepRunsPairs_follower :
    let b : Bundle := { pc := 0, head := 0x00400705, tail := none, next := 40, result := none, ev := Vector.replicate 4 0 }
    let s := (tw 0).modMe (fun t => { t with gang := true, leader := some (1, 0), bundles := [b] })
    (decide (s.agenda = []) && s.mayIssue s.myCore s.mySlot && decide (s.partner = none) && decide (s.me.stopAt = none) &&
     nx (step s) (fun t => decide (t.rg 7 = 16) && decide (t.me.pc = 40) && t.me.bundles.isEmpty)) = true := by decide +kernel
theorem wit_StepRunsEvents : (Instr.thermalSample [50] []).isEvent = true ∧ ofIssue (.thermalSample [50] []) = false ∧
    nx (step { t0 with agenda := [.event (.thermalSample [50] []), .tick 1] }) (fun t => decide (t.agenda = [.tick 1])) = true := by decide +kernel
theorem wit_FrameTraps : isTail 0xFFFFFFFF = true ∧ isHead 0x02042746 = true ∧ isTail 0x00400707 = true ∧
    inPlace 0x02042746 = some (.csrrs 0 0x021 7) ∧ inPlace 0x00400707 = some (.addi 16 0 7) ∧
    7 ∈ Instr.writes (.csrrs 0 0x021 7) ∧ 7 ∈ Instr.writes (.addi 16 0 7) ∧ decodeWord 0x4C = none ∧ isHead 0x4C = false ∧ isTail 0x4C = false := by decide +kernel
/-- A lone tail, a head whose second word is no tail, and a head off its boundary. -/
theorem wit_FrameTraps_reach : let s := twoWords 0x02042646 0x00400805
    let u := (twoWords 0x02042646 0x02042646).modMe (fun t => { t with pc := 4 })
    (isOk (translate s.me.pc .fetch s) 0 s && isOk (translate (s.me.pc + 4) .fetch s) 4 s && isHead (BitVec.ofNat 32 (s.num 0 4)) &&
     !isTail (BitVec.ofNat 32 (s.num 4 4)) && isOk (translate u.me.pc .fetch u) 4 u && decide (u.me.pc.toNat % 8 ≠ 0) &&
     isHead (BitVec.ofNat 32 (u.num 4 4)) && isOk (translate (u.me.pc + 4) .fetch u) 8 u &&
     isOk (translate (tw 0xFFFFFFFF).me.pc .fetch (tw 0xFFFFFFFF)) 0 (tw 0xFFFFFFFF)) = true := by decide +kernel
theorem wit_CoreChoiceAndBudget : let s := t0.modMe (fun t => { t with left := 0 })
    s.agenda = [] ∧ s.mayIssue s.myCore s.mySlot = true ∧ s.me.stopAt ≠ some s.me.issued ∧ s.me.leader = none ∧ s.me.left = 0 ∧
    s.me.frozen = false ∧ nx (step s) (fun t => decide (t.me.tcause = 0x0F) && decide (t.me.tval = 4096)) = true := by decide +kernel
/-- Slots 0 and 1 hold tasks; the one with the higher priority is chosen, and among equals the one after the last. -/
def tslots (p : BitVec 6) : State :=
  let two := t0.modSlot 0 1 (fun _ => { t0.me with prio := p })
  two.modCore 0 (fun k => { k with last := 0 })
theorem wit_CoreChoice : t0.chosen 0 = some 0 ∧ (tslots 0).chosen 0 = some 1 ∧ (tslots 5).chosen 0 = some 1 ∧
    ((tslots 0).modMe (fun t => { t with prio := 5 })).chosen 0 = some 0 ∧ t0.chosen 1 = none := by decide +kernel
theorem wit_OnlyFault : faults (step { t0 with agenda := [.core 512] }) = true ∧ nx (step { t0 with agenda := [.core 511] }) (fun _ => true) = true ∧
    faults (step { t0 with agenda := [.issue 512 0] }) = true ∧ faults (step { t0 with agenda := [.issue 0 5] }) = true ∧
    nx (step { t0 with agenda := [.issue 511 4] }) (fun _ => true) = true := by decide +kernel
theorem wit_MemoryFormKept : Mem.wf State.reset.mem = true ∧ Mem.wf (tw 0x00400705).mem = true ∧ nx (step (tw 0x00400705)) (fun t => Mem.wf t.mem) = true := by
  decide +kernel
/-- Positions 70 and 3 of a ring of 64 records, and the reset's boundaries. -/
def tring : State := t0.modCore 0 (fun k => { k with queues := [(2, {
  ctx := 0, handler := 0, size := 6, ovf := false, latep := false, tadv := false, poll := true, ring := 0, wlen := 0, wphase := 0, subs := 0
  stale := 0, head := 70, tail := 3 })] })
theorem wit_RangesKept : tring.RangesOk ∧ nx (step tring) (fun _ => true) = true := by
  unfold State.RangesOk Core.RangesOk OnPage EntryOk Queue.InRing Cove.RangesOk; decide +kernel
theorem wit_MemoryReadsBack : Mem.wf [(1, 2), (5, 7)] = true ∧ Mem.get (Mem.set [(1, 2), (5, 7)] 5 0) 5 = 0 ∧
    Mem.set [(1, 2), (5, 7)] 5 0 = [(1, 2)] ∧ Mem.clear [(1, 2), (5, 7)] 2 3 = [(1, 2), (5, 7)] ∧ Mem.clear [(1, 2), (5, 7)] 2 4 = [(1, 2)] := by
  decide +kernel
/-! ### Scalar and vector instructions: single steps with values worked out from the tables, and witnesses -/

/-- The small machine with values in g1 and g2. -/
def tg (x y : Word) : State := (t0.wg 1 x).wg 2 y
/-- What g3 holds after an instruction on `tg x y`. -/
def g3 (i : Instr) (x y : Word) : Option Word := match exec i (tg x y) with
  | .next t => some (t.rg 3)
  | _ => none
/-- What g3 and FFLAGS hold. -/
def g3f (i : Instr) (x y : Word) : Option (Word × BitVec 5) := match exec i (tg x y) with
  | .next t => some (t.rg 3, t.me.fflags)
  | _ => none

theorem test_add_s8_wraps : g3 (.add 0 2 1 3) 0x7F 1 = some 0xFFFFFFFFFFFFFF80 := by decide +kernel
theorem test_add_z16_zero_extends : g3 (.add 5 2 1 3) 0x1FFFF 2 = some 1 := by decide +kernel
theorem test_sub_z8 : g3 (.sub 4 2 1 3) 0 1 = some 0xFF := by decide +kernel
theorem test_slt : g3 (.slt 3 2 1 3) (-1) 0 = some 1 ∧ g3 (.slt 7 2 1 3) (-1) 0 = some 0 := by decide +kernel
theorem test_adds_saturates : g3 (.adds 0 2 1 3) 127 1 = some 127 ∧ g3 (.subs 4 2 1 3) 0 1 = some 0 := by decide +kernel
theorem test_shift_by_width : g3 (.sll 2 2 1 3) 1 32 = some 1 ∧ g3 (.sra 1 2 1 3) 0x8000 15 = some (-1) := by decide +kernel
theorem test_counts : g3 (.clz 1 1 3) 0x10001 0 = some 15 ∧ g3 (.ctz 0 1 3) 0x100 0 = some 8 ∧ g3 (.popc 4 1 3) 0x1FF 0 = some 8 := by decide +kernel
theorem test_mulh_signed : g3 (.mulh 3 2 1 3) (-1) 2 = some (-1) ∧ g3 (.mulh 7 2 1 3) (-1) 2 = some 1 := by decide +kernel
theorem test_div_by_zero : g3 (.div 6 2 1 3) 7 0 = some 0xFFFFFFFF ∧ g3 (.div 2 2 1 3) 7 0 = some (-1) ∧ g3 (.rem 2 2 1 3) (-7) 0 = some (-7) := by
  decide +kernel
theorem test_div_most_negative : g3 (.div 0 2 1 3) 0x80 (-1) = some 0xFFFFFFFFFFFFFF80 ∧ g3 (.rem 0 2 1 3) 0x80 (-1) = some 0 := by decide +kernel
theorem test_div_truncates : g3 (.div 3 2 1 3) (-7) 2 = some (-3) ∧ g3 (.rem 3 2 1 3) (-7) 2 = some (-1) := by decide +kernel
theorem test_addi_sign : g3 (.addi 0x3FFF 1 3) 5 0 = some 4 := by decide +kernel
theorem test_lui_adds : g3 (.lui 0x3FFF 1 3) 1 0 = some 0x7FFF := by decide +kernel
theorem test_ext_signed : g3 (.ext 1 3 4 1 3) 0xF0 0 = some (-1) ∧ g3 (.ext 0 3 4 1 3) 0xF0 0 = some 15 := by decide +kernel
theorem test_g0_discards : nx (exec (.addi 5 0 0) t0) (fun t => decide (t.rg 0 = 0) && decide (t.me.pc = 4)) = true := by decide +kernel
/-- One half plus one quarter in f16 (type code 14), and one over zero in f32. -/
theorem test_fadd_f16 : g3f (.fadd 14 2 1 3) 0x3800 0x3400 = some (0x3A00, 0) := by decide +kernel
theorem test_fdiv_by_zero : (g3f (.fdiv 15 2 1 3) 0x3F800000 0).map (·.1) = some 0x7F800000 := by decide +kernel
theorem test_fmul_f64 : g3f (.fmul 16 2 1 3) 0x4000000000000000 0xC008000000000000 = some (0xC018000000000000, 0) := by decide +kernel
theorem test_fsqrt_f32 : g3f (.fsqrt 15 1 3) 0x41100000 0 = some (0x40400000, 0) := by decide +kernel
theorem test_fcvt_clamps : (g3f (.fcvt 15 4 1 3) 0xBF800000 0).map (·.1) = some 0 ∧ (g3f (.fcvt 15 0 1 3) 0x43800000 0).map (·.1) = some 127 := by
  decide +kernel
theorem test_fle_equal : g3 (.fle 16 2 1 3) 0x8000000000000000 0 = some 1 ∧ g3 (.flt 16 2 1 3) 0x8000000000000000 0 = some 0 := by decide +kernel

/-- The small machine with values in v1 and v2. -/
def tv (x y : Vec) : State := (t0.wv 1 x).wv 2 y
def v3 (i : Instr) (x y : Vec) : Option Vec := match exec i (tv x y) with
  | .next t => some (t.rv 3)
  | _ => none
def m3 (i : Instr) (x y : Vec) : Option Word := match exec i (tv x y) with
  | .next t => some (t.rmask 3)
  | _ => none
theorem test_vadd_lanes_do_not_carry : v3 (.vadd 4 2 1 3) 0x01FF 0x0101 = some 0x0200 := by decide +kernel
theorem test_vabsd : v3 (.vabsd 0 2 1 3) 0x80 0x7F = some 0xFF := by decide +kernel
theorem test_vavg_rounds_up : v3 (.vavg 4 2 1 3) 0x0201 0x0302 = some 0x0302 := by decide +kernel
theorem test_vror : v3 (.vror 4 2 1 3) 0x01 0x01 = some 0x80 := by decide +kernel
theorem test_vclt_signed : m3 (.vclt 0 2 1 3) 0x80 0 = some 1 ∧ m3 (.vclt 4 2 1 3) 0x80 0 = some 0 := by decide +kernel
theorem test_vceq_lane_count : m3 (.vceq 3 2 1 3) 0 0 = some 0xFF := by decide +kernel
theorem test_vredsum : v3 (.vredsum 6 0 1 3) (BitVec.ofNat 512 (2 ^ 32 + 2)) 0 = some 3 := by decide +kernel
theorem test_vdot_signed : v3 (.vdot 0 2 1 3) 0xFF 2 = some 0xFFFFFFFFFFFFFFFE := by decide +kernel
theorem test_vslideup : nx (exec (.vslideup 4 2 1 3) ((t0.wv 1 0x0201).wg 2 1)) (fun t => decide (t.rv 3 = 0x020100)) = true := by decide +kernel
theorem test_vcvt_u8_from_f32_part : v3 (.vcvt 0 0 15 4 1 3) 0x40400000 0 = some 3 := by decide +kernel
theorem test_mfirst_empty : nx (exec (.mfirst 1 3) (t0.wmask 1 0)) (fun t => decide (t.rg 3 = 64)) = true := by decide +kernel

theorem wit_LuiR88 : nx (exec (.addi (BitVec.ofNat 14 (0x89ABCDEF / 2 ^ 28)) 0 3) t0) (fun s1 => nx (exec (.lui (BitVec.ofNat 14 (0x89ABCDEF / 2 ^ 14)) 3 3) s1)
    (fun s2 => nx (exec (.lui (BitVec.ofNat 14 0x89ABCDEF) 3 3) s2) (fun s3 => decide (s3.rg 3 = 0x89ABCDEF)))) = true := by decide +kernel
theorem wit_AddpcR89 : isC 0x00002021 = false ∧ major 0x00002021 = 0x08 ∧ bits (0x00002021 : BitVec 32).toNat 13 5 ≠ 0 := by decide +kernel
theorem wit_ScalarFloatResults : (0 : BitVec 5).toNat < 8 ∧ 8 ≤ (13 : BitVec 5).toNat ∧ (7 : BitVec 5).toNat < 8 := by decide
theorem wit_IntegerTypesReadBack : (0 : Nat) < 8 ∧ (7 : Nat) < 8 ∧ lowest 0 ≤ -128 ∧ (-128 : Int) ≤ highest 0 ∧ ¬ (128 : Int) ≤ highest 0 := by
  decide +kernel
/-- A zero divisor, the most negative value by −1, and an ordinary division. -/
theorem wit_ScalarArithmeticLaws : ([(0, 7, 0), (0, 0x80, -1), (7, -1, 3)] : List (BitVec 5 × Word × Word)).all (fun p =>
    nx (exec (.div p.1 2 1 3) (tg p.2.1 p.2.2)) (fun _ => true) && nx (exec (.rem p.1 2 1 3) (tg p.2.1 p.2.2)) (fun _ => true)) = true ∧
    readInt ((tg 7 0).rg 2).toNat 0 = 0 ∧ readInt ((tg 0x80 (-1)).rg 1).toNat 0 = lowest 0 ∧ readInt ((tg 0x80 (-1)).rg 2).toNat 0 = -1 ∧
    readInt ((tg (-1) 3).rg 2).toNat 7 ≠ 0 := by decide +kernel
theorem wit_ScalarFrame : nx (exec (.add 3 2 1 3) (tg 1 2)) (fun _ => true) = true ∧ nx (exec (.fadd 15 2 1 3) (tg 1 2)) (fun _ => true) = true := by
  decide +kernel
/-- Operands without a prefix are the registers themselves. -/
theorem wit_VectorOperands : let s := tv 5 6
    (okb (expandOps (some 4) (some 4) (s.rv 1) (s.rv 2) s) (fun r t => decide (r = (5, 6)) && decide (t = s)) &&
     okb (expandOps (some 4) none (s.rv 1) 0 s) (fun r t => decide (r.1 = 5) && decide (t = s)) &&
     okb (expandOps (some s.avType) (some s.avType) (s.rv 1) (s.rv 2) s) (fun r t => decide (r = (5, 6)) && decide (t = s)) &&
     !s.me.pfxp && decide (s.rmask 0 = BitVec.allOnes 64) && decide (s.rmask 1 = 0)) = true := by decide +kernel
theorem wit_LanesRoundTrip : (0 : Nat) < 23 ∧ (22 : Nat) < 23 ∧ 63 < lanes 9 ∧ 127 < lanes 8 ∧ 7 < lanes 16 := by decide +kernel
theorem wit_MaskResults : (t0.wmask 1 0).rmask 1 = 0 ∧ t0.rmask 0 ≠ 0 ∧ nx (exec (.mnot 1 0) t0) (fun t => decide (t.rmask 0 = BitVec.allOnes 64)) = true := by
  decide +kernel
/-! ### Memory accesses: witnesses -/

/-- The small machine with two local pages, page 0 resident in frame 0, and a share of its cove. -/
def tl : State := (t0.modCtx 0 (fun x => { x with lpages := 2, sws := 2 ^ 14 })).modCore 0
  (fun k => { k with frames := k.frames.set 0 { ctx := 0, page := 0, state := .resident } })
/-- And with the first sector of the placed page in L1. -/
def t1 : State := tl.fillSector 0 0
/-- And with a live side of 16 z8 entries in bank 0, read through a prefix that expands operand a by k4 indices. -/
def tx : State :=
  let side : Side := { state := .live, units := [0], cnt := 16, et := 4, el := 0 }
  (t1.modCore 0 (fun k => k.setBank 0 { holder := some 0, sides := (Vector.replicate 2 {}).set 0 side })).modMe
    (fun t => { t with pfxp := true, latch := 0x203F3 })
def isAt (p : Place) : Bool := match p with
  | .at _ => true
  | .core .. => false
/-- The translation of the placed page, and the first lane addresses of the gathers below. -/
def te : TlbEntry := ⟨0, 0, 2 ^ 14, placedLeaf, 3⟩
/-- The place of a cove access to byte `la` of core 0's resident page. -/
theorem wit_CoveAt (ea n la : Nat) (h : (ea, n, la) ∈ [(16, 8, 16), (64, 64, 64), (8, 8, 8)]) :
    CoveAt tl (BitVec.ofNat 64 ea) n 0 la (poolAt 0 (0x48000 + la)) := by
  simp only [List.mem_cons, Prod.mk.injEq, List.not_mem_nil, or_false] at h
  rcases h with ⟨rfl, rfl, rfl⟩ | ⟨rfl, rfl, rfl⟩ | ⟨rfl, rfl, rfl⟩ <;>
    exact ⟨by decide +kernel, by decide +kernel, by decide +kernel, by decide +kernel, by decide +kernel, ⟨0, by decide +kernel⟩, by decide +kernel⟩
theorem wit_LoadsComplete :
    (LocalAt tl 16 8 0 (poolAt 0 0x48010) ∧ tl.poisoned (poolAt 0 0x48010) 8 = false) ∧
    tl.paired = false ∧
    (GlobalAt t1 16 8 .load te 16 ∧ t1.poisoned 16 8 = false ∧ Hits t1 16 8) ∧
    (GlobalAt tl 16 8 .load te 16 ∧ tl.poisoned 16 8 = false ∧ tl.l1Has tl.myCore 16 8 = false ∧ tl.me.misses < 8) := by
  unfold LocalAt GlobalAt Translates Hits; decide +kernel
theorem wit_LoadsComplete_vector : tl.expanding = false ∧ LocalAt tl 64 64 0 (poolAt 0 0x48040) ∧
    (GlobalAt t1 64 64 .load te 64 ∧ Hits t1 64 64) ∧ (GlobalAt t1 128 64 .load te 128 ∧ t1.l1Has t1.myCore 128 64 = false) ∧
    (tx.expanding = true ∧ okb (checkAccess 2 64 64 .load tx) (fun p s => s.expanding && okb (loadNow 2 (pieces 2 p 64).1 (pieces 2 p 64).2 s)
       (fun ls t => decide (t = s) && okb (expandOps none none (loadVec 4 8 ls 0) 0 s) (fun _ _ => true))) = true) := by
  unfold LocalAt GlobalAt Translates Hits; decide +kernel
/-- No lane is active at 0 bytes; two lanes are at 8 bytes: 0 and 8. -/
theorem wit_LoadsComplete_gather : activeLanes 0 0 0 8 true = [] ∧ activeLanes 5 8 0 8 true = [(0, 8), (2, 8)] ∧
    (tl.core tl.myCore).waits = [] ∧ (LocalAt tl 8 8 0 (poolAt 0 0x48008) ∧ tl.poisoned (poolAt 0 0x48008) 8 = false) ∧
    (GlobalAt t1 8 8 .load te 8 ∧ t1.poisoned 8 8 = false ∧ Hits t1 8 8) ∧
    (GlobalAt tl 8 8 .load te 8 ∧ tl.l1Has tl.myCore 8 8 = false) ∧
    okb (checkLanes 2 8 .load (activeLanes 5 8 0 8 true) tx) (fun ps s => okb (loadNow 2 ps 8 s)
       (fun ls t => decide (t = s) && okb (expandOps none none (loadVec 3 8 ls 0) 0 s) (fun _ _ => true))) = true := by
  unfold LocalAt GlobalAt Translates Hits; decide +kernel
theorem wit_Passes : Passes tl true := passes _ (by decide +kernel)
theorem wit_StoresComplete :
    (okb (checkAccess 0 16 8 .store tl) (fun p s => isAt p && !s.paired) &&
     okb (checkAccess 2 16 8 .store tl) (fun p s => isAt p && !s.paired && !s.me.loading 16 8) &&
     okb (checkAccess 1 16 8 .store tl) (fun p s => !isAt p && !s.paired) &&
     okb (checkAccess 0 64 64 .store tl) (fun p s => isAt p && !s.paired) &&
     okb (checkLanes 0 4 .store (activeLanes 3 8 0 4 false) tl) (fun ps s => ps.all (fun q => isAt q.2) && !s.paired) &&
     okb (checkLanes 2 4 .store (activeLanes 3 8 0 4 false) tl) (fun ps s => ps.all (fun q => isAt q.2) && !s.paired && s.me.loads.isEmpty) &&
     okb (checkLanes 1 4 .store (activeLanes 3 8 0 4 false) tl) (fun ps s => ps.all (fun q => !isAt q.2) && !s.paired)) = true := by decide +kernel
/-- An access one byte off, and the first aligned addresses outside the local pages and outside the share; a core of the
share that the context does not have. -/
theorem wit_AccessTraps : let s := (tl.wg 1 33).wg 2 0x8000
    ((addresses false (s.rg 1) 0 (2 ^ ((3 : BitVec 3).toNat % 4))).1.toNat % 8 ≠ 0 ∧ (scaled (s.rg 1) (0 : BitVec 6) 4).toNat % 4 ≠ 0 ∧
     (addresses false (s.rg 1) 0 (vecBytes 0)).1.toNat % vecBytes 0 ≠ 0 ∧ s.expanding = false) ∧
    (addresses false (s.rg 2) 0 8).1.toNat % 8 = 0 ∧ (addresses false (s.rg 2) 0 8).1.toNat + 8 > 2 ^ 14 * s.myCtx.lpages ∧
    (addresses false ((s.wg 2 0x20000).rg 2) 0 8).1.toNat ≥ 8 * s.myCtx.sws ∧ (128 : Nat) < 8 * s.myCtx.sws ∧
    s.myCtx.has (coveAddr s.myCore 128).1 = false := by decide +kernel
/-- A page whose fill failed, an address above 2^48, an entry that allows no store, a walk that has failed, bad bytes. -/
theorem wit_AccessTraps_pages :
    let f := tl.modCore 0 (fun k => { k with frames := k.frames.set 0 { ctx := 0, page := 0, state := .resident, fault := true } })
    let r := t0.modCore 0 (fun k => { k with tlb := [{ te with entry := 0x2B }] })
    let w := t0.modMe (fun t => { t with walkFail := some (4, walkStatus 3 0) })
    (f.local? f.myCore f.me.ctx.toNat 16 = .failed 0 ∧ 16 + 8 ≤ 2 ^ 14 * f.myCtx.lpages) ∧ 2 ^ 48 ≤ (0x1000000000000 : Word).toNat ∧
    ((r.lookup r.myCore r.me.ctx.toNat 16).any (fun e => !e.allows .store && e.allows .load)) = true ∧
    (w.lookup w.myCore w.me.ctx.toNat 0x10000 = none ∧ w.me.walkFail = some (0x10000 / 2 ^ 14, walkStatus 3 0)) ∧
    ({ tl with poison := [poolAt 0 0x48010] } : State).poisoned (poolAt 0 0x48010) 8 = true ∧
    ({ t0 with poison := [16] } : State).globalBad 16 8 = true := by decide +kernel
/-- The trap that an instruction takes: cause, value and address. -/
def traps (i : Instr) (s : State) (c v a : Nat) : Bool :=
  nx (exec i s) (fun t => decide (t.me.life = .trapped) && decide (t.me.tcause.toNat = c) && decide (t.me.tval.toNat = v) && decide (t.me.taddr.toNat = a))
theorem test_access_traps : (traps (.vst 0 0 2 1 2) (tl.wg 1 32) 0x0A 64 32 && traps (.strel 0 0 3 0 1 2) (tl.wg 1 0x8000) 0x09 0 0x8000 &&
    traps (.vld 0 0 1 1 2) (tl.wg 1 0x80) 0x09 1 0x80 && traps (.lda 0 0 3 2 1 2) (tl.wg 1 0x1000000000000) 0x06 0x01 0) = true := by decide +kernel
theorem test_atomic_traps : (traps (.amoFmax 2 2 1 3 4) (tl.wg 3 6) 0x0A 4 6 && traps (.amoXadd 0 0 1 3 4) (tl.wg 3 8) 0x0A 64 8 &&
    traps (.amoXaddv 0 1 3 4) (tl.wg 3 0x3FC0) 0x09 2 0x3FC0 && traps (.amoSwap 1 3 1 3 4) (tl.wg 3 0x80) 0x09 1 0x80 &&
    traps (.amoDep 1 3 4) (tl.wg 3 4) 0x09 2 4 && traps (.amoFlags 1 3 4) (tl.wg 3 1) 0x09 1 1) = true := by decide +kernel
/-- Lane 0 passes its check, lane 1 does not: the lowest failing lane's trap. -/
theorem wit_AccessTraps_lanes : let s := ((tl.wv 2 (BitVec.ofNat 512 (4 * 2 ^ 64 + 6 * 2 ^ 128))).wmask 1 7)
    activeLanes (s.rmask 1) (s.rg 0) (s.rv 2) 8 false = [(0, 0)] ++ (1, 4) :: [(2, 6)] ∧
    (okb (checkLanes 0 8 .load [(0, 0)] s) (fun _ u => match checkAccess 0 4 8 .load u with
      | .error (.trap _) => true
      | _ => false) && traps (.vgather 1 3 0 0 2 0 4) s 0x0A 8 4 && traps (.vscatter 1 3 0 0 2 0 4) s 0x0A 8 4) = true := by decide +kernel
/-- A task of core 256, on the other die, while a region commit runs. -/
def tr : State := { ({ State.reset with cur := { State.reset.cur with core := 256 } } : State).withFetchWord 32 0 with regionFrom := some 463 }
theorem wit_HintHeld : (tr.lookup tr.myCore tr.me.ctx.toNat (scaled (tr.rg 1) (0 : BitVec 9) 128).toNat).any (fun e =>
    e.allows .load && decide (tr.through e 0 = 0)) = true ∧ tr.heldBack tr.myCore 0 = true := by decide +kernel
theorem wit_HintsAndCache : let s := tl.wg 1 0
    s.local? s.myCore s.me.ctx.toNat (scaled (s.rg 1) (0 : BitVec 9) 128).toNat = .here 0 (poolAt 0 0x48000) ∧
    s.local? s.myCore s.me.ctx.toNat (scaled (s.rg 1) (128 : BitVec 9) 128).toNat = .absent 1 ∧
    s.local? s.myCore s.me.ctx.toNat (scaled (s.rg 1) (0x1FF : BitVec 9) 128).toNat = .outside ∧
    s.heldBack s.myCore 0 = false ∧ 2 ^ 48 ≤ (scaled (s.rg 1) (0x1FF : BitVec 9) 128).toNat ∧ Translates s 0 .load te 0 ∧
    s.lookup s.myCore s.me.ctx.toNat (scaled (s.rg 1) (128 : BitVec 9) 128).toNat = none ∧
    s.walkRoom (coveOf s.myCore) s.me.ctx.toNat (scaled (s.rg 1) (128 : BitVec 9) 128).toNat = true ∧
    ({ te with entry := placedLeaf &&& ~~~(8 : Word) } : TlbEntry).allows .load = false := by
  unfold Translates; decide +kernel
/-- A hint that misses the TLBs starts a walk, and its slot goes on; a load's miss of the page then joins it (R149, R340). -/
theorem test_hint_walks : nx (exec (.pref 128 2 1) tl) (fun t => decide (t.me.pc = tl.nextPc) &&
    decide (((t.cove 0).walks.map (fun w => w.hints.map (·.va))) = [[2 ^ 14]]) &&
    nx (exec (.ld 0 3 2 1 3) (t.wg 1 (2 ^ 14 + 8))) (fun u => decide (((u.cove 0).walks.map (fun w => (w.hints.length, w.waiters.length))) = [(1, 1)]))) = true := by
  decide +kernel
/-- The L1 has room for a store, and for the sectors of a scatter. -/
theorem wit_RoomMade : (tl.l1Make tl.myCore [0] 1).isSome = true ∧ (tl.l1Make tl.myCore [0, 1] 2).isSome = true ∧
    ((tl.beginRelease 0).endRelease.l1Make 0 [0] 1).isSome = true := by decide +kernel
/-- A dirty byte in the sector of the placed page, for CLEAN and INV. -/
theorem test_clean_writes_back : let s := tl.modCore 0 (fun k => k.l1Store 5 7)
    (s.core s.myCore).sectorBytes 0 = [(5, 7)] ∧ ((s.cleanAt 0 false).core 0).wb.map (·.bytes) = [[(5, 7)]] := by decide +kernel
theorem wit_Lda : (tl.me.held = none ∧ tl.me.loads = []) ∧ (LocalAt tl 16 8 0 (poolAt 0 0x48010) ∧ tl.poisoned (poolAt 0 0x48010) 8 = false) ∧
    (GlobalAt t1 16 8 .load te 16 ∧ Hits t1 16 8) ∧ (GlobalAt tl 16 8 .load te 16 ∧ tl.poison = [] ∧ tl.me.loading 16 8 = false ∧ tl.heldBack tl.myCore 16 = false ∧ tl.paired = false) ∧
    (let s := tl.modMe (fun t => { t with held := some [1, 2, 3, 4, 5, 6, 7, 8] })
     s.me.held = some [1, 2, 3, 4, 5, 6, 7, 8] ∧ GlobalAt s 16 8 .load te 16) := by
  unfold LocalAt GlobalAt Translates Hits; decide +kernel
/-- A release is done at once where the slot has nothing outstanding. -/
theorem wit_Released (s : State) (h : s.me.relDone = false) (r : (s.beginRelease 3).released s.myCore s.mySlot 3 = true) : Released s 3 (s.beginRelease 3).endRelease :=
  Or.inr ⟨h, r, rfl⟩
theorem wit_StrelAndFence : tl.paired = false ∧ tl.me.loads = [] ∧ tl.me.relDone = false ∧ (tl.beginRelease 3).released tl.myCore tl.mySlot 3 = true ∧
    (tl.beginRelease 0).released tl.myCore tl.mySlot 0 = true ∧ ((touched tl 16 0 true).beginRelease 3).released tl.myCore tl.mySlot 3 = true ∧
    (touched tl 16 0 true).me.relDone = false ∧ LocalAt tl 16 8 0 (poolAt 0 0x48010) ∧ GlobalAt tl 16 8 .store te 16 ∧ (reached tl 0 16).me.relDone = false ∧
    ((reached tl 0 16).beginRelease 3).released tl.myCore tl.mySlot 3 = true ∧
    tl.me.loading 16 8 = false ∧ ((tl.beginRelease 3).endRelease.core tl.myCore).writingBack 16 8 = false ∧
    (tl.beginRelease 3).endRelease.heldBack tl.myCore 16 = false := by
  unfold LocalAt GlobalAt Translates; decide +kernel
theorem wit_StoreFrame : Mem.wf tl.mem = true ∧ tl.paired = false ∧ tl.me.loading 16 8 = false := by decide +kernel
/-- Whether an instruction completes: the slot runs on at the next bundle. -/
def goesOn (i : Instr) (s : State) : Bool := nx (exec i s) (fun t => decide (t.me.life = .running) && decide (t.me.pc = s.nextPc))
theorem wit_StoreFrame_others : (goesOn (.st 0 3 1 1 2) (tl.wg 1 16) && goesOn (.vscatter 1 3 0 0 2 0 4) (tl.wmask 1 1) &&
    goesOn (.vscatter 1 3 1 0 2 0 4) (tl.wmask 1 1) && goesOn (.vscatter 1 3 2 0 2 0 4) (tl.wmask 1 1) && tl.me.loads.isEmpty &&
    goesOn (.lda 0 0 3 0 1 3) (tl.wg 1 16) && goesOn (.lda 0 3 3 2 1 3) (tl.wg 1 16) && goesOn (.strel 0 0 3 0 1 3) (tl.wg 1 16) &&
    goesOn (.strel 0 3 3 1 1 3) (tl.wg 1 16) && goesOn (.strel 0 0 3 2 1 3) (tl.wg 1 16) && goesOn (.strel 0 3 3 2 1 3) (tl.wg 1 16)) = true := by decide +kernel
theorem wit_AtomicsLeave : (okb (atomicAddr 0 16 8 8 tl) (fun _ s => !s.paired && decide (s.postedBy 0 0 < 16)) &&
     okb (atomicAddr 1 16 8 8 tl) (fun _ _ => true) && okb (atomicAddr 2 16 4 4 tl) (fun _ _ => true) &&
     okb (atomicAddr 0 64 64 64 tl) (fun _ s => decide (s = tl)) && okb (atomicAddr 0 0 1024 64 tl) (fun _ _ => true)) = true := by decide +kernel
/-- An owner's flag word, a mailbox of slot 4 of core 0, and the cove position of core 0. -/
theorem wit_AtomicsLeave_dep : ((0x40 : Word).toNat < 2 ^ 57 ∧ tl.myCtx.has (bits (0x40 : Word).toNat 48 9) = true ∧ bits (0x40 : Word).toNat 7 41 = 0 ∧
     bits (0x40 : Word).toNat 2 2 = 0 ∧ bits (0x40 : Word).toNat 4 3 ≤ 4) ∧ (0 : Word).toNat % 2 ^ 48 = 0 ∧
    tl.myCtx.has (coreAt (coveOf tl.myCore) (bits (0 : Word).toNat 7 3)) = true := by decide +kernel
theorem test_store_then_load : nx (exec (.st 0 3 0 1 2) ((tl.wg 1 8).wg 2 0x1122334455667788)) (fun t => nx (exec (.ld 1 4 0 1 3) (t.wg 1 8))
    (fun u => decide (u.rg 3 = 0x77))) = true := by decide +kernel
theorem test_ld_sign : nx (exec (.ld 0 0 0 1 3) ((tl.setByte (poolAt 0 0x48010) 0x80).wg 1 16)) (fun u => decide (u.rg 3 = 0xFFFFFFFFFFFFFF80)) = true := by
  decide +kernel
theorem test_st_post_increment : nx (exec (.st 1 7 0 1 2) (tl.wg 1 8)) (fun t => decide (t.rg 1 = 16)) = true := by decide +kernel
theorem test_misaligned : nx (exec (.ld 0 3 0 1 3) (tl.wg 1 12)) (fun t => decide (t.me.tcause = 0x0A) && decide (t.me.tval = 8) && decide (t.me.taddr = 12)) = true := by
  decide +kernel
/-! ### Control, queue, tile, job, bank, task, barrier, trap and geometry instructions: witnesses and single steps -/

/-- The small machine with local pages, two handlers in band 0 to 47, bank mask 1, and cores 0 to 3 and 16 in its context. -/
def th : State := tl.modCtx 0 (fun x => { x with
    handlers := [⟨0, 100, 5, 0, 0, []⟩, ⟨0x400, 200, 6, 1, 0, []⟩], pmin := 0, pmax := 47, cbmask := 1, cores := 0x3000F })
def okUnit (r : Except Stop (Unit × State)) : Bool := okb r (fun _ _ => true)
theorem wit_NopR22 : t0.cur.role = .lone ∧ isOk (translate (tw 0xFFFFFFFF).me.pc .fetch (tw 0xFFFFFFFF)) 0 (tw 0xFFFFFFFF) = true ∧
    (tw 0xFFFFFFFF).num 0 4 = 0xFFFFFFFF := by decide +kernel
theorem wit_ControlResults : let s := (tg 4 6).wmask 1 0
    (s.rg 1).toNat % 4 = 0 ∧ (s.rg 2).toNat % 4 ≠ 0 ∧ s.rg 0 = 0 ∧ (s.wg 3 1).rg 3 = 1 ∧ s.rg 1 ≠ 0 ∧ s.rg 1 ≠ 1 ∧ s.rmask 0 ≠ s.rmask 1 := by
  decide +kernel
theorem test_bcc_backward : nx (exec (.bcc 0x7FF 1 0 1) ((t0.wg 1 1).modMe (fun t => { t with pc := 64 }))) (fun t => decide (t.me.pc = 60)) = true := by
  decide +kernel
theorem test_brl_links : nx (exec (.brl 0xFFFFFF) (t0.modMe (fun t => { t with pc := 64 }))) (fun t => decide (t.me.pc = 60) && decide (t.rg 31 = 68)) = true := by
  decide +kernel
theorem test_loop_counts : nx (exec (.loop 0x7FFFE 1) ((t0.wg 1 2).modMe (fun t => { t with pc := 64 }))) (fun t =>
    decide (t.me.pc = 56) && decide (t.rg 1 = 1)) = true := by decide +kernel
theorem test_jr_misaligned : nx (exec (.jr 1) (t0.wg 1 6)) (fun t => decide (t.me.tcause = 0x0A) && decide (t.me.tval = 4) && decide (t.me.taddr = 6)) = true := by
  decide +kernel
theorem wit_SystemResults : okUnit (joinDone th) = true ∧ th.mySlot ≠ 4 ∧ th.me.gang = false ∧ (th.rg 0).toNat < th.myCtx.handlers.length ∧
    th.follower = false ∧ th.paired = false ∧ th.me.got = none ∧ th.me.ask = none ∧ (th.modMe (fun t => { t with got := some 3 })).me.got = some 3 := by
  decide +kernel
/-- GSTAT exists and is written; 0x7FF is absent; PRIO takes no value with a bit above 5; core 463 is a firmware core of the reset table. -/
theorem wit_CsrResults : (t0.csr t0.myCore t0.mySlot 0x021).isSome = true ∧ (t0.me.csrWrite 0x021 5 5).isSome = true ∧
    t0.csr t0.myCore t0.mySlot 0x7FF = none ∧ (t0.me.csrWrite 0x020 3 3) = none ∧ (t0.me.csrWrite 0x021 5 5) ≠ none ∧ t0.isFw t0.myCore = false ∧ t0.isFw 463 = true ∧ t0.isFw 447 = false ∧ t0.isFw 511 = true := by
  decide +kernel
/-- A firmware core of the reset table. -/
def tfirm : State := ({ State.reset with cur := { State.reset.cur with core := 463 } } : State).withFetchWord 32 0
/-- What is written reads back in the writable fields: TSINH has 48 bits; NFS and UNORD clear on a one; a boundary's low bits
read zero, and a region entry's reserved bits. -/
theorem wit_CsrReads : let w : Word := 0x1234567890ABCDE9
    let after (s : State) (n : Nat) (w v : Word) : Bool :=
      nx (exec (.csrrw 1 (BitVec.ofNat 12 n) 0) (s.wg 1 w)) (fun t => decide (t.csr t.myCore t.mySlot n = some v))
    (after t0 0x009 w 0x567890ABCDE9 && after t0 0x018 w 9 && after (t0.modMe (fun t => { t with nfs := true })) 0x020 4 12 &&
     after (t0.modMe (fun t => { t with nfs := true })) 0x020 w 1 && after t0 0x078 w 0x90ABCDE9 && after t0 0x050 w 0x100000001000 &&
     after tfirm 0x8C8 w 0x1E9 && after tfirm 0x8C9 w 0x2BC000 && after tfirm 0x880 w 0x00344038802BC029 && after tfirm 0x8CC 1 1 && after tfirm 0x8C0 2 0 &&
     tfirm.isFw tfirm.myCore && goesOn (.csrrc 0 0x8C0 3) tfirm && goesOn (.csrrs 1 0x018 3) t0) = true := by decide +kernel
theorem test_csr_privilege : nx (exec (.csrrs 0 0x800 3) t0) (fun t => decide (t.me.tcause = 0x04)) = true := by decide +kernel
theorem wit_TrapEntry : t0.me.woken = none ∧ t0.me.linkedAt = none ∧
    nx (exec (.brk 9) t0) (fun t => decide (t.me.tcause = 0x16) && decide (t.me.tval = 9) && decide (t.net.length = 1)) = true := by decide +kernel
/-- The prefix word of the spec's example is pending; ADDI takes no prefix. -/
theorem wit_PrefixLatch : let s := t0.modMe (fun t => { t with pfxp := true, latch := 0x022FF6 })
    inPlace 0x00400705 = some (.addi 16 0 7) ∧ s.me.pfxp = true ∧ Instr.prefixBad (.addi 16 0 7) 0x00400705 (Pfx.of s.me.latch) = true ∧
    s.cur.role = .lone ∧ t0.me.pfxp = false := by decide +kernel

/-- A polled queue 2 of core 0 with one short record at its head, and an empty one. -/
def queue0 : Queue := { ctx := 0, handler := 0, size := 4, ovf := false, latep := false, tadv := false, poll := true, ring := 0, wlen := 0,
                        wphase := 0, subs := 0, stale := 0 }
def tq (n : Nat) : State := th.modCore 0 (fun k => { k with queues := k.queues.set 2 { queue0 with tail := n } })
theorem wit_QueueResults : (tq 1).follower = false ∧ (tq 1).paired = false ∧ ((tq 1).core (tq 1).myCore).queues.find 2 = some { queue0 with tail := 1 } ∧
    queue0.ctx = (tq 1).me.ctx.toNat ∧ queue0.poll = true ∧ queue0.size ≤ 15 ∧ (tq 1).mySlot ≠ 4 ∧
    okb (emitTarget 2 (tq 1)) (fun w t => decide (w = .queue 0 2) && decide (t = tq 1)) = true ∧
    okb (emitTarget 0x18 (tq 1)) (fun _ _ => true) = false ∧ okb (emitTarget 0x11 (tq 1)) (fun w _ => decide (w = .stream 0 1)) = true := by
  decide +kernel
/-- A TADV queue with a window, one subscribed source, and a window close ending at 50 at its head. -/
def tqw : State :=
  let u : Queue := { queue0 with tail := 1, tadv := true, wlen := 8, subs := 1, tm := [(0, 7)] }
  let s := (th.modCtx 0 (fun x => { x with sources := [⟨0, true⟩] })).modCore 0 (fun k => { k with queues := k.queues.set 2 u })
  s.putNum (poolAt 0 0x48000) 16 (mkRec 50 0 5 0 0).toNat
theorem wit_QueueResults_window : ((tqw.core 0).queues.find 2).any (fun u => u.wlen != 0 && u.subs.getLsbD 0 && u.tadv && u.poll &&
      decide (u.tail ≠ u.head) && (tqw.ringRec 0 u u.head).1.kind == 5 && decide ((tqw.ringRec 0 u u.head).1.ts = 50)) = true ∧
    (0 : Nat) < tqw.myCtx.sources.length ∧ queue0.wlen = 0 ∧ bits (0x200 : Word).toNat 8 4 = 2 ∧ bits (0x201 : Word).toNat 0 6 = 1 ∧
    bits (2 : Word).toNat 0 4 = 2 ∧ (tqw.core 0).queues.filter (fun p => p.2.tadv) ≠ [] := by decide +kernel
theorem test_rack_close : nx (exec (.rack 2) tqw) (fun t => decide (t.toutOf 0 0 = 50) && ((t.core 0).queues.find 2).any (fun u =>
    decide (u.head = 1) && decide (u.done = 50))) = true := by decide +kernel
theorem test_tsread : (nx (exec (.tsread 1 1 3) (tqw.wg 1 0x200)) (fun t => decide (t.rg 3 = 7)) && nx (exec (.tsread 1 1 3) (tqw.wg 1 0x201)) (fun t => decide (t.me.life = .trapped))) = true := by
  decide +kernel
theorem test_recv_empty_waits : nx (exec (.recv 2 3) (tq 0)) (fun t => decide (t.me.life = .stalled .recv)) = true := by decide +kernel
theorem test_rack_moves_head : nx (exec (.rack 2) (tq 1)) (fun t => ((t.core 0).queues.find 2).any (fun u => decide (u.head = 1))) = true := by
  decide +kernel

/-- A stream of cove 0 with a dispatched tile of block 3, and one that another task has claimed. -/
def tt : State := th.modCove 0 (fun v => { v with bw := { v.bw with
    streams := [(1, { ctx := 0, d := List.replicate 16 0 })]
    tiles := [{ num := 1, ctx := 0, stream := 1, tx := 0, ty := 0, win := 0, blocks := [3], state := .dispatched },
              { num := 2, ctx := 0, stream := 1, tx := 1, ty := 0, win := 0, blocks := [4], state := .claimed }] } })
theorem wit_TileResults : let bw := (tt.cove (coveOf tt.myCore)).bw
    let h1 := bw.tiles.head?.elim 0 bw.handle
    let h2 := bw.tiles.getLast?.elim 0 bw.handle
    tt.follower = false ∧ tt.paired = false ∧ (bw.streams.find 1).any (fun k => k.ctx == tt.me.ctx.toNat) = true ∧ tt.mySlot ≠ 4 ∧
    h1 < 2 ^ 16 ∧ h2 < 2 ^ 16 ∧ (tgetStatus tt h1).1 = 0 ∧ (tgetStatus tt h1).2.isSome = true ∧ (tgetStatus tt h2) = (2, none) ∧
    (tt.rg 0).toNat % 64 = 0 ∧ okb (localRange 0 0 (32 + (bw.stream 1).dataBytes) true tt) (fun _ _ => true) = true ∧
    (trelStatus tt h1).1 = 0 ∧ trelStatus tt h2 = (2, none) ∧ bw.named 0xFFFF = none ∧ (bw.named h2).isSome = true ∧ 2 ^ 16 ≤ (0x10000 : Word).toNat := by
  decide +kernel

/-- A done, a faulted and a queued MXE job of the context, and the same of the Ebb engine. -/
def tj : State := th.modCove 0 (fun v =>
  let j : Job := { id := 1, d := List.replicate 16 0, ctx := 0, stamp := 0, late := false, prio := 0, task := 0, core := 0, state := .done }
  let e : EbbJob := { id := 1, d := [], ctx := 0, stamp := 0, late := false, prio := 0, task := 0, core := 0, state := .done }
  { v with mxe := { v.mxe with jobs := [j, { j with id := 2, state := .faulted }, { j with id := 3, state := .queued }] }
           ebb := { v.ebb with jobs := [e, { e with id := 2, state := .faulted }, { e with id := 3, state := .queued }] } })
theorem wit_JobResults : (okb (descriptor 128 128 tj) (fun r _ => r.2) && okb (descriptor 64 64 tj) (fun r _ => r.2)) = true ∧ tj.mySlot ≠ 4 ∧
    tj.myJob 9 = none ∧ ((tj.myJob 1).any (fun j => j.state == .done)) = true ∧ ((tj.myJob 2).any (fun j => j.state == .faulted)) = true ∧
    ((tj.myJob 3).any (fun j => !j.state.final)) = true ∧ tj.myEbb 9 = none ∧ ((tj.myEbb 1).any (fun j => j.state == .done)) = true ∧
    ((tj.myEbb 2).any (fun j => j.state == .faulted)) = true ∧ ((tj.myEbb 3).any (fun j => !j.state.final)) = true ∧
    tj.myCtx.state ≠ .draining ∧ (th.modCtx 0 (fun x => { x with state := .draining })).myCtx.state = .draining := by decide +kernel

/-- The context holds bank 0, whose side 0 is live with 16 z8 entries. -/
def tb : State :=
  let side : Side := { state := .live, units := [0], cnt := 16, et := 4, el := 0 }
  th.modCore 0 (fun k => k.setBank 0 { holder := some 0, sides := (Vector.replicate 2 {}).set 0 side })
theorem wit_BankResults : let y := (tb.core tb.myCore).bank 0
    tb.myCtx.cbmask.getLsbD 0 = true ∧ tb.myCtx.cbmask.getLsbD 1 = false ∧ tb.mySlot ≠ 4 ∧ tb.me.got = none ∧
    tb.holdsBank tb.myCore 0 tb.me.ctx.toNat = true ∧ th.holdsBank th.myCore 0 th.me.ctx.toNat = false ∧
    (y.side y.shadow).state ≠ .loading ∧ (y.side 0).state ≠ .loading ∧ (y.side 1).state ≠ .loading ∧
    okb (sample 0 tb) (fun x s => decide (s = tb) && decide (15 < x.cnt) && !tb.entryBad 0 x 15 && decide (x.cnt ≤ 16) &&
      segmentOk x (typeBits 19) 1 && okb (expand 0 4 0 1 0 x tb) (fun _ t => decide (t = tb))) = true ∧
    ((tb.core tb.myCore).bank 7).holder ≠ some tb.me.ctx.toNat := by decide +kernel
theorem wit_VectorFrame_banks : (goesOn (.cbx 1 19 0 0 3) tb && goesOn (.cbrd 0 0 3) tb && goesOn (.cbstat 0 3) tb) = true := by decide +kernel
theorem wit_BankResults_load : let s := tb.wg 2 0x04000F
    okb (loadArgs 0 0 2 0 s) (fun q t => decide (t = s) && okb (cbStart q s) (fun x _ => x.isNone)) = true ∧
    okUnit (release 1 s) = true ∧ s.paired = false ∧ s.myCtx.state ≠ .draining := by decide +kernel

/-- Join counter at local address 8 of core 0; core 1 has local page 0 too. -/
theorem wit_TaskResults : (okb (counterArg 8 true th) (fun c s => decide (c = (0, 8)) && decide (s = th) &&
      okb (counterAt 0 8 th) (fun p u => !u.paired && (u.pushDeque 0 (u.spawnStart 1 5 0 7)).2 && decide (u.num p 8 = 0))) &&
    okb (targetCore 0 0 th) (fun c s => decide (c = 0) && decide (s = th) && th.sameCore c 0) &&
    okb (targetCore 0x1000000000000 0 th) (fun c s => decide (c = 1) && decide (s = th) && !th.sameCore c 0) &&
    decide (0 < th.myCtx.handlers.length) && decide (th.myCtx.pmin ≤ th.spawnPrio 5) && decide (th.spawnPrio 5 ≤ th.myCtx.pmax) &&
    decide (th.mySlot ≠ 4) && decide (th.me.got = none) && decide (th.me.ask = none) && decide (th.postedBy 0 0 < 16) &&
    decide (th.unfit = 0) && th.me.loads.isEmpty && okUnit (release (scopeOf 0 1) th) && !th.isFw 0 &&
    okb (counterArg 0x1000000000008 false th) (fun c _ => decide (c = (1, 8)))) = true := by decide +kernel
/-- The deque of core 0 full, and a task that cannot migrate. -/
theorem wit_TaskResults_other : let s := { th with cur := { th.cur with core := 463 } }
    s.isFw s.myCore = true ∧ 1 < (s.ctx 0).handlers.length ∧ (s.ctx 0).pmin ≤ (s.ctx 0).launchPrio 63 1 ∧ (s.ctx 0).launchPrio 63 1 ≤ (s.ctx 0).pmax ∧
    okb (targetCore 0 0 s) (fun _ _ => true) = true ∧ (th.modMe (fun t => { t with mbFull := 1 })).unfit ≠ 0 ∧
    okb (counterAt 0 8 (th.putNum (poolAt 0 0x48008) 8 3)) (fun p u => decide (u.num p 8 = 3)) = true ∧
    (groupOf 0 2).all (th.claimable 0) = true ∧ (groupOf 0 8).all (th.claimable 0) = false ∧
    th.follower = false ∧ (th.modMe (fun t => { t with leader := some (1, 0) })).follower = true := by decide +kernel
theorem test_spawn_starts : nx (exec (.spawn 63 0 1 3) (th.wg 1 1)) (fun t => decide ((t.slot 0 1).life = .running) && decide ((t.slot 0 1).pc = 0x400) &&
    decide (t.rg 3 = 1)) = true := by
  decide +kernel

theorem wit_BarrierResults : let k := th.myBarrier 1 2
    let a := th.modMe (fun t => { t with arms := t.arms.set (armKey 2 1) (th.barrier k).episode })
    let e : State := { th with barriers := th.barriers.set k { th.barrier k with episode := 1 } }
    let p := e.modMe (fun t => { t with arms := t.arms.set (armKey 2 1) 0 })
    (okb (arriveNow 1 2 1 th) (fun e s => decide (e = (s.barrier k).episode)) && okb (arriveNow 1 2 0 th) (fun _ _ => true) &&
     decide (th.me.arms.find (armKey 2 1) = none) && decide (a.me.arms.find (armKey 2 1) = some (a.barrier k).episode) &&
     decide (p.me.arms.find (armKey 2 1) = some 0) && armHolds 0 (p.barrier k).episode && decide ((0 : BitVec 32) ≠ (p.barrier k).episode) &&
     !p.me.awaiting.contains k && decide ((({ p with barriers := p.barriers.set k { p.barrier k with drained := some 0 } } : State).barrier k).drained = some 0) && decide (th.rg 0 = 0) && decide ((th.wg 1 8).rg 1 = 8) && decide (8 < ((th.wg 1 9).rg 1).toNat) &&
     okb (cellArg 16 th) (fun c s => decide (c = (0, 16)) && decide (s = th)) && okUnit (release 3 th)) = true := by decide +kernel

theorem wit_TrapResults : okb (trapTarget 0x300000000 th) (fun c s => decide (c = (0, 3)) && decide (s = th)) = true ∧
    okb (trapTarget 0x1000000000000 th) (fun c _ => decide (c = (1, 0)) && decide (c.1 ≠ th.myCore)) = true ∧
    frameOffset 0 = true ∧ frameOffset 0xFF8 = false ∧ frameOffset 1 = false ∧ frameValueOk 0 0 = true ∧ okUnit (release 3 th) = true ∧
    (0x500000000 : Word).toNat / 2 ^ 32 % 8 > 4 ∧ th.myCtx.has ((0x8000000000000 : Word).toNat / 2 ^ 48 % 2 ^ 9) = false := by decide +kernel
theorem test_raise : nx (exec (.raise 1) (t0.wg 1 77)) (fun t => decide (t.me.tcause = 0x15) && decide (t.me.tval = 77)) = true := by decide +kernel

/-- The 2D orientation of (0,0), (1,0), (0,1) in lane 0 is positive (Table 14.2). -/
theorem test_gori2_sign : nx (exec (.gori2 0 1 1 3) (((t0.wv 3 0x3F800000).wv 6 0x3F800000).wmask 1 1)) (fun t => decide (t.rmask 3 = 1)) = true := by
  decide +kernel
theorem wit_Geometry : (32 < (27 : BitVec 5).toNat + 6 ∧ (26 : BitVec 5).toNat + 6 ≤ 32) ∧
    notFinite 15 0x7F800000 = true ∧ notFinite 15 0x7F7FFFFF = false ∧ t0.me.nfq = false ∧ (t0.core t0.myCore).datapath = none := by decide +kernel
theorem wit_Geometry_cells : (okb (cells 64 (lanes 15) true false tl) (fun l s => decide (l.length = 16) && !s.paired && decide ((s.core s.myCore).datapath = none)) &&
    goesOn (.xclr 15 1) (tl.wg 1 64) && goesOn (.xadd 15 2 1 0) (tl.wg 1 64) && goesOn (.xrnd 1 3) tl && Mem.wf tl.mem &&
    okb (cells 0 16 false true tl) (fun l _ => decide (l.length = 16)) && okb (cells 64 (lanes 13) true true tl) (fun l _ => decide (l.length = 32))) = true := by
  decide +kernel
/-- R336: an uncorrectable error in a table entry makes the access take `ECC_UNCORRECTABLE`, not a page trap. -/
theorem test_walk_ecc : (match ({ t0 with poison := [tableAt 0 (ptKey 0x4000 1) + 3] }).walk 0 0x4000 with
    | .error st => decide (pageTrap .load 0x4000 st = ⟨Cause.eccUncorrectable, 0, 0x4000⟩)
    | .ok _ => false) = true := by decide +kernel
/-! ### Events of the mesh, the queues and Breakwater: witnesses -/

/-- A message of slot 1 of core 0 on its way; it is the first. -/
def sent (s : State) (dst : Nat) (b : Body) : State := s.post (Agent.slot 0 1) dst b
/-- What holds of the state once the message has been taken. -/
def took (s : State) (dst : Nat) (b : Body) (f : State → Bool) : Bool := ((sent s dst b).take s.msgSeq).any (fun p => decide (p.1.body = b) && f p.2)
/-- The small machine with its four UCIe modules up: messages cross the dies (R356, R358). -/
def tup : State := { th with links := (List.range 4).map (fun j => (j, { state := .up })) }
/-- Slot 1 waits for the answer of message 0. -/
def twait (direct : Bool) : State := th.modSlot 0 1 (fun t => { t with
    life := .stalled .reply, reply := if direct then some (3, 0) else none, ask := if direct then none else some 0 })
def atomic0 : Atomic := { op := 2, width := 8, ctx := 0, la := 8, glob := false, operand := 5, compare := 0, vec := 0, core := 0, slot := 1, task := 0, posted := false }
theorem wit_Mesh_slots : let s := th.modSlot 0 1 (fun t => { t with life := .running, left := 0 })
    let l := th.modSlot 0 1 (fun t => { t with life := .running, loads := [{ dest := .g 3, pend := [(0, 0)], size := 8, form := 0, cove := false }] })
    let c := th.modSlot 0 1 (fun t => { t with
      life := .running, loads := [{ dest := .g 3, pend := [(0, 9)], size := 8, form := 0, cove := true, data := [(0, [1])] }] })
    let w : WriteBack := { num := 0, bytes := [(0, 7)], tag := none }
    let b := th.modCore 0 (fun k => { k with wb := [w, { w with bytes := [(128, 7)] }] })
    let r := { th with dtime := 1000 }.modSlot 0 2 (fun t => { t with stealing := true, started := 1 })
    ((s.slot 0 1).going && decide ((s.slot 0 1).left = 0) && !(s.slot 0 1).frozen && decide (s.phase = .running) && !(s.ctx 0).pair &&
     decide ((l.slot 0 1).lanesOut[0]? = some (0, 0, 0)) && !(l.slot 0 1).earlier 0 0 8 &&
     decide ((c.slot 0 1).lanesOut[0]? = some (0, 0, 9)) && decide (((c.slot 0 1).loads[0]?.bind (fun q => q.data.find 0)) = some [1]) &&
     !(w.held && b.regionFrom.isSome) && !(b.rowShut 0 && [(128, 7)].any (fun (q : Nat × Byte) => crossDie 0 q.1)) && !(crossDie 0 0) && decide (((b.core 0).wb[1]?.map (·.bytes)) = some [(128, 7)]) && !((b.core 0).wb.take 1).any (fun o => o.meets { w with bytes := [(128, 7)] }) &&
     decide ((r.slot 0 2).life = .free) && (r.slot 0 2).stealing && decide ((r.slot 0 2).probes = []) &&
     decide ((r.slot 0 2).started ≠ 0) && decide ((r.slot 0 2).started + 999 ≤ r.dtime.toNat)) = true := by decide +kernel
theorem wit_Mesh_tget : let s := (tt.modSlot 0 1 (fun t => { t with life := .stalled .reply, reply := some (3, 0), copying := some (1, 0, 64) }))
    let o := tt.modCore 0 (fun k => { k with copies := [(1, 0, 1, 0)] })
    (decide ((s.slot 0 1).copying = some (1, 0, 64)) && decide ((s.core 0).copies = []) && decide ((o.core 0).copies.find? (fun p => p.1 == 1) = some (1, 0, 1, 0)) &&
     ((o.cove (coveOf 0)).bw.tile 1).any (fun t => (o.missing 0 0 0 (o.tileBytes (coveOf 0) t).length (engineWho 1 1)).isNone) && !(s.ctx 0).pair && ((s.cove (coveOf 0)).bw.tile 1).any (fun t =>
       let l := s.tileBytes (coveOf 0) t
       (s.missing 0 0 0 l.length 1).isNone && ((s.putLocal 0 0 0 l).giveReply 0 1 0 0 64).isSome)) = true := by decide +kernel
theorem wit_Mesh_cove :
    (took th (Agent.owner 0) (.coveStore 0 0 1 8 8 5) (fun u => !u.unservable 0 0 8 8 1 && (u.missing 0 0 8 8 1).isNone) &&
     !th.shut 0 && took th (Agent.owner 0) (.coveScatter 0 0 [(8, 1), (16, 2)]) (fun u => (u.missing 0 0 8 1 1).isNone && (u.missing 0 0 16 1 1).isNone) &&
     took th (Agent.owner 0) (.coveLoad 0 0 1 8 8) (fun u => !u.unservable 0 0 8 8 1 && (u.missing 0 0 8 8 1).isNone &&
       decide (u.local? 0 0 8 = .here 0 (poolAt 0 0x48008)) && !u.poisoned (poolAt 0 0x48008) 8)) = true := by decide +kernel
theorem wit_Mesh_atomic :
    (took th 0 (.atomic { atomic0 with glob := true }) (fun u => !u.poisoned 8 { atomic0 with glob := true }.bytes) &&
     took th (Agent.owner 0) (.atomic atomic0) (fun u => u.ownerReady 0 0 0 1 && !u.unservable 0 0 8 8 1 && (u.missing 0 0 8 8 1).isNone &&
       (List.range 8).all (fun i => (u.localByte 0 0 (8 + i)).all (fun p => !u.poisoned p 1))) &&
     took th (Agent.owner 0) (.atomic { atomic0 with op := 15 }) (fun u => u.ownerReady 0 0 0 1) &&
     took th (Agent.owner 0) (.atomic { atomic0 with op := 16 }) (fun u => u.ownerReady 0 0 0 1)) = true := by decide +kernel
theorem wit_Mesh_replies :
    (took (twait true) 1 (.reply .atomic 0 1 0 0 9) (fun u => (u.giveReply 0 1 0 0 9).isSome) &&
     took (twait true) 1 (.reply .emit 0 1 0 0 9) (fun u => (u.giveReply 0 1 0 0 9).isSome) &&
     took (twait false) 1 (.reply .sys 0 1 0 0 9) (fun u => (u.giveAnswer 0 1 0 0 9).isSome) &&
     took (twait false) 1 (.reply .spawnr 0 1 0 0 9) (fun u => (u.giveAnswer 0 1 0 0 9).isSome) &&
     took (twait false) 1 (.reply .amsg 0 1 0 0 9) (fun u => (u.giveAnswer 0 1 0 0 9).isSome) &&
     took (twait false) 1 (.unspawn 0 1 0 0 0 0) (fun u => (u.giveAnswer 0 1 0 0 0).isSome) &&
     took (twait false) 1 (.unspawn 0 1 0 0 0 8) (fun u => (u.giveAnswer 0 1 0 0 0).any (fun t =>
       decide (t.local? (ownerOf 8).1 0 (ownerOf 8).2 = .here 0 (poolAt 0 0x48008))))) = true := by decide +kernel
theorem wit_Mesh_sys : let s := tup.modCtx 0 (fun x => { x with hbwatch := 5, hbSeq := 6 })
    (took tup Agent.firmware (.sys 0 0 0 1 0 7) (fun u => decide ((u.ctx 0).hbwatch = 0)) &&
     took s Agent.firmware (.sys 0 0 0 1 0 7) (fun u => decide ((u.ctx 0).hbwatch ≠ 0) && !u.missDue 0 && decide ((u.ctx 0).hbSeq.toNat < 7)) &&
     took s Agent.firmware (.sys 0 0 0 1 0 6) (fun u => !u.missDue 0 && decide (6 ≤ (u.ctx 0).hbSeq.toNat)) &&
     took s Agent.firmware (.sys 1 0 0 1 0 6) (fun u => decide ((u.ctx 0).trace.length < 4096) && decide ((u.ctx 0).traceDrops < 2 ^ 32))) = true := by
  decide +kernel
theorem wit_Mesh_trace_full : 4096 ≤ ((th.modCtx 0 (fun x => { x with trace := List.replicate 4096 0 })).ctx 0).trace.length := by decide +kernel
theorem wit_Mesh_tasks : let s := th.modSlot 0 1 (fun t => { t with stealing := true })
    (took th (Agent.owner 0) (.stealProbe 1 0 0) (fun _ => true) &&
     took s (Agent.slot 0 1) (.stealReply 0 1 (some { num := 0, kind := .deque, start := th.spawnStart 1 5 0 7 })) (fun _ => true) &&
     took s (Agent.slot 0 1) (.stealReply 0 1 none) (fun u => decide ((u.slot 0 1).life = .free) && (u.slot 0 1).stealing && (u.pick 0 1).isNone) &&
     took th (Agent.owner 0) (.spawnr (th.spawnStart 1 5 0 7) 1 0 0) (fun _ => true) &&
     took th (Agent.owner 0) (.amsg (th.spawnStart 1 5 0 7) 1 0 0 true) (fun u => u.takesItems 0) &&
     took th (Agent.owner 0) (.jdone 0 8 0 1 0) (fun u => u.ownerReady 0 0 0 1 && !u.unservable 0 0 8 8 1 &&
       decide (u.local? 0 0 8 = .here 0 (poolAt 0 0x48008))) &&
     took (twait false) (Agent.owner 0) (.trapOp 3 0x300000000 0 0 0 0 1 0) (fun u =>
       let r := u.trapOpAt 3 0 0 3 0 0 0
       (r.1.giveAnswer 0 1 0 0 r.2).isSome)) = true := by decide +kernel

/-- A sensor's record, and a task's. -/
def rec0 : Rec := ⟨mkRec 100 0x0001 1 0 5, []⟩
def rec1 : Rec := ⟨mkRec 100 0x4001 2 0 5, []⟩
theorem wit_Record_arrive : let refused : Queue := { queue0 with poll := false, tail := 16 }
    let s := th.modCore 0 (fun k => { k with queues := k.queues.set 2 refused })
    (took (tq 1) (Agent.queue 0 2) (.record rec0 0 (.queue 0 2) (.slot 0 1 0) false) (fun u => match u.arriveRec 0 2 rec0 0 with | .accepted _ => true | _ => false) &&
     took th (Agent.queue 0 2) (.record rec0 0 (.queue 0 2) (.slot 0 1 0) false) (fun u => match u.arriveRec 0 2 rec0 0 with | .rejected _ => true | _ => false) &&
     took s (Agent.queue 0 2) (.record rec1 0 (.queue 0 2) (.slot 0 1 0) false) (fun u => match u.arriveRec 0 2 rec1 0 with
       | .full t => (t.refuse ⟨0, Agent.slot 0 1, Agent.queue 0 2, .record rec1 0 (.queue 0 2) (.slot 0 1 0) false⟩ 0 2 rec1 0 (.slot 0 1 0)).isSome
       | _ => false) &&
     took (tq 0) (Agent.queue 0 2) (.tidemark (.queue 0 2) 0 1 9) (fun u => !u.recordAhead ⟨0, Agent.slot 0 1, Agent.queue 0 2, .tidemark (.queue 0 2) 0 1 9⟩ 1 &&
       ((u.core 0).queues.find 2).isSome) &&
     took tt (Agent.tileStream 0 1) (.tidemark (.stream 0 1) 0 1 9) (fun u => ((u.cove 0).bw.streams.find 1).any (fun t => t.ctx == 0) &&
       decide ((u.cove 0).bw.fifo.length < 256))) = true := by decide +kernel
theorem wit_Record_queue : let x := th.modCtx 0 (fun x => { x with trapcore := 0, trapq := 2, store := [rec0] })
    let s := x.modCore 0 (fun k => { k with queues := k.queues.set 2 queue0 })
    let m : Msg := ⟨0, Agent.slot 0 1, Agent.queue 0 2, .record rec0 0 (.queue 0 2) (.slot 0 1 0) false⟩
    let w := th.modCore 0 (fun k => { k with queues := k.queues.set 2 { queue0 with waiters := [m] } })
    let o := th.modCore 0 (fun k => { k with queues := k.queues.set 2 { queue0 with ovfPending := true, closes := [(0, 1, false, 0)] } })
    (decide (s.homeOf 0 0 = 0) && !s.goesFirst 0 2 0 queue0 && decide (s.homeOf (s.ctx 0).trapcore 0 = 0) && decide ((s.ctx 0).trapq = 2) &&
     decide ((s.ctx 0).store = [rec0]) && decide (4 ≤ s.roomOf 0 2 0) &&
     !w.goesFirst 0 2 0 { queue0 with waiters := [m] } && decide ((w.ctx 0).store = []) &&
     ((w.modQueue 0 2 0 (fun u => { u with waiters := [] })).sendAgain m).isSome &&
     decide (1 ≤ o.roomOf 0 2 0) && decide ((o.ctx 0).state ≠ .draining) && decide (closeSize queue0 ≤ o.roomOf 0 2 0)) = true := by decide +kernel
/-- A window of 1000 with a source that has said nothing, timed out; and one whose sources have all ended. -/
theorem wit_Record_windows : let x : Ctx := { ({} : Ctx) with sources := [⟨1, true⟩] }
    (decide (laggards x 1 [] (windowEnd 1000 0 0) ≠ []) && decide (windowEndTime 1000 0 0 + 5 ≤ ((10000 : Word).toNat : Int)) &&
     decide (({ x with sources := [⟨1, false⟩] } : Ctx).liveSubs 1 = [])) = true := by decide +kernel
theorem wit_Record_retry : let m : Msg := ⟨0, Agent.slot 0 1, Agent.queue 0 2, .record rec0 0 (.queue 0 2) (.slot 0 1 0) false⟩
    let s := { tq 1 with retries := [(0, m)] }
    let e := { (sent (twait true) (Agent.queue 0 2) m.body) with dtime := 4096 }
    (decide (s.retries[0]? = some (0, m)) && (match s.arriveRec 0 2 rec0 0 with | .accepted _ => true | _ => false) &&
     (match { th with retries := [(0, m)] }.arriveRec 0 2 rec0 0 with | .rejected _ => true | _ => false) &&
     decide ((e.slot 0 1).reply = some (3, 0)) && e.net.any (fun q => q == m) &&
     Nat.ble ((e.slot 0 1).started + (e.slot 0 1).emitto.toNat) e.dtime.toNat &&
     (e.withdraw 0).any (fun u => (u.giveReply 0 1 0 0 1).isSome)) = true := by decide +kernel
theorem wit_Record_stream : let t : Stream := { ({} : Stream) with en := true, hbeat := 1 }
    let h : State := { th with dtime := 1000, streams := th.streams.set 8 t, links := [(portOf 8, { state := .up })] }
    ((h.streams.find 8).any (fun t => t.en && !t.cut && decide (t.lastSend + 1000 * t.hbeat ≤ h.dtime.toNat)) && h.portUp 8) = true := by decide +kernel
theorem wit_Record_timer : let h : State := { th with dtime := 5, timers := [{ ctx := 0, num := 1, period := 10, core := 0, queue := 2, due := 5 }] }
    (h.timers[0]?).any (fun t => decide (t.due ≤ h.dtime.toNat)) = true := by decide +kernel

/-- Breakwater with one FIFO item. -/
def tf (i : FifoItem) : State := tt.modCove 0 (fun v => { v with bw := { v.bw with fifo := [i] } })
theorem wit_Breakwater :
    (took tt (Agent.tileStream 0 1) (.record rec0 0 (.stream 0 1) (.slot 0 1 0) false) (fun u => ((u.cove 0).bw.streams.find 1).any (fun t => t.ctx == 0) &&
       decide ((u.ctx 0).state ≠ .draining) && decide ((u.cove 0).bw.fifo.length < 256) && decide (rec0.cls = 0)) &&
     took tt (Agent.tileStream 0 3) (.record rec0 0 (.stream 0 3) (.slot 0 1 0) false) (fun u => ((u.cove 0).bw.streams.find 3).isNone) &&
     took tt (Agent.tileStream 0 1) (.flush 0 1 0 1 0 0) (fun u => decide ((u.cove 0).bw.fifo.length < 256) && u.net.isEmpty) &&
     decide ((((tf (.record 1 rec0)).cove 0).bw.fifo.length) = 1) && !(tf (.release 1)).copied 0 1 && (((tf (.record 1 rec0)).cove 0).bw.streams.find 1).any (fun t => decide (t.wlen = 0)) &&
     (let s := (tf (.flush 1 0 1 0 0 0)).modSlot 0 1 (fun t => { t with life := .stalled .reply, reply := some (3, 0) })
      (((s.bwPop 0).sealAll 0 (fun t => t.stream == 1) 4).sendBwTide 0 0).giveReply 0 1 0 0 0 |>.isSome)) = true := by decide +kernel
theorem wit_Breakwater_full :
    decide (256 ≤ ((tt.modCove 0 (fun v => { v with bw := { v.bw with fifo := List.replicate 256 (.release 1) } })).cove 0).bw.fifo.length) = true := by
  decide +kernel
theorem wit_Breakwater_tiles : let s := { tt with dtime := 2 ^ 40 }.modCove 0 (fun v => { v with bw := { v.bw with
      tiles := [{ num := 1, ctx := 0, stream := 1, tx := 0, ty := 0, win := 0, blocks := [3], state := .collecting, home := 1 },
                { num := 2, ctx := 0, stream := 1, tx := 1, ty := 0, win := 0, blocks := [4], state := .sealed, home := 1 }] } })
    (((s.cove 0).bw.tile 1).any (fun o => decide (o.state = .collecting) && decide (1 ≤ o.home) &&
       decide (o.tfirst + ((s.cove 0).bw.stream o.stream).tage ≤ s.dtime.toNat)) &&
     ((s.cove 0).bw.nextTile 1).isSome && !((s.cove 0).bw.stream 1).toJob) = true := by decide +kernel
/-! ### Events of the matrix engine, of pages and of the Ebb engine: witnesses -/

/-- A GEMM of one z8 row by one z8 column of depth 8, both in local page 0 of core 0, drained as s32 to local address 64. -/
def gemm (m acc b nodr : Nat) : List Word := [BitVec.ofNat 64 (nodr * 2 ^ 59 + 2 * 2 ^ 50 + 1 * 2 ^ 47 + acc * 2 ^ 25), BitVec.ofNat 64 (m * 2 ^ 48 + 2 ^ 32 + 8),
  0x0400000000000000, 0x0000000800000000, 0, BitVec.ofNat 64 (0x0400000000000000 + b), 0x0000000800000000, 0, 64, 0x0000000400000000, 0, 0, 0, 0, 0, 0]
def job0 (st : JobState) (d : List Word) : Job :=
  { id := 1, d := d, ctx := 0, stamp := 0, late := false, prio := 0, task := 0, core := 0, state := st }
def tm (j : Job) : State := th.modCove 0 (fun v => { v with mxe := { v.mxe with jobs := [j] } })
theorem wit_Mxe_messages : let s := (tm (job0 .running (gemm 1 0 8 0))).modSlot 0 1 (fun t => { t with life := .stalled .reply, reply := some (3, 0) })
    let b := tb.modCove 0 (fun v => { v with mxe := { v.mxe with jobs := [job0 .queued (gemm 1 0 8 0)] } })
    (took s (Agent.mxe 0) (.mxq (gemm 1 0 8 0) 0 0 false 0 0 0 1) (fun u =>
       let r := u.submit 0 { id := 0, d := gemm 1 0 8 0, ctx := 0, stamp := 0, late := false, prio := 0, task := 0, core := 0 }
       (r.2.giveReply 0 1 0 0 r.1).isSome) &&
     took b (Agent.engine 0 0) (.sample 0 1 0 0 0) (fun u => ((u.cove 0).mxe.job 1).any (fun j => j.state != .cancelled) && (u.sampleFor 0 0 0).2.isSome) &&
     took (tm (job0 .queued [])) (Agent.engine 0 0) (.sample 0 1 0 0 0) (fun u => ((u.cove 0).mxe.job 1).isSome && (u.sampleFor 0 0 0).2.isNone) &&
     took s (Agent.mxe 0) (.mxcan 1 0 0 1 0) (fun u => ((u.cove 0).mxe.jobs.find? (fun j => j.id == 1 && j.ctx == 0)).any (fun k => k.state == .running) &&
       ((u.setJob 0 { job0 .running (gemm 1 0 8 0) with cancel := true }).giveReply 0 1 0 0 0).isSome) &&
     !(sent s (Agent.mxe 0) (.mxcan 1 0 0 1 0)).submitAhead 0 0) = true := by decide +kernel
theorem wit_Mxe_admit : let ok (d : List Word) (f : State → Job → Bool) : Bool := f (tm (job0 .queued d)) (job0 .queued d)
    (ok (gemm 1 0 8 0) (fun s j => decide (((s.cove 0).mxe.job 1) = some j) && decide (j.sampling = 0) && !s.overlapped 0 j &&
       !((s.cove 0).mxe.jobs.takeWhile (fun o => o.id != j.id)).any (fun o => o.state == .queued && !s.overlapped 0 o) &&
       s.descOk 0 j && !s.regionBad 0 j) &&
     ok (gemm 0 0 8 0) (fun s j => !s.descOk 0 j && !s.overlapped 0 j) &&
     ok (gemm 1025 127 8 0) (fun s j => s.descOk 0 j && s.regionBad 0 j && !s.overlapped 0 j) && ok (gemm 1024 127 8 0) (fun s j => !s.regionBad 0 j)) = true := by
  decide +kernel
theorem wit_Mxe_operands :
    (let j := job0 .admitted (gemm 1 0 8 0)
     decide (j.arrived < min ((tm j).totalSlots 0 j) (j.slots + 2)) && (match (tm j).slotReached 0 j 0 with | .ok _ => true | _ => false) &&
     (let k := job0 .admitted (gemm 1 0 0x4000 0)
      match (tm k).slotReached 0 k 0 with | .error (.absent c p) => decide (c = 0) && decide (p = 1) | _ => false)) = true := by decide +kernel
theorem wit_Mxe_drain :
    (let j := job0 .draining (gemm 1 0 8 0)
     let k := { j with checked := false }
     (tm j).granted j && !j.nodr && !(tm j).poisoned (accAt 0 (4096 * j.accoff)) (4 * ((tm j).rowsOf 0 j * j.n)) && !(tm j).jobPaired j && !k.checked &&
     (match ((tm j).drainBytes 0 j).1.mapM (fun p => (tm j).jobByte j.who 0 j.ctx j.dloc j.dcore p.1 .engineWrite) with | .ok l => decide (l.length = 4) | _ => false) &&
     (job0 .draining (gemm 1 0 8 1)).nodr) = true := by decide +kernel
theorem wit_Mxe_slot : let m := (th.cove 0).mxe
    let s := tm { job0 .running (gemm 1 0 8 0) with arrived := 1 }
    (!m.jobs.any (fun j => j.cancel && j.state == .running) && decide (m.hold = 0) && decide (m.idle < m.slot % 64 + 64) && ((th.settleArrivals 0).grant 0 m.slot).isNone &&
     ((s.settleArrivals 0).grant 0 0).isSome) = true := by decide +kernel

/-- A page table with one leaf of 16 KiB at virtual page 0: present, a leaf, readable, writable, executable (Table 17.1). -/
def tp : State := th.modCtx 0 (fun x => { x with pt := [(ptKey 0 1, 1), (ptKey 0 2, 1), (ptKey 0 3, 0x3B)], spill := 0 })
theorem wit_Walk : let s := tp.modCove 0 (fun v => { v with walks := [{ ctx := 0, va := 0, waiters := [(0, 1, 0)] }, { ctx := 0, va := 2 ^ 14, waiters := [(0, 2, 2 ^ 14)], hints := [⟨0, 0, 0, 2 ^ 14, true⟩] }] })
    (((s.cove 0).walks[0]?).any (fun w => !w.again && (match s.walk w.ctx w.va with | .ok _ => true | _ => false)) &&
     ((s.cove 0).walks[1]?).any (fun w => !w.again && (match s.walk w.ctx w.va with | .error _ => true | _ => false)) &&
     ((s.walk 0 0).toOption).any (s.dirRoom 0)) = true := by decide +kernel
theorem wit_Invalidate : let s : State := { th with invals := [{ ctx := 0, lo := 0, hi := 2 ^ 14, coves := [0, 1] }] }.modCove 0 (fun v => { v with
      tlb := [te] })
    (s.invals[0]?).any (fun i => i.coves.contains 0 && decide (i.coves.filter (· != 0) ≠ []) && decide ((s.cove 0).tlb = [te]) &&
      !s.translates 0 te && (List.range 8).all (fun q => !s.flushHeld (coreAt 0 q) te) && !s.keeps 0 (fun e => e.ctx == 0)) = true := by decide +kernel

/-- An Ebb job: its descriptor, state and position. -/
def ebb0 (d : List Word) (st : JobState) : EbbJob := { id := 1, d := d, ctx := 0, stamp := 0, late := false, prio := 0, task := 0, core := 0, state := st }
def tebb (j : EbbJob) : State := tp.modCove 0 (fun v => { v with ebb := { v.ebb with jobs := [j] } })
theorem wit_Ebb_fetch : let j := { ebb0 [] .queued with fetch := some (0, 0, 0, 0, 0x04000F) }
    let g := { ebb0 [] .queued with fetch := some (0, 0, 0x8000, 0, 0x04000F) }
    let ok (j : EbbJob) (f : State → Bool) : Bool := let s := tebb j
      (((s.cove 0).ebb.jobs.find? (fun j => j.id.toNat == 1)).any (fun j => j.fetch.isSome && j.state == .queued) && decide ((s.ctx 0).state ≠ .frozen) &&
       !(s.ctx 0).pair && (let u := s.ownBank 0 0 0
         u.holdsBank 0 0 0 && !(((u.core 0).bank 0).side ((u.core 0).bank 0).shadow).busy && f u))
    (ok j (fun u => (match u.reach 0 (fun w => w.fetchCheck 0 0 0 0 (formatBytes 0x04000F)) with
       | .ok (_, new) => (u.fillWalks 0 new new).2
       | .error _ => false) && !u.pageDue 0 3 && (u.beginLoad 0 ⟨0, 0, 0, 0x04000F, false⟩ none (some 1) [] false).2.isNone) &&
     ok g (fun u => match u.reach 0 (fun w => w.fetchCheck 0 0 0 0x8000 (formatBytes 0x04000F)) with
       | .error (.fault _ _) => true
       | _ => false)) = true := by decide +kernel
/-- A descriptor: a copy of 16 bytes from local `src` to local 64, a fill or a spill of page `p`, on core 0. -/
def copyD (src : Nat) : List Word := [BitVec.ofNat 64 (2 ^ 55), BitVec.ofNat 64 src, 64, BitVec.ofNat 64 (2 ^ 48 + 2 ^ 32 + 16), 0, 0, 0, 0]
def pageD (cmd p : Nat) : List Word := [BitVec.ofNat 64 (cmd * 2 ^ 60 + 2 ^ 55), BitVec.ofNat 64 (p * 2 ^ 14), 0, BitVec.ofNat 64 (2 ^ 48 + 2 ^ 32 + 1), 0, 0, 0, 0]
def turn (d : List Word) (f : State → EbbJob → Bool) : Bool :=
  let j := ebb0 d .queued
  decide ((tebb j).ebbTurn 0 = some j) && (tebb j).ebbDescOk 0 j && f (tebb j) j
theorem wit_Ebb_turn : (turn (copyD 0) (fun s j => !s.pageDue 0 4 && !s.bankDue 0 && decide (j.cmd = 0) && (match s.reach 0 (fun u => u.copyCheck 0 j) with
       | .ok _ => true
       | .error _ => false)) &&
     turn (copyD (2 ^ 30)) (fun s j => match s.reach 0 (fun u => u.copyCheck 0 j) with
       | .error (.fault e a) => decide (e = 2) && decide (a = 2 ^ 30)
       | _ => false) &&
     turn (pageD 1 0) (fun s j => !s.pageDue 0 4 && !s.bankDue 0 && decide (j.cmd = 1) && (match s.local? 0 0 0 with | .here _ _ => true | _ => false)) &&
     turn (pageD 2 1) (fun s j => decide (j.cmd = 2) && decide ((s.core 0).frameOf 0 1 = none))) = true := by decide +kernel
/-- The copy once it runs: both runs of 16 bytes have their places. -/
theorem wit_Ebb_copy : let j := ebb0 (copyD 0) .running
    let s := tebb j
    let r := s.pinChunk 0 j (j.sidePages 0 0 0 16 1 ++ j.sidePages 0 0 0 16 2).dedup
    (decide (s.ebbTurn 0 = some j) && decide (min 1024 (j.len - j.pos % j.len) = 16) &&
     (match (List.range 16).mapM (fun i => r.2.place r.1 0 0 1 i), (List.range 16).mapM (fun i => r.2.place r.1 0 0 2 i) with
      | .ok a, .ok b => decide (b.length = 16) && (a ++ b).all (fun p => !r.1.poisoned p 1) && decide (j.undo = [])
      | _, _ => false)) = true := by decide +kernel
/-- A dirty page 0, and its spill's first chunk. -/
theorem wit_Ebb_spill : let q := tp.modCtx 0 (fun x => { x with pt := x.pt ++ [(ptKey 16384 3, 0x403B)] })
    let fr : Frame := { ctx := 0, page := 0, state := .resident, dirty := true }
    let s := (q.modCore 0 (fun k => { k with frames := [(0, fr)] })).modCove 0 (fun v => { v with ebb := { v.ebb with
      jobs := [ebb0 (pageD 2 0) .queued] } })
    decide (s.ebbTurn 0 = some (ebb0 (pageD 2 0) .queued)) && !s.pageDue 0 4 && !s.bankDue 0 && s.ebbDescOk 0 (ebb0 (pageD 2 0) .queued) &&
     decide ((s.core 0).frameOf 0 0 = some (0, fr)) && decide ((s.core 0).frames.find 0 = some fr) && !s.poisoned (poolAt 0 ((s.core 0).frameOff 0)) 1024 &&
     (match s.homeSectors 0 fr 0 1 .engineWrite with
      | .ok (l, new) => decide (l.length = 8) && (s.fillWalks 0 new new).2
      | .error _ => false) = true := by decide +kernel
theorem wit_Ebb_done : let k := { ebb0 (copyD 0) .running with moved := true }
    (k.class4 && k.moved && !k.state.final && decide (k.f 0 41 1 ≠ 1) &&
     decide (((tebb k).cove 0).ebb.jobs.find? (fun j => j.id.toNat == 1) = some k) &&
     decide ((ebb0 [BitVec.ofNat 64 (2 ^ 41 + 2 ^ 55)] .running).f 0 41 1 = 1)) = true := by decide +kernel
theorem wit_LocalPages : let q := tp.modCtx 0 (fun x => { x with pt := x.pt ++ [(ptKey 16384 3, 0x403B), (ptKey 0x8000 3, 0x803B)] })
    let s := q.modCore 0 (fun k => { k with frames := [(0, { ctx := 0, page := 0, state := .filling }),
      (1, { ctx := 0, page := 1, state := .spilling, next := some { ctx := 0, page := 5 } })] })
    (((s.core 0).frames.find 0).any (fun fr => !fr.fault && decide ((s.ctx fr.ctx).state ≠ .frozen) && !s.pageYields 0 0 fr && decide (fr.state = .filling) && (match s.homeSectors 0 fr fr.pos (16 - fr.pos) .load with
         | .ok (l, _) => !l.any (fun a => s.poisoned a 128)
         | .error _ => false)) &&
     ((s.core 0).frames.find 1).any (fun fr => decide (fr.state = .spilling) && !fr.demand && fr.next.isSome && !s.pageYields 0 1 fr && (match s.homeSectors 0 fr fr.pos (16 - fr.pos) .engineWrite with
         | .ok _ => true
         | .error _ => false))) = true := by decide +kernel
theorem wit_Footprint : let s := (tb.modCtx 0 (fun x => { x with handlers := [⟨0, 100, 5, 0, 1, []⟩] })).modCore 0 (fun k => { k with
      items := [{ num := 0, kind := .deque, start := tb.spawnStart 0 5 0 7 }] })
    ((s.core 0).footprint 0).any (fun i => !i.served && decide ((s.ctx 0).state ≠ .frozen) && !(s.ctx 0).pair &&
      !((s.core 0).earlier 0).any s.unasked && decide (((s.ctx 0).handler i.start.handler).footPages = []) && (s.ownBank 0 0 0).holdsBank 0 0 0) = true := by decide +kernel
theorem wit_Banks : let y := (tb.core 0).bank 0
    let s := tb.modCore 0 (fun k => k.setBank 0 { y with claims := [1] })
    let p := tb.modCore 0 (fun k => k.setBank 0 { y with holder := some 1, passing := some 0 })
    let r := (tb.modCtx 0 (fun x => { x with saved := [(cbKey 0 0, [])] }))
    let z := p.modCtx 0 (fun x => { x with spill := 0, pt := [(ptKey 0 1, 1), (ptKey 0 2, 1), (ptKey 212992 3, 0x403B)] })
    (!s.pageDue 0 3 && decide (((s.core 0).bank 0).holder = some 0) && decide (((s.core 0).bank 0).claims = [1]) && s.bankIdle 0 0 0 &&
     decide (((p.core 0).bank 0).passing = some 0) && decide (((p.core 0).bank 0).holder = some 1) &&
     decide ((r.ctx 0).saved.find (cbKey 0 0) = some []) && decide (((r.core 0).bank 0).passing = none) &&
     (let l := savedChunks (((z.core 0).bank 0).savedSides.filter (fun v => !v.clean))
      (l[((z.core 0).bank 0).moved]?).any (fun q => match z.reach 0 (fun u => u.engineRun 0 0 ((u.ctx 0).bankVa 0 0 q.1.side + 1024 * q.2)
          (q.1.chunkBytes q.2) .engineWrite) with
       | .ok (as, _) => decide (as.length = 16)
       | .error _ => false) && decide (l[1]? = none)) && r.restorable 0 0 [] && decide ((savedChunks ([] : List Saved))[0]? = none) &&
     (let v : Saved := y.side 0 |>.saved 0
      let w := (z.modCore 0 (fun k => k.setBank 0 { holder := some 0 })).modCtx 0 (fun x => { x with saved := [(cbKey 0 0, [v])] })
      w.restorable 0 0 [v] && decide ((savedChunks [v])[0]? = some (v, 0)) && (match w.reach 0 (fun u =>
          u.engineRun 0 0 (u.savedVa 0 0 0 v) (v.chunkBytes 0) .load) with
       | .ok (as, _) => decide (as.length = 16)
       | .error _ => false))) = true := by decide +kernel
/-- A load of 1040 bytes: its first chunk does not end it. -/
theorem wit_CbLoad_chunk : let l : Loading := { slot := some 1, side := 1, src := 0, mode := 0, len := 1040 }
    let s := tb.modCore 0 (fun k => k.setBank 0 { (k.bank 0) with loaders := [l] })
    ((s.mateOf 0 0 0 l).isNone && (match s.loadSource 0 0 0 l.part with
     | .ok as => decide (l.pos + as.length = 1024)
     | _ => false)) = true := by decide +kernel
theorem wit_CbLoad : let l : Loading := { slot := some 1, side := 1, src := 0, mode := 0, len := 16 }
    let s := tb.modCore 0 (fun k => k.setBank 0 { (k.bank 0) with loaders := [l] })
    let q := tb.modSlot 0 1 (fun t => { t with life := .stalled .side, cbreq := some ⟨0, 0, 0, 0x04000F, false⟩ })
    (decide (((s.core 0).bank 0).loaders = [l]) && !l.slot.any (s.storing 0) && (s.mateOf 0 0 0 l).isNone && (match s.loadSource 0 0 0 l.part with | .ok as => decide (as.length = 16) && as.all (fun a => !s.poisoned a 1) | _ => false) &&
     okb (cbStart ⟨0, 0, 0, 0x04000F, false⟩ { q with cur := { q.cur with core := 0, slot := 1 } }) (fun f _ => f.isNone) &&
     decide ((q.slot 0 1).cbreq.isSome) && !(q.slot 0 1).frozen) = true := by decide +kernel

/-! ### Events of groups, contexts, the governor and Headland: witnesses -/

/-- Slot 1 of core 0, and of its twin, with a copy held for the comparator. -/
def tcopy (a : Copy) (b : Option Copy) : State :=
  (th.modSlot 0 1 (fun t => { t with copy := some a })).modSlot (twinOf 0) 1 (fun t => { t with copy := b })
def copy0 : Copy := { word := 5, addr := 64, data := [1], since := 0 }
theorem wit_Pairs : let s := tcopy copy0 (some copy0)
    let d := tcopy copy0 (some { copy0 with data := [2] })
    let n : State := { tcopy copy0 none with dtime := 854 }
    (decide ((s.slot 0 1).copy = some copy0) && decide ((s.slot (twinOf 0) 1).copy = some copy0) && !(s.slot 0 1).agreed &&
     !(s.slot (twinOf 0) 1).agreed && decide (mismatch copy0 copy0 = 0) && decide ((d.slot (twinOf 0) 1).copy = some { copy0 with data := [2] }) &&
     decide (mismatch copy0 { copy0 with data := [2] } = 4) && decide ((n.slot (twinOf 0) 1).copy = none) && !isPairchk copy0.word &&
     decide (copy0.since + 854 ≤ n.dtime.toNat)) = true := by decide +kernel
/-- Slot 1 waits at barrier 0, armed for its present episode. -/
def tbar : State := { th with dtime := 1000000 }.modSlot 0 1 (fun t => { t with life := .stalled .barrier, awaiting := [0], arms := [(0, 0)] })
theorem wit_Barriers : let s := tbar
    let t := s.slot 0 1
    let c : State := { tbar with barriers := [(0, { completing := true })] }
    (decide (t.awaiting = [0]) && decide (t.life = .stalled .barrier) && decide (t.barto ≠ 0) && !(s.barrier 0).completing &&
     decide (t.armAt 0 = some (s.barrier 0).episode) && decide (t.started + t.barto.toNat ≤ s.dtime.toNat + 1) &&
     (c.barrier 0).completing) = true := by decide +kernel
/-- Slot 1 waits at a cell of core 0. -/
def tcell : State := th.modSlot 0 1 (fun t => { t with life := .stalled .linked, ask := some 0, taskid := 7 })
theorem wit_Cells : (took (th.modSlot 0 1 (fun t => { t with life := .stalled .linked, ask := some 3, taskid := 7 })) (Agent.slot 0 1)
       (.reply .woken 0 1 7 3 1) (fun u => (u.giveAnswer 0 1 7 3 1).isSome) &&
     took tcell (Agent.owner 0) (.waitq 0 0 0 1 7 0) (fun u => decide ((u.slot 0 1).ask = some th.msgSeq) && u.ownerReady 0 0 0 1 &&
       !u.unservable 0 0 0 16 (msgWho th.msgSeq) && (u.missing 0 0 0 16 (msgWho th.msgSeq)).isNone && decide (leNat ((u.checkCell 0 0 0).localBytes 0 0 0 8) = 0)) &&
     took tcell (Agent.owner 0) (.waitq 0 0 0 1 7 5) (fun u => u.ownerReady 0 0 0 1 && ((u.checkCell 0 0 0).giveAnswer 0 1 7 th.msgSeq 0).isSome) &&
     took tcell (Agent.owner 0) (.wake 0 0 0 1 7 1) (fun u => u.ownerReady 0 0 0 1 && !u.unservable 0 0 0 16 (msgWho th.msgSeq) && (u.missing 0 0 0 16 (msgWho th.msgSeq)).isNone)) = true := by
  decide +kernel
theorem wit_Contexts : let st (c : CtxState) (p : Option Bool) : State := State.reset.modCtx 1 (fun x => { x with state := c, pending := p })
    (decide (((st .loading (some false)).ctx 1).state = .loading) && decide (((st .loading (some false)).ctx 1).pending = some false) &&
     decide (((st .draining none).ctx 1).state = .draining) && !(st .draining none).remains 1 && decide (((st .released none).ctx 1).state = .released) &&
     !(st .released none).invals.any (fun i => i.ctx == 1) &&
     (let s := st .loading (some true)
      ((List.range 512).filter (s.ctx 1).has).all (fun k => (s.fixedState 1 k).1 && !(s.fixedState 1 k).2) && !s.invals.any (fun i => i.ctx == 1) &&
       ((s.preload 1 (s.ctx 1).preloads).any (fun p => p.2)))) = true := by decide +kernel
/-- A running device with no context; 511 is one of its firmware cores. -/
def tfw : State := { State.reset with phase := .running }
theorem wit_Commits : let s : State := { tfw with commits := [(511, 2, 0x8000, 0x48000, 0x200000)] }
    let q : State := { tfw with commits := [(511, 2, 1, 0x48000, 0x200000)] }
    let r := tfw.modCore 511 (fun k => { k with shadow := [(0, 0x8001), (1, 0x8001)], regionState := 1 })
    let g : State := { tfw with regionFrom := some 511, regionNew := [(0, 0x8001)] }
    let c := tfw.modCore 2 (fun k => { k with committing := some (511, 0x8000, 0x48000, 0x200000) })
    (decide (s.commitDue 511 = some (2, 0x8000, 0x48000, 0x200000)) && s.quiescent 2 && boundsOk 0x8000 0x48000 0x200000 &&
     decide (q.commitDue 511 = some (2, 1, 0x48000, 0x200000)) && !boundsOk 1 0x48000 0x200000 && decide (tfw.commitDue 511 = none) &&
     r.isFw 511 && decide (r.phase = .running) && decide ((r.core 511).regionState = 1) && decide (r.regionFrom = none) && r.regionRefused 511 &&
     !(tfw.modCore 511 (fun k => { k with regionState := 1 })).regionRefused 511 && decide (g.regionFrom = some 511) && !g.crossing &&
     (c.core 2).committing.isSome) = true := by decide +kernel
theorem wit_Governor : let s : State := { th with dtime := 100000 }
    (((s.ctx 0).state.shares) && !(s.ctx 0).spentOut && decide ((s.ctx 0).quota ≤ (s.ctx 0).spent) && (s.ctx 0).has 0 && decide ((s.ctx 0).state ≠ .free) && decide (s.phase = .running) &&
     decide (s.dtime.toNat / 100000 % 2 ^ 16 ≠ s.period.toNat) && ((s.modCtx 0 (fun x => { x with spentOut := true })).ctx 0).spentOut) = true := by
  decide +kernel
theorem wit_Thermal : nx (exec (.thermalSample [20, 115, 116] [20]) th) (fun t => decide (t.net.length = th.net.length + 2) && decide (t.dies[0].temp = 116)) = true := by
  decide +kernel

/-- Slot 1 trapped, and frozen or not; Headland inspects its `PC` entry. -/
def tins (fr : Bool) (off : BitVec 12) : State :=
  { th.modSlot 0 1 (fun t => { t with life := .trapped, frozen := fr }) with headland := { th.headland with slot := 1, off := off, idl := 8 } }
theorem wit_Headland : (decide ((tins true 8).inspected = .ok (0, 1, 8)) && ((tins true 8).slot 0 1).frozen && frameValueOk 8 ((0 : BitVec 32) ++ (8 : BitVec 32)) &&
     decide ((tins true 8).inspected = (tins false 8).inspected) && !((tins false 8).slot 0 1).frozen && decide ((tins false 0xFF8).inspected = .ok (0, 1, 0xFF8)) &&
     decide ((tins true 1).inspected = .error 2) && decide (th.inspected = .error 1) && decide (th.headland.log = []) &&
     ((th.headland.note 0 1 0 0).log.length == 1) && !th.headland.pinhold) = true := by decide +kernel
theorem wit_Headland_faults : let w : State := { th with headland := { th.headland with hwdog := 0 } }
    let r : State := { th with headland := { th.headland with relPending := 1 } }
    let b : State := { (th.modCtx 0 (fun x => { x with hbwatch := 10000 })) with dtime := 2000000 }
    (decide (w.headland.hwdog = 0) && decide (r.headland.relPending ≠ 0) && r.stopped && b.missDue 0 &&
     took th Agent.headland (.error 3 0 0) (fun _ => true)) = true := by decide +kernel

/-! ### The host, links and sensors: witnesses -/

/-- A command in the window, with a payload of words. -/
def cmd (s : State) (op ctx len addr arg : Nat) (pay : List Nat) : State :=
  ((((((({ s with sdioBusy := true } : State).putNum (windowAt 0) 1 op).putNum (windowAt 1) 1 ctx).putNum (windowAt 4) 4 len).putNum (windowAt 8) 8
    addr).putNum (windowAt 16) 8 arg).putBytes (windowAt 32) (wordBytes pay))
def req (s : State) (pay : List Nat) : State := cmd s 2 0xFF (8 * pay.length) 0 0 pay
def recover (op len addr : Nat) : State := cmd { State.reset with phase := .recovery 1 } op 0xFF len addr 0 []
theorem wit_Recovery : let s := recover 2 8 0
    let c := (recover 2 0 (2 ^ 64 - 1)).putNum (stagingAt 8) 4 0xFFFFFFFF
    (s.recovering 2 && decide (s.cmdLen ≠ 0) && decide (s.cmdAddr + s.cmdLen ≤ imageMax) && c.recovering 2 && decide (c.cmdLen = 0) &&
     decide (c.bootStep (stagingAt 0) = some 1) && (recover 4 0 0).recovering 4) = true := by decide +kernel
/-- A staged image of one code and one data byte whose signature the device accepts is committed. -/
def timg : State := [(0, 4, 0x46574B45), (4, 2, 1), (8, 4, 1), (12, 4, 1), (16, 4, 64)].foldl
  (fun s p => s.putNum (stagingAt p.1) p.2.1 p.2.2) (recover 2 0 (2 ^ 64 - 1))
theorem wit_Commit : (timg.recovering 2 && decide (timg.cmdLen = 0) && decide (timg.sigAt (stagingAt 0) + 132 ≤ imageMax) &&
    decide (timg.fuse ≤ timg.imageSvn (stagingAt 0))) = true := by decide +kernel
/-- The context of the small machine can be read and written by the host at virtual page 0. -/
def twin_ : State := tup.modCtx 0 (fun x => { x with pt := [(ptKey 0 1, 1), (ptKey 0 2, 1), (ptKey 0 3, 0x3B)] })
theorem wit_Host_commands : (let s := cmd th 1 0 0 0 0 []
     s.serving 1 none && decide (s.launchRefused = none) && decide ((cmd th 1 0 0 0 2 []).launchRefused = some 5) &&
     (let w := cmd twin_ 2 0 8 64 0 [7]
      w.serving 2 none && decide (w.cmdCtx < 16) && !(w.ctx w.cmdCtx).state.absent && (w.vaddrs w.cmdCtx w.cmdAddr w.cmdLen .store).any (fun l => !l.any (w.heldBack w.firstFw))) &&
     (let w := cmd twin_ 2 0 8 (2 ^ 40) 0 [7]
      decide (w.vaddrs w.cmdCtx w.cmdAddr w.cmdLen .store = none)) &&
     (let w := cmd twin_ 3 0 8 64 0 []
      w.serving 3 none && ((w.vaddrs w.cmdCtx w.cmdAddr w.cmdLen .load).any (fun l => !l.any (w.heldBack w.firstFw) && l.all (fun a => !w.poisoned a 1)))) &&
     (let w := cmd th 3 0xFE 8 0 0 []
      w.serving 3 (some 0xFE) && decide (w.cmdAddr < 16) && decide (w.cmdLen % 8 = 0) && !(w.ctx w.cmdAddr).state.absent) &&
     (let w := cmd th 5 0 64 0 0 []
      w.serving 5 none && decide (w.cmdLen = 64))) = true := by decide +kernel
theorem wit_Queries : ((List.range 5).all (fun k => (cmd th 4 0 0 0 k []).querying k) && decide (bits (cmd th 4 0 0 0 3 []).cmdArg 16 7 ≤ 67)) = true := by
  decide +kernel
/-- A creation of context 1 with one source and core 2, whose trap queue is queue 3 of that core. -/
def mk (cores : Nat) : List Nat := [1, 1 + 2 ^ 16 * 47 + 2 ^ 24 * 16 + 2 ^ 32 * 16, 0, 0, 2 + 3 * 2 ^ 16, cores, 0, 0, 0, 0, 0, 0, 0, 1, 9]
theorem wit_Fw_context : let s := req th (mk 4)
    let c (st : CtxState) (code : Nat) : State := req (th.modCtx 1 (fun x => { x with state := st })) [code, 1]
    (s.requested 1 && decide (14 ≤ s.cmdLen / 8) && decide (s.pf 13 0 7 ≤ 64) && !s.badWords (createMasks (s.pf 13 0 7)) && !s.created.outOfRange &&
     !s.createRefused (s.pf 1 0 4) s.created && (req th (mk 0)).requested 1 && (req th (mk 0)).createRefused 1 (req th (mk 0)).created &&
     (c .ready 2).requested 2 && !(c .ready 2).badWords [0xF] && decide (((c .ready 2).ctx ((c .ready 2).pf 1 0 4)).state = .ready) &&
     decide (((c .frozen 2).ctx ((c .frozen 2).pf 1 0 4)).state = .frozen) && (c .faulted 3).requested 3 &&
     decide (((c .faulted 3).ctx ((c .faulted 3).pf 1 0 4)).state = .faulted) && decide (((c .ready 3).ctx ((c .ready 3).pf 1 0 4)).state ≠ .faulted)) = true := by
  decide +kernel
theorem wit_Fw_map : let m := req th [4, 2 ^ 8 + 2 ^ 11, 2 ^ 30, 2 ^ 14, 2 ^ 14]
    let u := req th [4, 0, 2 ^ 30, 0, 2 ^ 14]
    (m.requested 4 && !m.badRange && !(m.ctx (m.pf 1 0 4)).state.absent && decide (m.payWord 4 ≠ 0) && decide (m.pf 1 8 1 = 1) &&
     !m.mapRefused 0 (m.payWord 2) (m.payWord 3) (m.payWord 4) (m.pf 1 16 2) && u.requested 4 && !u.badRange && decide (u.pf 1 8 1 ≠ 1) && !u.sdioWait &&
     !(u.ctx 0).touchesSpill (u.payWord 2) (u.payWord 4)) = true := by decide +kernel
theorem wit_Fw_rest : let p (b : Nat) : State := req th [5, 2 + b * 2 ^ 16]
    let src := th.modCtx 0 (fun x => { x with sources := [⟨th.srcId 0 0, true⟩] })
    let v (b : Nat) : State := req src [6, b * 2 ^ 16]
    let k := req src [7, 2 ^ 16, 100 + 65536 * 2 ^ 32, 1048576 + 1000 * 2 ^ 32, 16 + 16 * 2 ^ 8 + 64 * 2 ^ 16]
    let l := req (th.modCtx 1 (fun x => { x with state := .loading })) [9, 1, 0]
    ((p 1).requested 5 && !(p 1).badWords [0x101FF] && !(p 1).isFw ((p 1).pf 1 0 9) && decide ((p 1).pf 1 16 1 = 1) && decide ((p 0).pf 1 16 1 = 0) &&
     (v 1).requested 6 && !(v 1).badSource && !(v 1).sourceRefused && decide ((v 1).pf 1 16 1 = 1) && decide ((v 0).pf 1 16 1 = 0) &&
     k.requested 7 && !k.badWords [0x3F0F0FFFF3007F, 0x1FFFFFFFFFFFF, 0x1FFFFF001FFFFF, 0xFFFFF7F7F] && decide (k.pf 1 0 7 ≤ 67) &&
     !k.configured.outOfRange && !(k.ctx k.configured.ctx).state.absent &&
     ((k.ctx k.configured.ctx).sources[k.configured.entry]?).any (fun e => e.id == k.srcId 0 (k.pf 1 0 7)) &&
     (let t := req th [8, 0, 5]
      t.requested 8 && !t.badWords [0xFFFF0F, 0xF1FFFFFFFFFF] && decide (t.pf 2 0 32 ≠ 0)) &&
     l.requested 9 && !l.badWords [0xF, 2 ^ 48 - 1] && decide ((l.ctx (l.pf 1 0 4)).state = .loading) && decide ((l.ctx (l.pf 1 0 4)).pending = none)) = true := by
  decide +kernel
def tlink (i : Nat) (st : LinkState) : State := { th with links := [(i, { state := st })] }
theorem wit_Links : (decide (((tlink 0 .down).link 0).state = .down) && decide (((tlink 0 .training).link 0).state = .training) &&
    decide (((tlink 0 .up).link 0).state = .up) && !(tlink 0 .up).rowTraffic 0 && !(tlink 1 .up).rowTraffic 0 && (tlink 6 .up).sdioUp && !(tlink 6 .down).sdioUp && decide ((tlink 1 .up).nearestUp 0 = some 1) &&
    decide (((tlink 1 .up).link 0).state ≠ .up)) = true := by decide +kernel
theorem wit_Rhoash : (took th 5 (.record rec0 0 (.device 1 3) .system false) (fun u => (u.route 1).isNone) &&
    took { tlink 4 .up with ring := 2 } 5 (.record rec0 0 (.device 1 3) .system false) (fun u => (u.route 1).any (fun l => (u.link l).state.carries)) &&
    took th 5 (.rhoash rec0 th.dev.toNat 3 4) (fun _ => true)) = true := by decide +kernel
/-- Stream `n` enabled on a port that is up. -/
def tstream (n : Nat) (f : Stream → Stream) : State := { th with links := [(portOf n, { state := .up })], streams := [(n, f { en := true })] }
theorem wit_Sensors : let s := tstream 0 (fun t => { t with base := some 0 })
    let c := tstream 0 (fun t => { t with cut := true })
    let x := tstream 64 id
    let y := tstream 64 (fun t => { t with scanning := true, rows := 1, cols := 2 })
    ((s.streams.find 0).any (fun t => t.en && !t.cut && t.base.isSome && decide (8 ≤ t.maxb)) && s.portUp 0 && (c.streams.find 0).any (·.cut) &&
     (x.streams.find 64).any (fun t => !t.scanning && decide (t.scanAt ≤ x.dtime.toNat)) && x.portUp 64 &&
     (y.streams.find 64).any (fun t => t.scanning && decide (t.rows * t.cols = 2) && decide (y.dtime.toNat ≤ maxcEnd t.scanFrom t.maxc))) = true := by
  decide +kernel
/-- A stream with EN = 0 that is cut off counts the packets that it discards (R368, R370). -/
theorem test_csi2_cut_off : nx (exec (.csi2Packet 0 0 0x30 [5]) (tstream 0 (fun t => { t with cut := true, en := false })))
    (fun t => decide ((t.stream 0).discarded = 1)) = true := by decide +kernel

/-! ### Headland's harts, and the digest -/

/-- Words of the RISC-V manual's encodings: `addi x1,x0,5`, `bne x1,x2,-4`, `lw x5,8(x2)`, `sw x5,-4(x2)`, `mul x3,x1,x2`,
`csrw mtvec,x5`, and the compressed `jr x1`, `addi x8,1`, `lwsp x1,0(x2)`. -/
theorem test_rv_decode : rvDecode 0x00500093 = some (.opImm .add 1 0 5) ∧ rvDecode 0xFE209EE3 = some (.branch .ne 1 2 0xFFFFFFFC) ∧
    rvDecode 0x00812283 = some (.load 4 true 5 2 8) ∧ rvDecode 0xFE512E23 = some (.store 4 2 5 0xFFFFFFFC) ∧
    rvDecode 0x022081B3 = some (.mul .mul 3 1 2) ∧ rvDecode 0x30529073 = some (.csr .write false 0 5 0x305) ∧
    rvDecode 0x8082 = some (.jalr 0 1 0) ∧ rvDecode 0x0405 = some (.opImm .add 8 8 1) ∧ rvDecode 0x4082 = some (.load 4 true 1 2 0) ∧
    rvDecode 0 = none := by decide +kernel
theorem test_rv_division : RvMul.div.eval 7 0 = 0xFFFFFFFF ∧ RvMul.rem.eval 7 0 = 7 ∧ RvMul.div.eval 0x80000000 0xFFFFFFFF = 0x80000000 ∧
    RvMul.mulhsu.eval 0xFFFFFFFF 2 = 0xFFFFFFFF := by decide +kernel
/-- A running device whose main hart stands at SRAM offset 0, where `addi x1,x0,5` and `csrw 0x7D1,x1` (HEMASK) stand; the
checker is two instructions behind. -/
def thart (word : Nat) : State :=
  let s : State := { State.reset with phase := .running }
  { s.putNum (hramAt 0) 4 word with headland := { s.headland with main := { ({} : Hart) with pc := 0x10000000, mie := true, meie := true, mtvec := 0x100, x := (({} : Hart).x.set 1 3) } } }
theorem test_hart_addi : let h := (thart 0x00500093).hartStep.headland
    h.main.rx 1 = 5 ∧ h.main.pc = 0x10000004 ∧ h.behind.length = 1 := by decide +kernel
/-- `csrw HEMASK,x1`, and the illegal word 0. -/
theorem test_hart_csr : ((thart 0x7D109073).hartStep.headland.hemask = 3) ∧ (let h := (thart 0).hartStep.headland.main
    h.mcause = 2 ∧ h.mepc = 0x10000000 ∧ h.pc = 0x100) := by decide +kernel
/-- An error source that HEMASK enables raises the machine external interrupt (R388). -/
theorem wit_hart_interrupt : let s := thart 0x00500093
    let t : State := { s with headland := { s.headland with herr := 4, hemask := 4 } }
    t.headland.irq = true ∧ t.headland.main.mie = true ∧ t.headland.main.meie = true ∧ s.headland.irq = false ∧
    t.hartStep.headland.main.mcause = 0x8000000B ∧ s.phase = .running ∧ s.headland.behind.length < 2 := by decide +kernel
theorem wit_hart_checker : let s := thart 0x00500093
    let g : HartIn := ⟨false, some 0x00500093, 0, none⟩
    let u (pc : BitVec 32) : State := { s with headland := { s.headland with behind := [⟨g, 0, .idle⟩, ⟨g, 4, .idle⟩], checker := { s.headland.checker with pc := pc } } }
    ((u 0).headland.checker.pc = 0 ∧ (u 0).headland.checker.request false (some 0x00500093) = .idle ∧ (u 0).hartStep.headland.checker.rx 1 = 5) ∧
    ((u 8).headland.checker.pc ≠ 0 ∧ (u 8).hartStep.headland.herr.getLsbD 11 = true) := by decide +kernel
theorem wit_hart_fetch : (thart 0).hartFetch 0x20000000 = (none, 0x20000000) ∧ rvDecode 0 = none ∧ rvIsWide 0 = false := by decide +kernel
/-- FIPS 180-4's digest of "abc", its first eight bytes: ddaf35a193617aba. -/
theorem test_sha512 : (sha512 [0x61, 0x62, 0x63]).toNat % 2 ^ 64 = 0xBA7A6193A135AFDD := by decide +kernel
theorem wit_register_absent : (tfw.phase = .running) ∧ tfw.hput 0x7C2 1 = none ∧ (tfw.hput 0x7D1 1).isSome = true := by decide +kernel

end Sys2Proof.Tests
end

section
/-! What every step keeps: memory in canonical form and the ranges of the state's parts, said of states, of meanings and of
outcomes, with one rule for each update of the state. -/

namespace Sys2Proof

/-! ### Tables -/

variable {α : Type}


theorem FMap.mem_set {k : Nat} {x : α} {l : FMap α} {p : Nat × α} (h : p ∈ l.set k x) : p = (k, x) ∨ p ∈ l := by
  induction l with
  | nil => simpa [FMap.set] using h
  | cons q l ih =>
    simp only [FMap.set] at h
    split at h
    · rcases List.mem_cons.1 h with h | h
      · exact .inl h
      · exact .inr (List.mem_cons_of_mem _ h)
    · split at h
      · exact List.mem_cons.1 h
      · rcases List.mem_cons.1 h with h | h
        · exact .inr (h ▸ List.mem_cons_self)
        · exact (ih h).imp_right (List.mem_cons_of_mem _)
theorem FMap.mem_of_find {k : Nat} {x : α} {l : FMap α} (h : l.find k = some x) : ∃ p ∈ l, p.2 = x := by
  induction l with
  | nil => cases h
  | cons q l ih =>
    simp only [FMap.find] at h
    split at h
    · cases h; exact ⟨q, List.mem_cons_self, rfl⟩
    · obtain ⟨p, hp, e⟩ := ih h
      exact ⟨p, List.mem_cons_of_mem _ hp, e⟩
theorem FMap.mem_of_mem_del {k : Nat} {l : FMap α} {p : Nat × α} (h : p ∈ l.del k) : p ∈ l := by
  induction l with
  | nil => exact h
  | cons q l ih =>
    simp only [FMap.del] at h
    split at h
    · exact List.mem_cons_of_mem _ (ih h)
    · exact List.mem_cons.2 ((List.mem_cons.1 h).imp_right ih)
/-- What holds of every entry of a table and of the default holds of what is read. -/
theorem FMap.getD_of_forall {P : α → Prop} {k : Nat} {d : α} {l : FMap α} (h : ∀ p ∈ l, P p.2) (hd : P d) : P (l.getD k d) := by
  unfold FMap.getD
  cases e : l.find k with
  | none => exact hd
  | some x =>
    obtain ⟨p, hp, rfl⟩ := FMap.mem_of_find e
    exact h p hp
/-- What holds of every entry of a table and of the one set holds of every entry afterwards. -/
theorem FMap.forall_set {P : α → Prop} {k : Nat} {x : α} {l : FMap α} (h : ∀ p ∈ l, P p.2) (hx : P x) : ∀ p ∈ l.set k x, P p.2 := by
  intro p hp
  rcases FMap.mem_set hp with rfl | hp
  · exact hx
  · exact h p hp

end Sys2Proof

namespace Sys2Proof.Machine

/-! ### The invariants that are carried together -/

/-- The parts of a state on which memory's form and the ranges rest. -/
def State.parts (s : State) :
    List Host.Cell × FMap Core × FMap Cove × FMap Ctx × FMap (BitVec 16) × FMap (BitVec 16) × List
      (Nat × Nat × BitVec 22 × BitVec 22 × BitVec 22) :=
  (s.mem, s.cores, s.coves, s.ctxs, s.regions, s.regionNew, s.commits)
/-- Memory is in canonical form where `m` is asked for, and the ranges hold where `r` is. With neither, nothing is asked of
the state: so one lemma for each operation serves both invariants, and the answer of every meaning. -/
def Kept (m r : Prop) (s : State) : Prop := (m → s.MemOk) ∧ (r → s.RangesOk)
/-- The state that comes first in a pair is kept. -/
def KeptFst {α : Type} (m r : Prop) (p : State × α) : Prop := Kept m r p.1
/-- The state that comes second in a pair is kept. -/
def KeptSnd {α : Type} (m r : Prop) (p : α × State) : Prop := Kept m r p.2
/-- The state that `π` finds in an answer is kept, where there is an answer. -/
def KeptIn {α : Type} (m r : Prop) (π : α → State) (o : Option α) : Prop := ∀ a, o = some a → Kept m r (π a)
/-- The state in which a run of a meaning completes or waits is kept. -/
def Stays {α : Type} (m r : Prop) : Except Stop (α × State) → Prop
  | .ok p => Kept m r p.2
  | .error (.wait _ t) => Kept m r t
  | .error (.trap _) => True
/-- A meaning keeps what the state that it runs on has. -/
def Runs {α : Type} (m r : Prop) (x : M α) : Prop := ∀ s, Kept m r s → Stays m r (x s)
/-- The outcome is a next state, and that is kept. -/
def Ends (m r : Prop) (o : Host.Outcome State Fault Refusal) : Prop := ∃ t, o = .next t ∧ Kept m r t
/-- The state that a record's arrival leaves is kept. -/
def Received (m r : Prop) : Outcome → Prop
  | .accepted s => Kept m r s
  | .rejected s => Kept m r s
  | .full s => Kept m r s
  | .blocked => True
/-- The ranges of a context: its prepared queues stand in their rings. -/
def Ctx.RangesOk (x : Ctx) : Prop := ∀ b ∈ x.binds, b.2.InRing

variable {α β : Type} {m r : Prop} {s t : State}

/-- What is kept rests on the parts alone. -/
theorem Kept.same (h : Kept m r s) (e : t.parts = s.parts) : Kept m r t := by
  obtain ⟨hm, hr⟩ := h
  simp only [State.parts, Prod.mk.injEq] at e
  obtain ⟨e1, e2, e3, e4, e5, e6, e7⟩ := e
  unfold Kept State.MemOk State.RangesOk at *
  rw [e1, e2, e3, e4, e5, e6, e7]
  exact ⟨hm, hr⟩
/-- A change of memory alone keeps what is asked where the new memory is in canonical form. -/
theorem Kept.withMem {l : List Host.Cell} (h : Kept m r s) (hl : m → Mem.wf l = true) (e : t.parts = (l, s.parts.2)) : Kept m r t := by
  simp only [State.parts, Prod.mk.injEq] at e
  obtain ⟨e1, e2, e3, e4, e5, e6, e7⟩ := e
  refine ⟨fun hm => ?_, fun hr => ?_⟩
  · unfold State.MemOk; rw [e1]; exact hl hm
  · have := h.2 hr
    unfold State.RangesOk at *
    rw [e2, e3, e4, e5, e6, e7]; exact this
theorem Kept.memOk (h : Kept m r s) : m → Mem.wf s.mem = true := h.1

theorem Kept.cores (h : Kept m r s) : r → ∀ p ∈ s.cores, p.2.RangesOk := fun hr => (h.2 hr).1
theorem Kept.coves (h : Kept m r s) : r → ∀ p ∈ s.coves, p.2.RangesOk := fun hr => (h.2 hr).2.1
theorem Kept.ctxs (h : Kept m r s) : r → ∀ p ∈ s.ctxs, p.2.RangesOk := fun hr => (h.2 hr).2.2.1
theorem Kept.entries (h : Kept m r s) : r → ∀ e ∈ s.regions ++ s.regionNew, EntryOk e.2 := fun hr => (h.2 hr).2.2.2.1
theorem Kept.commits (h : Kept m r s) : r → ∀ q ∈ s.commits, OnPage q.2.2.1 ∧ OnPage q.2.2.2.1 ∧ OnPage q.2.2.2.2 := fun hr => (h.2 hr).2.2.2.2
/-- What is kept, part by part. -/
theorem Kept.of_parts (hm : m → Mem.wf s.mem = true) (hc : r → ∀ p ∈ s.cores, p.2.RangesOk) (hv : r → ∀ p ∈ s.coves, p.2.RangesOk)
    (hx : r → ∀ p ∈ s.ctxs, p.2.RangesOk) (he : r → ∀ e ∈ s.regions ++ s.regionNew, EntryOk e.2)
    (hq : r → ∀ q ∈ s.commits, OnPage q.2.2.1 ∧ OnPage q.2.2.2.1 ∧ OnPage q.2.2.2.2) : Kept m r s :=
  ⟨hm, fun hr => ⟨hc hr, hv hr, hx hr, he hr, hq hr⟩⟩

/-! ### Branches, folds and answers -/

theorem Kept.ite {c : Prop} [Decidable c] (h : Kept m r s) (k : Kept m r t) : Kept m r (if c then s else t) := by
  split <;> assumption
theorem KeptFst.ite {c : Prop} [Decidable c] {p q : State × α} (h : KeptFst m r p) (k : KeptFst m r q) :
    KeptFst m r (if c then p else q) := by split <;> assumption
theorem KeptSnd.ite {c : Prop} [Decidable c] {p q : α × State} (h : KeptSnd m r p) (k : KeptSnd m r q) :
    KeptSnd m r (if c then p else q) := by split <;> assumption
theorem KeptIn.ite {c : Prop} [Decidable c] {π : α → State} {o q : Option α} (h : KeptIn m r π o) (k : KeptIn m r π q) :
    KeptIn m r π (if c then o else q) := by split <;> assumption
theorem Stays.ite {c : Prop} [Decidable c] {x y : Except Stop (α × State)} (h : Stays m r x) (k : Stays m r y) :
    Stays m r (if c then x else y) := by split <;> assumption
theorem Runs.ite {c : Prop} [Decidable c] {x y : M α} (h : Runs m r x) (k : Runs m r y) : Runs m r (if c then x else y) := by
  split <;> assumption
theorem Ends.ite {c : Prop} [Decidable c] {x y : Host.Outcome State Fault Refusal} (h : Ends m r x) (k : Ends m r y) :
    Ends m r (if c then x else y) := by split <;> assumption

theorem Received.ite {c : Prop} [Decidable c] {x y : Outcome} (h : Received m r x) (k : Received m r y) :
    Received m r (if c then x else y) := by split <;> assumption

theorem Kept.foldl {f : State → β → State} {l : List β} (h : Kept m r s) (k : ∀ s a, Kept m r s → Kept m r (f s a)) :
    Kept m r (l.foldl f s) := foldl_inv (Kept m r) f l s h (fun s a _ => k s a)
theorem KeptFst.foldl {f : State × α → β → State × α} {l : List β} {p : State × α} (h : KeptFst m r p)
    (k : ∀ p a, KeptFst m r p → KeptFst m r (f p a)) : KeptFst m r (l.foldl f p) := foldl_inv (KeptFst m r) f l p h (fun p a _ => k p a)
theorem KeptSnd.foldl {f : α × State → β → α × State} {l : List β} {p : α × State} (h : KeptSnd m r p)
    (k : ∀ p a, KeptSnd m r p → KeptSnd m r (f p a)) : KeptSnd m r (l.foldl f p) := foldl_inv (KeptSnd m r) f l p h (fun p a _ => k p a)

theorem KeptFst.mk {a : α} (h : Kept m r s) : KeptFst m r (s, a) := h
theorem KeptSnd.mk {a : α} (h : Kept m r s) : KeptSnd m r (a, s) := h
theorem KeptFst.of_eq {p : State × α} {a : α} (h : KeptFst m r p) (e : p = (t, a)) : Kept m r t := by subst e; exact h
theorem KeptSnd.of_eq {p : α × State} {a : α} (h : KeptSnd m r p) (e : p = (a, t)) : Kept m r t := by subst e; exact h
theorem KeptIn.none {π : α → State} : KeptIn m r π Option.none := nofun
theorem KeptIn.some {π : α → State} {a : α} (h : Kept m r (π a)) : KeptIn m r π (Option.some a) := by
  intro b e; cases e; exact h
theorem KeptIn.map {π : α → State} {o : Option β} {f : β → α} (h : ∀ b, o = Option.some b → Kept m r (π (f b))) : KeptIn m r π (o.map f) := by
  intro a e
  obtain ⟨b, hb, rfl⟩ := Option.map_eq_some_iff.1 e
  exact h b hb
theorem KeptIn.of_eq {π : α → State} {o : Option α} {a : α} (h : KeptIn m r π o) (e : o = Option.some a) : Kept m r (π a) := h a e
theorem Kept.getD {o : Option State} (h : KeptIn m r id o) (k : Kept m r s) : Kept m r (o.getD s) := by
  cases e : o with
  | none => exact k
  | some t => exact h t e
theorem Kept.elim {o : Option α} {f : α → State} (h : Kept m r s) (k : ∀ a, o = Option.some a → Kept m r (f a)) :
    Kept m r (o.elim s f) := by
  cases o with
  | none => exact h
  | some a => exact k a rfl

/-! ### Meanings and outcomes -/

theorem Stays.ok {a : α} (h : Kept m r s) : Stays m r (.ok (a, s)) := h
theorem Stays.wait {w : Wait} (h : Kept m r s) : Stays m r (.error (.wait w s) : Except Stop (α × State)) := h
theorem Stays.trap {x : Trap} : Stays m r (.error (.trap x) : Except Stop (α × State)) := trivial
theorem Stays.of_ok {y : Except Stop (α × State)} {a : α} (h : Stays m r y) (e : y = .ok (a, t)) : Kept m r t := by subst e; exact h
theorem Stays.of_error {y : Except Stop (α × State)} {z : Stop} (h : Stays m r y) (e : y = .error z) :
    Stays m r (.error z : Except Stop (β × State)) := by
  subst e; cases z <;> exact h
theorem Runs.at {x : M α} (h : Runs m r x) (k : Kept m r s) : Stays m r (x s) := h s k
theorem Runs.pure {a : α} : Runs m r (Pure.pure a : M α) := fun _ h => h
theorem Runs.set (h : Kept m r s) : Runs m r (MonadStateOf.set s : M PUnit) := fun _ _ => h
theorem Runs.modifying {f : State → State} (h : ∀ s, Kept m r s → Kept m r (f s)) : Runs m r (modify f : M PUnit) := fun s k => h s k
theorem Runs.bind {x : M α} {f : α → M β} (h : Runs m r x) (k : ∀ a, Runs m r (f a)) : Runs m r (x >>= f) := by
  intro s hs
  have hx := h s hs
  rw [M.bind_run]
  cases e : x s with
  | ok p => rw [e] at hx; exact k p.1 p.2 hx
  | error z => rw [e] at hx; cases z <;> exact hx
/-- A meaning that reads the state goes on with one that is kept. -/
theorem Runs.get_bind {f : State → M β} (k : ∀ s, Kept m r s → Runs m r (f s)) : Runs m r (get >>= f) := fun s hs => k s hs s hs
theorem Runs.map {x : M α} {f : α → β} (h : Runs m r x) : Runs m r (f <$> x) := by
  intro s hs
  have hx := h s hs
  rw [M.map_run]
  cases e : x s with
  | ok p => rw [e] at hx; exact hx
  | error z => rw [e] at hx; cases z <;> exact hx
theorem Runs.forM {l : List β} {f : β → M PUnit} (h : ∀ a, Runs m r (f a)) : Runs m r (l.forM f) := by
  induction l with
  | nil => exact Runs.pure
  | cons a l ih => exact Runs.bind (h a) fun _ => ih
theorem Runs.mapM {l : List β} {f : β → M α} (h : ∀ a, Runs m r (f a)) : Runs m r (l.mapM f) := by
  induction l with
  | nil => exact Runs.pure
  | cons a l ih =>
    rw [List.mapM_cons]
    exact Runs.bind (h a) fun _ => Runs.bind ih fun _ => Runs.pure
theorem Received.accepted (h : Kept m r s) : Received m r (.accepted s) := h
theorem Received.rejected (h : Kept m r s) : Received m r (.rejected s) := h
theorem Received.full (h : Kept m r s) : Received m r (.full s) := h
theorem Received.blocked : Received m r .blocked := trivial
theorem Received.of_accepted {o : Outcome} (h : Received m r o) (e : o = .accepted s) : Kept m r s := by subst e; exact h
theorem Received.of_rejected {o : Outcome} (h : Received m r o) (e : o = .rejected s) : Kept m r s := by subst e; exact h
theorem Received.of_full {o : Outcome} (h : Received m r o) (e : o = .full s) : Kept m r s := by subst e; exact h
/-- An outcome that is known to be a next state is that state, and it is kept. -/
theorem Ends.of_next {o : Host.Outcome State Fault Refusal} (h : Ends m r o) (e : o = .next t) : Kept m r t := by
  obtain ⟨u, hu, k⟩ := h
  cases hu.symm.trans e
  exact k
theorem Ends.not_fault {o : Host.Outcome State Fault Refusal} {x : Fault} (h : Ends m r o) (e : o = .fault x) : False := by
  obtain ⟨u, hu, -⟩ := h
  cases hu.symm.trans e
theorem Ends.not_refused {o : Host.Outcome State Fault Refusal} {x : Refusal} (h : Ends m r o) (e : o = .refused x) : False := by
  obtain ⟨u, hu, -⟩ := h
  cases hu.symm.trans e
theorem Ends.next (h : Kept m r s) : Ends m r (.next s) := ⟨s, rfl, h⟩

/-! ### Queues, cores, coves and contexts -/

theorem Mem.wf_foldl {f : List Host.Cell → β → List Host.Cell} {l : List β} {c : List Host.Cell} (h : Mem.wf c = true)
    (hf : ∀ c a, Mem.wf c = true → Mem.wf (f c a) = true) : Mem.wf (l.foldl f c) = true :=
  foldl_inv (fun c => Mem.wf c = true) f l c h (fun c a _ => hf c a)
theorem Queue.InRing.same {u v : Queue} (h : u.InRing) (e : (v.size, v.head, v.tail) = (u.size, u.head, u.tail)) : v.InRing := by
  obtain ⟨e1, e2, e3⟩ := (by simpa only [Prod.mk.injEq] using e : v.size = u.size ∧ v.head = u.head ∧ v.tail = u.tail)
  unfold Queue.InRing at *
  rw [e1, e2, e3]; exact h
theorem Queue.InRing.ite {c : Prop} [Decidable c] {u v : Queue} (h : u.InRing) (k : v.InRing) : (if c then u else v).InRing := by
  split <;> assumption
/-- A head that moves on counts modulo twice the ring. -/
theorem Queue.InRing.withHead {u : Queue} {n : Nat} (h : u.InRing) : ({ u with head := n % 2 ^ (u.size + 1) } : Queue).InRing :=
  ⟨Nat.mod_lt _ (by positivity), h.2⟩
/-- A tail that moves on counts modulo twice the ring. -/
theorem Queue.InRing.withTail {u : Queue} {n : Nat} (h : u.InRing) : ({ u with tail := n % 2 ^ (u.size + 1) } : Queue).InRing :=
  ⟨h.1, Nat.mod_lt _ (by positivity)⟩

/-- The fields of a core on which its ranges rest. -/
def Core.ranged (k : Core) : FMap Queue × (BitVec 22 × BitVec 22 × BitVec 22) × (BitVec 22 × BitVec 22 × BitVec 22) ×
    Option (Nat × BitVec 22 × BitVec 22 × BitVec 22) × FMap (BitVec 16) × Nat :=
  (k.queues, (k.b0, k.b1, k.b2), (k.pbnew0, k.pbnew1, k.pbnew2), k.committing, k.shadow, k.seq)
theorem Core.RangesOk.same {k k' : Core} (h : k.RangesOk) (e : k'.ranged = k.ranged) : k'.RangesOk := by
  simp only [Core.ranged, Prod.mk.injEq] at e
  obtain ⟨e1, ⟨e2, e3, e4⟩, ⟨e5, e6, e7⟩, e8, e9, e10⟩ := e
  unfold Core.RangesOk at *
  rw [e1, e2, e3, e4, e5, e6, e7, e8, e9, e10]; exact h
theorem Core.RangesOk.ite {c : Prop} [Decidable c] {k k' : Core} (h : k.RangesOk) (h' : k'.RangesOk) : (if c then k else k').RangesOk := by
  split <;> assumption
theorem Core.RangesOk.foldl {f : Core → β → Core} {l : List β} {k : Core} (h : k.RangesOk) (hf : ∀ k a, k.RangesOk → (f k a).RangesOk) :
    (l.foldl f k).RangesOk := foldl_inv Core.RangesOk f l k h (fun k a _ => hf k a)
theorem Core.RangesOk.of_fst {p : Core × α} {k : Core} {a : α} (h : p.1.RangesOk) (e : p = (k, a)) : k.RangesOk := by subst e; exact h
/-- A queue that stands in its ring takes the place of another. -/
theorem Core.RangesOk.withQueue {k k' : Core} {q : Nat} {u : Queue} (h : k.RangesOk)
    (e : k'.ranged = (k.queues.set q u, k.ranged.2)) (hu : u.InRing) : k'.RangesOk := by
  obtain ⟨hq, hb⟩ := h
  simp only [Core.ranged, Prod.mk.injEq] at e
  obtain ⟨e1, ⟨e2, e3, e4⟩, ⟨e5, e6, e7⟩, e8, e9, e10⟩ := e
  unfold Core.RangesOk at *
  rw [e1, e2, e3, e4, e5, e6, e7, e8, e9, e10]
  exact ⟨FMap.forall_set hq hu, hb⟩
theorem Core.RangesOk.getD {o : Option Core} {k : Core} (h : ∀ k', o = some k' → k'.RangesOk) (hk : k.RangesOk) : (o.getD k).RangesOk := by
  cases e : o with
  | none => exact hk
  | some k' => exact h k' e
theorem Core.RangesOk.queue {k : Core} {q : Nat} {u : Queue} (h : k.RangesOk) (e : k.queues.find q = some u) : u.InRing := by
  obtain ⟨p, hp, rfl⟩ := FMap.mem_of_find e
  exact h.1 p hp
theorem Core.RangesOk.default : ({} : Core).RangesOk := by
  refine ⟨nofun, ?_, ?_, nofun, nofun, ?_⟩ <;> simp [OnPage]
theorem Cove.RangesOk.same {k k' : Cove} (h : k.RangesOk) (e : (k'.mxe.seq, k'.ebb.seq) = (k.mxe.seq, k.ebb.seq)) : k'.RangesOk := by
  obtain ⟨e1, e2⟩ := Prod.mk.injEq .. ▸ e
  unfold Cove.RangesOk at *
  rw [e1, e2]; exact h
theorem Cove.RangesOk.ite {c : Prop} [Decidable c] {k k' : Cove} (h : k.RangesOk) (h' : k'.RangesOk) : (if c then k else k').RangesOk := by
  split <;> assumption
theorem Cove.RangesOk.foldl {f : Cove → β → Cove} {l : List β} {k : Cove} (h : k.RangesOk) (hf : ∀ k a, k.RangesOk → (f k a).RangesOk) :
    (l.foldl f k).RangesOk := foldl_inv Cove.RangesOk f l k h (fun k a _ => hf k a)
theorem Cove.RangesOk.default : ({} : Cove).RangesOk := by simp [Cove.RangesOk]
theorem Ctx.RangesOk.same {x y : Ctx} (h : x.RangesOk) (e : y.binds = x.binds) : y.RangesOk := by
  unfold Ctx.RangesOk at *
  rw [e]; exact h
theorem Ctx.RangesOk.default : ({} : Ctx).RangesOk := nofun
theorem Ctx.RangesOk.ite {c : Prop} [Decidable c] {x y : Ctx} (h : x.RangesOk) (h' : y.RangesOk) : (if c then x else y).RangesOk := by
  split <;> assumption
theorem Ctx.RangesOk.foldl {f : Ctx → β → Ctx} {l : List β} {x : Ctx} (h : x.RangesOk) (hf : ∀ k a, k.RangesOk → (f k a).RangesOk) :
    (l.foldl f x).RangesOk := foldl_inv Ctx.RangesOk f l x h (fun k a _ => hf k a)

theorem Kept.core (h : Kept m r s) (c : Nat) : r → (s.core c).RangesOk := fun hr =>
  FMap.getD_of_forall (h.2 hr).1 Core.RangesOk.default
theorem Kept.cove (h : Kept m r s) (v : Nat) : r → (s.cove v).RangesOk := fun hr =>
  FMap.getD_of_forall (h.2 hr).2.1 Cove.RangesOk.default
theorem Kept.ctx (h : Kept m r s) (x : Nat) : r → (s.ctx x).RangesOk := fun hr =>
  FMap.getD_of_forall (P := Ctx.RangesOk) (h.2 hr).2.2.1 Ctx.RangesOk.default

/-! ### Updates of the state -/

/-- A change of every core keeps the ranges where it keeps those of each. -/
theorem Kept.mapCores {f : Core → Core} (h : Kept m r s) (hf : r → ∀ k, k.RangesOk → (f k).RangesOk)
    (e : t.parts = (s.mem, s.cores.map (fun p => (p.1, f p.2)), s.parts.2.2)) : Kept m r t := by
  simp only [State.parts, Prod.mk.injEq] at e
  obtain ⟨e1, e2, e3, e4, e5, e6, e7⟩ := e
  refine Kept.of_parts ?_ ?_ ?_ ?_ ?_ ?_
  · rw [e1]; exact h.memOk
  · intro hr p hp
    rw [e2] at hp
    obtain ⟨q, hq, rfl⟩ := List.mem_map.1 hp
    exact hf hr _ (h.cores hr q hq)
  · rw [e3]; exact h.coves
  · rw [e4]; exact h.ctxs
  · rw [e5, e6]; exact h.entries
  · rw [e7]; exact h.commits
/-- A change of every context keeps the ranges where it keeps those of each. -/
theorem Kept.mapCtxs {f : Ctx → Ctx} (h : Kept m r s) (hf : r → ∀ x, x.RangesOk → (f x).RangesOk)
    (e : t.parts = (s.mem, s.cores, s.coves, s.ctxs.map (fun p => (p.1, f p.2)), s.parts.2.2.2.2)) : Kept m r t := by
  simp only [State.parts, Prod.mk.injEq] at e
  obtain ⟨e1, e2, e3, e4, e5, e6, e7⟩ := e
  refine Kept.of_parts ?_ ?_ ?_ ?_ ?_ ?_
  · rw [e1]; exact h.memOk
  · rw [e2]; exact h.cores
  · rw [e3]; exact h.coves
  · intro hr p hp
    rw [e4] at hp
    obtain ⟨q, hq, rfl⟩ := List.mem_map.1 hp
    exact hf hr _ (h.ctxs hr q hq)
  · rw [e5, e6]; exact h.entries
  · rw [e7]; exact h.commits
theorem Kept.setCore {c : Nat} {k : Core} (h : Kept m r s) (hk : r → k.RangesOk) : Kept m r (s.setCore c k) :=
  ⟨h.1, fun hr => ⟨FMap.forall_set (h.2 hr).1 (hk hr), (h.2 hr).2⟩⟩
theorem Kept.setCove {v : Nat} {k : Cove} (h : Kept m r s) (hk : r → k.RangesOk) : Kept m r (s.setCove v k) :=
  ⟨h.1, fun hr => ⟨(h.2 hr).1, FMap.forall_set (h.2 hr).2.1 (hk hr), (h.2 hr).2.2⟩⟩
theorem Kept.setCtx {c : Nat} {x : Ctx} (h : Kept m r s) (hx : r → x.RangesOk) : Kept m r (s.setCtx c x) :=
  ⟨h.1, fun hr => ⟨(h.2 hr).1, (h.2 hr).2.1, FMap.forall_set (P := Ctx.RangesOk) (h.2 hr).2.2.1 (hx hr), (h.2 hr).2.2.2⟩⟩
theorem Kept.modCore {c : Nat} {f : Core → Core} (h : Kept m r s) (hf : r → ∀ k, k.RangesOk → (f k).RangesOk) : Kept m r (s.modCore c f) :=
  h.setCore fun hr => hf hr _ (h.core c hr)
theorem Kept.modCove {v : Nat} {f : Cove → Cove} (h : Kept m r s) (hf : r → ∀ k, k.RangesOk → (f k).RangesOk) : Kept m r (s.modCove v f) :=
  h.setCove fun hr => hf hr _ (h.cove v hr)
theorem Kept.modCtx {c : Nat} {f : Ctx → Ctx} (h : Kept m r s) (hf : r → ∀ x, x.RangesOk → (f x).RangesOk) : Kept m r (s.modCtx c f) :=
  h.setCtx fun hr => hf hr _ (h.ctx c hr)
theorem Core.RangesOk.setSlot {k : Core} {j : Nat} {x : Slot} (h : k.RangesOk) : (k.setSlot j x).RangesOk := h.same rfl
theorem Kept.setSlot {c j : Nat} {x : Slot} (h : Kept m r s) : Kept m r (s.setSlot c j x) := h.modCore fun _ _ hk => hk.setSlot
theorem Kept.modSlot {c j : Nat} {f : Slot → Slot} (h : Kept m r s) : Kept m r (s.modSlot c j f) := h.setSlot
theorem Kept.setMe {x : Slot} (h : Kept m r s) : Kept m r (s.setMe x) := h.setCore fun hr => (h.core _ hr).same rfl
theorem Kept.modMe {f : Slot → Slot} (h : Kept m r s) : Kept m r (s.modMe f) := h.setMe
theorem Kept.setByte {a : Nat} {x : Byte} (h : Kept m r s) : Kept m r (s.setByte a x) :=
  h.withMem (fun hm => Mem.wf_set _ _ _ (h.memOk hm)) rfl
theorem Kept.putBytes {a : Nat} {l : List Byte} (h : Kept m r s) : Kept m r (s.putBytes a l) :=
  h.withMem (fun hm => Mem.wf_puts _ _ (h.memOk hm)) rfl
theorem Kept.putNum {a n x : Nat} (h : Kept m r s) : Kept m r (s.putNum a n x) := h.putBytes

end Sys2Proof.Machine
end

section
/-! The state: what the operations of Machine/State keep. -/

namespace Sys2Proof.Machine

variable {m r : Prop} {s : State}

theorem State.reset_rangesOk : State.reset.RangesOk :=
  ⟨fun _ hp => absurd hp List.not_mem_nil, fun _ hp => absurd hp List.not_mem_nil, fun _ hp => absurd hp List.not_mem_nil,
    fun _ hp => absurd hp List.not_mem_nil, fun _ hp => absurd hp List.not_mem_nil⟩

end Sys2Proof.Machine
end

section
/-! Slots, traps and the state's shared operations: what the operations of Machine/Ops keep. -/

namespace Sys2Proof.Machine

variable {m r : Prop} {s : State}

theorem Kept.meter {a nJ : Nat} (h : Kept m r s) : Kept m r (s.meter a nJ) :=
  Kept.modCtx (h.same rfl) fun _ _ hk => hk.ite (hk.same rfl)
theorem Kept.wg {rc : BitVec 5} {a : Word} (h : Kept m r s) : Kept m r (s.wg rc a) := h.modMe
theorem Kept.wv {rc : BitVec 5} {a : Vec} (h : Kept m r s) : Kept m r (s.wv rc a) := h.modMe
theorem Kept.wmask {rc : Nat} {a : Word} (h : Kept m r s) : Kept m r (s.wmask rc a) := h.modMe
theorem Kept.orFlags {f : Flags} (h : Kept m r s) : Kept m r (s.orFlags f) := h.modMe
theorem Kept.goto {pc : Word} (h : Kept m r s) : Kept m r (s.goto pc) := h.modMe
theorem Kept.advance (h : Kept m r s) : Kept m r s.advance := h.goto
theorem stopTrap_runs {t : Trap} : Runs m r (stopTrap t : M α) := by
  intro s h
  unfold stopTrap
  exact Stays.trap
theorem raise_runs {cause : BitVec 8} {tval : Word} {taddr : BitVec 48} : Runs m r (raise cause tval taddr : M α) := stopTrap_runs
theorem waitFor_runs {w : Wait} : Runs m r (waitFor w : M α) := by
  intro s h
  unfold waitFor
  exact Stays.wait h
theorem illegalPrefix_runs : Runs m r (illegalPrefix : M α) := by
  intro s h
  unfold illegalPrefix
  exact Stays.trap
theorem misaligned_runs {n : Nat} {a : Word} : Runs m r (misaligned n a : M α) := raise_runs
theorem illegal_runs : Runs m r (illegal : M α) := by
  intro s h
  unfold illegal
  exact Stays.trap
theorem bounds_runs {k : Nat} {a : Word} : Runs m r (bounds k a : M α) := raise_runs
theorem Kept.post {src dst : Nat} {b : Body} (h : Kept m r s) : Kept m r (s.post src dst b) := h.same rfl
theorem KeptIn.take {id : Nat} (h : Kept m r s) : KeptIn m r Prod.snd (s.take id) := by
  unfold State.take
  split
  · exact KeptIn.none
  · refine KeptIn.none.ite ?_
    split
    · exact KeptIn.ite (KeptIn.some (KeptSnd.mk (h.same rfl))) KeptIn.none
    · exact KeptIn.none
theorem Kept.report {src core ctx : Nat} (h : Kept m r s) : Kept m r (s.report src core ctx) := h.post
/-- A granule that no commit has set maps to itself. -/
theorem entryOk_default (i : Nat) : EntryOk (BitVec.ofNat 16 (2 ^ 15 + (if i ≥ 64 then 2 ^ 14 else 0) + i % 64)) := by
  have h : ∀ j < 64, EntryOk (BitVec.ofNat 16 (2 ^ 15 + 2 ^ 14 + j)) ∧ EntryOk (BitVec.ofNat 16 (2 ^ 15 + 0 + j)) := by
    unfold EntryOk
    decide
  obtain ⟨h1, h0⟩ := h (i % 64) (Nat.mod_lt _ (by decide))
  split
  · exact h1
  · exact h0
theorem Kept.region (h : Kept m r s) (i : Nat) : r → EntryOk (s.region i) := fun hr =>
  FMap.getD_of_forall (P := EntryOk) (fun e he => h.entries hr e (List.mem_append_left _ he)) (entryOk_default i)
theorem Kept.enterWalk {v : Nat} {msg : Walk} (h : Kept m r s) : Kept m r (s.enterWalk v msg) :=
  h.modCove fun _ _ hk => Cove.RangesOk.ite (hk.same rfl) (Cove.RangesOk.ite (hk.same rfl) (Cove.RangesOk.ite (hk.same rfl) hk))
theorem Kept.askWalk {ctx va : Nat} (h : Kept m r s) : Kept m r (s.askWalk ctx va) := h.enterWalk
theorem translateTo_runs {va : Word} {k : Acc} : Runs m r (translateTo va k : M TlbEntry) := by
  intro s h
  unfold translateTo
  refine Stays.trap.ite ?_
  split
  · exact Stays.ite (Stays.ok h) Stays.trap
  · split
    · exact Stays.trap.ite (Stays.wait h.askWalk)
    · exact Stays.wait h.askWalk
theorem translate_runs {va : Word} {k : Acc} : Runs m r (translate va k : M Nat) :=
  translateTo_runs.bind fun _ _ h => Stays.ite (Stays.wait h) (Stays.ok h)
theorem Core.RangesOk.obtain {k k' : Core} {q : PageAsk} (hk : k.RangesOk) (e : k.obtain q = some k') : k'.RangesOk := by
  unfold Core.obtain at e
  split at e
  · cases e; exact hk.same rfl
  · obtain ⟨x, -, rfl⟩ := Option.map_eq_some_iff.1 e
    exact hk.same rfl
theorem Core.RangesOk.request {k : Core} {ctx p cls : Nat} (hk : k.RangesOk) : (k.request ctx p cls).RangesOk := by
  unfold Core.request
  extract_lets q
  split
  · split
    · exact hk
    · exact hk.same rfl
    · exact hk.same rfl
  · refine Core.RangesOk.ite (hk.same rfl) (Core.RangesOk.ite (hk.same rfl) (Core.RangesOk.ite ?_ (hk.same rfl)))
    exact Core.RangesOk.getD (fun _ e => hk.obtain e) (hk.same rfl)
theorem Core.RangesOk.retryList {l : List PageAsk} {k : Core} (hk : k.RangesOk) : (Core.retryList l k).RangesOk := by
  induction l generalizing k with
  | nil => exact hk.same rfl
  | cons q l ih =>
    unfold Core.retryList
    refine (ih hk).ite ?_
    split
    · rename_i e
      exact ih (hk.obtain e)
    · exact hk.same rfl
theorem Core.RangesOk.retryFills {k : Core} (hk : k.RangesOk) : k.retryFills.RangesOk := hk.retryList
theorem Core.RangesOk.await {k : Core} {ctx p who : Nat} (hk : k.RangesOk) : (k.await ctx p who).RangesOk := hk.ite (hk.same rfl)
theorem Core.RangesOk.entered {k : Core} {ctx p who : Nat} (hk : k.RangesOk) : (k.entered ctx p who).RangesOk :=
  Core.RangesOk.ite (Core.RangesOk.retryFills (hk.same rfl)) hk
theorem Core.RangesOk.leave {k : Core} {who : Nat} (hk : k.RangesOk) : (k.leave who).RangesOk :=
  Core.RangesOk.ite (Core.RangesOk.retryFills (hk.same rfl)) hk
theorem Kept.waitPage {c ctx p who cls : Nat} (h : Kept m r s) : Kept m r (s.waitPage c ctx p who cls) :=
  h.modCore fun _ _ hk => hk.request.await
theorem Kept.leaveAll {who : Nat} (h : Kept m r s) : Kept m r (s.leaveAll who) :=
  h.foldl fun _ _ h1 => h1.modCore fun _ _ hk => hk.leave
theorem Core.RangesOk.unpin {k : Core} {f : Nat} (hk : k.RangesOk) : (k.unpin f).RangesOk := by
  unfold Core.unpin
  split
  · exact hk.same rfl
  · exact hk
theorem Core.RangesOk.pin {k : Core} {f : Nat} (hk : k.RangesOk) : (k.pin f).RangesOk := by
  unfold Core.pin
  split
  · exact hk.same rfl
  · exact hk
theorem Core.RangesOk.touch {k : Core} {f : Nat} {store : Bool} (hk : k.RangesOk) : (k.touch f store).RangesOk := by
  unfold Core.touch
  split
  · exact hk.same rfl
  · exact hk
theorem localAddr_runs {ta : Word} {la n : Nat} {store : Bool} : Runs m r (localAddr ta la n store : M Nat) := by
  intro s h
  unfold localAddr
  refine Stays.trap.ite ?_
  split
  · exact Stays.trap
  · exact Stays.wait (h.modCore fun _ _ hk => hk.request.await)
  · exact Stays.trap
  · exact Stays.ite (Stays.ok (h.modCore fun _ _ hk => hk.touch.entered)) (Stays.wait (h.modCore fun _ _ hk => hk.await))
theorem localRange_runs {ta : Word} {la n : Nat} {store : Bool} : Runs m r (localRange ta la n store : M Unit) := by
  intro s h
  unfold localRange
  exact Stays.trap.ite (Runs.at (Runs.forM fun _ => localAddr_runs.bind fun _ => Runs.pure) h)
theorem Kept.putLocal {c ctx la : Nat} {l : List Byte} (h : Kept m r s) : Kept m r (s.putLocal c ctx la l) := by
  induction l generalizing s la with
  | nil => exact h
  | cons x l ih =>
    unfold State.putLocal
    split
    · exact ih (h.setByte.modCore fun _ _ hk => hk.touch)
    · exact ih h
theorem Kept.sendTrapRec {c ctx : Nat} {rc : Rec} (h : Kept m r s) : Kept m r (s.sendTrapRec c ctx rc) := h.post
theorem Kept.setWaiters {o cell : Nat} {l : List (Nat × BitVec 32 × Nat)} (h : Kept m r s) : Kept m r (s.setWaiters o cell l) :=
  Kept.putLocal (h.modCore fun _ _ hk => hk.same rfl)
theorem Kept.unlink {c j : Nat} (h : Kept m r s) : Kept m r (s.unlink c j) := by
  unfold State.unlink
  split
  · exact h
  · exact h.setWaiters.modSlot
theorem Core.RangesOk.setBank {k : Core} {b : Nat} {a : Bank} (hk : k.RangesOk) : (k.setBank b a).RangesOk := hk.same rfl
theorem Kept.dropReader {c j : Nat} (h : Kept m r s) : Kept m r (s.dropReader c j) := by
  unfold State.dropReader
  split
  · exact h
  · extract_lets _
    split
    · exact h.modSlot.modCore fun _ _ hk => hk.setBank
    · exact h.modSlot
theorem Core.RangesOk.vacate {k : Core} {b : Nat} (hk : k.RangesOk) : (k.vacate b).RangesOk := by
  unfold Core.vacate
  refine hk.setBank.ite ?_
  split
  · exact hk.setBank
  · exact hk.same rfl
theorem Core.RangesOk.firm {k : Core} {b a : Nat} (hk : k.RangesOk) : (k.firm b a).RangesOk := hk.same rfl
theorem Kept.unclaim {c j : Nat} (h : Kept m r s) : Kept m r (s.unclaim c j) := by
  unfold State.unclaim
  extract_lets _
  split
  · exact h.ite (Kept.ite (Kept.ite (h.modCore fun _ _ hk => hk.vacate) h) (h.modCore fun _ _ hk => hk.setBank))
  · exact h
theorem Kept.leaveFar {c j : Nat} (h : Kept m r s) : Kept m r (s.leaveFar c j) :=
  h.foldl fun _ _ h1 => Kept.ite (h1.modCore fun _ _ hk => hk.leave) h1
theorem Kept.letGo {c j : Nat} (h : Kept m r s) : Kept m r (s.letGo c j) :=
  Kept.leaveFar (h.unlink.modCore fun _ _ hk => Core.RangesOk.leave (Core.RangesOk.ite (hk.same rfl) hk))
theorem Kept.acquireAt {c scope : Nat} (h : Kept m r s) : Kept m r (s.acquireAt c scope) :=
  h.ite (h.modCore fun _ _ hk => hk.same rfl)
theorem Kept.takeWokenAt {c j : Nat} (h : Kept m r s) : Kept m r (s.takeWokenAt c j) := Kept.modSlot (h.acquireAt.ite h)
theorem Kept.haltSlot {c j : Nat} (h : Kept m r s) : Kept m r (s.haltSlot c j) := h.takeWokenAt.letGo.modSlot
theorem Kept.stopGroup {c j n : Nat} (h : Kept m r s) : Kept m r (s.stopGroup c j n) :=
  h.foldl fun _ _ h1 => h1.modSlot.ite (h1.modSlot.modSlot.ite h1.modSlot.haltSlot)
theorem Kept.trapSlot {c j : Nat} {a : Trap} (h : Kept m r s) : Kept m r (s.trapSlot c j a) :=
  (h.ite h.dropReader.unclaim).takeWokenAt.letGo.stopGroup.modSlot.sendTrapRec
theorem takeTrap_kept {a : Trap} (h : Kept m r s) : Kept m r (takeTrap s a) := h.trapSlot
theorem stall_kept {w : Wait} (h : Kept m r s) : Kept m r (stall s w) := h.modMe
theorem finish_ends {y : Except Stop (Unit × State)} (h : Kept m r s) (hy : Stays m r y) : Ends m r (finish s y) := by
  unfold finish
  split
  · exact Ends.next hy
  · exact Ends.next (takeTrap_kept h)
  · exact Ends.next (stall_kept hy)
theorem runM_ends {x : M Unit} (hx : Runs m r x) (h : Kept m r s) : Ends m r (runM x s) := finish_ends h (hx.at h)
theorem getG_runs {rc : BitVec 5} : Runs m r (getG rc : M Word) := by
  intro s h
  unfold getG
  exact Stays.ok h
theorem retG_runs {d : BitVec 5} {a : Word} : Runs m r (retG d a : M Unit) := by
  intro s h
  unfold retG
  exact Stays.ok h.wg.advance
theorem done_runs : Runs m r (done : M Unit) := by
  intro s h
  unfold done
  exact Stays.ok h.advance
theorem coveCheck_runs {ea : Word} : Runs m r (coveCheck ea : M (Nat × Nat)) := by
  intro s h
  unfold coveCheck
  exact Stays.trap.ite (Stays.ok h)
theorem ownerCheck_runs {a : Word} {n : Nat} : Runs m r (ownerCheck a n : M (Nat × Nat)) := by
  intro s h
  unfold ownerCheck
  exact Stays.trap.ite (Stays.ok h)
theorem Core.RangesOk.l1Store {k : Core} {a : Nat} {b : Byte} (hk : k.RangesOk) : (k.l1Store a b).RangesOk := hk.same rfl
theorem Kept.mscSet {line : Nat} {a : MscLine} (h : Kept m r s) : Kept m r (s.mscSet line a) :=
  Kept.ite (h.same rfl) (Kept.ite (h.same rfl) (h.same rfl))
theorem Kept.mscBring {line : Nat} (h : Kept m r s) : Kept m r (s.mscBring line) := h.mscSet
theorem Kept.fillGroup {c a : Nat} (h : Kept m r s) : Kept m r (s.fillGroup c a) := by
  unfold State.fillGroup
  refine h.ite ?_
  refine h.modCore ?_
  intro _ _ hk
  refine hk.foldl ?_
  intro _ _ hk1
  split
  · exact hk1.ite (hk1.same rfl)
  · exact hk1.same rfl
theorem Core.RangesOk.l1Drop {k : Core} {sec : Nat} (hk : k.RangesOk) : (k.l1Drop sec).RangesOk := hk.same rfl
theorem Kept.free {n : Nat} (h : Kept m r s) : Kept m r { s with free := n } := h.same rfl
theorem KeptIn.l1Make {c : Nat} {secs : List Nat} {n : Nat} (h : Kept m r s) : KeptIn m r id (s.l1Make c secs n) := by
  induction n generalizing s with
  | zero => exact (KeptIn.some h).ite KeptIn.none
  | succ n ih =>
    unfold State.l1Make
    refine (KeptIn.some h).ite ?_
    split
    · exact KeptIn.none
    · exact ih (h.free.modCore fun _ _ hk => hk.same rfl)
theorem Kept.fillSector {c a : Nat} (h : Kept m r s) : Kept m r (s.fillSector c a) := by
  unfold State.fillSector
  refine Kept.mscBring ?_
  split
  · rename_i e
    exact Kept.foldl ((KeptIn.l1Make h).of_eq e) fun _ _ h1 => h1.fillGroup
  · exact h
theorem Kept.putGlobal {a : Nat} {l : List Byte} (h : Kept m r s) : Kept m r (s.putGlobal a l) :=
  h.modCore fun _ _ hk => hk.foldl fun _ _ hk1 => hk1.l1Store
theorem Kept.writeBack {c sec : Nat} {tag : Option (Nat × Nat × Nat)} {drop : Bool} (h : Kept m r s) :
    Kept m r (s.writeBack c sec tag drop) := by
  unfold State.writeBack
  split
  · exact h
  · exact h.modCore fun _ _ hk => hk.same rfl
theorem Kept.performWb {c : Nat} {w : WriteBack} (h : Kept m r s) : Kept m r (s.performWb c w) := by
  unfold State.performWb
  extract_lets _ _ s1 s2
  have hs1 : Kept m r s1 := (h.withMem (fun hm => Mem.wf_puts _ _ (h.memOk hm)) rfl).modCore fun _ _ hk => hk.same rfl
  have hs2 : Kept m r s2 := Kept.ite (hs1.modCore fun _ _ hk => hk.same rfl) hs1
  split
  · exact hs2
  · exact hs2.mscSet
theorem roomFor_runs {secs : List Nat} : Runs m r (roomFor secs : M Unit) := by
  intro s h
  unfold roomFor
  split
  · rename_i e
    exact Stays.ok ((KeptIn.l1Make h).of_eq e)
  · refine Stays.wait ?_
    split
    · exact h.writeBack.same rfl
    · exact h
theorem storeGlobal_runs {a : Nat} {l : List Byte} : Runs m r (storeGlobal a l : M Unit) :=
  Runs.get_bind fun _ _ => waitFor_runs.ite (roomFor_runs.bind fun _ => Runs.modifying fun _ h1 => h1.putGlobal)
theorem Kept.beginRelease {scope : Nat} (h : Kept m r s) : Kept m r (s.beginRelease scope) :=
  h.ite ((h.foldl fun _ _ h1 => h1.writeBack).modMe)
theorem Kept.endRelease (h : Kept m r s) : Kept m r s.endRelease := h.modMe
theorem release_runs {scope : Nat} : Runs m r (release scope : M Unit) := by
  intro s h
  unfold release
  refine Stays.ite (Stays.ok h) ?_
  extract_lets s1
  have hs1 : Kept m r s1 := h.beginRelease
  exact Stays.ite (Stays.ok hs1.endRelease) (Stays.wait hs1)
theorem acquire_runs {scope : Nat} : Runs m r (acquire scope : M Unit) := by
  intro s h
  unfold acquire
  exact Stays.ok h.acquireAt
theorem Kept.tagLines {lines : List Nat} {scope core ctx : Nat} (h : Kept m r s) : Kept m r (s.tagLines lines scope core ctx) :=
  h.foldl fun _ _ h1 => h1.mscSet
theorem outbound_runs {addr : Word} {data lanes : List Word} : Runs m r (outbound addr data lanes : M Bool) := by
  intro s h
  unfold outbound
  exact Stays.ite (Stays.ok h) (Stays.ite (Stays.ok h) (Stays.wait h.modMe))
theorem leaderOnly_runs {d : BitVec 5} {a : M Unit} (ha : Runs m r a) : Runs m r (leaderOnly d a : M Unit) := by
  intro s h
  unfold leaderOnly
  refine Stays.ite ?_ (ha.at h)
  split
  · split
    · exact retG_runs.at h
    · exact Stays.wait h
  · exact Stays.wait h
theorem replyLater_runs {d : BitVec 5} {ask : Nat} : Runs m r (replyLater d ask : M Unit) := by
  intro s h
  unfold replyLater
  exact Stays.ok h.advance.modMe
theorem askFor_runs {w : Wait} {send : State → State} (hsend : ∀ (a : State), Kept m r a → Kept m r (send a)) :
    Runs m r (askFor w send : M Word) := by
  intro s h
  unfold askFor
  split
  · exact Stays.ok h
  · split
    · exact Stays.wait h
    · exact Stays.wait (Kept.modMe (hsend _ h))
theorem Kept.passReply {c j : Nat} {a : Word} (h : Kept m r s) : Kept m r (s.passReply c j a) :=
  h.ite (h.foldl fun _ _ h1 => h1.modSlot)
theorem Kept.share {c j : Nat} {b : Bundle} (h : Kept m r s) : Kept m r (s.share c j b) := h.foldl fun _ _ h1 => h1.modSlot
theorem obtained_runs {x : M (List Word)} (hx : Runs m r x) : Runs m r (obtained x : M (List Word)) := by
  intro s h
  unfold obtained
  refine (hx.at h).ite ?_
  extract_lets _ _
  split
  · exact Stays.ok h
  · refine Stays.ite (Stays.wait h) ?_
    split
    · rename_i e
      exact Stays.ok ((hx.at h).of_ok e).modSlot
    · rename_i e
      exact (hx.at h).of_error e
theorem KeptIn.giveReply {c j : Nat} {task : BitVec 32} {ask : Nat} {v : Word} (h : Kept m r s) :
    KeptIn m r id (s.giveReply c j task ask v) :=
  KeptIn.ite (KeptIn.some h) (KeptIn.none.ite (KeptIn.some (h.foldl fun _ _ h1 => h1.modSlot).passReply))
theorem KeptIn.giveAnswer {c j : Nat} {task : BitVec 32} {ask : Nat} {v : Word} (h : Kept m r s) :
    KeptIn m r id (s.giveAnswer c j task ask v) :=
  KeptIn.ite (KeptIn.some h) (KeptIn.none.ite (KeptIn.some (h.foldl fun _ _ h1 => h1.modSlot)))
theorem readOnce_runs {a : State → Word} : Runs m r (readOnce a : M Word) :=
  Runs.bind (obtained_runs fun _ h => Stays.ok h) fun _ => Runs.pure
theorem retOnce_runs {d : BitVec 5} {a : Word} : Runs m r (retOnce d a : M Unit) := readOnce_runs.bind fun _ => retG_runs

end Sys2Proof.Machine
end

section
/-! Operands: what the operations of Machine/Operands keep. -/

namespace Sys2Proof.Machine

variable {m r : Prop} {s : State}

theorem sample_runs {bank : Nat} : Runs m r (sample bank : M Side) := by
  intro s h
  unfold sample
  refine Stays.trap.ite ?_
  split
  · exact Stays.ok h
  · exact Stays.trap
theorem sampled_runs {bank : Nat} : Runs m r (sampled bank : M Side) := by
  intro s h
  unfold sampled
  split
  · exact Stays.ok h
  · exact Stays.trap
  · exact sample_runs.at h
theorem holdSide_runs : Runs m r (holdSide : M Unit) := by
  intro s h
  unfold holdSide
  split
  · refine Stays.ite (Stays.ok ?_) (Stays.ok h)
    cases s.sampleNow _ with
    | none => exact h.modMe
    | some i => exact h.modMe.modCore fun _ _ hk => hk.setBank
  · exact Stays.ok h
theorem expand_runs {a : Vec} {k bank seg op : Nat} {d : Side} : Runs m r (expand a k bank seg op d : M Vec) := by
  intro s h
  unfold expand
  extract_lets _ _ _ _
  split
  · exact Stays.trap
  · split
    · exact Stays.trap
    · exact Stays.ok h
theorem expandOps_runs {ta tb : Option Nat} {a y : Vec} : Runs m r (expandOps ta tb a y : M (Vec × Vec)) := by
  intro s h
  unfold expandOps
  split
  · exact Stays.ok h
  · rename_i x _ _
    refine Stays.ite (Stays.ok h) ?_
    refine Runs.at ?_ h
    refine sampled_runs.bind ?_
    intro _
    extract_lets _ jp
    have hjp : ∀ (x : Vec), Runs m r (jp x) := by
      intro _
      unfold jp
      extract_lets jp1
      have hjp1 : ∀ (x : Vec), Runs m r (jp1 x) := fun _ => Runs.pure
      exact Runs.ite (expand_runs.bind fun _ => hjp1 _) (Runs.pure.bind fun _ => hjp1 _)
    exact illegalPrefix_runs.ite (Runs.ite (expand_runs.bind fun _ => hjp _) (Runs.pure.bind fun _ => hjp _))

end Sys2Proof.Machine
end

section
/-! Tasks and their slots: what the operations of Machine/Tasks keep. -/

namespace Sys2Proof.Machine

variable {m r : Prop} {s : State}

theorem Kept.sendTides {agent ctx : Nat} {src : BitVec 16} {v : BitVec 48} (h : Kept m r s) : Kept m r (s.sendTides agent ctx src v) :=
  (h.foldl fun _ _ h1 => h1.foldl fun _ _ h2 => h2.post.ite h2).foldl fun _ _ h1 => h1.foldl fun _ _ h2 => h2.post.ite h2
theorem Kept.sendEngineTides {n a : Nat} (h : Kept m r s) : Kept m r (s.sendEngineTides n a) := by
  unfold State.sendEngineTides
  extract_lets _ _ s1
  have hs1 : Kept m r s1 := h.ite (Kept.sendTides (h.modCove fun _ _ hk => hk.same rfl))
  exact hs1.ite (Kept.sendTides (hs1.modCove fun _ _ hk => hk.same rfl))
theorem Kept.raiseTout {c a : Nat} {v : BitVec 48} (h : Kept m r s) : Kept m r (s.raiseTout c a v) := by
  unfold State.raiseTout
  extract_lets _ _ s1
  have hs1 : Kept m r s1 := h.modCore fun _ _ hk => hk.same rfl
  exact h.ite (Kept.sendEngineTides (hs1.ite hs1.sendTides))
theorem Kept.consumeClose {c q : Nat} {t1 : BitVec 48} (h : Kept m r s) : Kept m r (s.consumeClose c q t1) := by
  unfold State.consumeClose
  split
  · exact h
  · rename_i e
    refine h.ite ?_
    extract_lets s1
    have hs1 : Kept m r s1 := h.modCore fun hr _ hk => hk.withQueue rfl (Queue.InRing.same (Core.RangesOk.queue (h.core _ hr) e) rfl)
    split
    · exact hs1
    · exact hs1.raiseTout
theorem KeptSnd.nextTaskId {c : Nat} (h : Kept m r s) : KeptSnd m r (s.nextTaskId c) := by
  refine Kept.setCore h fun hr => ?_
  obtain ⟨hq, hb, hn, hc, hs, h1, h2⟩ := h.core c hr
  refine ⟨hq, hb, hn, hc, hs, ?_⟩
  dsimp only
  split <;> omega
theorem Core.RangesOk.activate {k : Core} {a : Nat} (hk : k.RangesOk) : (k.activate a).RangesOk := by
  unfold Core.activate
  refine hk.ite ?_
  split
  · exact hk.same rfl
  · exact hk
theorem Core.RangesOk.setFootprint {k : Core} {num : Nat} {f : Footprint} (hk : k.RangesOk) : (k.setFootprint num f).RangesOk :=
  hk.same rfl
theorem Kept.addItem {c : Nat} {kind : ItemKind} {st : Start} (h : Kept m r s) : Kept m r (s.addItem c kind st) :=
  h.ite (h.modCore fun _ _ hk => hk.activate.same rfl)
theorem Core.RangesOk.unpinPage {k : Core} {a p : Nat} (hk : k.RangesOk) : (k.unpinPage a p).RangesOk := by
  unfold Core.unpinPage
  split
  · exact hk.unpin
  · exact hk
theorem Core.RangesOk.pinPage {k : Core} {a p : Nat} (hk : k.RangesOk) : (k.pinPage a p).RangesOk := by
  unfold Core.pinPage
  split
  · exact hk.pin
  · exact hk
theorem Core.RangesOk.dropRetained {k : Core} {e : Nat} (hk : k.RangesOk) : (k.dropRetained e).RangesOk := by
  unfold Core.dropRetained
  split
  · exact hk
  · exact Core.RangesOk.foldl (hk.same rfl) fun _ _ hk1 => hk1.unpinPage
theorem Kept.dropItem {c : Nat} {i : Item} (h : Kept m r s) : Kept m r (s.dropItem c i) := by
  unfold State.dropItem
  extract_lets s1
  have h1 : Kept m r s1 := h.modCore fun _ _ hk => hk.same rfl
  exact h1.foldl fun _ _ h => h.modCore fun _ _ hk => Core.RangesOk.retryFills (hk.foldl fun _ _ hk => hk.unpinPage)
theorem Core.RangesOk.headPast {k : Core} {i : Item} (hk : k.RangesOk) : (k.headPast i).RangesOk := by
  unfold Core.headPast
  split
  · split
    · rename_i e
      exact hk.withQueue rfl (hk.queue e).withHead
    · exact hk
  · exact hk
theorem Core.RangesOk.passRetained {k : Core} {x h : Nat} {t : Slot} (hk : k.RangesOk) : (k.passRetained x h t).1.RangesOk := by
  unfold Core.passRetained
  split
  · exact hk.same rfl
  · exact hk
theorem Kept.startHere {c j : Nat} {i : Item} (h : Kept m r s) : Kept m r (s.startHere c j i) := by
  unfold State.startHere
  extract_lets t s1
  have h1 : Kept m r s1 := by
    unfold s1
    split
    · exact h.acquireAt
    · exact h
  exact h1.setCore fun hr => (h1.core c hr).headPast.passRetained.same rfl
theorem Kept.startItem {c j : Nat} {i : Item} (h : Kept m r s) : Kept m r (s.startItem c j i) :=
  Kept.ite (h.startHere.setCore fun hr => (h.startHere.core _ hr).activate.headPast.passRetained.setSlot) h.startHere
theorem Kept.probeNext {c j : Nat} (h : Kept m r s) : Kept m r (s.probeNext c j) := by
  unfold State.probeNext
  split
  · exact h
  · exact h.modSlot.post
theorem Kept.trySteal {c j : Nat} (h : Kept m r s) : Kept m r (s.trySteal c j) := h.ite h.modSlot.probeNext
theorem Kept.wakeThieves {c : Nat} (h : Kept m r s) : Kept m r (s.wakeThieves c) := h.modCore fun _ _ hk => hk.same rfl
theorem Kept.decide' {c : Nat} {l : List Nat} (h : Kept m r s) : Kept m r (s.decide' c l) := by
  induction l generalizing s with
  | nil => exact h
  | cons j l ih =>
    unfold State.decide'
    refine (ih h).ite ?_
    split
    · exact ih h.startItem
    · exact ih h.trySteal
theorem Kept.schedule {c : Nat} (h : Kept m r s) : Kept m r (s.schedule c) := h.decide'.ite h
theorem Kept.scheduleAll {a : Nat} (h : Kept m r s) : Kept m r (s.scheduleAll a) := h.foldl fun _ _ h1 => h1.schedule
theorem Kept.offerItem {c : Nat} {kind : ItemKind} {st : Start} (h : Kept m r s) : Kept m r (s.offerItem c kind st) :=
  h.addItem.wakeThieves.schedule
theorem Kept.startService {c : Nat} (h : Kept m r s) : Kept m r (s.startService c) := by
  unfold State.startService
  split
  · exact h
  · refine h.ite ?_
    extract_lets _ x t put s1
    have hput : ∀ s d t, Kept m r s → Kept m r (put s d t) := fun _ d _ h => h.setCore fun hr => (h.core d hr).passRetained.setSlot
    have h1 : Kept m r s1 := hput _ _ _ (h.modCore fun _ _ hk => hk.same rfl)
    exact Kept.ite (hput _ _ _ (h1.modCore fun _ _ hk => hk.activate)) h1
theorem Kept.freeSlot {c j : Nat} (h : Kept m r s) : Kept m r (s.freeSlot c j) := by
  unfold State.freeSlot
  extract_lets t x s1 s2
  have h2 : Kept m r s2 := by
    refine h.letGo.dropReader.modCore fun _ _ hk => ?_
    extract_lets k1 k2
    have hk2 : k2.RangesOk := (hk.foldl fun _ _ hk => hk.unpinPage).foldl fun _ _ hk => hk.unpinPage
    exact Core.RangesOk.retryFills (hk2.same rfl)
  exact h2.modCove fun _ _ hk => hk.same rfl
theorem Kept.afterFree {c j a : Nat} (h : Kept m r s) : Kept m r (s.afterFree c j a) :=
  h.foldl fun _ _ h1 => h1.startService.ite h1.schedule
theorem Kept.answerMsg {c : Nat} {a : Option (Nat × Nat × BitVec 32 × Nat)} {v : Word} (h : Kept m r s) : Kept m r (s.answerMsg c a v) := by
  unfold State.answerMsg
  split
  · exact h.post
  · exact h
theorem Kept.haltTask {c j : Nat} (h : Kept m r s) : Kept m r (s.haltTask c j) := by
  unfold State.haltTask
  extract_lets _ s1 _ _
  have hs1 : Kept m r s1 := by
    unfold s1
    split
    · exact h.consumeClose
    · exact h
  exact hs1.answerMsg.freeSlot.afterFree
theorem Kept.killTask {c j : Nat} (h : Kept m r s) : Kept m r (s.killTask c j) :=
  h.foldl fun _ _ h1 => h1.answerMsg.freeSlot.afterFree
theorem postRoom_runs : Runs m r (postRoom : M Unit) := by
  intro s h
  unfold postRoom
  exact Stays.ite (Stays.wait h) (Stays.ok h)
theorem joinDone_runs : Runs m r (joinDone : M Unit) := by
  intro s h
  unfold joinDone
  exact Stays.ite (Stays.ok h) (Runs.at (outbound_runs.bind fun _ => release_runs.bind fun _ => postRoom_runs.bind fun _ =>
    Runs.ite (Runs.modifying fun _ h1 => h1.post) Runs.pure) h)

end Sys2Proof.Machine
end

section
/-! Loads, stores and pages: what the operations of Machine/Memory keep. -/

namespace Sys2Proof.Machine

variable {m r : Prop} {s : State}

theorem afterAtomics_runs {glob : Bool} {a n : Nat} : Runs m r (afterAtomics glob a n : M Unit) := by
  intro s h
  unfold afterAtomics
  exact Stays.ite (Stays.wait h) (Stays.ok h)
theorem farAddr_runs {ea : Word} {c la : Nat} : Runs m r (farAddr ea c la : M Nat) := by
  intro s h
  unfold farAddr
  extract_lets _ _ _
  split
  · exact Stays.ite (Stays.wait (h.modCore fun _ _ hk => hk.await)) (Stays.ok (Kept.ite (h.modCore fun _ _ hk => hk.entered) h))
  · exact Stays.wait (h.modCore fun _ _ hk => hk.request.await)
  · exact Stays.trap
  · exact Stays.trap
theorem checkAccess_runs {mode : BitVec 2} {ea : Word} {n : Nat} {k : Acc} : Runs m r (checkAccess mode ea n k : M Place) := by
  unfold checkAccess
  refine misaligned_runs.ite ?_
  refine Runs.ite (localAddr_runs.bind fun _ => Runs.get_bind fun _ _ => stopTrap_runs.ite (afterAtomics_runs.bind fun _ => Runs.pure)) ?_
  refine Runs.ite ?_ (translate_runs.bind fun _ => Runs.get_bind fun _ _ => stopTrap_runs.ite (afterAtomics_runs.bind fun _ => Runs.pure))
  refine coveCheck_runs.bind ?_
  intro _
  split
  exact farAddr_runs.bind fun _ => Runs.get_bind fun _ _ => stopTrap_runs.ite Runs.pure
theorem askPiece_kept {go : Bool} {n : Nat} {acc : State × List (Nat × Nat)} {p : Nat × Place} (hacc : KeptFst m r acc) :
    KeptFst m r (askPiece go n acc p) := by
  unfold askPiece
  split
  · exact KeptFst.mk hacc
  · exact KeptFst.mk (hacc.post.ite hacc)
theorem issueLoad_runs {mode : BitVec 2} {d : Dest} {form : Nat} {ps : List (Nat × Place)} {n : Nat} :
    Runs m r (issueLoad mode d form ps n : M Unit) := by
  intro s h
  unfold issueLoad
  exact Stays.ite (Stays.wait h) (Stays.ok (KeptFst.foldl (KeptFst.mk h) fun _ _ h1 => askPiece_kept h1).modMe)
theorem loadTo_runs {mode : BitVec 2} {d : Dest} {form : Nat} {ps : List (Nat × Place)} {n : Nat} :
    Runs m r (loadTo mode d form ps n : M Unit) := by
  unfold loadTo
  refine Runs.get_bind ?_
  intro _ h
  split
  · exact Runs.set h.modMe
  · exact issueLoad_runs
theorem loadNow_runs {mode : BitVec 2} {ps : List (Nat × Place)} {n : Nat} : Runs m r (loadNow mode ps n : M (List (Nat × List Byte))) := by
  unfold loadNow
  refine Runs.get_bind ?_
  intro _ _
  extract_lets split
  split
  · exact Runs.pure
  · refine Runs.pure.ite ?_
    refine waitFor_runs.ite ?_
    split
    · exact Runs.pure
    · exact issueLoad_runs.bind fun _ => holdSide_runs.bind fun _ => waitFor_runs
theorem storeAt_runs {mode : BitVec 2} {p : Place} {l : List Byte} {go : Bool} : Runs m r (storeAt mode p l go : M Unit) := by
  intro s h
  unfold storeAt
  split
  · exact Stays.ite (Stays.ok h.putBytes) (Stays.ite (storeGlobal_runs.at h) (Stays.ok h))
  · exact Stays.ok (h.post.ite h)
theorem storeTo_runs {mode : BitVec 2} {ea : Word} {l : List Byte} : Runs m r (storeTo mode ea l : M Unit) :=
  checkAccess_runs.bind fun _ => outbound_runs.bind fun _ => storeAt_runs
theorem putBase_runs {post : Bool} {b : BitVec 5} {nb : Word} : Runs m r (putBase post b nb : M Unit) := by
  intro s h
  unfold putBase
  exact Stays.ok (h.wg.ite h)
theorem execLd_ends {o : BitVec 9} {sz : BitVec 3} {msg : BitVec 2} {b d : BitVec 5} (h : Kept m r s) :
    Ends m r (execLd o sz msg b d s) := by
  unfold execLd
  refine runM_ends ?_ h
  refine getG_runs.bind ?_
  intro _
  split
  exact checkAccess_runs.bind fun _ => loadTo_runs.bind fun _ => putBase_runs.bind fun _ => done_runs
theorem execSt_ends {o : BitVec 9} {sz : BitVec 3} {msg : BitVec 2} {b d : BitVec 5} (h : Kept m r s) :
    Ends m r (execSt o sz msg b d s) := by
  unfold execSt
  refine runM_ends ?_ h
  refine getG_runs.bind ?_
  intro _
  refine getG_runs.bind ?_
  intro _
  split
  exact storeTo_runs.bind fun _ => putBase_runs.bind fun _ => done_runs
theorem execVld_ends {o : BitVec 9} {sz : BitVec 3} {msg : BitVec 2} {b d : BitVec 5} (h : Kept m r s) :
    Ends m r (execVld o sz msg b d s) := by
  unfold execVld
  refine runM_ends ?_ h
  refine getG_runs.bind ?_
  intro _
  split
  rename_i x _ _ _
  refine checkAccess_runs.bind ?_
  intro _
  split
  refine Runs.get_bind ?_
  intro _ _
  extract_lets jp
  have hjp : ∀ (x : Unit), Runs m r (jp x) := fun _ => putBase_runs.bind fun _ => done_runs
  refine Runs.ite ?_ (loadTo_runs.bind fun _ => hjp ())
  refine loadNow_runs.bind ?_
  intro _
  refine expandOps_runs.bind ?_
  intro _
  split
  exact Runs.bind (Runs.modifying fun _ h2 => h2.dropReader.wv) fun _ => hjp ()
theorem execVst_ends {o : BitVec 9} {sz : BitVec 3} {msg : BitVec 2} {b d : BitVec 5} (h : Kept m r s) :
    Ends m r (execVst o sz msg b d s) := by
  unfold execVst
  refine runM_ends ?_ h
  refine getG_runs.bind ?_
  intro _
  refine Runs.get_bind ?_
  intro _ _
  split
  exact storeTo_runs.bind fun _ => putBase_runs.bind fun _ => done_runs
theorem checkLanes_runs {mode : BitVec 2} {n : Nat} {k : Acc} {l : List (Nat × Word)} :
    Runs m r (checkLanes mode n k l : M (List (Nat × Place))) := by
  induction l with
  | nil => exact Runs.pure
  | cons p l ih => exact checkAccess_runs.bind fun _ => ih.bind fun _ => Runs.pure
theorem execVgather_ends {g : BitVec 3} {sz msg : BitVec 2} {a : BitVec 1} {b c d : BitVec 5} (h : Kept m r s) :
    Ends m r (execVgather g sz msg a b c d s) := by
  unfold execVgather
  refine runM_ends ?_ h
  extract_lets _ jp
  have hjp : ∀ (x : Unit), Runs m r (jp x) := fun _ => done_runs
  refine getG_runs.bind ?_
  intro _
  refine Runs.get_bind ?_
  intro _ _
  refine checkLanes_runs.bind ?_
  intro _
  refine Runs.ite ?_ (Runs.ite (hjp ()) (loadTo_runs.bind fun _ => hjp ()))
  refine loadNow_runs.bind ?_
  intro _
  refine Runs.get_bind ?_
  intro _ _
  refine expandOps_runs.bind ?_
  intro _
  split
  exact Runs.bind (Runs.modifying fun _ h3 => h3.dropReader.wv) fun _ => hjp ()
theorem sendScatter_kept {l : List (Place × List Byte)} (h : Kept m r s) : Kept m r (sendScatter l s) :=
  h.foldl fun _ _ h1 => h1.post
theorem Kept.storeLane {mode : BitVec 2} {go : Bool} {q : Place × List Byte} (h : Kept m r s) : Kept m r (State.storeLane mode go s q) := by
  unfold State.storeLane
  split
  · exact h.putBytes.ite (h.putGlobal.ite h)
  · exact h
theorem storeLanes_runs {mode : BitVec 2} {go : Bool} {l : List (Place × List Byte)} : Runs m r (storeLanes mode go l : M Unit) := by
  unfold storeLanes
  extract_lets jp
  have hjp : ∀ (x : Unit), Runs m r (jp x) := fun _ => Runs.modifying fun _ h => h.foldl fun _ _ h1 => h1.storeLane
  exact Runs.ite (roomFor_runs.bind fun _ => hjp ()) (hjp ())
theorem execVscatter_ends {g : BitVec 3} {sz msg : BitVec 2} {a : BitVec 1} {b c d : BitVec 5} (h : Kept m r s) :
    Ends m r (execVscatter g sz msg a b c d s) := by
  unfold execVscatter
  refine runM_ends ?_ h
  extract_lets _ jp
  have hjp : ∀ (x : Unit), Runs m r (jp x) := fun _ => done_runs
  exact getG_runs.bind fun _ => Runs.get_bind fun _ _ => checkLanes_runs.bind fun _ => outbound_runs.bind fun _ =>
    Runs.get_bind fun _ _ => Runs.ite (Runs.bind (Runs.ite (Runs.modifying fun _ h3 => sendScatter_kept h3) Runs.pure) fun _ => hjp ())
    (Runs.ite (waitFor_runs.bind fun _ => hjp ()) (storeLanes_runs.bind fun _ => hjp ()))
theorem Kept.hintAt {c : Nat} {fill : Bool} {a : Nat} (h : Kept m r s) : Kept m r (s.hintAt c fill a) :=
  h.ite (h.fillSector.ite h.mscBring)
theorem Kept.askHint {va : Nat} {fill : Bool} (h : Kept m r s) : Kept m r (s.askHint va fill) := by
  unfold State.askHint
  refine h.enterWalk.ite ?_
  split
  · exact h.ite h.modMe
  · exact h.modMe
theorem Kept.hint {ea : Word} {fill : Bool} (h : Kept m r s) : Kept m r (s.hint ea fill) := by
  unfold State.hint
  refine h.modMe.ite ?_
  split
  · exact h.hintAt.ite h.modMe
  · exact h.askHint
theorem Kept.endHints {l : List Hint} {rc : Option TlbEntry} (h : Kept m r s) : Kept m r (s.endHints l rc) := by
  unfold State.endHints
  refine h.foldl ?_
  intro _ _ h1
  split
  · exact h1.hintAt.ite h1.modSlot
  · exact h1.modSlot
theorem execPref_ends {o : BitVec 9} {msg : BitVec 2} {b : BitVec 5} (h : Kept m r s) : Ends m r (execPref o msg b s) := by
  unfold execPref
  refine Ends.ite ?_ (Ends.next h.hint.advance)
  split
  · exact Ends.next h.modMe.advance
  · exact Ends.next (Kept.advance (h.modCore fun _ _ hk => hk.request))
  · exact Ends.next h.advance
theorem execPrefh_ends {o : BitVec 9} {b : BitVec 5} (h : Kept m r s) : Ends m r (execPrefh o b s) := Ends.next h.hint.advance
theorem Kept.cleanAt {sec : Nat} {drop : Bool} (h : Kept m r s) : Kept m r (s.cleanAt sec drop) :=
  Kept.ite (h.writeBack.modCore fun _ _ hk => hk.same rfl) h.writeBack
theorem cleanSector_runs {ea : Word} {drop : Bool} : Runs m r (cleanSector ea drop : M Unit) :=
  translateTo_runs.bind fun _ => Runs.bind (Runs.modifying fun _ h => h.cleanAt) fun _ => done_runs
theorem execClean_ends {o : BitVec 9} {b : BitVec 5} (h : Kept m r s) : Ends m r (execClean o b s) :=
  runM_ends (getG_runs.bind fun _ => cleanSector_runs) h
theorem execInv_ends {o : BitVec 9} {b : BitVec 5} (h : Kept m r s) : Ends m r (execInv o b s) :=
  runM_ends (getG_runs.bind fun _ => cleanSector_runs) h
theorem Kept.sendScopeMiss {core ctx scope pa : Nat} (h : Kept m r s) : Kept m r (s.sendScopeMiss core ctx scope pa) := h.post
theorem Kept.tagCheck {a pa scope : Nat} (h : Kept m r s) : Kept m r (s.tagCheck a pa scope) := by
  unfold State.tagCheck
  split
  · exact h
  · split
    · exact h
    · extract_lets unord _
      have hunord : ∀ (s : State), Kept m r s → Kept m r (unord s) := fun _ h1 => h1.foldl fun _ _ h2 => h2.modSlot
      exact Kept.ite (Kept.ite (hunord _ h) (Kept.sendScopeMiss (hunord _ (h.same rfl)))) (Kept.ite (hunord _ h) h)
theorem execLda_ends {o : BitVec 6} {sc : BitVec 3} {z msg : BitVec 2} {b d : BitVec 5} (h : Kept m r s) :
    Ends m r (execLda o sc z msg b d s) := by
  unfold execLda
  refine runM_ends ?_ h
  refine getG_runs.bind ?_
  intro _
  refine checkAccess_runs.bind ?_
  intro _
  refine Runs.bind ?_ fun _ => acquire_runs.bind fun _ => retG_runs
  split
  · rename_i x _
    refine Runs.ite ?_ (loadNow_runs.bind fun _ => Runs.pure)
    refine translateTo_runs.bind ?_
    intro _
    refine Runs.get_bind ?_
    intro _ _
    extract_lets jp jp1 jp12
    have hjp : ∀ (x : Unit), Runs m r (jp x) := fun _ => Runs.bind (obtained_runs (Runs.get_bind fun _ h2 =>
      Runs.bind (Runs.set h2.tagCheck) fun _ => Runs.pure)) fun _ => Runs.pure
    have hjp1 : ∀ (x : Unit), Runs m r (jp1 x) := fun _ => Runs.ite (waitFor_runs.bind fun _ => hjp ()) (hjp ())
    have hjp12 : ∀ (x : Unit), Runs m r (jp12 x) := fun _ => Runs.ite (waitFor_runs.bind fun _ => hjp1 ()) (hjp1 ())
    exact Runs.ite (stopTrap_runs.bind fun _ => hjp12 ()) (hjp12 ())
  · exact loadNow_runs.bind fun _ => Runs.pure
theorem Kept.writeThrough {a : Nat} {l : List Byte} {tag : Option (Nat × Nat × Nat)} (h : Kept m r s) :
    Kept m r (s.writeThrough a l tag) := by
  unfold State.writeThrough
  extract_lets s1 s2
  have h2 : Kept m r s2 := h.putBytes.modCore fun _ _ hk => hk.same rfl
  exact h2.mscSet
theorem execStrel_ends {o : BitVec 6} {sc : BitVec 3} {z msg : BitVec 2} {b d : BitVec 5} (h : Kept m r s) :
    Ends m r (execStrel o sc z msg b d s) := by
  unfold execStrel
  refine runM_ends ?_ h
  refine getG_runs.bind ?_
  intro _
  refine getG_runs.bind ?_
  intro _
  refine checkAccess_runs.bind ?_
  intro _
  refine outbound_runs.bind ?_
  intro _
  refine release_runs.bind ?_
  intro _
  refine Runs.get_bind ?_
  intro _ h1
  refine Runs.bind ?_ fun _ => done_runs
  split
  · exact Runs.ite (waitFor_runs.ite (waitFor_runs.ite (Runs.ite (Runs.set h1.writeThrough) Runs.pure))) storeAt_runs
  · exact storeAt_runs
theorem execFence_ends {rc a : BitVec 1} {sc : BitVec 3} (h : Kept m r s) : Ends m r (execFence rc a sc s) := by
  unfold execFence
  refine runM_ends ?_ h
  extract_lets jp jp1
  have hjp : ∀ (x : Unit), Runs m r (jp x) := fun _ => done_runs
  have hjp1 : ∀ (x : Unit), Runs m r (jp1 x) := fun _ => Runs.ite (Runs.get_bind fun _ _ => Runs.ite (acquire_runs.bind fun _ =>
    hjp ()) (waitFor_runs.bind fun _ => hjp ())) (hjp ())
  exact Runs.ite (release_runs.bind fun _ => hjp1 ()) (hjp1 ())

end Sys2Proof.Machine
end

section
/-! Atomics: what the operations of Machine/Atomics keep. -/

namespace Sys2Proof.Machine

variable {m r : Prop} {s : State}

theorem atomicAddr_runs {msg : BitVec 2} {a : Word} {n al : Nat} : Runs m r (atomicAddr msg a n al : M AtomicAt) := by
  unfold atomicAddr
  refine misaligned_runs.ite ?_
  refine Runs.ite ?_ ?_
  · refine ownerCheck_runs.bind ?_
    intro _
    split
    exact Runs.pure
  · refine Runs.ite ?_ ?_
    · refine coveCheck_runs.bind ?_
      intro _
      split
      exact Runs.pure
    · refine translate_runs.bind ?_
      intro _
      refine Runs.get_bind ?_
      intro _ h
      extract_lets _ _ _ s1 _
      have hs1 : Kept m r s1 := h.withMem (fun hm => Mem.wf_puts _ _ (h.memOk hm)) rfl
      exact waitFor_runs.ite (Runs.bind (Runs.set ((hs1.ite hs1.mscSet).modCore fun _ _ hk => hk.same rfl)) fun _ => Runs.pure)
theorem sendAtomic_runs {op width : Nat} {at_ : AtomicAt} {addr operand compare : Word} {vec : Vec} {d : BitVec 5} :
    Runs m r (sendAtomic op width at_ addr operand compare vec d : M Unit) := by
  unfold sendAtomic
  refine outbound_runs.bind ?_
  intro _
  extract_lets jp
  have hjp : ∀ (x : Unit), Runs m r (jp x) := by
    intro x
    unfold jp
    refine Runs.get_bind ?_
    intro _ h
    extract_lets _ jp1
    have hjp1 : ∀ (x : Unit), Runs m r (jp1 x) := fun _ => done_runs.ite replyLater_runs
    exact Runs.ite (Runs.bind (Runs.set h.post) fun _ => hjp1 ()) (hjp1 ())
  exact Runs.ite (postRoom_runs.bind fun _ => hjp ()) (hjp ())
theorem amoValue_runs {op : Nat} {msg w : BitVec 2} {b a d : BitVec 5} : Runs m r (amoValue op msg w b a d : M Unit) :=
  getG_runs.bind fun _ => getG_runs.bind fun _ => getG_runs.bind fun _ => atomicAddr_runs.bind fun _ => sendAtomic_runs
theorem execAmoSwap_ends {msg w : BitVec 2} {b a d : BitVec 5} (h : Kept m r s) : Ends m r (execAmoSwap msg w b a d s) :=
  runM_ends amoValue_runs h
theorem execAmoCas_ends {msg w : BitVec 2} {b a d : BitVec 5} (h : Kept m r s) : Ends m r (execAmoCas msg w b a d s) :=
  runM_ends amoValue_runs h
theorem execAmoAdd_ends {msg w : BitVec 2} {b a d : BitVec 5} (h : Kept m r s) : Ends m r (execAmoAdd msg w b a d s) :=
  runM_ends amoValue_runs h
theorem execAmoAnd_ends {msg w : BitVec 2} {b a d : BitVec 5} (h : Kept m r s) : Ends m r (execAmoAnd msg w b a d s) :=
  runM_ends amoValue_runs h
theorem execAmoOr_ends {msg w : BitVec 2} {b a d : BitVec 5} (h : Kept m r s) : Ends m r (execAmoOr msg w b a d s) :=
  runM_ends amoValue_runs h
theorem execAmoXor_ends {msg w : BitVec 2} {b a d : BitVec 5} (h : Kept m r s) : Ends m r (execAmoXor msg w b a d s) :=
  runM_ends amoValue_runs h
theorem execAmoMinS_ends {msg w : BitVec 2} {b a d : BitVec 5} (h : Kept m r s) : Ends m r (execAmoMinS msg w b a d s) :=
  runM_ends amoValue_runs h
theorem execAmoMaxS_ends {msg w : BitVec 2} {b a d : BitVec 5} (h : Kept m r s) : Ends m r (execAmoMaxS msg w b a d s) :=
  runM_ends amoValue_runs h
theorem execAmoMinZ_ends {msg w : BitVec 2} {b a d : BitVec 5} (h : Kept m r s) : Ends m r (execAmoMinZ msg w b a d s) :=
  runM_ends amoValue_runs h
theorem execAmoMaxZ_ends {msg w : BitVec 2} {b a d : BitVec 5} (h : Kept m r s) : Ends m r (execAmoMaxZ msg w b a d s) :=
  runM_ends amoValue_runs h
theorem execAmoFadd_ends {msg w : BitVec 2} {b a d : BitVec 5} (h : Kept m r s) : Ends m r (execAmoFadd msg w b a d s) :=
  runM_ends amoValue_runs h
theorem execAmoFmin_ends {msg w : BitVec 2} {b a d : BitVec 5} (h : Kept m r s) : Ends m r (execAmoFmin msg w b a d s) :=
  runM_ends amoValue_runs h
theorem execAmoFmax_ends {msg w : BitVec 2} {b a d : BitVec 5} (h : Kept m r s) : Ends m r (execAmoFmax msg w b a d s) :=
  runM_ends amoValue_runs h
theorem execAmoXadd_ends {msg w : BitVec 2} {b a d : BitVec 5} (h : Kept m r s) : Ends m r (execAmoXadd msg w b a d s) :=
  runM_ends (getG_runs.bind fun _ => getG_runs.bind fun _ => atomicAddr_runs.bind fun _ => sendAtomic_runs) h
theorem execAmoXaddv_ends {w : BitVec 2} {b a d : BitVec 5} (h : Kept m r s) : Ends m r (execAmoXaddv w b a d s) :=
  runM_ends (getG_runs.bind fun _ => Runs.get_bind fun _ _ => atomicAddr_runs.bind fun _ => sendAtomic_runs) h
theorem execAmoDep_ends {b a d : BitVec 5} (h : Kept m r s) : Ends m r (execAmoDep b a d s) :=
  runM_ends (getG_runs.bind fun _ => getG_runs.bind fun _ => Runs.get_bind fun _ _ => bounds_runs.ite sendAtomic_runs) h
theorem execAmoFlags_ends {msg : BitVec 2} {a d : BitVec 5} (h : Kept m r s) : Ends m r (execAmoFlags msg a d s) :=
  runM_ends (getG_runs.bind fun _ => Runs.get_bind fun _ _ => Runs.ite (bounds_runs.ite sendAtomic_runs)
    (bounds_runs.ite sendAtomic_runs)) h

end Sys2Proof.Machine
end

section
/-! Codebook banks: what the operations of Machine/Codebook keep. -/

namespace Sys2Proof.Machine

variable {m r : Prop} {s : State}

theorem Kept.claimBank {c b a : Nat} (h : Kept m r s) : Kept m r (s.claimBank c b a) := by
  unfold State.claimBank
  refine h.ite ?_
  refine h.modCore ?_
  intro _ _ hk
  extract_lets _ _
  split
  · exact hk.same rfl
  · exact hk.ite hk.setBank
  · exact hk.ite hk.setBank
theorem Kept.ownBank {c b a : Nat} (h : Kept m r s) : Kept m r (s.ownBank c b a) := h.claimBank.modCore fun _ _ hk => hk.firm
theorem sourcePages_runs {src len : Nat} : Runs m r (sourcePages src len : M (List (Nat × TlbEntry) × Bool)) :=
  Runs.bind (Runs.mapM fun _ => translateTo_runs.bind fun _ => Runs.pure) fun _ => Runs.pure
theorem localSource_runs {src len : Nat} : Runs m r (localSource src len : M Unit) :=
  Runs.forM fun _ => localAddr_runs.bind fun _ => Runs.pure
theorem sourceCheck_runs {mode src len : Nat} : Runs m r (sourceCheck mode src len : M (List (Nat × TlbEntry) × Bool)) :=
  Runs.ite (localSource_runs.bind fun _ => Runs.pure) (Runs.ite (Runs.bind (Runs.mapM fun _ => coveCheck_runs) fun _ =>
    Runs.pure) sourcePages_runs)
theorem KeptFst.beginLoad {c : Nat} {rc : CbReq} {slot job : Option Nat} {pages : List (Nat × TlbEntry)} {clean : Bool} (h : Kept m r s) :
    KeptFst m r (s.beginLoad c rc slot job pages clean) := by
  unfold State.beginLoad
  extract_lets k _ _ k1 _ _ _ _ _ _
  have hk : r → k.RangesOk := fun hr => h.core _ hr
  have hk1 : r → k1.RangesOk := fun hr => Core.RangesOk.setBank (hk hr)
  exact KeptFst.ite (KeptFst.mk (h.setCore fun hr => hk1 hr)) (KeptFst.mk (h.setCore fun hr => Core.RangesOk.setBank (hk1 hr)))
theorem cbStart_runs {rc : CbReq} : Runs m r (cbStart rc : M (Option Word)) := by
  unfold cbStart
  refine Runs.get_bind ?_
  intro _ _
  extract_lets jp
  have hjp : ∀ (x : Unit), Runs m r (jp x) := by
    intro _
    unfold jp
    refine Runs.bind (Runs.modifying fun _ h1 => h1.claimBank) ?_
    intro _
    refine Runs.get_bind ?_
    intro _ _
    refine waitFor_runs.ite ?_
    refine waitFor_runs.ite ?_
    refine sourceCheck_runs.bind ?_
    intro _
    split
    refine Runs.get_bind ?_
    intro _ h2
    split
    rename_i e
    exact Runs.bind (Runs.set (Kept.modCore (KeptFst.of_eq (KeptFst.beginLoad h2) e) fun _ _ hk => hk.firm)) fun _ => Runs.pure
  exact Runs.ite (sourceCheck_runs.bind fun _ => Runs.bind (Runs.modifying fun _ h1 => h1.modMe) fun _ => hjp ())
    (Runs.bind (Runs.modifying fun _ h1 => h1.modMe) fun _ => hjp ())
theorem bankArg_runs {k : BitVec 3} : Runs m r (bankArg k : M Unit) := by
  intro s h
  unfold bankArg
  exact Stays.ite (Stays.ok h) Stays.trap
theorem loadArgs_runs {msg : BitVec 2} {k : BitVec 3} {b a : BitVec 5} : Runs m r (loadArgs msg k b a : M CbReq) :=
  getG_runs.bind fun _ => getG_runs.bind fun _ => illegal_runs.ite (misaligned_runs.ite Runs.pure)
theorem execCbld_ends {msg : BitVec 2} {k : BitVec 3} {b a d : BitVec 5} (h : Kept m r s) : Ends m r (execCbld msg k b a d s) := by
  unfold execCbld
  refine runM_ends ?_ h
  refine Runs.get_bind ?_
  intro _ _
  refine illegal_runs.ite ?_
  refine bankArg_runs.bind ?_
  intro _
  refine loadArgs_runs.bind ?_
  intro _
  refine cbStart_runs.bind ?_
  intro _
  split
  · exact retG_runs
  · exact replyLater_runs
theorem myBank_runs {k : BitVec 3} : Runs m r (myBank k : M Bank) := by
  intro s h
  unfold myBank
  exact Stays.ite (Stays.ok h) Stays.trap
theorem setBank_runs {k : BitVec 3} {b : Bank} : Runs m r (setBank k b : M Unit) :=
  Runs.modifying fun _ h => h.modCore fun _ _ hk => hk.setBank
theorem execCbswap_ends {k : BitVec 3} {d : BitVec 5} (h : Kept m r s) : Ends m r (execCbswap k d s) :=
  runM_ends (Runs.get_bind fun _ _ => illegal_runs.ite (bankArg_runs.bind fun _ => myBank_runs.bind fun _ => waitFor_runs.ite
    (setBank_runs.bind fun _ => retG_runs))) h
theorem execCbinv_ends {k : BitVec 3} (h : Kept m r s) : Ends m r (execCbinv k s) :=
  runM_ends (Runs.get_bind fun _ _ => illegal_runs.ite (bankArg_runs.bind fun _ => myBank_runs.bind fun _ => waitFor_runs.ite
    (setBank_runs.bind fun _ => done_runs))) h
theorem execCbrd_ends {k : BitVec 3} {b d : BitVec 5} (h : Kept m r s) : Ends m r (execCbrd k b d s) :=
  runM_ends (getG_runs.bind fun _ => bankArg_runs.bind fun _ => sample_runs.bind fun _ => Runs.get_bind fun _ _ => stopTrap_runs.ite
    (stopTrap_runs.ite (Runs.bind (Runs.modifying fun _ h2 => h2.wv) fun _ => done_runs))) h
theorem execCbstat_ends {k : BitVec 3} {d : BitVec 5} (h : Kept m r s) : Ends m r (execCbstat k d s) :=
  runM_ends (bankArg_runs.bind fun _ => Runs.get_bind fun _ _ => retG_runs.ite retG_runs) h
theorem KeptFst.sampleFor {c b a : Nat} (h : Kept m r s) : KeptFst m r (s.sampleFor c b a) := by
  unfold State.sampleFor
  refine KeptFst.ite (KeptFst.mk h) ?_
  split
  · exact KeptFst.mk h
  · exact KeptFst.mk (h.modCore fun _ _ hk => hk.setBank)
theorem Kept.readerDone {c b side : Nat} (h : Kept m r s) : Kept m r (s.readerDone c b side) := h.modCore fun _ _ hk => hk.setBank

end Sys2Proof.Machine
end

section
/-! Queues: what the operations of Machine/Queue keep. -/

namespace Sys2Proof.Machine

variable {m r : Prop} {s : State}

theorem myQueue_runs {q : BitVec 4} {ok : Queue → Bool} : Runs m r (myQueue q ok : M Queue) := by
  intro s h
  unfold myQueue
  split
  · exact Stays.ite (Stays.ok h) Stays.trap
  · exact Stays.trap
theorem myQueue_inRing {q : BitVec 4} {ok : Queue → Bool} {t : State} {u : Queue} (h : Kept m r s) (e : myQueue q ok s = .ok (u, t)) :
    r → u.InRing := fun hr => by
  unfold myQueue at e
  split at e
  · rename_i e'
    split at e
    · cases e; exact (h.core _ hr).queue e'
    · cases e
  · cases e
theorem takeLeader_runs {d : BitVec 5} {evs : Bool} : Runs m r (takeLeader d evs : M Unit) := by
  intro s h
  unfold takeLeader
  split
  · split
    · exact retG_runs.at (h.modMe.ite h)
    · exact Stays.wait h
  · exact Stays.wait h
theorem readHead_runs {d : BitVec 5} {l : List Word} : Runs m r (readHead d l : M Unit) := by
  intro s h
  unfold readHead
  exact retG_runs.at h.modMe
theorem execRecv_ends {q : BitVec 4} {d : BitVec 5} (h : Kept m r s) : Ends m r (execRecv q d s) :=
  Ends.ite (runM_ends takeLeader_runs h) (runM_ends (Runs.get_bind fun _ _ => illegal_runs.ite (myQueue_runs.bind fun _ =>
    Runs.bind (obtained_runs fun _ h2 => Stays.ite (Stays.wait h2) (Stays.ok h2)) fun _ => readHead_runs)) h)
theorem execRpeek_ends {q : BitVec 4} {d : BitVec 5} (h : Kept m r s) : Ends m r (execRpeek q d s) :=
  Ends.ite (runM_ends takeLeader_runs h) (runM_ends (myQueue_runs.bind fun _ => Runs.bind (obtained_runs fun _ h1 =>
    Stays.ok h1) fun _ => retG_runs.ite readHead_runs) h)
theorem execRack_ends {q : BitVec 4} (h : Kept m r s) : Ends m r (execRack q s) := by
  unfold execRack
  refine Ends.ite (Ends.next h.advance) (runM_ends (fun s h => ?_) h)
  rw [M.bind_run]
  split
  · rename_i u t e
    have ht : Kept m r t := (myQueue_runs.at h).of_ok e
    refine Runs.at (Runs.get_bind fun t ht => Runs.ite done_runs ?_) ht
    have hs : Kept m r (t.modCore t.myCore fun k =>
        { k with queues := k.queues.set q.toNat { u with head := (u.head + (t.ringRec t.myCore u u.head).2) % 2 ^ (u.size + 1) } }) :=
      ht.modCore fun hr _ hk => hk.withQueue rfl (myQueue_inRing h e hr).withHead
    exact Runs.bind (Runs.set (hs.consumeClose.ite hs)) fun _ => done_runs
  · rename_i e
    exact (myQueue_runs.at h).of_error e
theorem execQstat_ends {q : BitVec 4} {sl d : BitVec 5} (h : Kept m r s) : Ends m r (execQstat q sl d s) :=
  Ends.ite (runM_ends takeLeader_runs h) (runM_ends (myQueue_runs.bind fun _ => retOnce_runs) h)
theorem emitTarget_runs {a : Word} : Runs m r (emitTarget a : M Target) := by
  intro s h
  unfold emitTarget
  exact Stays.trap.ite (Stays.ite (Stays.ok h) (Stays.trap.ite (Stays.ite (Stays.ok h) (Stays.ok h))))
theorem emit_runs {a : Word} {payload : Nat} {ext : List (BitVec 128)} {d : BitVec 5} : Runs m r (emit a payload ext d : M Unit) := by
  unfold emit
  refine emitTarget_runs.bind ?_
  intro _
  refine Runs.get_bind ?_
  intro _ _
  refine outbound_runs.bind ?_
  intro _
  refine Runs.get_bind ?_
  intro _ h1
  extract_lets _ _ jp
  have hjp : ∀ (x : Unit), Runs m r (jp x) := fun _ => replyLater_runs.bind fun _ => Runs.modifying fun _ h2 => h2.modMe
  exact Runs.ite (Runs.bind (Runs.set h1.post) fun _ => hjp ()) (hjp ())
theorem execEmit_ends {b a d : BitVec 5} (h : Kept m r s) : Ends m r (execEmit b a d s) :=
  runM_ends (getG_runs.bind fun _ => getG_runs.bind fun _ => emit_runs) h
theorem execEmitl_ends {b a d : BitVec 5} (h : Kept m r s) : Ends m r (execEmitl b a d s) :=
  runM_ends (getG_runs.bind fun _ => Runs.get_bind fun _ _ => emit_runs) h
theorem execTide_ends {a : BitVec 5} (h : Kept m r s) : Ends m r (execTide a s) :=
  Ends.ite (Ends.next h.advance) (runM_ends (getG_runs.bind fun _ => outbound_runs.bind fun _ => Runs.bind (Runs.modifying fun _ h1 =>
    h1.raiseTout) fun _ => done_runs) h)
theorem tsValue_runs {sl : Nat} {a : Word} : Runs m r (tsValue sl a : M Word) :=
  Runs.get_bind fun _ _ => Runs.pure.ite (illegal_runs.ite (myQueue_runs.bind fun _ => Runs.ite (illegal_runs.ite Runs.pure)
    (Runs.pure.ite Runs.pure)))
theorem execTsread_ends {sl a d : BitVec 5} (h : Kept m r s) : Ends m r (execTsread sl a d s) :=
  runM_ends (getG_runs.bind fun _ => tsValue_runs.bind fun _ => retOnce_runs) h
theorem execTsinh_ends {a d : BitVec 5} (h : Kept m r s) : Ends m r (execTsinh a d s) := Ends.next h.wg.modMe.advance

end Sys2Proof.Machine
end

section
/-! Tiles: what the operations of Machine/TileOps keep. -/

namespace Sys2Proof.Machine

variable {m r : Prop} {s : State}

theorem Kept.putTile {cove : Nat} {t : Tile} {i : Nat} {l : List Byte} (h : Kept m r s) : Kept m r (s.putTile cove t i l) :=
  h.withMem (fun hm => Mem.wf_puts _ _ (h.memOk hm)) rfl
theorem myStream_runs {n : BitVec 3} : Runs m r (myStream n : M TileStream) := by
  intro s h
  unfold myStream
  split
  · exact Stays.ite (Stays.ok h) Stays.trap
  · exact Stays.trap
theorem handleArg_runs {a : BitVec 5} : Runs m r (handleArg a : M Nat) := by
  intro s h
  unfold handleArg
  exact Stays.trap.ite (Stays.ok h)
theorem execTflush_ends {n : BitVec 3} {d : BitVec 5} (h : Kept m r s) : Ends m r (execTflush n d s) := by
  unfold execTflush
  refine runM_ends ?_ h
  refine leaderOnly_runs ?_
  refine Runs.get_bind ?_
  intro _ _
  refine illegal_runs.ite ?_
  refine myStream_runs.bind ?_
  intro _
  refine outbound_runs.bind ?_
  intro _
  refine Runs.get_bind ?_
  intro _ h2
  extract_lets jp
  have hjp : ∀ (x : Unit), Runs m r (jp x) := fun _ => replyLater_runs
  exact Runs.ite (Runs.bind (Runs.set h2.post) fun _ => hjp ()) (hjp ())
theorem Kept.claimTile {t : Tile} (h : Kept m r s) : Kept m r (s.claimTile t) := h.modCove fun _ _ hk => hk.same rfl
theorem execTget_ends {b a d : BitVec 5} (h : Kept m r s) : Ends m r (execTget b a d s) := by
  unfold execTget
  refine runM_ends ?_ h
  refine leaderOnly_runs ?_
  refine handleArg_runs.bind ?_
  intro _
  refine getG_runs.bind ?_
  intro _
  refine misaligned_runs.ite ?_
  refine outbound_runs.bind ?_
  intro _
  refine Runs.get_bind ?_
  intro _ _
  extract_lets jp
  have hjp : ∀ (x : Unit), Runs m r (jp x) := by
    intro _
    unfold jp
    refine Runs.bind ?_ ?_
    · refine obtained_runs ?_
      refine Runs.get_bind ?_
      intro _ h2
      split
      · exact Runs.bind (Runs.set h2.claimTile) fun _ => Runs.pure
      · exact Runs.pure
    · intro _
      split
      · exact localRange_runs.bind fun _ => Runs.get_bind fun _ _ => replyLater_runs.bind fun _ => Runs.modifying fun _ h3 => h3.modMe
      · exact retG_runs
      · exact retG_runs
  split
  · exact Runs.ite (localRange_runs.bind fun _ => hjp ()) (hjp ())
  · exact hjp ()
theorem execTrel_ends {a d : BitVec 5} (h : Kept m r s) : Ends m r (execTrel a d s) := by
  unfold execTrel
  refine runM_ends ?_ h
  refine leaderOnly_runs ?_
  refine handleArg_runs.bind ?_
  intro _
  refine outbound_runs.bind ?_
  intro _
  refine Runs.bind ?_ fun _ => retG_runs
  refine obtained_runs ?_
  refine Runs.get_bind ?_
  intro _ h1
  split
  rename_i x _ _ _
  extract_lets jp
  have hjp : ∀ (x : Unit), Runs m r (jp x) := fun _ => Runs.pure
  split
  · exact Runs.bind (Runs.set (h1.modCove fun _ _ hk => hk.same rfl)) fun _ => hjp ()
  · exact hjp ()
theorem execTstat_ends {n : BitVec 3} {sl d : BitVec 5} (h : Kept m r s) : Ends m r (execTstat n sl d s) :=
  runM_ends (leaderOnly_runs (myStream_runs.bind fun _ => Runs.get_bind fun _ _ => retOnce_runs)) h
theorem execTstatHandle_ends {a d : BitVec 5} (h : Kept m r s) : Ends m r (execTstatHandle a d s) :=
  runM_ends (leaderOnly_runs (handleArg_runs.bind fun _ => Runs.get_bind fun _ _ => retOnce_runs)) h

end Sys2Proof.Machine
end

section
/-! Jobs of the matrix engine: what the operations of Machine/Job keep. -/

namespace Sys2Proof.Machine

variable {m r : Prop} {s : State}

theorem Kept.setJob {v : Nat} {j : Job} (h : Kept m r s) : Kept m r (s.setJob v j) := h.modCove fun _ _ hk => hk.same rfl
theorem Kept.dropCore {v : Nat} {t : TlbEntry} (h : Kept m r s) : Kept m r (s.dropCore v t) :=
  h.foldl fun _ _ h1 => h1.modCore fun _ _ hk => hk.same rfl
theorem Kept.fillTlb {v : Nat} {t : TlbEntry} {cores : List Nat} (h : Kept m r s) : Kept m r (s.fillTlb v t cores) := by
  unfold State.fillTlb
  refine Kept.same ?_ rfl
  refine Kept.foldl ?_ fun _ _ h1 => Kept.modCore (h1.same rfl) fun _ _ hk => hk.same rfl
  split
  · exact Kept.dropCore (Kept.modCove (h.same rfl) fun _ _ hk => hk.same rfl)
  · exact Kept.modCove (h.same rfl) fun _ _ hk => hk.same rfl
theorem KeptIn.makeRoom {v : Nat} {t : TlbEntry} {keep : List TlbEntry} (h : Kept m r s) : KeptIn m r id (s.makeRoom v t keep) :=
  KeptIn.none.ite (KeptIn.ite (KeptIn.some h) (KeptIn.map fun _ _ => h.same rfl))
theorem KeptFst.fillWalks {v : Nat} {all l : List TlbEntry} (h : Kept m r s) : KeptFst m r (s.fillWalks v all l) := by
  induction l generalizing s with
  | nil => exact KeptFst.mk h
  | cons t l ih =>
    unfold State.fillWalks
    split
    · rename_i e
      exact KeptFst.mk ((KeptIn.makeRoom h).of_eq e)
    · exact ih (h.fillTlb.ite h)
theorem Kept.withWalks {v : Nat} {new : List TlbEntry} {f : State → State} (h : Kept m r s) (hf : ∀ (a : State), Kept m r a → Kept m r (f a)) :
    Kept m r (s.withWalks v new f) := by
  unfold State.withWalks
  extract_lets r1
  have hr1 : KeptFst m r r1 := KeptFst.fillWalks h
  exact Kept.ite (hf _ hr1) hr1
theorem Kept.touchPage {c ctx p : Nat} {store : Bool} (h : Kept m r s) : Kept m r (s.touchPage c ctx p store) := by
  unfold State.touchPage
  refine h.modCore ?_
  intro _ _ hk
  split
  · exact hk.touch
  · exact hk
theorem Kept.touchRead {c ctx la n : Nat} (h : Kept m r s) : Kept m r (s.touchRead c ctx la n) := h.foldl fun _ _ h1 => h1.touchPage
theorem Kept.dirtied {v ctx loc core a : Nat} (h : Kept m r s) : Kept m r (s.dirtied v ctx loc core a) := by
  unfold State.dirtied
  split
  · exact h.touchPage
  · exact h
theorem Kept.accPut {v : Nat} {j : Job} {i a : Nat} (h : Kept m r s) : Kept m r (s.accPut v j i a) := h.putNum
theorem Kept.jobOver {v : Nat} {j : Job} (h : Kept m r s) : Kept m r (s.jobOver v j) := by
  unfold State.jobOver
  extract_lets _ s1 s2 s3
  have hs1 : Kept m r s1 := h.setJob.leaveAll.foldl fun _ _ h1 => h1.readerDone
  have hs2 : Kept m r s2 := by
    unfold s2
    split
    · exact hs1.modCove fun _ _ hk => hk.same rfl
    · exact hs1
  have hs3 : Kept m r s3 := hs2.modCove fun _ _ hk => hk.same rfl
  exact hs3.sendEngineTides
theorem Kept.endJob {v : Nat} {j : Job} {st : JobState} {code addr : Nat} {rec : Bool} (h : Kept m r s) :
    Kept m r (s.endJob v j st code addr rec) := by
  unfold State.endJob
  extract_lets _ _ s1 _ s2 s3 _
  have hs1 : Kept m r s1 := h.setJob.leaveAll
  have hs2 : Kept m r s2 := Kept.ite (hs1.withMem (fun hm => Mem.wf_clear _ _ _ (hs1.memOk hm)) rfl) hs1
  have hs3 : Kept m r s3 := Kept.ite (hs2.modCove fun _ _ hk => hk.same rfl) hs2
  exact hs3.jobOver.ite hs3.setJob.post
theorem Kept.faultJob {v : Nat} {j : Job} {code addr : Nat} (h : Kept m r s) : Kept m r (s.faultJob v j code addr) :=
  h.endJob.report.ite (h.endJob.report.ite h.endJob)
theorem Cove.RangesOk.withMxe {k : Cove} {e : Mxe} (hk : k.RangesOk) (he : e.seq = if k.mxe.seq + 1 ≥ 2 ^ 26 then 1 else k.mxe.seq + 1) :
    ({ k with mxe := e } : Cove).RangesOk := by
  obtain ⟨⟨h1, h2⟩, hb⟩ := hk
  refine ⟨?_, hb⟩
  dsimp only
  rw [he]
  split <;> omega
theorem KeptSnd.submit {v : Nat} {j : Job} (h : Kept m r s) : KeptSnd m r (s.submit v j) := by
  unfold State.submit
  refine KeptSnd.ite (KeptSnd.mk h) (KeptSnd.mk (Kept.sendEngineTides (Kept.foldl ?_ fun _ _ h1 => h1.post)))
  exact h.modCove fun _ _ hk => hk.withMxe rfl
theorem descriptor_runs {ga : Word} {n : Nat} : Runs m r (descriptor ga n : M (List Word × Bool)) :=
  misaligned_runs.ite (localAddr_runs.bind fun _ => release_runs.bind fun _ => Runs.get_bind fun _ _ => stopTrap_runs.ite
    (outbound_runs.bind fun _ => Runs.pure))
theorem execMxq_ends {a d : BitVec 5} (h : Kept m r s) : Ends m r (execMxq a d s) := by
  unfold execMxq
  refine runM_ends ?_ h
  refine getG_runs.bind ?_
  intro _
  refine descriptor_runs.bind ?_
  intro _
  split
  rename_i x _ _
  refine Runs.get_bind ?_
  intro _ h1
  extract_lets jp
  have hjp : ∀ (x : Unit), Runs m r (jp x) := fun _ => replyLater_runs
  exact Runs.ite (Runs.bind (Runs.set h1.post) fun _ => hjp ()) (hjp ())
theorem jobArg_runs {a : BitVec 5} : Runs m r (jobArg a : M (BitVec 32)) := by
  intro s h
  unfold jobArg
  exact Stays.trap.ite (Stays.ok h)
theorem execMxpoll_ends {a d : BitVec 5} (h : Kept m r s) : Ends m r (execMxpoll a d s) :=
  runM_ends (jobArg_runs.bind fun _ => Runs.bind (obtained_runs fun _ h1 => Stays.ok h1) fun _ => retG_runs) h
theorem execMxwait_ends {a d : BitVec 5} (h : Kept m r s) : Ends m r (execMxwait a d s) := by
  unfold execMxwait
  refine runM_ends ?_ h
  refine jobArg_runs.bind ?_
  intro _
  refine Runs.get_bind ?_
  intro _ _
  refine illegal_runs.ite ?_
  refine Runs.bind ?_ ?_
  · refine obtained_runs ?_
    intro _ h2
    dsimp only
    split
    · exact Stays.ite (Stays.ok h2) (Stays.wait h2)
    · exact Stays.ok h2
  · intro _
    extract_lets _ jp
    have hjp : ∀ (x : Unit), Runs m r (jp x) := fun _ => retG_runs
    exact stopTrap_runs.ite (Runs.ite (acquire_runs.bind fun _ => hjp ()) (hjp ()))
theorem execMxcan_ends {a d : BitVec 5} (h : Kept m r s) : Ends m r (execMxcan a d s) := by
  unfold execMxcan
  refine runM_ends ?_ h
  refine jobArg_runs.bind ?_
  intro _
  refine outbound_runs.bind ?_
  intro _
  refine Runs.get_bind ?_
  intro _ h1
  extract_lets jp
  have hjp : ∀ (x : Unit), Runs m r (jp x) := fun _ => replyLater_runs
  exact Runs.ite (Runs.bind (Runs.set h1.post) fun _ => hjp ()) (hjp ())
theorem execMxeAccept_ends {msg : Nat} (h : Kept m r s) : Ends m r (execMxeAccept msg s) := by
  unfold execMxeAccept
  split
  · rename_i e
    split
    · extract_lets _
      split
      rename_i e2
      exact Ends.next (Kept.getD (KeptIn.giveReply (KeptSnd.of_eq (KeptSnd.submit ((KeptIn.take h).of_eq e)) e2)) h)
    · exact Ends.next h
  · exact Ends.next h
theorem execJobBankSample_ends {msg : Nat} (h : Kept m r s) : Ends m r (execJobBankSample msg s) := by
  unfold execJobBankSample
  split
  · rename_i e
    split
    · split
      · refine Ends.ite (Ends.next (Kept.setJob ((KeptIn.take h).of_eq e))) ?_
        split
        rename_i e3
        exact Ends.next (Kept.setJob (KeptFst.of_eq (KeptFst.sampleFor ((KeptIn.take h).of_eq e)) e3))
      · exact Ends.next ((KeptIn.take h).of_eq e)
    · exact Ends.next h
  · exact Ends.next h
theorem execMxeAdmit_ends {cove job : Nat} (h : Kept m r s) : Ends m r (execMxeAdmit cove job s) := by
  unfold execMxeAdmit
  extract_lets _
  split
  · exact Ends.next h
  · extract_lets earlier s1
    have h1 : Kept m r s1 := h.modCove fun _ _ hk => hk.same rfl
    exact Ends.ite (Ends.next h) (Ends.ite (Ends.next h.faultJob) (Ends.ite (Ends.next h.faultJob) (Ends.next h1.setJob)))
theorem KeptFst.keepPages {j : Job} (h : Kept m r s) : KeptFst m r (s.keepPages j) :=
  KeptFst.mk (h.foldl fun _ _ h1 => h1.touchPage.modCore fun _ _ hk => hk.entered)
theorem execMxeOperandArrive_ends {cove job : Nat} (h : Kept m r s) : Ends m r (execMxeOperandArrive cove job s) := by
  unfold execMxeOperandArrive
  split
  · exact Ends.next h
  · refine Ends.ite (Ends.next h) ?_
    extract_lets got _
    have hgot : ∀ (s : State), Kept m r s → Kept m r (got s) := fun _ h1 => h1.leaveAll.setJob
    split
    · exact Ends.next (KeptFst.keepPages h).setJob.waitPage
    · exact Ends.next h
    · exact Ends.next (h.withWalks fun _ h1 => hgot _ h1)
    · exact Ends.next (hgot _ h)
theorem Kept.settleArrivals {v : Nat} (h : Kept m r s) : Kept m r (s.settleArrivals v) := h.foldl fun _ _ h1 => h1.setJob
theorem Kept.askLeft {l : List (Job × Nat × Nat)} (h : Kept m r s) : Kept m r (s.askLeft l) := h.foldl fun _ _ h1 => h1.waitPage
theorem Kept.fillTable {v : Nat} (h : Kept m r s) : Kept m r (s.fillTable v) := h.modCove fun _ _ hk => hk.same rfl
theorem Kept.runSlot {v : Nat} {j : Job} (h : Kept m r s) : Kept m r (s.runSlot v j) := by
  unfold State.runSlot
  refine h.faultJob.ite ?_
  refine h.faultJob.ite ?_
  split
  · exact h.faultJob
  · exact h.setJob
  · exact h.withWalks fun _ h1 => (((h1.foldl fun _ _ h2 => h2.touchPage).foldl fun _ _ h2 => h2.accPut).foldl fun _ _ h2 =>
      h2.accPut).setJob
theorem execMxeSlotBoundary_ends {cove : Nat} (h : Kept m r s) : Ends m r (execMxeSlotBoundary cove s) := by
  unfold execMxeSlotBoundary
  extract_lets _ _ s1 s2 idle run s3 left s4
  have h1 : Kept m r s1 := h.foldl fun _ _ h1 => h1.endJob
  have h2 : Kept m r s2 := h1.modCove fun _ _ hk => hk.same rfl
  have hidle {s} (h : Kept m r s) : Kept m r (idle s) := h.modCove fun _ _ hk => hk.same rfl
  have hrun {s j} (h : Kept m r s) : Kept m r (run s j) := Kept.runSlot (Kept.meter (h.modCove fun _ _ hk => hk.same rfl))
  have h3 : Kept m r s3 := h2.modCove fun _ _ hk => hk.same rfl
  have h4 : Kept m r s4 := h3.settleArrivals
  refine Ends.ite (Ends.next (hidle (h2.modCove fun _ _ hk => hk.same rfl))) ?_
  split
  · exact Ends.next (hidle h4.askLeft)
  · extract_lets k
    exact Ends.ite (Ends.next (hidle (Kept.askLeft (h4.modCove fun _ _ hk => hk.same rfl)))) (Ends.next (hrun h4).askLeft)
theorem Kept.drainWrite {v : Nat} {j : Job} {l : List ((Nat × Byte) × Nat)} (h : Kept m r s) : Kept m r (s.drainWrite v j l) :=
  h.foldl fun _ _ h1 => h1.setByte.dirtied
theorem Kept.drainPart {v : Nat} {j k : Job} {l : List (Nat × Byte)} (h : Kept m r s) : Kept m r (s.drainPart v j k l) := by
  unfold State.drainPart
  extract_lets _ _
  split
  extract_lets t
  have ht : Kept m r t := h.ite (Kept.setJob (Kept.leaveAll (h.ite h.drainWrite)))
  split
  · exact ht.waitPage
  · exact h.faultJob
  · exact ht
theorem execMxeDrainEnd_ends {cove job : Nat} (h : Kept m r s) : Ends m r (execMxeDrainEnd cove job s) := by
  unfold execMxeDrainEnd
  split
  · exact Ends.next h
  · refine Ends.ite (Ends.next h) ?_
    refine Ends.ite (Ends.next h.setJob) ?_
    refine Ends.ite (Ends.next h.faultJob) ?_
    split
    extract_lets _ _
    split
    · exact Ends.next (h.faultJob.ite h.drainPart)
    · exact Ends.next h.faultJob
    · exact Ends.next h
    · refine Ends.next ?_
      refine h.withWalks ?_
      intro _ h1
      extract_lets s1 _
      have hs1 : Kept m r s1 := h1.leaveAll.meter
      exact hs1.faultJob.ite hs1.drainWrite.setJob
theorem execMxeJobDone_ends {cove job : Nat} (h : Kept m r s) : Ends m r (execMxeJobDone cove job s) := by
  unfold execMxeJobDone
  split
  · exact Ends.next h
  · exact Ends.ite (Ends.next h.tagLines.endJob) (Ends.next h)
theorem execMxeCancel_ends {msg : Nat} (h : Kept m r s) : Ends m r (execMxeCancel msg s) := by
  unfold execMxeCancel
  split
  · rename_i x _ s' e
    split
    · extract_lets _ answer
      have hanswer : ∀ (s' : State), Kept m r s' → ∀ (x : Word), Ends m r (answer s' x) := fun _ h1 _ =>
        Ends.next (Kept.getD (KeptIn.giveReply h1) h)
      refine Ends.ite (Ends.next h) ?_
      split
      · exact hanswer _ ((KeptIn.take h).of_eq e) _
      · split
        · exact hanswer _ ((KeptIn.take h).of_eq e) _
        · exact hanswer _ (Kept.setJob ((KeptIn.take h).of_eq e)) _
        · exact hanswer _ (Kept.endJob ((KeptIn.take h).of_eq e)) _
        · exact hanswer _ (Kept.endJob ((KeptIn.take h).of_eq e)) _
        · exact hanswer _ ((KeptIn.take h).of_eq e) _
    · exact Ends.next h
  · exact Ends.next h
theorem Kept.drainMxe {v a : Nat} (h : Kept m r s) : Kept m r (s.drainMxe v a) := h.foldl fun _ _ h1 => h1.endJob

end Sys2Proof.Machine
end

section
/-! Task instructions: what the operations of Machine/TaskOps keep. -/

namespace Sys2Proof.Machine

variable {m r : Prop} {s : State}

theorem targetCore_runs {a : Word} {b : Nat} : Runs m r (targetCore a b : M Nat) := by
  intro s h
  unfold targetCore
  exact Stays.trap.ite (Stays.ok h)
theorem handlerArg_runs {a hd : Nat} : Runs m r (handlerArg a hd : M Unit) := by
  intro s h
  unfold handlerArg
  exact Stays.trap.ite (Stays.ok h)
theorem prioArg_runs {a p : Nat} : Runs m r (prioArg a p : M Unit) := by
  intro s h
  unfold prioArg
  exact Stays.trap.ite (Stays.ok h)
theorem counterArg_runs {a : Word} {own : Bool} : Runs m r (counterArg a own : M (Nat × Nat)) := by
  unfold counterArg
  refine misaligned_runs.ite ?_
  refine ownerCheck_runs.bind ?_
  intro _
  split
  exact Runs.get_bind fun _ _ => bounds_runs.ite Runs.pure
theorem counterAt_runs {c la : Nat} : Runs m r (counterAt c la : M Nat) := by
  unfold counterAt
  refine afterAtomics_runs.bind ?_
  intro _ _ h
  dsimp only
  split
  · exact Stays.ite (Stays.ok (h.modCore fun _ _ hk => hk.touch.entered)) (Stays.wait (h.modCore fun _ _ hk => hk.await))
  · exact Stays.wait (h.modCore fun _ _ hk => hk.request.await)
  · exact Stays.trap
theorem Kept.addCounter {a : Nat} {b : Word} (h : Kept m r s) : Kept m r (s.addCounter a b) := h.putNum
theorem KeptFst.pushDeque {c : Nat} {st : Start} (h : Kept m r s) : KeptFst m r (s.pushDeque c st) :=
  KeptFst.ite (KeptFst.mk h) (KeptFst.mk h.offerItem)
theorem spawnHere_runs {hd p : Nat} {j : Word} {d : BitVec 5} : Runs m r (spawnHere hd p j d : M Unit) := by
  -- the push stands for itself, so that the kernel does not unfold its comparison with the room of the queue
  obtain ⟨push, e⟩ : ∃ f, f = State.pushDeque := ⟨_, rfl⟩
  have hpush : ∀ {s c x}, Kept m r s → KeptFst m r (push s c x) := fun h => e ▸ KeptFst.pushDeque h
  unfold spawnHere
  rw [← e]
  refine Runs.bind ?_ ?_
  · exact Runs.pure.ite (counterArg_runs.bind fun a => counterAt_runs.bind fun _ => Runs.pure)
  · intro ca
    refine Runs.get_bind ?_
    intro _ _
    refine outbound_runs.bind ?_
    intro _
    refine Runs.bind ?_ fun _ => retG_runs
    refine obtained_runs ?_
    refine Runs.get_bind ?_
    intro s1 h1
    have h2 : KeptSnd m r (s1.nextTaskId s1.myCore) := KeptSnd.nextTaskId h1
    generalize s1.nextTaskId s1.myCore = p at h2 ⊢
    obtain ⟨id, s2⟩ := p
    have hs2 : Kept m r s2 := h2
    cases ca with
    | none => exact Runs.bind (Runs.set (Kept.ite (hpush hs2) hs2)) fun _ => Runs.pure
    | some a => exact Runs.bind (Runs.set (Kept.ite (hpush hs2.addCounter) hs2)) fun _ => Runs.pure
theorem execSpawn_ends {p : BitVec 6} {b a d : BitVec 5} (h : Kept m r s) : Ends m r (execSpawn p b a d s) :=
  runM_ends (getG_runs.bind fun _ => getG_runs.bind fun _ => Runs.get_bind fun _ _ => handlerArg_runs.bind fun _ =>
    prioArg_runs.bind fun _ => spawnHere_runs) h
theorem execSpawnr_ends {p : BitVec 6} {b a d : BitVec 5} (h : Kept m r s) : Ends m r (execSpawnr p b a d s) := by
  unfold execSpawnr
  refine runM_ends ?_ h
  refine getG_runs.bind ?_
  intro _
  refine getG_runs.bind ?_
  intro _
  refine Runs.get_bind ?_
  intro _ _
  refine illegal_runs.ite ?_
  refine handlerArg_runs.bind ?_
  intro _
  refine prioArg_runs.bind ?_
  intro _
  refine targetCore_runs.bind ?_
  intro _
  refine spawnHere_runs.ite ?_
  refine Runs.bind ?_ ?_
  · refine Runs.pure.ite ?_
    refine counterArg_runs.bind ?_
    intro _
    split
    exact counterAt_runs.bind fun _ => Runs.pure
  · intro _
    refine outbound_runs.bind ?_
    intro _
    refine Runs.bind ?_ fun _ => retG_runs
    refine askFor_runs ?_
    intro _ h3
    refine Kept.ite ?_ h3
    split
    rename_i e
    extract_lets s3
    have hs3 : Kept m r s3 := by
      unfold s3
      split
      · exact Kept.addCounter (KeptSnd.of_eq (KeptSnd.nextTaskId h3) e)
      · exact KeptSnd.of_eq (KeptSnd.nextTaskId h3) e
    exact hs3.post
theorem execAmsg_ends {b a d : BitVec 5} (h : Kept m r s) : Ends m r (execAmsg b a d s) := by
  unfold execAmsg
  refine runM_ends ?_ h
  refine getG_runs.bind ?_
  intro _
  refine getG_runs.bind ?_
  intro _
  refine Runs.get_bind ?_
  intro _ _
  refine illegal_runs.ite ?_
  refine handlerArg_runs.bind ?_
  intro _
  refine targetCore_runs.bind ?_
  intro _
  refine outbound_runs.bind ?_
  intro _
  extract_lets send
  have hsend : ∀ (s : State), Kept m r s → Kept m r (send s) := fun _ h3 => h3.post.ite h3
  exact Runs.ite (postRoom_runs.bind fun _ => Runs.bind (Runs.modifying fun _ h3 => hsend _ h3) fun _ => done_runs)
    (Runs.bind (askFor_runs fun _ h3 => hsend _ h3) fun _ => retG_runs)
theorem execMigrate_ends {a d : BitVec 5} (h : Kept m r s) : Ends m r (execMigrate a d s) :=
  runM_ends (getG_runs.bind fun _ => Runs.get_bind fun _ _ => targetCore_runs.bind fun _ =>
    retG_runs.ite (stopTrap_runs.ite (waitFor_runs.ite (outbound_runs.bind fun _ => release_runs.bind fun _ =>
    Runs.modifying fun _ h2 => (h2.post.ite h2).freeSlot.afterFree)))) h
theorem KeptFst.launch {c a hd p : Nat} {args : Vector Word 4} {g5 : Word} (h : Kept m r s) : KeptFst m r (s.launch c a hd p args g5) :=
  KeptFst.mk (Kept.offerItem (KeptSnd.nextTaskId h))
theorem execLaunch_ends {p : BitVec 6} {b a d : BitVec 5} (h : Kept m r s) : Ends m r (execLaunch p b a d s) := by
  unfold execLaunch
  refine runM_ends ?_ h
  refine getG_runs.bind ?_
  intro _
  refine getG_runs.bind ?_
  intro _
  refine Runs.get_bind ?_
  intro _ h1
  refine raise_runs.ite ?_
  refine handlerArg_runs.bind ?_
  intro _
  refine prioArg_runs.bind ?_
  intro _
  refine targetCore_runs.bind ?_
  intro _
  split
  rename_i e
  exact Runs.bind (Runs.set (KeptFst.of_eq (KeptFst.launch h1) e)) fun _ => retG_runs
theorem Kept.wakeCounter {c a la b : Nat} (h : Kept m r s) : Kept m r (s.wakeCounter c a la b) := by
  unfold State.wakeCounter
  exact h.ite (h.foldl fun _ _ h1 => h1.modCore fun _ _ hk => hk.same rfl)
theorem execJoin_ends {b a : BitVec 5} (h : Kept m r s) : Ends m r (execJoin b a s) := by
  unfold execJoin
  refine runM_ends ?_ h
  refine getG_runs.bind ?_
  intro _
  refine getG_runs.bind ?_
  intro _
  refine counterArg_runs.bind ?_
  intro _
  split
  rename_i x _ _
  refine counterAt_runs.bind ?_
  intro _
  refine outbound_runs.bind ?_
  intro _
  extract_lets jp
  have hjp : ∀ (x : Unit), Runs m r (jp x) := fun _ => done_runs
  exact Runs.ite (Runs.bind (Runs.modifying fun _ h1 => h1.addCounter.wakeCounter) fun _ => hjp ()) (hjp ())
theorem execJdone_ends {a : BitVec 5} (h : Kept m r s) : Ends m r (execJdone a s) := by
  unfold execJdone
  refine runM_ends ?_ h
  refine getG_runs.bind ?_
  intro _
  refine counterArg_runs.bind ?_
  intro _
  split
  rename_i x _ _
  refine outbound_runs.bind ?_
  intro _
  refine Runs.get_bind ?_
  intro _ _
  refine release_runs.bind ?_
  intro _
  refine postRoom_runs.bind ?_
  intro _
  extract_lets jp
  have hjp : ∀ (x : Unit), Runs m r (jp x) := fun _ => done_runs
  exact Runs.ite (Runs.bind (Runs.modifying fun _ h2 => h2.post) fun _ => hjp ()) (hjp ())
theorem execJwait_ends {a d : BitVec 5} (h : Kept m r s) : Ends m r (execJwait a d s) := by
  unfold execJwait
  refine runM_ends ?_ h
  refine getG_runs.bind ?_
  intro _
  refine Runs.get_bind ?_
  intro _ _
  refine illegal_runs.ite ?_
  refine counterArg_runs.bind ?_
  intro _
  refine counterAt_runs.bind ?_
  intro _
  refine Runs.bind (obtained_runs ?_) fun _ => acquire_runs.bind fun _ => retG_runs
  refine Runs.get_bind ?_
  intro _ _
  exact Runs.ite (Runs.bind (Runs.modifying fun _ h => h.modMe) fun _ => waitFor_runs) Runs.pure

end Sys2Proof.Machine
end

section
/-! Control and CSRs: what the operations of Machine/Control keep. -/

namespace Sys2Proof.Machine

variable {m r : Prop} {s : State}

theorem Kept.branchIf {p : Bool} {n : Int} (h : Kept m r s) : Kept m r (s.branchIf p n) := h.goto.ite h.advance
theorem execNop_ends (h : Kept m r s) : Ends m r (execNop s) := Ends.next h.advance
theorem execBr_ends {o : BitVec 24} (h : Kept m r s) : Ends m r (execBr o s) := Ends.next h.goto
theorem execBrl_ends {o : BitVec 24} (h : Kept m r s) : Ends m r (execBrl o s) := Ends.next h.wg.goto
theorem execJr_ends {a : BitVec 5} (h : Kept m r s) : Ends m r (execJr a s) :=
  Ends.ite (Ends.next (takeTrap_kept h)) (Ends.next h.goto)
theorem execJrl_ends {a d : BitVec 5} (h : Kept m r s) : Ends m r (execJrl a d s) :=
  Ends.ite (Ends.next (takeTrap_kept h)) (Ends.next h.wg.goto)
theorem execBcc_ends {o : BitVec 11} {c : BitVec 3} {b a : BitVec 5} (h : Kept m r s) : Ends m r (execBcc o c b a s) :=
  Ends.next h.branchIf
theorem execBmask_ends {o : BitVec 11} {c : BitVec 3} {b a : BitVec 5} (h : Kept m r s) : Ends m r (execBmask o c b a s) :=
  Ends.next h.branchIf
theorem execLoop_ends {i : BitVec 19} {c : BitVec 5} (h : Kept m r s) : Ends m r (execLoop i c s) :=
  Ends.ite (Ends.next h.advance) (Ends.next h.wg.branchIf)
theorem execPfx_ends {rc : BitVec 2} {sc : BitVec 3} {y a : BitVec 1} {g : BitVec 4} {k : BitVec 3} {b c : BitVec 5} (h : Kept m r s) :
    Ends m r (execPfx rc sc y a g k b c s) :=
  Ends.next h.advance.modMe
theorem execHalt_ends (h : Kept m r s) : Ends m r (execHalt s) :=
  runM_ends (joinDone_runs.bind fun _ => Runs.modifying fun _ h1 => h1.haltTask) h
theorem Core.RangesOk.retain {k : Core} {j a hd order : Nat} {msg : Word} (hk : k.RangesOk) : (k.retain j a hd order msg).RangesOk :=
  Core.RangesOk.same (hk.dropRetained.foldl fun _ _ hk1 => hk1.pinPage) rfl
theorem execHaltr_ends {b a : BitVec 5} (h : Kept m r s) : Ends m r (execHaltr b a s) := by
  unfold execHaltr
  refine runM_ends ?_ h
  refine getG_runs.bind ?_
  intro _
  refine getG_runs.bind ?_
  intro _
  refine Runs.get_bind ?_
  intro _ _
  refine illegal_runs.ite ?_
  refine joinDone_runs.bind ?_
  intro _
  refine Runs.modifying fun _ h => Kept.haltTask (h.modCore fun _ k hk => ?_)
  extract_lets k1
  have hk1 : k1.RangesOk := hk.retain
  exact hk1.same rfl
theorem execBrk_ends {c : BitVec 15} (h : Kept m r s) : Ends m r (execBrk c s) := Ends.next (takeTrap_kept h)
theorem execSys_ends {sv a d : BitVec 5} (h : Kept m r s) : Ends m r (execSys sv a d s) :=
  Ends.ite (Ends.next h.advance) (runM_ends (getG_runs.bind fun _ => Runs.get_bind fun _ _ => illegal_runs.ite
    (outbound_runs.bind fun _ => Runs.bind (askFor_runs fun _ h2 => h2.post.ite h2) fun _ => retG_runs)) h)
theorem entryOk_masked (e : BitVec 16) : EntryOk (e &&& 0xC03F) := by
  unfold EntryOk
  rw [BitVec.and_assoc, BitVec.and_self]
theorem boundary_onPage (x : Word) : OnPage (boundary x) := by
  simp only [OnPage, boundary, BitVec.toNat_ofNat]
  omega
theorem Core.RangesOk.withShadow {k : Core} {f : FMap (BitVec 16)} (hk : k.RangesOk) (hf : ∀ e ∈ f, EntryOk e.2) :
    ({ k with shadow := f } : Core).RangesOk := by
  obtain ⟨hq, hb, hn, hc, -, hs⟩ := hk
  exact ⟨hq, hb, hn, hc, hf, hs⟩
theorem Core.RangesOk.csrWrite {k : Core} {n : Nat} {new : Word} (hk : k.RangesOk) : (k.csrWrite n new).RangesOk := by
  obtain ⟨hq, hb, ⟨h0, h1, h2⟩, hc, hs, hn⟩ := id hk
  unfold Core.csrWrite
  refine Core.RangesOk.ite ?_ ?_
  · exact hk.withShadow (foldl_inv (fun f : FMap (BitVec 16) => ∀ e ∈ f, EntryOk e.2) _ _ _ hs
      fun f i _ hf => FMap.forall_set (P := EntryOk) hf (entryOk_masked _))
  · split
    · exact Core.RangesOk.ite (hk.same rfl) hk
    · exact hk.same rfl
    · exact ⟨hq, hb, ⟨boundary_onPage _, h1, h2⟩, hc, hs, hn⟩
    · exact ⟨hq, hb, ⟨h0, boundary_onPage _, h2⟩, hc, hs, hn⟩
    · exact ⟨hq, hb, ⟨h0, h1, boundary_onPage _⟩, hc, hs, hn⟩
    · exact Core.RangesOk.ite (hk.same rfl) hk
    · exact hk
theorem Kept.withCommits {l : List (Nat × Nat × BitVec 22 × BitVec 22 × BitVec 22)} (h : Kept m r s)
    (hl : r → ∀ q ∈ l, OnPage q.2.2.1 ∧ OnPage q.2.2.2.1 ∧ OnPage q.2.2.2.2) : Kept m r { s with commits := l } :=
  Kept.of_parts h.memOk h.cores h.coves h.ctxs h.entries hl
theorem Kept.csrWrite {c n : Nat} {new : Word} (h : Kept m r s) : Kept m r (s.csrWrite c n new) := by
  have hs : Kept m r (s.setCore c ((s.core c).csrWrite n new)) := h.setCore fun hr => (h.core c hr).csrWrite
  refine Kept.ite (hs.withCommits fun hr q hq => ?_) hs
  rcases List.mem_append.1 hq with hq | hq
  · exact h.commits hr q hq
  · obtain ⟨-, -, hn, -⟩ := h.core c hr
    cases List.mem_singleton.1 hq
    exact hn
theorem csrAccess_runs {op : CsrOp} {sr : BitVec 5} {c : BitVec 12} {d : BitVec 5} : Runs m r (csrAccess op sr c d : M Unit) := by
  unfold csrAccess
  refine Runs.get_bind ?_
  intro _ _
  extract_lets _ _ jp
  have hjp : ∀ (x : Word), Runs m r (jp x) := by
    intro _
    unfold jp
    refine Runs.get_bind ?_
    intro _ h1
    refine retG_runs.ite ?_
    refine Runs.ite (Runs.bind (Runs.set h1.csrWrite) fun _ => retG_runs) ?_
    split
    · exact illegal_runs
    · exact Runs.bind (Runs.set h1.setMe) fun _ => retG_runs
  refine raise_runs.ite ?_
  split
  · exact illegal_runs
  · exact Runs.ite (Runs.pure.bind fun _ => hjp _) (readOnce_runs.bind fun _ => hjp _)
theorem execCsrrw_ends {sr : BitVec 5} {c : BitVec 12} {d : BitVec 5} (h : Kept m r s) : Ends m r (execCsrrw sr c d s) :=
  runM_ends csrAccess_runs h
theorem execCsrrs_ends {sr : BitVec 5} {c : BitVec 12} {d : BitVec 5} (h : Kept m r s) : Ends m r (execCsrrs sr c d s) :=
  runM_ends csrAccess_runs h
theorem execCsrrc_ends {sr : BitVec 5} {c : BitVec 12} {d : BitVec 5} (h : Kept m r s) : Ends m r (execCsrrc sr c d s) :=
  runM_ends csrAccess_runs h
theorem execMbtake_ends {b a d : BitVec 5} (h : Kept m r s) : Ends m r (execMbtake b a d s) :=
  runM_ends (Runs.bind (obtained_runs fun _ h1 => Stays.ok h1) fun _ => Runs.bind (Runs.modifying fun _ h1 => h1.wg.wg.modMe) fun _ =>
    done_runs) h
theorem execMbclr_ends {a : BitVec 5} (h : Kept m r s) : Ends m r (execMbclr a s) := Ends.next h.modMe.advance

end Sys2Proof.Machine
end

section
/-! Traps: what the operations of Machine/TrapOps keep. -/

namespace Sys2Proof.Machine

variable {m r : Prop} {s : State}

theorem Kept.resumeTask {c j left : Nat} (h : Kept m r s) : Kept m r (s.resumeTask c j left) :=
  h.foldl fun _ _ h1 => h1.dropReader.modSlot.acquireAt
theorem KeptFst.trapOpAt {op a c j : Nat} {task : BitVec 32} {arg data : Word} (h : Kept m r s) :
    KeptFst m r (s.trapOpAt op a c j task arg data) := by
  unfold State.trapOpAt
  extract_lets _ _
  split
  · exact KeptFst.ite (KeptFst.mk h) (KeptFst.mk h)
  · exact KeptFst.ite (KeptFst.mk h) (KeptFst.mk (h.modSlot.modSlot.ite h.modSlot))
  · exact KeptFst.ite (KeptFst.mk h) (KeptFst.mk h.resumeTask)
  · exact KeptFst.ite (KeptFst.mk h) (KeptFst.mk h.killTask)
theorem execRaise_ends {a : BitVec 5} (h : Kept m r s) : Ends m r (execRaise a s) := Ends.next (takeTrap_kept h)
theorem trapTarget_runs {a : Word} : Runs m r (trapTarget a : M (Nat × Nat)) := by
  intro s h
  unfold trapTarget
  exact Stays.trap.ite (Stays.trap.ite (Stays.ok h))
theorem reachTarget_runs {op : Nat} {a arg data : Word} {d : BitVec 5} : Runs m r (reachTarget op a arg data d : M Unit) := by
  unfold reachTarget
  refine trapTarget_runs.bind ?_
  intro _
  split
  rename_i x _ _
  refine Runs.get_bind ?_
  intro _ _
  extract_lets _ jp jp1
  have hjp : ∀ (x : Unit), Runs m r (jp x) := by
    intro _
    unfold jp
    refine Runs.ite ?_ (Runs.bind (askFor_runs fun _ h1 => h1.post.ite h1) fun _ => retG_runs)
    refine Runs.bind ?_ fun _ => retG_runs
    refine obtained_runs ?_
    refine Runs.get_bind ?_
    intro _ h1
    split
    rename_i e
    exact Runs.bind (Runs.set (KeptFst.of_eq (KeptFst.trapOpAt h1) e)) fun _ => Runs.pure
  have hjp1 : ∀ (x : Unit), Runs m r (jp1 x) := fun _ => Runs.ite (release_runs.bind fun _ => hjp ()) (hjp ())
  exact Runs.ite (outbound_runs.bind fun _ => hjp1 ()) (hjp1 ())
theorem execTinsp_ends {b a d : BitVec 5} (h : Kept m r s) : Ends m r (execTinsp b a d s) :=
  runM_ends (leaderOnly_runs (getG_runs.bind fun _ => getG_runs.bind fun _ => trapTarget_runs.bind fun _ =>
    reachTarget_runs.ite illegal_runs)) h
theorem execTinspW_ends {b a sr : BitVec 5} (h : Kept m r s) : Ends m r (execTinspW b a sr s) :=
  Ends.ite (Ends.next h.advance) (runM_ends (getG_runs.bind fun _ => getG_runs.bind fun _ => getG_runs.bind fun _ =>
    trapTarget_runs.bind fun _ => reachTarget_runs.ite illegal_runs) h)
theorem execTresume_ends {b a d : BitVec 5} (h : Kept m r s) : Ends m r (execTresume b a d s) :=
  runM_ends (leaderOnly_runs (getG_runs.bind fun _ => getG_runs.bind fun _ => trapTarget_runs.bind fun _ =>
    illegal_runs.ite reachTarget_runs)) h
theorem execTkill_ends {a d : BitVec 5} (h : Kept m r s) : Ends m r (execTkill a d s) :=
  runM_ends (leaderOnly_runs (getG_runs.bind fun _ => reachTarget_runs)) h

end Sys2Proof.Machine
end

section
/-! Arrivals of messages: what the operations of Machine/Arrive keep. -/

namespace Sys2Proof.Machine

variable {m r : Prop} {s : State}

theorem onMessage_ends {n : Nat} {f : Msg → State → Option State} (h : Kept m r s) (hf : ∀ a t, Kept m r t → KeptIn m r id (f a t)) :
    Ends m r (onMessage n s f) := by
  unfold onMessage
  split
  · rename_i e
    exact Ends.next (Kept.getD (hf _ _ ((KeptIn.take h).of_eq e)) h)
  · exact Ends.next h
theorem execTaskBudget_ends {core slot : Nat} (h : Kept m r s) : Ends m r (execTaskBudget core slot s) :=
  Ends.ite (Ends.next h.trapSlot) (Ends.next h)
theorem execGlobalLoadReturn_ends {core slot idx : Nat} (h : Kept m r s) : Ends m r (execGlobalLoadReturn core slot idx s) := by
  unfold execGlobalLoadReturn
  extract_lets _ _ _
  split
  · exact Ends.next h
  · split
    · exact Ends.next h
    · extract_lets _ both _
      have hboth : ∀ (s : State), Kept m r s → ∀ (bs : List Byte), Kept m r (both s bs) := fun _ h1 _ => h1.modSlot.modSlot.ite h1.modSlot
      refine Ends.ite (Ends.next h) ?_
      refine Ends.ite ?_ (Ends.ite (Ends.next h) (Ends.next (hboth _ h.fillSector _)))
      split
      · exact Ends.next (hboth _ h _)
      · exact Ends.next h
theorem Kept.askPage {c a la n who : Nat} (h : Kept m r s) : Kept m r (s.askPage c a la n who) := by
  unfold State.askPage
  split
  · exact h.modCore fun _ _ hk => hk.request.await
  · exact h
theorem Kept.leave {c who : Nat} (h : Kept m r s) : Kept m r (s.leave c who) := h.modCore fun _ _ hk => hk.leave
theorem Kept.turnAway {msg : Msg} (h : Kept m r s) : Kept m r (s.turnAway msg) := by
  unfold State.turnAway
  extract_lets _ t
  have ht : Kept m r t := h.same rfl
  split
  · exact ht.modSlot
  · exact ht.post
  · exact h.post
  · exact Kept.getD (KeptIn.giveAnswer ht) ht
  · exact h.post
  · exact h.post
  · exact h.answerMsg.ite h.post
  · exact h
theorem Kept.awaitPage {c a la n who : Nat} (h : Kept m r s) : Kept m r (s.awaitPage c a la n who) := h.leave.ite h.askPage
theorem execCoveAccessArrive_ends {msg : Nat} (h : Kept m r s) : Ends m r (execCoveAccessArrive msg s) := by
  unfold execCoveAccessArrive
  split
  · exact Ends.next h
  · rename_i e
    refine Ends.ite (Ends.next (Kept.turnAway ((KeptIn.take h).of_eq e))) ?_
    split
    · exact Ends.ite (Ends.next h.awaitPage) (Ends.next (Kept.leave (Kept.putLocal ((KeptIn.take h).of_eq e))))
    · split
      · exact Ends.next h.awaitPage
      · exact Ends.next (Kept.leave (Kept.foldl ((KeptIn.take h).of_eq e) fun _ _ h1 => h1.putLocal))
    · refine Ends.ite (Ends.next h.awaitPage) ?_
      extract_lets _ s1
      have hs1 : Kept m r s1 := by
        unfold s1
        split
        · exact Kept.modCore ((KeptIn.take h).of_eq e) fun _ _ hk => hk.touch
        · exact (KeptIn.take h).of_eq e
      exact Ends.next hs1.leave.modSlot
    · exact Ends.next h
theorem execWritebackAck_ends {core idx : Nat} (h : Kept m r s) : Ends m r (execWritebackAck core idx s) := by
  unfold execWritebackAck
  extract_lets _
  split
  · exact Ends.next h
  · exact Ends.ite (Ends.next h) (Ends.next (Kept.performWb (h.modCore fun _ _ hk => hk.same rfl)))
theorem Kept.replyAtomic {msg : Msg} {a : Atomic} {v : Word} (h : Kept m r s) : Kept m r (s.replyAtomic msg a v) := h.post
theorem KeptSnd.depositAt {c : Nat} {a : Atomic} (h : Kept m r s) : KeptSnd m r (s.depositAt c a) :=
  KeptSnd.ite (KeptSnd.mk h) (KeptSnd.mk (h.foldl fun _ _ h1 => h1.modSlot))
theorem Core.RangesOk.orFlags {k : Core} {a : Nat} {f : Flags} (hk : k.RangesOk) : (k.orFlags a f).RangesOk := hk.ite (hk.same rfl)
theorem Kept.atomicError {msg : Msg} {a : Atomic} (h : Kept m r s) : Kept m r (s.atomicError msg a) :=
  h.report.sendTrapRec.replyAtomic
theorem Kept.forget {a : Atomic} (h : Kept m r s) : Kept m r (s.forget a) :=
  h.foldl fun _ _ h1 => h1.modCore fun _ _ hk => hk.same rfl
theorem execAtomicPerform_ends {msg : Nat} (h : Kept m r s) : Ends m r (execAtomicPerform msg s) := by
  unfold execAtomicPerform
  split
  · exact Ends.next h
  · rename_i e
    split
    · refine Ends.ite ?_ ?_
      · refine Ends.ite (Ends.next (Kept.atomicError ((KeptIn.take h).of_eq e))) ?_
        split
        exact Ends.next (Kept.replyAtomic (Kept.forget (Kept.putBytes ((KeptIn.take h).of_eq e))))
      · refine Ends.ite (Ends.next (Kept.turnAway ((KeptIn.take h).of_eq e))) ?_
        refine Ends.ite (Ends.next h) ?_
        refine Ends.ite ?_ ?_
        · split
          rename_i e2
          exact Ends.next (Kept.replyAtomic (KeptSnd.of_eq (KeptSnd.depositAt ((KeptIn.take h).of_eq e)) e2))
        · refine Ends.ite (Ends.next (Kept.replyAtomic (Kept.modCore ((KeptIn.take h).of_eq e) fun _ _ hk => hk.same rfl))) ?_
          refine Ends.ite (Ends.next (Kept.atomicError (Kept.leave ((KeptIn.take h).of_eq e)))) ?_
          refine Ends.ite (Ends.next h.askPage) ?_
          refine Ends.ite (Ends.next (Kept.atomicError (Kept.leave ((KeptIn.take h).of_eq e)))) ?_
          split
          exact Ends.next (Kept.replyAtomic (Kept.modCore (Kept.putLocal ((KeptIn.take h).of_eq e)) fun _ _ hk => hk.orFlags.leave))
    · exact Ends.next h
theorem execAtomicReply_ends {msg : Nat} (h : Kept m r s) : Ends m r (execAtomicReply msg s) := by
  unfold execAtomicReply
  refine onMessage_ends h ?_
  intro _ _ h1
  split
  · exact KeptIn.giveReply h1
  · exact KeptIn.none
theorem Kept.replySys {msg : Msg} {c j : Nat} {task : BitVec 32} {v : Word} (h : Kept m r s) : Kept m r (s.replySys msg c j task v) :=
  h.post
theorem execSysHeartbeat_ends {msg : Nat} (h : Kept m r s) : Ends m r (execSysHeartbeat msg s) := by
  unfold execSysHeartbeat
  refine onMessage_ends h ?_
  intro _ _ h1
  split
  · extract_lets k
    have hk : r → k.RangesOk := fun hr => h1.ctx _ hr
    exact KeptIn.ite (KeptIn.some h1.replySys)
      (KeptIn.none.ite (KeptIn.ite (KeptIn.some (Kept.replySys (h1.setCtx fun hr => Ctx.RangesOk.same (hk hr) rfl)))
      (KeptIn.some h1.replySys)))
  · exact KeptIn.none
theorem execSysTrace_ends {msg : Nat} (h : Kept m r s) : Ends m r (execSysTrace msg s) := by
  unfold execSysTrace
  refine onMessage_ends h ?_
  intro _ _ h1
  split
  · extract_lets k _ _
    have hk : r → k.RangesOk := fun hr => h1.ctx _ hr
    exact KeptIn.some (Kept.replySys (h1.setCtx fun hr => Ctx.RangesOk.same (hk hr) rfl))
  · exact KeptIn.none
theorem execSysReply_ends {msg : Nat} (h : Kept m r s) : Ends m r (execSysReply msg s) := by
  unfold execSysReply
  refine onMessage_ends h ?_
  intro _ _ h1
  split
  · exact KeptIn.giveAnswer h1
  · exact KeptIn.none
theorem execStealProbe_ends {msg : Nat} (h : Kept m r s) : Ends m r (execStealProbe msg s) := by
  refine onMessage_ends h fun _ s h => ?_
  split
  · refine KeptIn.some (Kept.post ?_)
    cases State.offer _ _ _ with
    | none => exact h.schedule
    | some i => exact h.schedule.dropItem
  · exact KeptIn.none
theorem Kept.takeStolen {c j : Nat} {st : Start} (h : Kept m r s) : Kept m r (s.takeStolen c j st) := by
  unfold State.takeStolen
  extract_lets x n s1
  have h1 : Kept m r s1 := h.addItem.modCore fun _ _ hk => hk.same rfl
  exact h.ite h1.wakeThieves.schedule
theorem execStealReply_ends {msg : Nat} (h : Kept m r s) : Ends m r (execStealReply msg s) := by
  unfold execStealReply
  refine onMessage_ends h ?_
  intro _ _ h1
  split
  · split
    · exact KeptIn.some h1.modSlot.takeStolen
    · exact KeptIn.ite (KeptIn.some h1) (KeptIn.ite (KeptIn.some h1.modSlot.schedule) (KeptIn.ite (KeptIn.some h1.modSlot)
        (KeptIn.some h1.probeNext)))
  · exact KeptIn.none
theorem execStealRetry_ends {core slot : Nat} (h : Kept m r s) : Ends m r (execStealRetry core slot s) :=
  Ends.ite (Ends.next h.modSlot.schedule) (Ends.next h)
theorem execSpawnrArrive_ends {msg : Nat} (h : Kept m r s) : Ends m r (execSpawnrArrive msg s) := by
  unfold execSpawnrArrive
  refine onMessage_ends h ?_
  intro _ _ h1
  split
  · refine KeptIn.ite (KeptIn.some h1.turnAway) ?_
    split
    rename_i e1
    exact KeptIn.some (Kept.post (KeptFst.of_eq (KeptFst.pushDeque h1) e1))
  · exact KeptIn.none
theorem Kept.lowerCounter {s0 : State} {a : Nat} {join : Word} (h : Kept m r s) (hs0 : Kept m r s0) :
    Kept m r (s.lowerCounter s0 a join) := by
  unfold State.lowerCounter
  refine h.ite ?_
  extract_lets _
  split
  · exact Kept.addCounter (h.modCore fun _ _ hk => hk.touch)
  · exact hs0.modCore fun _ _ hk => hk.request
  · exact h.report
theorem execSpawnrReply_ends {msg : Nat} (h : Kept m r s) : Ends m r (execSpawnrReply msg s) := by
  unfold execSpawnrReply
  refine onMessage_ends h ?_
  intro _ _ h1
  split
  · exact KeptIn.giveAnswer h1
  · exact KeptIn.map fun _ e1 => Kept.lowerCounter ((KeptIn.giveAnswer h1).of_eq e1) h
  · exact KeptIn.none
theorem execAmsgArrive_ends {msg : Nat} (h : Kept m r s) : Ends m r (execAmsgArrive msg s) := by
  unfold execAmsgArrive
  refine onMessage_ends h ?_
  intro _ _ h1
  split
  · refine KeptIn.ite (KeptIn.some h1.turnAway) ?_
    extract_lets _ ack
    have hack : ∀ (s : State), Kept m r s → Kept m r (ack s) := fun _ h2 => h2.ite h2.post
    refine KeptIn.ite (KeptIn.some (Kept.answerMsg (hack _ h1))) ?_
    split
    rename_i e1
    exact KeptIn.some (Kept.startService (hack _ (Kept.modCore (KeptSnd.of_eq (KeptSnd.nextTaskId h1) e1) fun _ _ hk =>
      hk.activate.same rfl)))
  · exact KeptIn.none
theorem execAmsgReply_ends {msg : Nat} (h : Kept m r s) : Ends m r (execAmsgReply msg s) := by
  unfold execAmsgReply
  refine onMessage_ends h ?_
  intro _ _ h1
  split
  · exact KeptIn.giveAnswer h1
  · exact KeptIn.none
theorem execMigrateArrive_ends {msg : Nat} (h : Kept m r s) : Ends m r (execMigrateArrive msg s) := by
  unfold execMigrateArrive
  refine onMessage_ends h ?_
  intro _ _ h1
  split
  · exact KeptIn.some (h1.ite h1.offerItem)
  · exact KeptIn.none
theorem execJdonePerform_ends {msg : Nat} (h : Kept m r s) : Ends m r (execJdonePerform msg s) := by
  unfold execJdonePerform
  split
  · exact Ends.next h
  · rename_i e
    split
    · extract_lets _ ack
      have hack : ∀ (s : State), Kept m r s → Kept m r (ack s) := fun _ h1 => h1.post
      refine Ends.ite (Ends.next (Kept.turnAway ((KeptIn.take h).of_eq e))) ?_
      refine Ends.ite (Ends.next h) ?_
      refine Ends.ite (Ends.next (hack _ (Kept.report (Kept.leave ((KeptIn.take h).of_eq e))))) ?_
      refine Ends.ite (Ends.next h.askPage) ?_
      split
      · exact Ends.next (hack _ (Kept.modCore ((KeptIn.take h).of_eq e) fun _ _ hk => hk.touch.leave).addCounter.wakeCounter)
      · exact Ends.next h
    · exact Ends.next h
theorem execTrapTargetArrive_ends {msg : Nat} (h : Kept m r s) : Ends m r (execTrapTargetArrive msg s) := by
  unfold execTrapTargetArrive
  refine onMessage_ends h ?_
  intro _ _ h1
  split
  · split
    rename_i e1
    exact KeptIn.giveAnswer (KeptFst.of_eq (KeptFst.trapOpAt h1) e1)
  · exact KeptIn.none
theorem KeptFst.tileCopy {c a la who : Nat} {t : Tile} (h : Kept m r s) : KeptFst m r (s.tileCopy c a la who t) := by
  unfold State.tileCopy
  extract_lets _ _
  split
  · exact KeptFst.mk h.askPage
  · exact KeptFst.mk (h.foldl fun _ _ h1 => h1.putLocal.leave)
theorem Kept.lateCopy {c j a num la : Nat} (h : Kept m r s) : Kept m r (s.lateCopy c j a num la) := by
  unfold State.lateCopy
  extract_lets ended
  have hended : ∀ (s : State), Kept m r s → Kept m r (ended s) := fun _ h1 => Kept.leaveAll (h1.modCore fun _ _ hk => hk.same rfl)
  split
  · exact hended _ h
  · split
    · rename_i e1
      exact hended _ (KeptFst.of_eq (KeptFst.tileCopy h) e1)
    · rename_i e1
      exact Kept.ite (hended _ h) (KeptFst.of_eq (KeptFst.tileCopy h) e1)
theorem execTgetCopyDone_ends {core slot : Nat} (h : Kept m r s) : Ends m r (execTgetCopyDone core slot s) := by
  unfold execTgetCopyDone
  extract_lets _
  split
  · exact Ends.next h.lateCopy
  · split
    · refine Ends.ite (Ends.next h) ?_
      split
      · exact Ends.next h
      · split
        · rename_i e4
          exact Ends.next (Kept.getD (KeptIn.giveReply (KeptFst.of_eq (KeptFst.tileCopy h) e4)) h)
        · rename_i e4
          exact Ends.next (KeptFst.of_eq (KeptFst.tileCopy h) e4)
    · exact Ends.next h

end Sys2Proof.Machine
end

section
/-! Barriers: what the operations of Machine/Barrier keep. -/

namespace Sys2Proof.Machine

variable {m r : Prop} {s : State}

theorem Kept.arrive {k c : Nat} (h : Kept m r s) : Kept m r (s.arrive k c) := h.same rfl
theorem arriveNow_runs {dom ch : BitVec 2} {ns : BitVec 1} : Runs m r (arriveNow dom ch ns : M (BitVec 32)) := by
  unfold arriveNow
  refine Runs.get_bind ?_
  intro _ _
  extract_lets _ jp
  have hjp : ∀ (x : Unit), Runs m r (jp x) := fun _ => Runs.bind (obtained_runs (Runs.get_bind fun _ h1 =>
    Runs.bind (Runs.set h1.arrive) fun _ => Runs.pure)) fun _ => Runs.bind (Runs.modifying fun _ h1 => h1.modMe) fun _ => Runs.pure
  exact outbound_runs.bind fun _ => Runs.ite (release_runs.bind fun _ => hjp ()) (hjp ())
theorem execBara_ends {o c : BitVec 2} {n : BitVec 1} {d : BitVec 5} (h : Kept m r s) : Ends m r (execBara o c n d s) :=
  runM_ends (Runs.get_bind fun _ _ => illegal_runs.ite (waitFor_runs.ite (arriveNow_runs.bind fun _ => retG_runs))) h
theorem execBarw_ends {o c : BitVec 2} {n : BitVec 1} {d : BitVec 5} (h : Kept m r s) : Ends m r (execBarw o c n d s) := by
  unfold execBarw
  refine runM_ends ?_ h
  refine Runs.get_bind ?_
  intro _ _
  extract_lets _ _ _ jp
  have hjp : ∀ (x : BitVec 32), Runs m r (jp x) := by
    intro x
    unfold jp
    refine Runs.get_bind ?_
    intro _ _
    refine Runs.ite (Runs.bind (Runs.modifying fun _ h3 => h3.modMe) fun _ => waitFor_runs) ?_
    extract_lets _ jp1
    have hjp1 : ∀ (x : Unit), Runs m r (jp1 x) := fun _ => Runs.bind (Runs.modifying fun _ h3 => h3.modMe) fun _ => retG_runs
    exact Runs.ite (acquire_runs.bind fun _ => hjp1 ()) (hjp1 ())
  refine illegal_runs.ite ?_
  refine Runs.bind (Runs.modifying fun _ h2 => h2.modMe) ?_
  intro _
  refine outbound_runs.bind ?_
  intro _
  split
  · exact Runs.ite (Runs.pure.bind fun _ => hjp _) (arriveNow_runs.bind fun _ => hjp _)
  · exact arriveNow_runs.bind fun _ => hjp _
theorem execBart_ends {o c : BitVec 2} {a d : BitVec 5} (h : Kept m r s) : Ends m r (execBart o c a d s) :=
  runM_ends (getG_runs.bind fun _ => Runs.get_bind fun _ _ => illegal_runs.ite (retOnce_runs.ite retOnce_runs)) h
theorem cellArg_runs {a : Word} : Runs m r (cellArg a : M (Nat × Nat)) := misaligned_runs.ite ownerCheck_runs
theorem execWaitq_ends {b a d : BitVec 5} (h : Kept m r s) : Ends m r (execWaitq b a d s) := by
  unfold execWaitq
  refine runM_ends ?_ h
  refine getG_runs.bind ?_
  intro _
  refine getG_runs.bind ?_
  intro _
  refine Runs.get_bind ?_
  intro _ _
  refine illegal_runs.ite ?_
  refine cellArg_runs.bind ?_
  intro _
  split
  rename_i x _ _
  refine Runs.bind (Runs.modifying fun _ h2 => h2.modMe) ?_
  intro _
  refine outbound_runs.bind ?_
  intro _
  refine Runs.bind (askFor_runs fun _ h2 => h2.post.ite h2) ?_
  intro _
  extract_lets jp
  have hjp : ∀ (x : Unit), Runs m r (jp x) := fun _ => retG_runs
  exact Runs.ite (acquire_runs.bind fun _ => hjp ()) (hjp ())
theorem execWake_ends {b a d : BitVec 5} (h : Kept m r s) : Ends m r (execWake b a d s) := by
  unfold execWake
  refine runM_ends ?_ h
  refine getG_runs.bind ?_
  intro _
  refine getG_runs.bind ?_
  intro _
  refine cellArg_runs.bind ?_
  intro _
  split
  rename_i x _ _
  refine outbound_runs.bind ?_
  intro _
  refine release_runs.bind ?_
  intro _
  extract_lets jp
  have hjp : ∀ (x : Unit), Runs m r (jp x) := by
    intro _
    unfold jp
    refine Runs.get_bind ?_
    intro _ h1
    extract_lets jp1
    have hjp1 : ∀ (x : Unit), Runs m r (jp1 x) := fun _ => done_runs.ite replyLater_runs
    exact Runs.ite (Runs.bind (Runs.set h1.post) fun _ => hjp1 ()) (hjp1 ())
  exact Runs.ite (postRoom_runs.bind fun _ => hjp ()) (hjp ())

end Sys2Proof.Machine
end

section
/-! The Ebb engine: what the operations of Machine/Ebb keep. -/

namespace Sys2Proof.Machine

variable {m r : Prop} {s : State}

theorem execPageWalkDone_ends {cove idx : Nat} (h : Kept m r s) : Ends m r (execPageWalkDone cove idx s) := by
  unfold execPageWalkDone
  split
  · exact Ends.next h
  · extract_lets drop
    have hdrop : ∀ (s : State), Kept m r s → Kept m r (drop s) := by
      intro _ h1
      unfold drop
      extract_lets s2
      have hs2 : Kept m r s2 := h1.modCove fun _ _ hk => hk.same rfl
      split
      · exact hs2
      · exact Kept.enterWalk (hs2.modCove fun _ _ hk => hk.same rfl)
    refine Ends.ite (Ends.next (h.modCove fun _ _ hk => hk.same rfl)) ?_
    split
    · exact Ends.next (Kept.endHints (Kept.foldl (hdrop _ h) fun _ _ h1 => h1.modSlot))
    · exact Ends.next (Kept.getD (KeptIn.makeRoom h) (Kept.endHints (Kept.fillTlb (hdrop _ h))))
theorem Kept.flushFrames {c : Nat} {t : TlbEntry} (h : Kept m r s) : Kept m r (s.flushFrames c t) :=
  ((h.withMem (fun hm => Mem.wf_puts _ _ (h.memOk hm)) rfl).foldl fun _ _ h1 => h1.mscSet).modCore fun _ _ hk => hk.same rfl
theorem execTlbInvalidate_ends {cove idx : Nat} (h : Kept m r s) : Ends m r (execTlbInvalidate cove idx s) := by
  unfold execTlbInvalidate
  extract_lets cores
  split
  · exact Ends.next h
  · extract_lets hit gone s1 s2 n'
    have h1 : Kept m r s1 := h.modCove fun _ _ hk => hk.same rfl
    have h2 : Kept m r s2 := h1.foldl fun s c h => by
      extract_lets s3
      have h3 : Kept m r s3 := h.foldl fun _ _ h => h.flushFrames
      exact h3.modCore fun _ _ hk => hk.same rfl
    exact Ends.ite (Ends.next h) (Ends.ite (Ends.next h) (Ends.next (h2.same rfl)))
theorem Kept.copySectors {l : List (Nat × Nat)} (h : Kept m r s) : Kept m r (s.copySectors l) :=
  h.withMem (fun hm => Mem.wf_foldl (h.memOk hm) fun _ _ e => Mem.wf_copy _ _ _ _ e) rfl
theorem execBankClaimPass_ends {core bank : Nat} (h : Kept m r s) : Ends m r (execBankClaimPass core bank s) := by
  unfold execBankClaimPass
  extract_lets _ _
  split
  · exact Ends.ite (Ends.next (h.modCore fun _ _ hk => hk.same rfl)) (Ends.next h)
  · exact Ends.next h
theorem Kept.endSave {c b d : Nat} (h : Kept m r s) : Kept m r (s.endSave c b d) := by
  unfold State.endSave
  extract_lets y s1 y'
  have h1 : Kept m r s1 := h.modCtx fun _ _ hk => hk.same rfl
  exact h1.modCore fun _ _ hk => hk.setBank
theorem execBankSave_ends {core bank : Nat} (h : Kept m r s) : Ends m r (execBankSave core bank s) := by
  unfold execBankSave
  extract_lets _ _
  split
  · exact Ends.next h
  · refine Ends.ite (Ends.next h) ?_
    split
    · exact Ends.next h.endSave
    · split
      · exact Ends.next h
      · refine Ends.next ?_
        refine h.withWalks ?_
        intro _ h1
        extract_lets s1
        have hs1 : Kept m r s1 := h1.withMem (fun hm => Mem.wf_puts _ _ (h1.memOk hm)) rfl
        exact hs1.endSave.ite (hs1.modCore fun _ _ hk => hk.setBank)
theorem Kept.beginRestore {c b : Nat} {l : List Saved} (h : Kept m r s) : Kept m r (s.beginRestore c b l) :=
  h.foldl fun _ _ h1 => h1.modCore fun _ _ hk => hk.setBank
theorem Kept.endRestore {c b a : Nat} {l : List Saved} (h : Kept m r s) : Kept m r (s.endRestore c b a l) := by
  unfold State.endRestore
  extract_lets s1
  have h1 : Kept m r s1 := h.modCtx fun _ _ hk => hk.same rfl
  exact h1.modCore fun _ _ hk => hk.setBank
theorem Kept.restoreChunk {c b a : Nat} {v : Saved} {k : Nat} {l : List Nat} (h : Kept m r s) : Kept m r (s.restoreChunk c b a v k l) :=
  h.ite (Kept.ite (Kept.report (h.modCore fun _ _ hk => hk.setBank)) (h.withMem (fun hm => Mem.wf_puts _ _ (h.memOk hm)) rfl))
theorem Kept.vacateOldest {core a : Nat} (h : Kept m r s) : Kept m r (s.vacateOldest core a) := by
  unfold State.vacateOldest
  extract_lets _
  split
  · exact h.modCore fun _ _ hk => hk.vacate
  · exact h
theorem execBankRestore_ends {core bank : Nat} (h : Kept m r s) : Ends m r (execBankRestore core bank s) := by
  unfold execBankRestore
  extract_lets _
  split
  · exact Ends.next h
  · split
    · refine Ends.ite (Ends.next h) ?_
      refine Ends.ite (Ends.next h.vacateOldest) ?_
      split
      · exact Ends.next h.endRestore
      · split
        · exact Ends.next h
        · refine Ends.next ?_
          refine h.withWalks ?_
          intro _ h1
          extract_lets _ s1
          have hs1 : Kept m r s1 := (h1.beginRestore.ite h1).restoreChunk
          exact hs1.endRestore.ite (hs1.modCore fun _ _ hk => hk.setBank)
    · exact Ends.next h
theorem execCbLoadStart_ends {core slot : Nat} (h : Kept m r s) : Ends m r (execCbLoadStart core slot s) := by
  unfold execCbLoadStart
  extract_lets _
  split
  · exact Ends.next h
  · exact Ends.ite (Ends.next h.modSlot) (Ends.next h)
theorem Kept.modEbbJob {v id : Nat} {f : EbbJob → EbbJob} (h : Kept m r s) : Kept m r (s.modEbbJob v id f) :=
  h.modCove fun _ _ hk => hk.same rfl
theorem Kept.loadEnds {c : Nat} {l : Loading} {status code addr : Nat} (h : Kept m r s) : Kept m r (s.loadEnds c l status code addr) := by
  unfold State.loadEnds
  split
  · exact h.modSlot
  · exact h.ite h.modEbbJob
  · exact h
theorem KeptFst.pinNew {a : Nat} {old l : List (Nat × Nat)} (h : Kept m r s) : KeptFst m r (s.pinNew a old l) :=
  KeptFst.mk (h.foldl fun _ _ h1 => h1.modCore fun _ _ hk => hk.pinPage)
theorem Kept.unpinAll {a : Nat} {l : List (Nat × Nat)} (h : Kept m r s) : Kept m r (s.unpinAll a l) :=
  h.foldl fun _ _ h1 => h1.modCore fun _ _ hk => hk.unpinPage.retryFills
theorem Kept.setLoading {c b : Nat} {l : Loading} (h : Kept m r s) : Kept m r (s.setLoading c b l) :=
  h.modCore fun _ _ hk => hk.setBank
theorem KeptFst.pinLoad {c b ctx : Nat} {l : Loading} (h : Kept m r s) : KeptFst m r (s.pinLoad c b ctx l) :=
  KeptFst.mk (Kept.setLoading (KeptFst.pinNew h))
theorem Kept.loadAbsent {core b ctx : Nat} {l : Loading} {c p : Nat} (h : Kept m r s) : Kept m r (s.loadAbsent core b ctx l c p) :=
  h.waitPage.unpinAll.setLoading.ite h.waitPage
theorem Kept.loadOver {core bank ctx : Nat} {l : Loading} {f : Side → Side} {status code a : Nat} (h : Kept m r s) :
    Kept m r (s.loadOver core bank ctx l f status code a) :=
  (h.modCore fun _ _ hk => hk.setBank).loadEnds.unpinAll.leaveAll
theorem KeptFst.loadStep {core bank ctx : Nat} {l : Loading} (h : Kept m r s) : KeptFst m r (s.loadStep core bank ctx l) := by
  unfold State.loadStep
  refine KeptFst.ite (KeptFst.mk h) ?_
  split
  rename_i e
  extract_lets _ bad _ _
  have hbad : ∀ (s : State), Kept m r s → ∀ (a : Nat), KeptFst m r (bad s a) := fun _ h1 _ =>
    KeptFst.mk (Kept.report (h1.foldl fun _ _ h2 => h2.loadOver))
  split
  · exact KeptFst.mk (Kept.loadAbsent (KeptFst.of_eq (KeptFst.ite (KeptFst.pinLoad h) (KeptFst.mk h)) e))
  · exact hbad _ (KeptFst.of_eq (KeptFst.ite (KeptFst.pinLoad h) (KeptFst.mk h)) e) _
  · exact KeptFst.mk (KeptFst.of_eq (KeptFst.ite (KeptFst.pinLoad h) (KeptFst.mk h)) e)
  · split
    · exact hbad _ (KeptFst.of_eq (KeptFst.ite (KeptFst.pinLoad h) (KeptFst.mk h)) e) _
    · extract_lets _ _ s21 s212
      have hs21 : Kept m r s21 := (Kept.foldl (KeptFst.of_eq (KeptFst.ite (KeptFst.pinLoad h) (KeptFst.mk h)) e) fun _ _ h1 =>
        h1.withMem (fun hm => Mem.wf_puts _ _ (h1.memOk hm)) rfl).foldl fun _ _ h1 => h1.touchPage
      have hs212 : Kept m r s212 := hs21.meter.ite hs21
      exact KeptFst.ite (KeptFst.mk (hs212.foldl fun _ _ h1 => h1.loadOver)) (KeptFst.mk (hs212.foldl fun _ _ h1 => h1.setLoading.leaveAll))
theorem execCbLoadDone_ends {core bank : Nat} (h : Kept m r s) : Ends m r (execCbLoadDone core bank s) := by
  unfold execCbLoadDone
  split
  · exact Ends.next (KeptFst.foldl (KeptFst.mk h) fun _ _ h1 => h1.ite (KeptFst.loadStep h1))
  · exact Ends.next h
theorem execCbfetch_ends {cove job : Nat} (h : Kept m r s) : Ends m r (execCbfetch cove job s) := by
  unfold execCbfetch
  split
  · exact Ends.next h
  · split
    · exact Ends.next h
    · refine Ends.ite (Ends.next h) ?_
      extract_lets _ s1 s2 _
      have hs1 : Kept m r s1 := h.foldl fun _ _ h1 => h1.ownBank
      have hs2 : Kept m r s2 := hs1.foldl fun _ _ h1 => h1.modCore fun _ _ hk => hk.setBank
      refine Ends.ite (Ends.next hs1) ?_
      split
      · exact Ends.next (Kept.modEbbJob (hs2.report.ite hs2))
      · exact Ends.next hs1
      · refine Ends.next ?_
        refine hs1.withWalks ?_
        intro _ h1
        extract_lets _
        split
        rename_i e3
        refine Kept.ite ?_ ?_
        · extract_lets s3
          have hs3 : Kept m r s3 := by
            unfold s3
            refine Kept.foldl ?_ fun _ _ h2 => h2.modCore fun _ _ hk => hk.setBank
            refine KeptFst.of_eq ?_ e3
            refine KeptFst.foldl (KeptFst.mk h1) ?_
            intro _ _ h2
            split
            rename_i e4
            exact KeptFst.mk (KeptFst.of_eq (KeptFst.beginLoad h2) e4)
          exact Kept.modEbbJob (hs3.same rfl)
        · extract_lets s3
          have hs3 : Kept m r s3 := by
            unfold s3
            refine Kept.foldl ?_ fun _ _ h2 => h2.foldl fun _ _ h3 => KeptFst.pinLoad h3
            refine KeptFst.of_eq ?_ e3
            refine KeptFst.foldl (KeptFst.mk h1) ?_
            intro _ _ h2
            split
            rename_i e4
            exact KeptFst.mk (KeptFst.of_eq (KeptFst.beginLoad h2) e4)
          exact hs3.modEbbJob
theorem execEbbFootprint_ends {core item : Nat} (h : Kept m r s) : Ends m r (execEbbFootprint core item s) := by
  unfold execEbbFootprint
  split
  · exact Ends.next h
  · extract_lets _ _ _ _ _ _ _ _ _ s1
    have hs1 : Kept m r s1 := ((h.foldl fun _ _ h2 => h2.modCore fun _ _ hk => (hk.foldl fun _ _ hk1 =>
      hk1.pinPage).foldl fun _ _ hk2 => hk2.request).foldl fun _ _ h2 => h2.foldl fun _ _ h3 => h3.ownBank).modCore fun _ _ hk =>
      hk.setFootprint
    exact Ends.ite (Ends.next h) (Ends.next (hs1.schedule.startService.ite hs1))
theorem Kept.fillFails {c f : Nat} {fr : Frame} (h : Kept m r s) : Kept m r (s.fillFails c f fr) :=
  Kept.report (h.modCore fun _ _ hk => hk.same rfl)
theorem Kept.moveChunks {c f : Nat} {fr : Frame} {n : Nat} {after : State → State} (h : Kept m r s) (hafter : ∀ t, Kept m r t → Kept m r (after t)) :
    Kept m r (s.moveChunks c f fr n after) := by
  unfold State.moveChunks
  extract_lets _
  split
  · exact h.fillFails.ite (h.withWalks fun _ h1 => hafter _ h1.copySectors)
  · exact h.fillFails.ite h
  · exact h
theorem Kept.moveChunk {core frame : Nat} (h : Kept m r s) : Kept m r (s.moveChunk core frame) := by
  unfold State.moveChunk
  split
  · exact h
  · exact h.ite (h.moveChunks fun _ h1 => h1.modCore fun _ _ hk => hk.same rfl)
theorem execLocalPageFillDone_ends {core frame : Nat} (h : Kept m r s) : Ends m r (execLocalPageFillDone core frame s) := by
  unfold execLocalPageFillDone
  split
  · exact Ends.next h
  · exact Ends.ite (Ends.ite (Ends.next h) (Ends.next (h.modCore fun _ _ hk => Core.RangesOk.retryFills (hk.same rfl))))
      (Ends.ite (Ends.next h) (Ends.next (h.moveChunks fun _ h1 => h1.modCore fun _ _ hk => Core.RangesOk.retryFills (hk.same rfl))))
theorem execLocalPageSpillDone_ends {core frame : Nat} (h : Kept m r s) : Ends m r (execLocalPageSpillDone core frame s) := by
  unfold execLocalPageSpillDone
  split
  · exact Ends.next h
  · refine Ends.ite (Ends.next h) (Ends.next ?_)
    refine h.moveChunks fun _ h1 => h1.modCore fun _ k hk => ?_
    refine Core.RangesOk.ite ?_ ?_
    · extract_lets kept k1
      have hk1 : k1.RangesOk := hk.same rfl
      split
      · exact Core.RangesOk.getD (fun _ e => Core.RangesOk.obtain hk1 e) (hk1.same rfl)
      · exact hk1
    · split
      · exact hk.same rfl
      · exact Core.RangesOk.retryFills (hk.same rfl)
theorem Kept.ebbMoved {v : Nat} {j : EbbJob} {code addr : Nat} (h : Kept m r s) : Kept m r (s.ebbMoved v j code addr) :=
  h.unpinAll.leaveAll.modEbbJob
theorem ebbStep_kept {cmd cove job : Nat} {f : EbbJob → State} (h : Kept m r s) (hf : ∀ (a : EbbJob), Kept m r (f a)) :
    Kept m r (ebbStep cmd cove job s f) := by
  unfold ebbStep
  split
  · exact h.ite (h.ite (h.ebbMoved.ite (hf _)))
  · exact h
theorem KeptFst.pinChunk {v : Nat} {j : EbbJob} {l : List (Nat × Nat)} (h : Kept m r s) : KeptFst m r (s.pinChunk v j l) :=
  KeptFst.mk (Kept.modEbbJob (KeptFst.pinNew h))
theorem Kept.chunkAbsent {v : Nat} {j : EbbJob} {need : List (Nat × Nat)} {c p : Nat} (h : Kept m r s) :
    Kept m r (s.chunkAbsent v j need c p) :=
  h.waitPage.unpinAll.modEbbJob.ite h.waitPage
theorem execEbbCopy_ends {cove job : Nat} (h : Kept m r s) : Ends m r (execEbbCopy cove job s) := by
  unfold execEbbCopy
  refine Ends.next ?_
  refine ebbStep_kept h ?_
  intro _
  refine Kept.ite ?_ ?_
  · split
    · exact Kept.ebbMoved (h.report.ite h)
    · exact h
    · exact h.withWalks fun _ h1 => h1.modEbbJob
  · extract_lets _ _ _ _
    split
    rename_i e
    extract_lets _ touch _
    have htouch : ∀ (s : State), Kept m r s → ∀ (w : Nat), Kept m r (touch s w) := fun _ h1 _ => h1.foldl fun _ _ h2 => h2.touchPage
    split
    · exact Kept.chunkAbsent (KeptFst.of_eq (KeptFst.pinChunk h) e)
    · exact Kept.ebbMoved (Kept.ite (Kept.report (KeptFst.of_eq (KeptFst.pinChunk h) e)) (KeptFst.of_eq (KeptFst.pinChunk h) e))
    · exact KeptFst.of_eq (KeptFst.pinChunk h) e
    · extract_lets _ _ _ s21
      have hs21 : Kept m r s21 := Kept.meter (htouch _ (htouch _ (Kept.leaveAll (Kept.withMem (KeptFst.of_eq (KeptFst.pinChunk h) e)
        (fun hm => Mem.wf_puts _ _ (Kept.memOk (KeptFst.of_eq (KeptFst.pinChunk h) e) hm)) rfl)) _) _)
      exact Kept.modEbbJob (hs21.unpinAll.ite hs21)
theorem execEbbFill_ends {cove job : Nat} (h : Kept m r s) : Ends m r (execEbbFill cove job s) := by
  unfold execEbbFill
  refine Ends.next ?_
  refine ebbStep_kept h ?_
  intro _
  extract_lets _ _
  split
  · exact h.leaveAll.meter.modEbbJob
  · exact h.modEbbJob.waitPage
  · exact h.ebbMoved
  · exact h.ebbMoved
theorem execEbbSpill_ends {cove job : Nat} (h : Kept m r s) : Ends m r (execEbbSpill cove job s) := by
  unfold execEbbSpill
  refine Ends.next ?_
  refine ebbStep_kept h ?_
  intro _
  extract_lets _ _ _ on
  have hon : ∀ (s : State), Kept m r s → ∀ (n : Nat) (pins : List (Nat × Nat)), Kept m r (on s n pins) := fun _ h1 _ _ => h1.modEbbJob
  split
  · refine Kept.ite ?_ (hon _ h _ _)
    refine h.report.ebbMoved.ite ?_
    split
    · exact h.ebbMoved
    · exact h
    · refine h.withWalks ?_
      intro _ h1
      extract_lets s1 _
      have hs1 : Kept m r s1 := h1.copySectors.touchPage
      refine Kept.ite ?_ ?_
      · refine hon _ ?_ _ _
        refine hs1.meter.modCore ?_
        intro _ _ hk
        split
        · exact hk.same rfl
        · exact hk
      · refine Kept.ite ?_ (hon _ hs1.meter _ _)
        refine hon _ ?_ _ _
        refine Kept.unpinAll ?_
        refine hs1.meter.modCore ?_
        intro _ _ hk
        split
        · exact hk.same rfl
        · exact hk
  · exact hon _ h _ _
theorem Kept.ebbOver {v id : Nat} (h : Kept m r s) : Kept m r (s.ebbOver v id) := by
  unfold State.ebbOver
  split
  · exact h.modEbbJob.sendEngineTides
  · exact h
theorem execEbbJobDone_ends {cove job : Nat} (h : Kept m r s) : Ends m r (execEbbJobDone cove job s) := by
  unfold execEbbJobDone
  split
  · exact Ends.next h
  · refine Ends.ite (Ends.next h) ?_
    extract_lets _ s1 _ _ _ _
    have hs1 : Kept m r s1 := (h.tagLines.ite h).modEbbJob
    exact Ends.ite (Ends.next hs1.ebbOver) (Ends.next hs1.modEbbJob.post)
theorem Kept.drainEbb {v a : Nat} (h : Kept m r s) : Kept m r (s.drainEbb v a) :=
  Kept.sendEngineTides ((h.foldl fun _ _ h1 => h1.unpinAll.leaveAll).modCove fun _ _ hk => hk.same rfl)
theorem Cove.RangesOk.withEbb {k : Cove} {e : Ebb} (hk : k.RangesOk) (he : e.seq = if k.ebb.seq + 1 ≥ 2 ^ 26 then 1 else k.ebb.seq + 1) :
    ({ k with ebb := e } : Cove).RangesOk := by
  obtain ⟨hm, h1, h2⟩ := hk
  refine ⟨hm, ?_⟩
  dsimp only
  rw [he]
  split <;> omega
theorem KeptSnd.enqueueEbb {v : Nat} {j : EbbJob} (h : Kept m r s) : KeptSnd m r (s.enqueueEbb v j) :=
  Kept.sendEngineTides (h.setCove fun hr => (h.cove v hr).withEbb rfl)
theorem execEbq_ends {a d : BitVec 5} (h : Kept m r s) : Ends m r (execEbq a d s) := by
  unfold execEbq
  refine runM_ends ?_ h
  refine getG_runs.bind ?_
  intro _
  refine descriptor_runs.bind ?_
  intro _
  split
  refine Runs.bind ?_ fun _ => retG_runs
  refine obtained_runs ?_
  intro _ h1
  refine Stays.ite (Stays.ok h1) ?_
  split
  rename_i e
  exact Stays.ok (KeptSnd.of_eq (KeptSnd.enqueueEbb h1) e)
theorem execCblda_ends {msg : BitVec 2} {k : BitVec 3} {b a d : BitVec 5} (h : Kept m r s) : Ends m r (execCblda msg k b a d s) := by
  unfold execCblda
  refine runM_ends ?_ h
  refine bankArg_runs.bind ?_
  intro _
  refine loadArgs_runs.bind ?_
  intro _
  refine release_runs.bind ?_
  intro _
  refine outbound_runs.bind ?_
  intro _
  refine Runs.bind ?_ fun _ => retG_runs
  refine obtained_runs ?_
  intro _ h1
  refine Stays.ite (Stays.ok h1) ?_
  split
  rename_i e
  exact Stays.ok (KeptSnd.of_eq (KeptSnd.enqueueEbb h1) e)
theorem execEbwait_ends {a d : BitVec 5} (h : Kept m r s) : Ends m r (execEbwait a d s) := by
  unfold execEbwait
  refine runM_ends ?_ h
  refine jobArg_runs.bind ?_
  intro _
  refine Runs.get_bind ?_
  intro _ _
  refine illegal_runs.ite ?_
  refine Runs.bind ?_ ?_
  · refine obtained_runs ?_
    intro _ h2
    dsimp only
    split
    · exact Stays.ite (Stays.ok h2) (Stays.wait h2)
    · exact Stays.ok h2
  · intro _
    extract_lets _ jp
    have hjp : ∀ (x : Unit), Runs m r (jp x) := fun _ => retG_runs
    exact stopTrap_runs.ite (Runs.ite (acquire_runs.bind fun _ => hjp ()) (hjp ()))
theorem execEbwaitNw_ends {a d : BitVec 5} (h : Kept m r s) : Ends m r (execEbwaitNw a d s) :=
  runM_ends (jobArg_runs.bind fun _ => Runs.bind (obtained_runs fun _ h1 => Stays.ok h1) fun _ => retG_runs) h

end Sys2Proof.Machine
end

section
/-! Records: what the operations of Machine/Record keep. -/

namespace Sys2Proof.Machine

variable {m r : Prop} {s : State}

theorem Kept.faultEvent {core a : Nat} (h : Kept m r s) : Kept m r (s.faultEvent core a) := by
  unfold State.faultEvent
  extract_lets k
  have hk : r → k.RangesOk := fun hr => h.ctx _ hr
  split
  · exact Kept.report (h.setCtx fun hr => Ctx.RangesOk.same (hk hr) rfl)
  · exact Kept.report (h.setCtx fun hr => Ctx.RangesOk.same (hk hr) rfl)
  · exact h.setCtx fun hr => Ctx.RangesOk.same (hk hr) rfl
  · exact h
theorem Kept.modQueue {c q a : Nat} {f : Queue → Queue} (h : Kept m r s) (hf : ∀ (u : Queue), u.InRing → (f u).InRing) :
    Kept m r (s.modQueue c q a f) := by
  unfold State.modQueue
  refine h.foldl ?_
  intro _ _ h1
  split
  · rename_i e
    exact h1.modCore fun hr _ hk => hk.withQueue rfl (hf _ (Core.RangesOk.queue (h1.core _ hr) e))
  · exact h1
theorem Kept.place {c q x : Nat} {rc : Rec} (h : Kept m r s) : Kept m r (s.place c q x rc) := by
  unfold State.place
  extract_lets l hm s1
  have h1 : Kept m r s1 := h.foldl fun s d h => by
    split
    · rename_i e
      exact Kept.modCore (h.foldl fun _ _ hu => hu.putBytes) fun hr _ hk => hk.withQueue rfl ((h.core d hr).queue e).withTail
    · exact h
  have h2 : KeptSnd m r (s1.nextTaskId hm) := KeptSnd.nextTaskId h1
  split
  · exact h
  · exact h1.ite (Kept.offerItem h2)
theorem Queue.InRing.close {u : Queue} {n : Nat} {late : Bool} {mask : Word} (hu : u.InRing) : (u.close n late mask).InRing :=
  hu.ite (hu.same rfl)
theorem Queue.InRing.closeNormal {u : Queue} {a : Ctx} (hu : u.InRing) : (u.closeNormal a).InRing := hu.ite hu.close
theorem Queue.InRing.tide {u : Queue} {a : Ctx} {src : BitVec 16} {v : BitVec 48} (hu : u.InRing) : (u.tide a src v).InRing :=
  hu.same rfl
theorem Kept.sendBwTide {v a : Nat} (h : Kept m r s) : Kept m r (s.sendBwTide v a) := by
  unfold State.sendBwTide
  split
  · exact h
  · exact h.ite (Kept.sendTides (h.modCove fun _ _ hk => hk.same rfl))
theorem Kept.tileSent {v num : Nat} {ok : Bool} (h : Kept m r s) : Kept m r (s.tileSent v num ok) := by
  unfold State.tileSent
  refine h.modCove ?_
  intro _ _ hk
  split
  · exact hk
  · exact hk.ite (Cove.RangesOk.ite (hk.same rfl) (hk.same rfl))
theorem Kept.tell {msg : Msg} {w : Sender} {code : Nat} (h : Kept m r s) : Kept m r (s.tell msg w code) := by
  unfold State.tell
  split
  · exact h.post
  · exact Kept.ite (h.same rfl) h
  · extract_lets s1
    have hs1 : Kept m r s1 := Kept.ite (h.modCove fun _ _ hk => hk.same rfl) h
    split
    · exact hs1.jobOver
    · exact hs1
  · extract_lets s1
    have hs1 : Kept m r s1 := Kept.ite (h.modCove fun _ _ hk => hk.same rfl) h
    exact hs1.ebbOver
  · split
    · exact h.tileSent.sendBwTide
    · exact h
  · exact h
theorem Received.arriveRec {c q : Nat} {rc : Rec} {a : Nat} (h : Kept m r s) : Received m r (s.arriveRec c q rc a) := by
  unfold State.arriveRec
  extract_lets k trapQ n
  refine Received.ite (Received.rejected h) ?_
  split
  · exact Received.rejected h
  · extract_lets late rc e ts rc s1 s2 s3
    have hs1 : Kept m r s1 := h.modQueue fun _ h1 => h1.same rfl
    refine Received.ite (Received.rejected h) ?_
    refine Received.ite (Received.rejected (h.modQueue fun _ h1 => h1.same rfl)) ?_
    refine Received.blocked.ite ?_
    refine Received.ite (Received.full h) ?_
    refine Received.ite (Received.accepted (h.modQueue fun _ h1 => h1.same rfl)) ?_
    refine Received.ite (Received.ite (Received.accepted (hs1.modQueue fun _ h1 => h1.same rfl)) (Received.full hs1)) ?_
    exact Received.accepted (Kept.ite (hs1.place.modQueue fun _ h1 => h1.tide.closeNormal) hs1.place)
theorem Kept.storeTrap {a : Nat} {rc : Rec} (h : Kept m r s) : Kept m r (s.storeTrap a rc) := by
  unfold State.storeTrap
  extract_lets k s1
  have h1 : Kept m r s1 := Kept.ite (h.same rfl) (h.setCtx fun hr => (h.ctx a hr).same rfl)
  exact h1.faultEvent
theorem KeptIn.refuse {msg : Msg} {c q : Nat} {rc : Rec} {a : Nat} {w : Sender} (h : Kept m r s) :
    KeptIn m r id (s.refuse msg c q rc a w) := by
  unfold State.refuse
  refine KeptIn.ite (KeptIn.some h.storeTrap) ?_
  refine KeptIn.none.ite ?_
  split
  · exact KeptIn.none
  · exact KeptIn.ite (KeptIn.some h.tell) (KeptIn.ite (KeptIn.some h.tell) (KeptIn.ite (KeptIn.some (h.modQueue fun _ h1 =>
      h1.same rfl)) (KeptIn.some (h.same rfl))))
theorem execRecordArrive_ends {msg : Nat} (h : Kept m r s) : Ends m r (execRecordArrive msg s) := by
  unfold execRecordArrive
  refine onMessage_ends h ?_
  intro _ _ h1
  split
  · split
    · rename_i e1
      exact KeptIn.some (Kept.tell (Received.of_accepted (Received.arriveRec h1) e1))
    · rename_i e1
      exact KeptIn.some (Kept.tell (Received.of_rejected (Received.arriveRec h1) e1))
    · rename_i e1
      exact KeptIn.refuse (Received.of_full (Received.arriveRec h1) e1)
    · exact KeptIn.none
  · exact KeptIn.none
theorem KeptIn.sendAgain {msg : Msg} (h : Kept m r s) : KeptIn m r id (s.sendAgain msg) := by
  unfold State.sendAgain
  split
  · split
    · rename_i e1
      exact KeptIn.some (Kept.tell (Received.of_accepted (Received.arriveRec h) e1))
    · rename_i e1
      exact KeptIn.some (Kept.tell (Received.of_rejected (Received.arriveRec h) e1))
    · exact KeptIn.none
  · exact KeptIn.none
theorem execRecordResend_ends {core q : Nat} (h : Kept m r s) : Ends m r (execRecordResend core q s) := by
  unfold execRecordResend
  split
  · exact Ends.next h
  · extract_lets x k
    refine Ends.ite (Ends.next h) ?_
    split
    · extract_lets s1
      have h1 : Kept m r s1 := h.setCtx fun hr => (h.ctx x hr).same rfl
      exact Ends.ite (Ends.next h) (Ends.next h1.place)
    · split
      · exact Ends.next h
      · extract_lets s1
        have h1 : Kept m r s1 := h.modQueue fun _ hu => hu.same rfl
        split
        · rename_i e
          exact Ends.next ((KeptIn.sendAgain h1).of_eq e)
        · exact Ends.next h
theorem execRecordResendRetry_ends {idx : Nat} (h : Kept m r s) : Ends m r (execRecordResendRetry idx s) := by
  unfold execRecordResendRetry
  split
  · exact Ends.next h
  · refine Ends.ite (Ends.next h) ?_
    extract_lets s1
    have h1 : Kept m r s1 := h.same rfl
    split
    · split
      · rename_i e
        exact Ends.next (Kept.tell ((Received.arriveRec h1).of_accepted e))
      · rename_i e
        exact Ends.next (Kept.tell ((Received.arriveRec h1).of_rejected e))
      · rename_i e
        exact Ends.next (Kept.getD (KeptIn.refuse ((Received.arriveRec h1).of_full e)) h)
      · exact Ends.next h
    · exact Ends.next h
theorem execOverflowRecord_ends {core q : Nat} (h : Kept m r s) : Ends m r (execOverflowRecord core q s) := by
  unfold execOverflowRecord
  split
  · exact Ends.next h
  · extract_lets rc s1
    have h1 : Kept m r s1 := h.modQueue fun _ hu => hu.same rfl
    exact Ends.ite (Ends.next h) (Ends.next h1.place)
theorem execEmitAccept_ends {msg : Nat} (h : Kept m r s) : Ends m r (execEmitAccept msg s) := by
  unfold execEmitAccept
  refine onMessage_ends h ?_
  intro _ _ h1
  split
  · exact KeptIn.giveReply h1
  · exact KeptIn.none
theorem Core.RangesOk.mapQueues {k : Core} {f : Queue → Queue} (hk : k.RangesOk) (hf : ∀ u, u.InRing → (f u).InRing) :
    ({ k with queues := k.queues.map (fun q => (q.1, f q.2)) } : Core).RangesOk := by
  obtain ⟨hq, hb⟩ := hk
  refine ⟨fun p hp => ?_, hb⟩
  obtain ⟨q, hq', rfl⟩ := List.mem_map.1 hp
  exact hf _ (hq q hq')
/-- A queue without the waiters that a message has left. -/
def Queue.without (n : Nat) (u : Queue) : Queue := { u with waiters := u.waiters.filter (fun m => m.id != n) }
theorem KeptIn.withdraw {n : Nat} (h : Kept m r s) : KeptIn m r id (s.withdraw n) := by
  refine KeptIn.none.ite (KeptIn.some ?_)
  exact h.mapCores (fun _ k hk => hk.mapQueues (f := Queue.without n) fun _ hu => hu.same rfl) rfl
theorem execEmitTimeout_ends {core slot : Nat} (h : Kept m r s) : Ends m r (execEmitTimeout core slot s) := by
  unfold execEmitTimeout
  extract_lets _
  split
  · exact Ends.next h
  · refine Ends.ite (Ends.next h) ?_
    split
    · rename_i e1
      exact Ends.next (Kept.getD (KeptIn.giveReply ((KeptIn.withdraw h).of_eq e1)) h)
    · exact Ends.next h
theorem execSensorHeartbeat_ends {stream : Nat} (h : Kept m r s) : Ends m r (execSensorHeartbeat stream s) := by
  unfold execSensorHeartbeat
  split
  · exact Ends.next h
  · extract_lets s1
    have h1 : Kept m r s1 := h.same rfl
    exact Ends.ite (Ends.next h) (Ends.next h1.sendTides)
theorem execTidemarkUpdateArrive_ends {msg : Nat} (h : Kept m r s) : Ends m r (execTidemarkUpdateArrive msg s) := by
  unfold execTidemarkUpdateArrive
  refine onMessage_ends h ?_
  intro _ _ h1
  split
  · refine KeptIn.none.ite ?_
    split
    · refine KeptIn.some ?_
      refine h1.ite ?_
      refine h1.modCore ?_
      intro _ _ hk
      split
      · rename_i e1
        exact Core.RangesOk.ite (hk.withQueue rfl (Queue.InRing.closeNormal (Queue.InRing.tide (Core.RangesOk.queue hk e1)))) hk
      · exact hk
    · extract_lets _
      split
      · exact KeptIn.ite (KeptIn.some h1) (KeptIn.none.ite (KeptIn.some (h1.modCove fun _ _ hk => hk.same rfl)))
      · exact KeptIn.some h1
    · exact KeptIn.some h1
  · exact KeptIn.none
theorem execWindowTimeout_ends {core q : Nat} (h : Kept m r s) : Ends m r (execWindowTimeout core q s) := by
  unfold execWindowTimeout
  split
  · exact Ends.next h
  · exact Ends.ite (Ends.next h) (Ends.next (h.modQueue fun _ h1 => h1.close.closeNormal))
theorem execWindowEndClose_ends {core q : Nat} (h : Kept m r s) : Ends m r (execWindowEndClose core q s) := by
  unfold execWindowEndClose
  split
  · exact Ends.next h
  · exact Ends.ite (Ends.next h) (Ends.next (h.modQueue fun _ h1 => h1.close))
theorem execWcloseWrite_ends {core q : Nat} (h : Kept m r s) : Ends m r (execWcloseWrite core q s) := by
  unfold execWcloseWrite
  split
  · exact Ends.next h
  · split
    · exact Ends.next h
    · exact Ends.ite (Ends.next h) (Ends.next (Kept.place (h.modQueue fun _ h1 => h1.same rfl)))
theorem execTimerExpiry_ends {idx : Nat} (h : Kept m r s) : Ends m r (execTimerExpiry idx s) := by
  unfold execTimerExpiry
  split
  · exact Ends.next h
  · extract_lets n rc s1
    have h1 : Kept m r s1 := h.same rfl
    exact Ends.ite (Ends.next h) (Ends.next h1.post)

end Sys2Proof.Machine
end

section
/-! The breakwater: what the operations of Machine/Coalesce keep. -/

namespace Sys2Proof.Machine

variable {m r : Prop} {s : State}

theorem Kept.modStream {v n : Nat} {f : TileStream → TileStream} (h : Kept m r s) : Kept m r (s.modStream v n f) := by
  unfold State.modStream
  refine h.modCove ?_
  intro _ _ hk
  split
  · exact hk.same rfl
  · exact hk
theorem Kept.putTileState {v : Nat} {t : Tile} (h : Kept m r s) : Kept m r (s.putTileState v t) :=
  h.modCove fun _ _ hk => hk.same rfl
theorem Kept.keepTile {v : Nat} {t : Tile} (h : Kept m r s) : Kept m r (s.keepTile v t) := h.putTileState.putTile
theorem Kept.seal {v : Nat} {t : Tile} {cause : Nat} {early : Bool} (h : Kept m r s) : Kept m r (s.seal v t cause early) := by
  unfold State.seal
  extract_lets n s1
  have h1 : Kept m r s1 := h.modCove fun _ _ hk => hk.same rfl
  exact h1.keepTile
theorem Kept.freeTile {v num : Nat} (h : Kept m r s) : Kept m r (s.freeTile v num) := by
  unfold State.freeTile
  refine h.modCove ?_
  intro _ _ hk
  split
  · exact hk
  · exact hk.same rfl
theorem Kept.sealAll {v : Nat} {p : Tile → Bool} {cause : Nat} (h : Kept m r s) : Kept m r (s.sealAll v p cause) :=
  Kept.foldl (h.same rfl) fun _ _ h1 => h1.seal.ite h1.freeTile
theorem Kept.closeTiles {v st n cause : Nat} (h : Kept m r s) : Kept m r (s.closeTiles v st n cause) := by
  unfold State.closeTiles
  split
  · exact h
  · exact h.ite h.sealAll.modStream
theorem Kept.closeStream {v st : Nat} (h : Kept m r s) : Kept m r (s.closeStream v st) := by
  unfold State.closeStream
  split
  · exact h
  · exact h.ite h.closeTiles
theorem Kept.relieve {v st : Nat} {t : TileStream} {spare : List (Nat × Nat)} {k : Int} {l : List Tile} (h : Kept m r s) :
    Kept m r (s.relieve v st t spare k l) := by
  induction l generalizing s with
  | nil => exact h
  | cons o l ih => exact h.ite ((ih h.freeTile).ite (ih h))
theorem KeptFst.openTile {v st : Nat} {t : TileStream} {tx ty : Nat} {k : Int} {spare : List (Nat × Nat)} (h : Kept m r s) :
    KeptFst m r (s.openTile v st t tx ty k spare) := by
  unfold State.openTile
  extract_lets s1 b used blocks o s2 s3
  have h1 : Kept m r s1 := h.relieve
  have h2 : Kept m r s2 := h1.withMem (fun hm => Mem.wf_foldl (h1.memOk hm) fun _ _ e => Mem.wf_clear _ _ _ e) rfl
  have h3 : Kept m r s3 := h2.modCove fun _ _ hk => hk.same rfl
  exact KeptFst.ite (KeptFst.mk h1) (KeptFst.mk h3.keepTile)
theorem KeptFst.openAll {v st : Nat} {t : TileStream} {k : Int} {all l : List (Nat × Nat)} (h : Kept m r s) :
    KeptFst m r (s.openAll v st t k all l) := by
  induction l generalizing s with
  | nil => exact KeptFst.mk h
  | cons p l ih =>
    unfold State.openAll
    refine (ih h).ite ?_
    split
    · rename_i e
      exact ih ((KeptFst.openTile h).of_eq e)
    · rename_i e
      exact (KeptFst.openTile h).of_eq e
theorem Kept.pressed {v st : Nat} {t : TileStream} (h : Kept m r s) : Kept m r (s.pressed v st t) := by
  unfold State.pressed
  extract_lets s1 l
  have h1 : Kept m r s1 := h.modStream
  refine h1.ite ?_
  split
  · exact h1.seal
  · exact h1
theorem KeptFst.cellUpdate {v : Nat} {t : TileStream} {o : Tile} {i j : Int} {rc : Rec} {halo : Bool} (h : Kept m r s) :
    KeptFst m r (s.cellUpdate v t o i j rc halo) := by
  unfold State.cellUpdate
  extract_lets _ _ _ _ _ _ _ _ _
  split
  · exact KeptFst.mk h.putTile
  · exact KeptFst.mk h.putTile
  · exact KeptFst.mk h.putTile
  · exact KeptFst.ite (KeptFst.mk h) (KeptFst.mk h.putTile)
theorem Kept.store {v st : Nat} {t : TileStream} {k : Int} {rc : Rec} {xi yi : Nat} {home p : Nat × Nat} (h : Kept m r s) :
    Kept m r (s.store v st t k rc xi yi home p) := by
  unfold State.store
  split
  · exact h
  · extract_lets _
    split
    rename_i e1
    exact Kept.keepTile (KeptFst.of_eq (KeptFst.cellUpdate h) e1)
theorem Kept.sealFull {v st : Nat} {t : TileStream} {k : Int} {p : Nat × Nat} (h : Kept m r s) : Kept m r (s.sealFull v st t k p) := by
  unfold State.sealFull
  split
  · exact h
  · exact h.seal.ite h
theorem Kept.bwRecord {v st : Nat} {t : TileStream} {rc : Rec} (h : Kept m r s) : Kept m r (s.bwRecord v st t rc) := by
  unfold State.bwRecord
  extract_lets x y x0 y0 l
  refine h.modStream.ite ?_
  split
  · exact h.modStream
  · split
    · rename_i e
      exact Kept.pressed ((KeptFst.openAll h).of_eq e)
    · rename_i s1 e
      extract_lets s2
      have h1 : Kept m r s1 := (KeptFst.openAll h).of_eq e
      have h2 : Kept m r s2 := h1.foldl fun _ _ h => h.store
      exact h2.foldl fun _ _ h => h.sealFull
theorem Kept.bwPop {v : Nat} (h : Kept m r s) : Kept m r (s.bwPop v) := h.modCove fun _ _ hk => hk.same rfl
theorem execBwRecordArrive_ends {msg : Nat} (h : Kept m r s) : Ends m r (execBwRecordArrive msg s) := by
  unfold execBwRecordArrive
  refine onMessage_ends h ?_
  intro _ _ h1
  split
  · refine KeptIn.ite (KeptIn.some h1.tell) ?_
    refine KeptIn.ite (KeptIn.some (Kept.tell (h1.modCove fun _ _ hk => hk.same rfl))) ?_
    refine KeptIn.ite (KeptIn.some h1.modStream) ?_
    split
    · exact KeptIn.ite (KeptIn.some h1.tell) KeptIn.none
    · exact KeptIn.none
  · exact KeptIn.none.ite (KeptIn.some (h1.modCove fun _ _ hk => hk.same rfl))
  · exact KeptIn.none
theorem execBwRecordStep_ends {cove : Nat} (h : Kept m r s) : Ends m r (execBwRecordStep cove s) := by
  unfold execBwRecordStep
  split
  · extract_lets _
    split
    · exact Ends.next h.bwPop
    · exact Ends.ite (Ends.next h.bwPop) (Ends.next (h.bwPop.bwRecord.modStream.closeStream.ite h.bwPop.bwRecord).sendBwTide)
  · exact Ends.next h
theorem execBwTidemarkStep_ends {cove : Nat} (h : Kept m r s) : Ends m r (execBwTidemarkStep cove s) := by
  unfold execBwTidemarkStep
  split
  · extract_lets _
    split
    · exact Ends.next h.bwPop
    · exact Ends.next h.bwPop.modStream.closeStream.sendBwTide
  · exact Ends.next h
theorem execBwFlushStep_ends {cove : Nat} (h : Kept m r s) : Ends m r (execBwFlushStep cove s) := by
  unfold execBwFlushStep
  split
  · exact Ends.next (Kept.getD (KeptIn.giveReply h.bwPop.sealAll.sendBwTide) h)
  · exact Ends.next h
theorem execBwReleaseStep_ends {cove : Nat} (h : Kept m r s) : Ends m r (execBwReleaseStep cove s) := by
  unfold execBwReleaseStep
  split
  · exact Ends.ite (Ends.next h) (Ends.ite (Ends.next h.bwPop) (Ends.next (h.bwPop.modCove fun _ _ hk => hk.same rfl)))
  · exact Ends.next h
theorem execBwAgeSeal_ends {cove tile : Nat} (h : Kept m r s) : Ends m r (execBwAgeSeal cove tile s) := by
  unfold execBwAgeSeal
  split
  · exact Ends.next h
  · exact Ends.ite (Ends.next h.seal) (Ends.next h)
theorem execBwWindowTimeout_ends {cove stream : Nat} (h : Kept m r s) : Ends m r (execBwWindowTimeout cove stream s) := by
  unfold execBwWindowTimeout
  split
  · exact Ends.next h
  · exact Ends.ite (Ends.next h) (Ends.next h.closeTiles.closeStream.sendBwTide)
theorem execBwWindowEndClose_ends {cove stream : Nat} (h : Kept m r s) : Ends m r (execBwWindowEndClose cove stream s) := by
  unfold execBwWindowEndClose
  split
  · exact Ends.next h
  · exact Ends.ite (Ends.next h) (Ends.next h.closeTiles.sendBwTide)
theorem execBwTileDispatch_ends {cove stream : Nat} (h : Kept m r s) : Ends m r (execBwTileDispatch cove stream s) := by
  unfold execBwTileDispatch
  refine Ends.ite (Ends.next h) ?_
  split
  · exact Ends.next h
  · exact Ends.next h.putTileState.post
theorem execBwJobSubmit_ends {cove stream : Nat} (h : Kept m r s) : Ends m r (execBwJobSubmit cove stream s) := by
  unfold execBwJobSubmit
  refine Ends.ite (Ends.next h) ?_
  split
  · exact Ends.next h
  · split
    refine Ends.ite (Ends.next h.leave.report) ?_
    refine Ends.ite (Ends.next h.askPage) ?_
    extract_lets _ _ _
    split
    rename_i e2
    exact Ends.ite (Ends.next h.touchRead.leave)
      (Ends.next (Kept.sendBwTide (Kept.putTileState (Kept.leave (KeptSnd.of_eq (KeptSnd.submit h.touchRead) e2)))))

end Sys2Proof.Machine
end

section
/-! Pages: what the operations of Machine/Pages keep. -/

namespace Sys2Proof.Machine

variable {m r : Prop} {s : State}

theorem Ctx.RangesOk.setLeaves {a : Ctx} {f : FMap Word} (hx : a.RangesOk) : (a.setLeaves f).RangesOk := hx.same rfl
theorem Kept.setLayout {pa n lay : Nat} (h : Kept m r s) : Kept m r (s.setLayout pa n lay) := h.same rfl
theorem Kept.mapRange {c va pa n perm lay : Nat} (h : Kept m r s) : Kept m r (s.mapRange c va pa n perm lay) :=
  h.setLayout.modCtx fun _ _ hk => hk.setLeaves
theorem Kept.invalidate {c lo hi : Nat} (h : Kept m r s) : Kept m r (s.invalidate c lo hi) := by
  unfold State.invalidate
  split
  · exact h
  · exact h.same rfl
theorem Kept.unmapRange {c va n : Nat} (h : Kept m r s) : Kept m r (s.unmapRange c va n) :=
  Kept.invalidate (h.modCtx fun _ _ hk => hk.setLeaves)
theorem Kept.protectRange {c va n perm : Nat} (h : Kept m r s) : Kept m r (s.protectRange c va n perm) :=
  Kept.invalidate (h.modCtx fun _ _ hk => hk.setLeaves)
theorem Kept.mapCaps {c : Nat} (h : Kept m r s) : Kept m r (s.mapCaps c) := h.putBytes.modCtx fun _ _ hk => hk.setLeaves

end Sys2Proof.Machine
end

section
/-! Synchronisation: what the operations of Machine/Sync keep. -/

namespace Sys2Proof.Machine

variable {m r : Prop} {s : State}

theorem Kept.redundancyTrap {c j bits_ : Nat} {a : Word} (h : Kept m r s) : Kept m r (s.redundancyTrap c j bits_ a) :=
  (h.trapSlot.ite h.trapSlot.trapSlot).report.faultEvent
theorem execPairCompare_ends {core slot : Nat} (h : Kept m r s) : Ends m r (execPairCompare core slot s) := by
  unfold execPairCompare
  extract_lets _ _
  split
  · exact Ends.ite (Ends.next h) (Ends.ite (Ends.next h.modSlot.modSlot) (Ends.next h.redundancyTrap))
  · exact Ends.next h
theorem execPairCompareTimeout_ends {core slot : Nat} (h : Kept m r s) : Ends m r (execPairCompareTimeout core slot s) := by
  unfold execPairCompareTimeout
  extract_lets _ _
  split
  · exact Ends.ite (Ends.next h) (Ends.next h.redundancyTrap)
  · exact Ends.next h
theorem Kept.openNext {k : Nat} (h : Kept m r s) : Kept m r (s.openNext k) := h.same rfl
theorem execBarrierComplete_ends {key : Nat} (h : Kept m r s) : Ends m r (execBarrierComplete key s) :=
  Ends.ite (Ends.next h.openNext) (Ends.next h)
theorem execBarrierReleaseArrive_ends {core key : Nat} (h : Kept m r s) : Ends m r (execBarrierReleaseArrive core key s) :=
  Ends.next (h.modCore fun _ _ hk => hk.same rfl)
theorem execBarrierTimeout_ends {core slot : Nat} (h : Kept m r s) : Ends m r (execBarrierTimeout core slot s) := by
  unfold execBarrierTimeout
  extract_lets _
  split
  · exact Ends.next h
  · extract_lets b l s1
    have h1 : Kept m r s1 := h.same rfl
    exact Ends.ite (Ends.next h) (Ends.next h1.trapSlot)
theorem Kept.wakeOne {o : Nat} {w : Nat × BitVec 32 × Nat} {v : Word} (h : Kept m r s) : Kept m r (s.wakeOne o w v) :=
  (h.foldl fun _ _ h1 => h1.modSlot).post
theorem Kept.checkCell {o a la : Nat} (h : Kept m r s) : Kept m r (s.checkCell o a la) := by
  unfold State.checkCell
  exact h.touchPage.ite (Kept.setWaiters (h.touchPage.foldl fun _ _ h1 => h1.wakeOne))
theorem execWaitqAtOwner_ends {msg : Nat} (h : Kept m r s) : Ends m r (execWaitqAtOwner msg s) := by
  unfold execWaitqAtOwner
  split
  · exact Ends.next h
  · rename_i e
    split
    · extract_lets _ _ s1 _
      have hs1 : Kept m r s1 := Kept.checkCell (Kept.leave ((KeptIn.take h).of_eq e))
      exact Ends.ite (Ends.next (Kept.leave ((KeptIn.take h).of_eq e))) (Ends.ite (Ends.next (Kept.turnAway ((KeptIn.take h).of_eq e)))
        (Ends.ite (Ends.next h)
        (Ends.ite (Ends.next (Kept.getD (KeptIn.giveAnswer (Kept.report (Kept.leave ((KeptIn.take h).of_eq e)))) h))
        (Ends.ite (Ends.next h.askPage) (Ends.ite (Ends.next (Kept.getD (KeptIn.giveAnswer hs1) h)) (Ends.next hs1.setWaiters.modSlot))))))
    · exact Ends.next h
theorem execWakeAtOwner_ends {msg : Nat} (h : Kept m r s) : Ends m r (execWakeAtOwner msg s) := by
  unfold execWakeAtOwner
  split
  · exact Ends.next h
  · rename_i e
    split
    · extract_lets _ reply _ _ _ _ _
      have hreply : ∀ (s : State), Kept m r s → ∀ (v : Word), Kept m r (reply s v) := fun _ h1 _ => h1.post
      exact Ends.ite (Ends.next (Kept.turnAway ((KeptIn.take h).of_eq e))) (Ends.ite (Ends.next h)
        (Ends.ite (Ends.next (hreply _ (Kept.report (Kept.leave ((KeptIn.take h).of_eq e))) _)) (Ends.ite (Ends.next h.askPage)
        (Ends.next (hreply _ (Kept.setWaiters ((Kept.checkCell (Kept.leave ((KeptIn.take h).of_eq e))).foldl fun _ _ h1 =>
        h1.wakeOne)) _)))))
    · exact Ends.next h
theorem execWaiterWoken_ends {msg : Nat} (h : Kept m r s) : Ends m r (execWaiterWoken msg s) := by
  unfold execWaiterWoken
  refine onMessage_ends h ?_
  intro _ _ h1
  split
  · exact KeptIn.giveAnswer h1
  · exact KeptIn.none

end Sys2Proof.Machine
end

section
/-! The life of contexts: what the operations of Machine/Life keep. -/

namespace Sys2Proof.Machine

variable {m r : Prop} {s : State}

theorem Kept.endCommand {status : Nat} (h : Kept m r s) : Kept m r (s.endCommand status) := h.putNum.same rfl
theorem Kept.endReply {bytes : List Byte} (h : Kept m r s) : Kept m r (s.endReply bytes) := h.putBytes.putNum.endCommand
theorem Kept.endMail {status : Nat} (h : Kept m r s) : Kept m r (s.endMail status) := h.same rfl
theorem Kept.endRequest {status : Nat} (h : Kept m r s) : Kept m r (s.endRequest status) := h.endMail.ite h.endCommand
theorem Kept.requestWaits (h : Kept m r s) : Kept m r s.requestWaits := Kept.ite (h.same rfl) (h.same rfl)
theorem Kept.createContext {c : Nat} {x : Ctx} (h : Kept m r s) (hx : r → x.RangesOk) : Kept m r (s.createContext c x) := by
  unfold State.createContext
  extract_lets s1 s2
  have h1 : Kept m r s1 := h.setCtx fun hr => (hx hr).same rfl
  have h2 : Kept m r s2 := h1.mapCores (f := fun k => { k with vt := k.vt.del c, flagWords := k.flagWords.del c, enrg := k.enrg.del c })
    (fun _ _ hk => hk.same rfl) rfl
  exact h2.mapCaps.foldl fun _ _ hu => hu.fillTable
/-- What a reader finds, if it finds anything, has the property. -/
def Finds {α : Type} (P : α → Prop) (o : Option α) : Prop := ∀ a, o = some a → P a
section
variable {α β : Type} {P : α → Prop} {Q : β → Prop}
theorem Finds.none : Finds P Option.none := nofun
theorem Finds.some {a : α} (h : P a) : Finds P (Option.some a) := by
  intro b e
  cases e
  exact h
theorem Finds.bind {x : Option β} {f : β → Option α} (h : Finds Q x) (k : ∀ b, Q b → Finds P (f b)) : Finds P (x >>= f) := by
  cases x with
  | none => exact Finds.none
  | some b => exact k b (h b rfl)
theorem Finds.after {x : Option β} {f : β → Option α} (k : ∀ b, Finds P (f b)) : Finds P (x >>= f) :=
  Finds.bind (Q := fun _ => True) (fun _ _ => trivial) fun b _ => k b
/-- A reader that stops at a failed check goes on only where the check holds. -/
theorem Finds.guard {c : Prop} [Decidable c] {j : Unit → Option α} (h : Finds P (j ())) :
    Finds P (if c then Option.none >>= j else j ()) := by
  split
  · exact Finds.none
  · exact h
theorem Finds.mapM {f : β → Option α} (hf : ∀ b, Finds P (f b)) (l : List β) : Finds (fun k => ∀ a ∈ k, P a) (l.mapM f) := by
  induction l with
  | nil => exact Finds.some nofun
  | cons b l ih =>
    rw [List.mapM_cons]
    refine (hf b).bind fun a ha => ih.bind fun k hk => Finds.some fun c hc => ?_
    rcases List.mem_cons.1 hc with rfl | hc
    · exact ha
    · exact hk c hc
theorem Finds.flatten {o : Option (List (List α))} (h : Finds (fun k => ∀ l ∈ k, ∀ a ∈ l, P a) o) :
    Finds (fun k => ∀ a ∈ k, P a) (o.map List.flatten) := by
  intro k e a ha
  obtain ⟨ls, hls, rfl⟩ := Option.map_eq_some_iff.1 e
  obtain ⟨l, hl, ha⟩ := List.mem_flatten.1 ha
  exact h ls hls l hl a ha
end
/-- Every queue that a descriptor names begins empty. -/
theorem Ctx.readQueue_inRing {x : Ctx} {c : Nat} {frames : Nat → Nat} {d : List Word} :
    Finds (fun l => ∀ p ∈ l, p.2.InRing) (x.readQueue c frames d) := by
  unfold Ctx.readQueue
  extract_lets size q h ring poll subs cs u
  have hu : u.InRing := ⟨Nat.two_pow_pos _, Nat.two_pow_pos _⟩
  clear_value u
  split
  · exact Finds.none
  · refine Finds.some fun p hp => ?_
    obtain ⟨_, -, rfl⟩ := List.mem_map.1 hp
    exact hu
theorem State.readKernel_rangesOk {c va : Nat} : Finds Ctx.RangesOk (s.readKernel c va) := by
  unfold State.readKernel
  extract_lets x0 byte jp1
  refine Finds.guard (j := jp1) ?_
  refine Finds.after fun h => ?_
  extract_lets jp2
  refine Finds.guard (j := jp2) ?_
  refine Finds.after fun lp => ?_
  extract_lets x1 cores fr jp4 jp3
  refine Finds.guard (j := jp3) ?_
  refine Finds.guard (j := jp4) ?_
  unfold jp4
  refine Finds.after fun hs => ?_
  extract_lets x2
  refine Finds.after fun dir => ?_
  extract_lets descs
  refine Finds.bind (Finds.flatten (Finds.mapM (fun _ => Ctx.readQueue_inRing) _)) fun qs hqs => ?_
  refine Finds.after fun ts => Finds.after fun ps => ?_
  extract_lets qs' jp5
  refine Finds.guard (j := jp5) ?_
  refine Finds.some ?_
  have hqs' : ∀ b ∈ qs', b.2.InRing := by
    unfold qs'
    split
    · intro b hb
      obtain ⟨q, hq, hb⟩ := List.mem_flatMap.1 hb
      have e : b.2 = q.2 := by
        split at hb
        · rw [List.mem_singleton.1 hb]
        · rcases List.mem_pair.1 hb with rfl | rfl <;> rfl
      exact e ▸ hqs q hq
    · exact hqs
  exact hqs'
theorem Kept.beginKernel {c va : Nat} (h : Kept m r s) : Kept m r (s.beginKernel c va) := by
  unfold State.beginKernel
  split
  · exact h.modCtx fun _ _ hx => hx.same rfl
  · rename_i x e
    extract_lets s1 secs s2
    have h1 : Kept m r s1 := h.setCtx fun _ => State.readKernel_rangesOk x e
    have h2 : Kept m r s2 := h1.foldl fun _ _ hu => hu.ite hu.protectRange
    exact h2.foldl fun _ _ hu => hu.modCore fun _ _ hk => hk.foldl fun _ _ hk => hk.request
theorem KeptIn.preloadStep {c : Nat} {p : Preload} (h : Kept m r s) : KeptIn m r Prod.fst (s.preloadStep c p) := by
  unfold State.preloadStep
  extract_lets done_ _ _ _
  have hdone_ : ∀ (s : State), Kept m r s → KeptFst m r (done_ s) := fun _ h1 => KeptFst.mk (h1.modCtx fun _ _ hk => hk.same rfl)
  refine KeptIn.ite (KeptIn.some h.ownBank) ?_
  refine KeptIn.ite (KeptIn.none.ite (KeptIn.some (hdone_ _ (Kept.ite (h.ownBank.modCore fun _ _ hk => hk.setBank) h.ownBank)))) ?_
  split
  rename_i e
  exact KeptIn.none.ite (KeptIn.some (KeptFst.mk (Kept.modCtx (KeptFst.of_eq (KeptFst.beginLoad h.ownBank) e) fun _ _ hk => hk.same rfl)))
theorem KeptIn.preload {c : Nat} {l : List Preload} (h : Kept m r s) : KeptIn m r Prod.fst (s.preload c l) := by
  induction l generalizing s with
  | nil => exact KeptIn.some h
  | cons p l ih =>
    unfold State.preload
    split
    · exact KeptIn.none
    · rename_i e
      exact ih ((KeptIn.preloadStep h).of_eq e)
    · rename_i e
      exact KeptIn.some ((KeptIn.preloadStep h).of_eq e)
theorem Queue.InRing.live {u : Queue} {t : Nat} (hu : u.InRing) : (u.live t).InRing := hu.same rfl
theorem Kept.makeReady {c : Nat} (h : Kept m r s) : Kept m r (s.makeReady c) := by
  unfold State.makeReady
  extract_lets x t s1 s2 s3 s4
  have h1 : Kept m r s1 := foldl_inv (Kept m r) _ _ s h fun u b hb hu =>
    hu.modCore fun hr _ hk => hk.withQueue rfl (h.ctx c hr b hb).live
  have h2 : Kept m r s2 := h1.foldl fun _ _ hu => hu.modCove fun _ _ hk => hk.same rfl
  have h3 : Kept m r s3 := h2.foldl fun _ _ hu => hu.modCore fun _ _ hk => hk.same rfl
  clear_value s3
  have h4 : Kept m r s4 := h3.same rfl
  exact h4.setCtx fun _ _ hb => nomatch hb
theorem Kept.endLoad {c status : Nat} (h : Kept m r s) : Kept m r (s.endLoad c status) := by
  unfold State.endLoad
  extract_lets s1
  have hs1 : Kept m r s1 := h.endCommand.ite h
  exact hs1.endMail.ite hs1
theorem Kept.dropChunks {v c : Nat} (h : Kept m r s) : Kept m r (s.dropChunks v c) :=
  Kept.modCove (h.withMem (fun hm => Mem.wf_foldl (h.memOk hm) fun _ _ e => Mem.wf_clear _ _ _ e) rfl) fun _ _ hk => hk.same rfl
theorem Kept.release {c : Nat} (h : Kept m r s) : Kept m r (s.release c) := by
  unfold State.release
  extract_lets give
  have hgive : ∀ (s : State), Kept m r s → Kept m r (give s) := fun _ h1 => h1.foldl fun _ _ h2 => h2.dropChunks.fillTable
  exact Kept.invalidate (hgive _ (h.modCtx fun _ _ hk => hk.same rfl))
theorem execContextLoadDone_ends {ctx : Nat} (h : Kept m r s) : Ends m r (execContextLoadDone ctx s) := by
  unfold execContextLoadDone
  refine Ends.ite (Ends.next h) ?_
  split
  · exact Ends.next h
  · exact Ends.next h.release.endLoad
  · refine Ends.ite (Ends.next h.release.endLoad) ?_
    refine Ends.ite (Ends.next (h.foldl fun _ _ h1 => h1.modCore fun _ _ hk => hk.foldl fun _ _ hk1 => hk1.request)) ?_
    refine Ends.ite (Ends.next h) ?_
    split
    · exact Ends.next h.release.endLoad
    · rename_i e1
      exact Ends.next ((KeptIn.preload h).of_eq e1)
    · rename_i e1
      exact Ends.next (Kept.endLoad (Kept.makeReady ((KeptIn.preload h).of_eq e1)))
theorem Kept.drainCore {c k : Nat} (h : Kept m r s) : Kept m r (s.drainCore c k) := by
  unfold State.drainCore
  extract_lets x trapQ gone s1 s2 s3 s4 s5 free next mem s6 s7
  have h1 : Kept m r s1 := h.foldl fun _ _ hu => hu.dropItem
  clear_value s1
  have h2 : Kept m r s2 := h1.foldl fun _ _ hu => Kept.ite (hu.modQueue fun u hq => ⟨by dsimp only; split; exacts [hq.1, hq.2], hq.2⟩) hu
  clear_value s2
  have h3 : Kept m r s3 := h2.foldl fun _ _ hu => hu.answerMsg.foldl fun _ _ hw => hw.modCore fun _ _ hk => hk.foldl fun _ _ hk =>
    hk.unpinPage
  clear_value s3
  have h4 : Kept m r s4 := h3.modCore fun _ _ hk => hk.same rfl
  clear_value s4
  have h5 : Kept m r s5 := h4.modCore fun _ _ hk => hk.foldl fun _ _ hk => hk.dropRetained
  clear_value s5
  have h6 : Kept m r s6 := h5.withMem (fun hm => Mem.wf_foldl (h5.memOk hm) fun _ _ hc => Mem.wf_clear _ _ _ hc) rfl
  clear_value s6
  have h7 : Kept m r s7 := h6.modCore fun _ k hk => by
    extract_lets k1 k2
    have hk2 : k2.RangesOk := hk.same rfl
    exact (hk2.foldl fun _ _ hk => hk.request).retryFills
  exact h7.modCore fun _ _ hk => hk.foldl fun _ _ hk => Core.RangesOk.ite hk.setBank hk
theorem Kept.killStopped {c k : Nat} (h : Kept m r s) : Kept m r (s.killStopped c k) := h.foldl fun _ _ h1 => h1.killTask.ite h1
theorem Kept.drainBarriers {c : Nat} (h : Kept m r s) : Kept m r (s.drainBarriers c) := by
  unfold State.drainBarriers
  extract_lets keys s1
  have h1 : Kept m r s1 := h.foldl fun _ _ h => by
    extract_lets e s2
    have h2 : Kept m r s2 := h.openNext
    exact h2.same rfl
  exact h1.modCtx fun _ _ hx => hx.same rfl
theorem Kept.enterDraining {c : Nat} (h : Kept m r s) : Kept m r (s.enterDraining c) := by
  unfold State.enterDraining
  extract_lets s1 x cores s2 s3 s4 s5
  have h1 : Kept m r s1 := h.modCtx fun _ _ hx => hx.same rfl
  have h2 : Kept m r s2 := h1.foldl fun _ _ h => h.drainCore
  have h3 : Kept m r s3 := h2.foldl fun _ _ h => h.drainMxe.drainEbb
  have h4 : Kept m r s4 := h3.foldl fun _ _ h => h.modCove fun _ _ hk => hk.same rfl
  clear_value s4
  have h5 : Kept m r s5 := h4.drainBarriers
  exact h5.foldl fun _ _ h => h.killStopped
theorem execContextDrainDone_ends {ctx : Nat} (h : Kept m r s) : Ends m r (execContextDrainDone ctx s) :=
  Ends.ite (Ends.next h.release) (Ends.next h)
theorem Core.RangesOk.filterQueues {k : Core} {p : Nat × Queue → Bool} (hk : k.RangesOk) :
    ({ k with queues := k.queues.filter p } : Core).RangesOk := by
  obtain ⟨hq, hb⟩ := hk
  exact ⟨fun q h => hq q (List.mem_filter.1 h).1, hb⟩
theorem Kept.scrubCore {c k : Nat} (h : Kept m r s) : Kept m r (s.scrubCore c k) := by
  refine Kept.modCore (s := { s with mem := _ }) (h.withMem (fun hm => ?_) rfl)
    fun _ _ hk => Core.RangesOk.retryFills (hk.filterQueues.same rfl)
  exact Mem.wf_foldl (Mem.wf_foldl (h.memOk hm) fun _ _ hc => Mem.wf_clear _ _ _ hc) fun _ _ hc => Mem.wf_clear _ _ _ hc
theorem Kept.delCtx {c : Nat} (h : Kept m r s) : Kept m r { s with ctxs := s.ctxs.del c } :=
  Kept.of_parts h.memOk h.cores h.coves (fun hr p hp => h.ctxs hr p (FMap.mem_of_mem_del hp)) h.entries h.commits
theorem execContextScrubDone_ends {ctx : Nat} (h : Kept m r s) : Ends m r (execContextScrubDone ctx s) := by
  unfold execContextScrubDone
  extract_lets x s1 s2 s3
  have h1 : Kept m r s1 := h.foldl fun _ _ hu => hu.scrubCore
  have h2 : Kept m r s2 := h1.foldl fun _ _ hu => hu.modCove fun _ _ hk => hk.same rfl
  clear_value s2
  have h3 : Kept m r s3 := h2.delCtx.same rfl
  exact Ends.ite (Ends.next h) (Ends.next h3)
theorem Kept.zeroChanged {c : Nat} {o n : Nat × Nat × Nat} (h : Kept m r s) : Kept m r (s.zeroChanged c o n) :=
  h.withMem (fun hm => Mem.wf_filter _ _ (h.memOk hm)) rfl
theorem State.commitDue_mem {core : Nat} {q : Nat × BitVec 22 × BitVec 22 × BitVec 22} (e : s.commitDue core = some q) :
    ∃ p ∈ s.commits, p.2 = q := by
  unfold State.commitDue at e
  split at e
  · cases e
  · rename_i hf
    split at e
    · cases e
      exact ⟨_, List.mem_of_find?_eq_some hf, rfl⟩
    · cases e
theorem execBoundaryCommit_ends {core : Nat} (h : Kept m r s) : Ends m r (execBoundaryCommit core s) := by
  unfold execBoundaryCommit
  split
  · exact Ends.next h
  · rename_i c n0 n1 n2 e
    extract_lets s1
    have h1 : Kept m r s1 := h.withCommits fun hr q hq => h.commits hr q (List.mem_filter.1 hq).1
    have hn : r → OnPage n0 ∧ OnPage n1 ∧ OnPage n2 := fun hr => by
      obtain ⟨p, hp, hq⟩ := State.commitDue_mem e
      simpa [hq] using h.commits hr p hp
    refine Ends.ite (Ends.next (h1.modCore fun _ _ hk => hk.same rfl)) (Ends.next ?_)
    refine Kept.modCore (h1.modCore fun _ _ hk => hk.same rfl) fun hr k hk => ?_
    obtain ⟨hq, hb, hw, -, hs⟩ := hk
    exact ⟨hq, hb, hw, fun q hq => by cases hq; exact hn hr, hs⟩
theorem execBoundaryCommitDone_ends {core : Nat} (h : Kept m r s) : Ends m r (execBoundaryCommitDone core s) := by
  unfold execBoundaryCommitDone
  extract_lets k
  split
  · exact Ends.next h
  · rename_i f n0 n1 n2 e
    extract_lets s1 s2
    have h2 : Kept m r s2 := h.zeroChanged.modCore fun hr k hk => by
      obtain ⟨-, -, -, hc, -⟩ := h.core core hr
      obtain ⟨hq, -, hw, -, hs⟩ := hk
      exact ⟨hq, hc _ e, hw, nofun, hs⟩
    exact Ends.next (Kept.schedule (h2.modCore fun _ _ hk => hk.same rfl))
theorem Kept.shadowAt (h : Kept m r s) (c i : Nat) : r → EntryOk (s.shadowAt c i) := fun hr => by
  obtain ⟨-, -, -, -, hs, -⟩ := h.core c hr
  exact FMap.getD_of_forall (P := EntryOk) hs (h.region i hr)
theorem execRegionCommit_ends {core : Nat} (h : Kept m r s) : Ends m r (execRegionCommit core s) := by
  have hc (n : BitVec 2) : Kept m r (s.modCore core fun k => { k with regionState := n }) := h.modCore fun _ _ hk => hk.same rfl
  refine Ends.ite (Ends.next h) (Ends.ite (Ends.next (hc 2)) (Ends.next ?_))
  refine Kept.of_parts (hc 1).memOk (hc 1).cores (hc 1).coves (hc 1).ctxs (fun hr e he => ?_) (hc 1).commits
  rcases List.mem_append.1 he with he | he
  · exact h.entries hr e (List.mem_append_left _ he)
  · obtain ⟨i, -, rfl⟩ := List.mem_map.1 he
    exact h.shadowAt core i hr
theorem Core.RangesOk.moved {k : Core} {f : Nat → Nat} (hk : k.RangesOk) : (k.moved f).RangesOk := hk.same rfl
theorem execRegionSwitch_ends (h : Kept m r s) : Ends m r (execRegionSwitch s) := by
  unfold execRegionSwitch
  split
  · exact Ends.next h
  · rename_i f e
    refine Ends.ite (Ends.next h) (Ends.next ?_)
    have hc : Kept m r (s.modCore f fun k => { k with regionState := 0 }) := h.modCore fun _ _ hk => hk.same rfl
    refine Kept.of_parts hc.memOk (fun hr p hp => ?_) hc.coves hc.ctxs (fun hr e he => ?_) hc.commits
    · obtain ⟨q, hq, rfl⟩ := List.mem_map.1 hp
      exact (hc.cores hr q hq).moved
    · rw [List.append_nil] at he
      exact h.entries hr e (List.mem_append_right _ he)

end Sys2Proof.Machine
end

section
/-! The headland: what the operations of Machine/Headland keep. -/

namespace Sys2Proof.Machine

variable {m r : Prop} {s : State}

theorem Kept.stopFrozen {c j : Nat} (h : Kept m r s) : Kept m r (s.stopFrozen c j) :=
  h.trapSlot.modSlot.ite h.takeWokenAt.letGo.modSlot
theorem Kept.freezeSlot {num : BitVec 16} {c j : Nat} (h : Kept m r s) : Kept m r (s.freezeSlot num c j) :=
  h.ite (h.modSlot.ite (h.modSlot.modSlot.ite h.modSlot.stopFrozen))
theorem Kept.freeze {p : Nat → Bool} {num : BitVec 16} (h : Kept m r s) : Kept m r (s.freeze p num) := by
  unfold State.freeze
  extract_lets named s1 hd s2 slots
  have h1 : Kept m r s1 := h.foldl fun _ _ h => h.modCtx fun _ _ hx => Ctx.RangesOk.ite hx (hx.same rfl)
  clear_value s1
  have h2 : Kept m r s2 := h1.same rfl
  exact h2.foldl fun _ _ h => h.freezeSlot
theorem Kept.freezeAll {num : BitVec 16} (h : Kept m r s) : Kept m r (s.freezeAll num) := h.freeze
theorem Kept.releaseFreeze {c : Nat} (h : Kept m r s) : Kept m r (s.releaseFreeze c) := by
  unfold State.releaseFreeze
  extract_lets x _ _ _ s1 _ _
  have hx : r → x.RangesOk := fun hr => h.ctx _ hr
  have hs1 : Kept m r s1 := (h.foldl fun _ _ h1 => Kept.modSlot (h1.dropReader.ite h1)).setCtx fun hr => Ctx.RangesOk.same (hx hr) rfl
  exact h.ite ((hs1.enterDraining.ite hs1).foldl fun _ _ h1 => h1.startService).scheduleAll
theorem Kept.hfrzGo (h : Kept m r s) : Kept m r s.hfrzGo := h.freeze
theorem execHfrzGo_ends (h : Kept m r s) : Ends m r (execHfrzGo s) := Ends.next h.hfrzGo
theorem Kept.hrelGo (h : Kept m r s) : Kept m r s.hrelGo := h.ite (h.same rfl)
theorem execHrelGo_ends (h : Kept m r s) : Ends m r (execHrelGo s) := Ends.next h.hrelGo
theorem execFreezeRelease_ends (h : Kept m r s) : Ends m r (execFreezeRelease s) :=
  Ends.ite (Ends.next h) (Ends.next (Kept.foldl (h.same rfl) fun _ _ h1 => h1.releaseFreeze))
theorem Kept.latchPins (h : Kept m r s) : Kept m r s.latchPins := h.same rfl
theorem Kept.errorAt {src core ctx : Nat} (h : Kept m r s) : Kept m r (s.errorAt src core ctx) := by
  unfold State.errorAt
  extract_lets s1
  have h1 : Kept m r s1 := h.same rfl
  exact h1.latchPins.freezeAll.ite h1
theorem execErrorReport_ends {idx : Nat} (h : Kept m r s) : Ends m r (execErrorReport idx s) := by
  unfold execErrorReport
  refine onMessage_ends h ?_
  intro _ _ h1
  split
  · exact KeptIn.some h1.errorAt
  · exact KeptIn.none
theorem execHeartbeatMiss_ends {ctx : Nat} (h : Kept m r s) : Ends m r (execHeartbeatMiss ctx s) := by
  unfold execHeartbeatMiss
  extract_lets s1 hd s2
  have h1 : Kept m r s1 := h.modCtx fun _ _ hx => hx.same rfl
  clear_value s1
  have h2 : Kept m r s2 := h1.same rfl
  exact Ends.ite (Ends.next h) (Ends.next h2.report.faultEvent)
theorem Kept.hartFault {src : Nat} (h : Kept m r s) : Kept m r (s.hartFault src) := by
  unfold State.hartFault
  extract_lets s1 hd hd'
  have h1 : Kept m r s1 := h.latchPins.freezeAll
  clear_value s1
  exact h1.mapCtxs (f := fun x => { x with hbSeq := 0, hbAt := 0, hbLast := s1.dtime.toNat }) (fun _ _ hx => hx.same rfl) rfl
theorem execWatchdogFault_ends (h : Kept m r s) : Ends m r (execWatchdogFault s) := Ends.ite (Ends.next h.hartFault) (Ends.next h)
theorem execLockstepMismatch_ends (h : Kept m r s) : Ends m r (execLockstepMismatch s) := Ends.next h.hartFault
theorem execClockFault_ends (h : Kept m r s) : Ends m r (execClockFault s) := Ends.next h.hartFault
theorem execFrzNAssert_ends (h : Kept m r s) : Ends m r (execFrzNAssert s) := by
  unfold execFrzNAssert
  extract_lets hd s1
  have h1 : Kept m r s1 := h.same rfl
  exact Ends.next h1.latchPins.freezeAll
theorem execFrzNDeassert_ends (h : Kept m r s) : Ends m r (execFrzNDeassert s) := Ends.next (h.same rfl)
theorem Kept.hicmdRead (h : Kept m r s) : Kept m r s.hicmdRead := by
  unfold State.hicmdRead
  split <;> exact h.same rfl
theorem execHicmdRead_ends (h : Kept m r s) : Ends m r (execHicmdRead s) := Ends.next h.hicmdRead
theorem Kept.hicmdWrite (h : Kept m r s) : Kept m r s.hicmdWrite := by
  unfold State.hicmdWrite
  split
  · exact h.same rfl
  · extract_lets _ st
    have hst : ∀ (n : Nat) (s : State), Kept m r s → Kept m r (st n s) := fun _ _ h1 => h1.same rfl
    exact Kept.ite (hst _ _ h) (Kept.ite (hst _ _ h) (hst _ _ h.modSlot))
theorem execHicmdWrite_ends (h : Kept m r s) : Ends m r (execHicmdWrite s) := Ends.next h.hicmdWrite
theorem Kept.helogPop (h : Kept m r s) : Kept m r s.helogPop := by
  unfold State.helogPop
  split <;> exact h.same rfl
theorem execHelogPop_ends (h : Kept m r s) : Ends m r (execHelogPop s) := Ends.next h.helogPop
theorem execHwdogReload_ends {value : BitVec 32} (h : Kept m r s) : Ends m r (execHwdogReload value s) := Ends.next (h.same rfl)
theorem Kept.htimeRead (h : Kept m r s) : Kept m r s.htimeRead := h.same rfl
theorem execHtimeRead_ends (h : Kept m r s) : Ends m r (execHtimeRead s) := Ends.next h.htimeRead
theorem Kept.mailPost {req : BitVec 32} (h : Kept m r s) : Kept m r (s.mailPost req) := by
  unfold State.mailPost
  extract_lets _
  split
  · exact h.same rfl
  · exact Kept.ite (h.same rfl) (h.same rfl)
theorem execHfwmbPost_ends {req : BitVec 32} (h : Kept m r s) : Ends m r (execHfwmbPost req s) := Ends.next h.mailPost
theorem KeptIn.hwrite {n : Nat} {v : BitVec 32} (h : Kept m r s) : KeptIn m r id (s.hwrite n v) := by
  unfold State.hwrite
  extract_lets _ put
  have hput : ∀ (h : Headland), KeptIn m r id (put h) := fun _ => KeptIn.some (h.same rfl)
  split
  · exact hput _
  · exact hput _
  · exact hput _
  · exact hput _
  · exact hput _
  · exact hput _
  · exact hput _
  · exact hput _
  · exact hput _
  · exact hput _
  · exact hput _
  · exact KeptIn.some h
  · exact hput _
  · exact KeptIn.some h.mailPost
  · exact KeptIn.none
theorem KeptIn.hput {n : Nat} {v : BitVec 32} (h : Kept m r s) : KeptIn m r id (s.hput n v) :=
  KeptIn.map fun _ e => Kept.ite (Kept.hfrzGo ((KeptIn.hwrite h).of_eq e)) (Kept.ite (Kept.hrelGo ((KeptIn.hwrite h).of_eq e))
    (Kept.ite (Kept.hicmdWrite ((KeptIn.hwrite h).of_eq e)) (Kept.ite (Kept.hicmdRead ((KeptIn.hwrite h).of_eq e))
    ((KeptIn.hwrite h).of_eq e))))
theorem KeptIn.hget {n : Nat} (h : Kept m r s) : KeptIn m r Prod.snd (s.hget n) :=
  KeptIn.map fun _ _ => KeptSnd.mk (h.helogPop.ite (h.htimeRead.ite h))
theorem KeptIn.hartStore {a : BitVec 32} {n : Nat} {v : BitVec 32} (h : Kept m r s) : KeptIn m r id (s.hartStore a n v) :=
  KeptIn.ite (KeptIn.some h.putNum) KeptIn.none
theorem KeptIn.csrIn {n : Nat} (h : Kept m r s) : KeptIn m r Prod.snd (s.csrIn n) := by
  unfold State.csrIn
  extract_lets _
  split
  · exact KeptIn.some h
  · exact KeptIn.some h
  · exact KeptIn.some h
  · exact KeptIn.some h
  · exact KeptIn.some h
  · exact KeptIn.hget h
theorem KeptIn.csrOut {n : Nat} {v : BitVec 32} (h : Kept m r s) : KeptIn m r id (s.csrOut n v) := by
  unfold State.csrOut
  extract_lets _ put
  have hput : ∀ (h : Headland), KeptIn m r id (put h) := fun _ => KeptIn.some (h.same rfl)
  split
  · exact hput _
  · exact hput _
  · exact hput _
  · exact hput _
  · exact hput _
  · exact KeptIn.hput h
theorem KeptSnd.hartServe {rc : HartReq} (h : Kept m r s) : KeptSnd m r (s.hartServe rc) := by
  unfold State.hartServe
  split
  · exact KeptSnd.mk h
  · exact KeptSnd.mk h
  · split
    · rename_i e
      exact KeptSnd.mk ((KeptIn.hartStore h).of_eq e)
    · exact KeptSnd.mk h
  · split
    · exact KeptSnd.mk h
    · rename_i e
      refine KeptSnd.ite (KeptSnd.mk ((KeptIn.ite (KeptIn.csrIn h) (KeptIn.some h)).of_eq e)) ?_
      split
      · rename_i e1
        exact KeptSnd.mk ((KeptIn.csrOut ((KeptIn.ite (KeptIn.csrIn h) (KeptIn.some h)).of_eq e)).of_eq e1)
      · exact KeptSnd.mk h
theorem Kept.hartRun {word : Option (BitVec 32)} {badAt : BitVec 32} (h : Kept m r s) : Kept m r (s.hartRun word badAt) := by
  unfold State.hartRun
  extract_lets hd req res g s1 n hd' s2
  have hres : KeptSnd m r res := KeptSnd.hartServe h
  have h1 : Kept m r s1 := hres
  have h2 : Kept m r s2 := h1.same rfl
  split
  · exact Kept.ite (h2.same rfl) h2.hartFault
  · exact h2
theorem Kept.hartStep (h : Kept m r s) : Kept m r s.hartStep := h.hartRun.ite h

end Sys2Proof.Machine
end

section
/-! Sensors: what the operations of Machine/Sensors keep. -/

namespace Sys2Proof.Machine

variable {m r : Prop} {s : State}

theorem Kept.setStream {n : Nat} {t : Stream} (h : Kept m r s) : Kept m r (s.setStream n t) := h.same rfl
theorem Kept.sendStream {n : Nat} {at_ : BitVec 48} {kind payload : Nat} (h : Kept m r s) : Kept m r (s.sendStream n at_ kind payload) := by
  unfold State.sendStream
  extract_lets _ _ _ _
  split
  · exact h.setStream.post
  · exact h.setStream.setStream
theorem Kept.sense {n : Nat} {at_ : BitVec 48} {a y p : Nat} {w : Int} (h : Kept m r s) : Kept m r (s.sense n at_ a y p w) :=
  h.sendStream
theorem Kept.lenviol {n received : Nat} {cycles : Bool} (h : Kept m r s) : Kept m r (s.lenviol n received cycles) :=
  h.sendStream.setStream
theorem KeptSnd.rateOk {port : Nat} (h : Kept m r s) : KeptSnd m r (s.rateOk port) := by
  unfold State.rateOk
  extract_lets _
  split
  exact KeptSnd.mk (h.same rfl)
theorem Kept.cameraEvent {n : Nat} {base : Word} {dt a y p : Nat} {w : Int} (h : Kept m r s) : Kept m r (s.cameraEvent n base dt a y p w) :=
  Kept.ite (Kept.sense (KeptSnd.rateOk h)) (Kept.setStream (KeptSnd.rateOk h))
theorem Kept.cameraWord {n dtype : Nat} {v : Word} (h : Kept m r s) : Kept m r (s.cameraWord n dtype v) := by
  unfold State.cameraWord
  extract_lets _ _
  split
  · exact h
  · exact Kept.ite (h.setStream.ite h.cameraEvent) h.cameraEvent
theorem execCsi2FrameStart_ends {stream : Nat} (h : Kept m r s) : Ends m r (execCsi2FrameStart stream s) := by
  unfold execCsi2FrameStart
  split
  · exact Ends.ite (Ends.next h) (Ends.next h.setStream)
  · exact Ends.next h
theorem execCsi2Packet_ends {port vc dtype : Nat} {words : List (BitVec 64)} (h : Kept m r s) :
    Ends m r (execCsi2Packet port vc dtype words s) := by
  unfold execCsi2Packet
  extract_lets _ _ _ _ _ _ s1
  have hs1 : Kept m r s1 := (h.setStream.ite h).foldl fun _ _ h1 => h1.cameraWord
  exact Ends.ite (Ends.next h) (Ends.ite (Ends.next (h.same rfl)) (Ends.ite (Ends.next (h.same rfl)) (Ends.ite (Ends.next h.setStream)
    (Ends.ite (Ends.next (h.setStream.ite h)) (Ends.next (hs1.ite hs1.lenviol))))))
theorem execDecoderWatchdog_ends {stream received : Nat} (h : Kept m r s) : Ends m r (execDecoderWatchdog stream received s) := by
  unfold execDecoderWatchdog
  split
  · exact Ends.next h
  · exact Ends.ite (Ends.next h) (Ends.next h.lenviol)
theorem execTaxelScan_ends {stream : Nat} (h : Kept m r s) : Ends m r (execTaxelScan stream s) := by
  unfold execTaxelScan
  split
  · exact Ends.next h
  · exact Ends.ite (Ends.next h) (Ends.next h.setStream)
theorem KeptSnd.taxelWeight {d : Int} {wsh : Nat} (h : Kept m r s) : KeptSnd m r (s.taxelWeight d wsh) :=
  KeptSnd.ite (KeptSnd.mk h) (KeptSnd.mk (h.same rfl))
theorem Kept.taxel {n i : Nat} {v : BitVec 16} (h : Kept m r s) : Kept m r (s.taxel n i v) := by
  unfold State.taxel
  refine h.ite ?_
  split
  rename_i e
  exact (Kept.sense (KeptSnd.of_eq (KeptSnd.taxelWeight h) e)).setStream
theorem execTaxelFrameDone_ends {stream : Nat} {values : List (BitVec 16)} (h : Kept m r s) :
    Ends m r (execTaxelFrameDone stream values s) := by
  unfold execTaxelFrameDone
  split
  · exact Ends.next h
  · exact Ends.ite (Ends.next h) (Ends.next (h.setStream.foldl fun _ _ h1 => h1.taxel))

end Sys2Proof.Machine
end

section
/-! Links: what the operations of Machine/Links keep. -/

namespace Sys2Proof.Machine

variable {m r : Prop} {s : State}

theorem Kept.setLink {i : Nat} {l : Link} (h : Kept m r s) : Kept m r (s.setLink i l) := h.same rfl
theorem Kept.cutPort {i : Nat} (h : Kept m r s) : Kept m r (s.cutPort i) := by
  unfold State.cutPort
  refine h.foldl ?_
  intro _ _ h1
  split
  · exact h1.setStream
  · exact h1
theorem Kept.linkTo {i : Nat} {l : Link} (h : Kept m r s) : Kept m r (s.linkTo i l) := by
  unfold State.linkTo
  extract_lets _ s1 s2
  have hs1 : Kept m r s1 := h.setLink.report
  have hs2 : Kept m r s2 := hs1.cutPort.ite hs1
  exact hs2.report.ite hs2
theorem execLinkEnable_ends {link : Nat} (h : Kept m r s) : Ends m r (execLinkEnable link s) :=
  Ends.ite (Ends.next h) (Ends.next h.linkTo)
theorem Kept.aligned (h : Kept m r s) : Kept m r s.aligned := h.ite (h.same rfl)
theorem execLinkTrainingDone_ends {link lost : Nat} (h : Kept m r s) : Ends m r (execLinkTrainingDone link lost s) := by
  unfold execLinkTrainingDone
  extract_lets _ u
  have hu : Kept m r u := h.aligned.ite h
  exact Ends.ite (Ends.next h) (Ends.ite (Ends.next hu.linkTo) (Ends.ite (Ends.next hu.linkTo) (Ends.next h)))
theorem execLinkTrainingTimeout_ends {link : Nat} (h : Kept m r s) : Ends m r (execLinkTrainingTimeout link s) :=
  Ends.ite (Ends.next h) (Ends.next h.linkTo)
theorem execLinkLaneLost_ends {link : Nat} (h : Kept m r s) : Ends m r (execLinkLaneLost link s) :=
  Ends.ite (Ends.next h) (Ends.next h.linkTo)
theorem execLinkDisable_ends {link : Nat} (h : Kept m r s) : Ends m r (execLinkDisable link s) :=
  Ends.ite (Ends.next h) (Ends.next h.linkTo)
theorem Kept.countReplay {i : Nat} (h : Kept m r s) : Kept m r (s.countReplay i) := h.setLink.ite h
theorem execUcieReplay_ends {link : Nat} (h : Kept m r s) : Ends m r (execUcieReplay link s) :=
  Ends.ite (Ends.next h.countReplay) (Ends.next h)
theorem execUcieReroute_ends {link : Nat} (h : Kept m r s) : Ends m r (execUcieReroute link s) := by
  unfold execUcieReroute
  refine Ends.ite (Ends.next h) ?_
  extract_lets _
  split
  · exact Ends.next h.setLink
  · exact Ends.next h
  · split
    · exact Ends.next h.setLink
    · exact Ends.next h
theorem Kept.deliverPeer {rc : Rec} {word : BitVec 16} (h : Kept m r s) : Kept m r (s.deliverPeer rc word) := by
  unfold State.deliverPeer
  extract_lets c src n q
  refine Kept.ite ?_ ?_
  · split
    · exact h.post
    · exact h
  · split
    · exact h.post
    · exact h
theorem KeptIn.forwardPeer {l : Nat} (h : Kept m r s) : KeptIn m r id (s.forwardPeer l) :=
  KeptIn.ite (KeptIn.some h) (KeptIn.none.ite (KeptIn.ite (KeptIn.some h) (KeptIn.none.ite (KeptIn.some h.setLink.report))))
theorem execRhoashRecordArrive_ends {msg : Nat} (h : Kept m r s) : Ends m r (execRhoashRecordArrive msg s) := by
  unfold execRhoashRecordArrive
  refine onMessage_ends h ?_
  intro _ _ h1
  split
  · split
    · exact KeptIn.some h1.tell
    · refine KeptIn.ite (KeptIn.some h1.tell.post) ?_
      split
      · exact KeptIn.ite (KeptIn.some h1.tell) KeptIn.none
      · exact KeptIn.none
  · exact KeptIn.ite (KeptIn.some h1.deliverPeer) (KeptIn.forwardPeer h1)
  · exact KeptIn.none
theorem execRhoashFrameReplay_ends {link : Nat} (h : Kept m r s) : Ends m r (execRhoashFrameReplay link s) :=
  Ends.ite (Ends.next h.countReplay) (Ends.next h)

end Sys2Proof.Machine
end

section
/-! The host: what the operations of Machine/Host keep. -/

namespace Sys2Proof.Machine

variable {m r : Prop} {s : State}

theorem Kept.doorbell (h : Kept m r s) : Kept m r s.doorbell := by
  unfold State.doorbell
  refine h.ite ?_
  extract_lets s1
  have hs1 : Kept m r s1 := Kept.putNum (h.same rfl)
  split
  · exact hs1.endCommand
  · exact hs1
theorem execRegisterWrite_ends {reg : Nat} {value : BitVec 64} (h : Kept m r s) : Ends m r (execRegisterWrite reg value s) := by
  unfold execRegisterWrite
  refine Ends.ite (Ends.next (h.doorbell.ite h)) ?_
  refine Ends.ite (Ends.next (Kept.ite (h.same rfl) h)) ?_
  refine Ends.ite (Ends.next (h.csrWrite.ite h)) ?_
  split
  · exact Ends.next (h.hartRun.ite h)
  · rename_i e
    exact Ends.next ((KeptIn.hput h).of_eq e)
theorem Kept.launchAll {ctx a addr : Nat} {cores : List Nat} {args : Vector Word 4} (h : Kept m r s) :
    Kept m r (s.launchAll ctx a addr cores args) :=
  h.foldl fun _ _ h2 => KeptFst.launch h2
theorem Kept.relayed {ctx a addr : Nat} {args : Vector Word 4} (h : Kept m r s) : Kept m r (s.relayed ctx a addr args) := by
  unfold State.relayed
  split
  · exact h
  · exact h.launchAll
theorem execSdioLaunch_ends (h : Kept m r s) : Ends m r (execSdioLaunch s) := by
  unfold execSdioLaunch
  refine Ends.ite (Ends.next h) ?_
  split
  · exact Ends.next h.endCommand
  · exact Ends.next h.launchAll.endCommand
theorem execSdioWrite_ends (h : Kept m r s) : Ends m r (execSdioWrite s) := by
  unfold execSdioWrite
  refine Ends.ite (Ends.next h) ?_
  refine Ends.ite (Ends.next h.endCommand) ?_
  split
  · exact Ends.next h.endCommand
  · exact Ends.ite (Ends.next h) (Ends.next (Kept.endCommand (Kept.tagLines (h.withMem (fun hm => Mem.wf_puts _ _ (h.memOk hm)) rfl))))
theorem execSdioRead_ends (h : Kept m r s) : Ends m r (execSdioRead s) := by
  unfold execSdioRead
  refine Ends.ite (Ends.next h) ?_
  refine Ends.ite (Ends.next h.endCommand) ?_
  split
  · exact Ends.next h.endCommand
  · exact Ends.ite (Ends.next h) (Ends.ite (Ends.next h.endCommand) (Ends.next h.endReply))
theorem execSdioTraceRead_ends (h : Kept m r s) : Ends m r (execSdioTraceRead s) := by
  unfold execSdioTraceRead
  extract_lets t n s1
  have h1 : Kept m r s1 := h.ite (h.modCtx fun _ _ hx => hx.same rfl)
  exact Ends.ite (Ends.next h) (Ends.ite (Ends.next h.endCommand) (Ends.next h1.endReply))
theorem execQueryDevice_ends (h : Kept m r s) : Ends m r (execQueryDevice s) := Ends.ite (Ends.next h) (Ends.next h.endReply)
theorem execQueryContexts_ends (h : Kept m r s) : Ends m r (execQueryContexts s) := Ends.ite (Ends.next h) (Ends.next h.endReply)
theorem execQueryLinks_ends (h : Kept m r s) : Ends m r (execQueryLinks s) := Ends.ite (Ends.next h) (Ends.next h.endReply)
theorem execQueryStream_ends (h : Kept m r s) : Ends m r (execQueryStream s) :=
  Ends.ite (Ends.next h) (Ends.ite (Ends.next h.endCommand) (Ends.next h.endReply))
theorem execQueryCove_ends (h : Kept m r s) : Ends m r (execQueryCove s) := Ends.ite (Ends.next h) (Ends.next h.endReply)
theorem execSdioAttest_ends (h : Kept m r s) : Ends m r (execSdioAttest s) :=
  Ends.ite (Ends.next h) (Ends.ite (Ends.next h.endCommand) (Ends.next h.endReply))
theorem Kept.request {code : Nat} {bad refused : Bool} {act : State → State} (h : Kept m r s) (hact : ∀ (a : State), Kept m r a → Kept m r (act a)) :
    Kept m r (s.request code bad refused act) :=
  h.ite (h.endRequest.ite (h.endRequest.ite (Kept.endRequest (hact _ h))))
theorem State.created_rangesOk : s.created.RangesOk := fun _ hb => nomatch hb
theorem execFwCreateContext_ends (h : Kept m r s) : Ends m r (execFwCreateContext s) :=
  Ends.next (h.request fun _ h1 => h1.createContext fun _ => State.created_rangesOk)
theorem execFwDrainContext_ends (h : Kept m r s) : Ends m r (execFwDrainContext s) :=
  Ends.next (h.request fun _ h1 => Kept.ite (h1.modCtx fun _ _ hk => hk.same rfl) h1.enterDraining)
theorem execFwResumeContext_ends (h : Kept m r s) : Ends m r (execFwResumeContext s) :=
  Ends.next (h.request fun _ h1 => Kept.scheduleAll (h1.modCtx fun _ _ hk => hk.same rfl))
theorem execFwMap_ends (h : Kept m r s) : Ends m r (execFwMap s) :=
  Ends.ite (Ends.next h) (Ends.next (h.request fun _ h1 => h1.mapRange))
theorem execFwUnmap_ends (h : Kept m r s) : Ends m r (execFwUnmap s) :=
  Ends.ite (Ends.next h) (Ends.ite (Ends.next (h.ite h.endRequest)) (Ends.ite (Ends.next h.endRequest)
    (Ends.ite (Ends.next h.endRequest) (Ends.next (h.unmapRange.requestWaits.ite h.unmapRange.endRequest)))))
theorem Kept.fixParticipants {c : Nat} (h : Kept m r s) : Kept m r (s.fixParticipants c) := h.foldl fun _ _ h1 => h1.same rfl
theorem execFwParkCore_ends (h : Kept m r s) : Ends m r (execFwParkCore s) :=
  Ends.ite (Ends.next h) (Ends.next (h.request fun _ h1 => h1.fixParticipants.modCore fun _ _ hk => hk.same rfl))
theorem execFwUnparkCore_ends (h : Kept m r s) : Ends m r (execFwUnparkCore s) :=
  Ends.ite (Ends.next h) (Ends.next (h.request fun _ h1 => Kept.foldl (h1.fixParticipants.modCore fun _ _ hk =>
    hk.same rfl) fun _ _ h2 => h2.schedule.startService))
theorem Kept.setSource {x e : Nat} {live : Bool} (h : Kept m r s) : Kept m r (s.setSource x e live) := by
  unfold State.setSource
  extract_lets s1 k s2 l
  have h1 : Kept m r s1 := h.modCtx fun _ _ hx => hx.same rfl
  have h2 : Kept m r s2 := h1.mapCores
    (f := fun c => { c with queues := c.queues.map fun q => (q.1, if q.2.ctx = x then q.2.closeNormal k else q.2) })
    (fun _ _ hk => hk.mapQueues (f := fun u => if u.ctx = x then u.closeNormal k else u) fun _ hu => hu.closeNormal.ite hu) rfl
  exact h2.foldl fun _ _ hu => hu.closeStream.sendBwTide
theorem execFwRetireSource_ends (h : Kept m r s) : Ends m r (execFwRetireSource s) :=
  Ends.ite (Ends.next h) (Ends.next (h.request fun _ h1 => h1.setSource))
theorem execFwReviveSource_ends (h : Kept m r s) : Ends m r (execFwReviveSource s) :=
  Ends.ite (Ends.next h) (Ends.next (h.request fun _ h1 => h1.setSource))
theorem execFwConfigureStream_ends (h : Kept m r s) : Ends m r (execFwConfigureStream s) :=
  Ends.next (h.request fun _ h1 => h1.setStream)
theorem execFwSetTimer_ends (h : Kept m r s) : Ends m r (execFwSetTimer s) := Ends.next (h.request fun _ h1 => h1.same rfl)
theorem execFwLoadKernel_ends (h : Kept m r s) : Ends m r (execFwLoadKernel s) :=
  Ends.ite (Ends.next h) (Ends.ite (Ends.next h.endRequest) (Ends.ite (Ends.next h.endRequest) (Ends.ite (Ends.next h)
    (Ends.next h.beginKernel))))

end Sys2Proof.Machine
end

section
/-! Boot and reset: what the operations of Machine/Boot keep. -/

namespace Sys2Proof.Machine

variable {m r : Prop} {s : State}

theorem Kept.kept {warm : Bool} (h : Kept m r s) : Kept m r (s.kept warm) := by
  refine Kept.of_parts (fun hm => Mem.wf_filter _ _ (h.memOk hm)) (fun _ _ hp => absurd hp List.not_mem_nil) (fun _ _ hp =>
    absurd hp List.not_mem_nil)
    (fun _ _ hp => absurd hp List.not_mem_nil) (fun hr e he => ?_) (fun _ _ hp => absurd hp List.not_mem_nil)
  rcases List.mem_append.1 he with he | he
  · cases warm with
    | true => exact h.entries hr e (List.mem_append_left _ he)
    | false => exact absurd he List.not_mem_nil
  · exact absurd he List.not_mem_nil
theorem Kept.reports {n : Nat} (h : Kept m r s) : Kept m r (s.reports n) := by
  induction n generalizing s with
  | zero => exact h
  | succ n ih => exact ih h.report
theorem Mem.wf_loadColumn {l : List Host.Cell} (h : Mem.wf l = true) : Mem.wf (s.loadColumn l) = true :=
  Mem.wf_foldl h fun _ _ hc => Mem.wf_copy _ _ _ _ hc
theorem Kept.setMem {l : List Host.Cell} (h : Kept m r s) (hl : m → Mem.wf l = true) : Kept m r { s with mem := l } :=
  h.withMem hl rfl
theorem Kept.loadImage (h : Kept m r s) : Kept m r s.loadImage := by
  unfold State.loadImage
  exact h.setMem fun hm => Mem.wf_loadColumn (Mem.wf_copy _ _ _ _ (h.memOk hm))
theorem Kept.setConf {k : Word} (h : Kept m r s) : Kept m r { s with conf := k } := h.same rfl
theorem Kept.setRunning {p : Phase} {v : Nat} {hd : Headland} {f w : BitVec 512} (h : Kept m r s) :
    Kept m r { s with phase := p, svn := v, headland := hd, firewall := f, measured := w } := h.same rfl
theorem Kept.boot (h : Kept m r s) : Kept m r s.boot := by
  unfold State.boot
  extract_lets s1 s2 s3
  have h1 : Kept m r s1 := h.same rfl
  clear_value s1
  have h2 : Kept m r s2 := h1.reports
  clear_value s2
  have h3 : Kept m r s3 := h2.setConf.loadImage
  clear_value s3
  refine Kept.ite (h1.same rfl) ?_
  split
  · exact h1.same rfl
  · exact h3.setRunning
theorem execPowerOnReset_ends (h : Kept m r s) : Ends m r (execPowerOnReset s) := Ends.next h.kept.boot
theorem execWarmReset_ends (h : Kept m r s) : Ends m r (execWarmReset s) := Ends.next h.kept.boot
theorem execRecoveryStageWrite_ends (h : Kept m r s) : Ends m r (execRecoveryStageWrite s) :=
  Ends.ite (Ends.next h) (Ends.ite (Ends.next h.endCommand) (Ends.next h.putBytes.endCommand))
theorem execRecoveryCommit_ends (h : Kept m r s) : Ends m r (execRecoveryCommit s) := by
  unfold execRecoveryCommit
  refine Ends.ite (Ends.next h) ?_
  split
  · exact Ends.next h.endCommand
  · exact Ends.next (Kept.boot (Kept.kept (h.withMem (fun hm => Mem.wf_copy _ _ _ _ (h.memOk hm)) rfl)))
theorem execRecoveryQuery_ends (h : Kept m r s) : Ends m r (execRecoveryQuery s) := by
  unfold execRecoveryQuery
  refine Ends.ite (Ends.next h) ?_
  split
  · exact Ends.next (Kept.endReply (h.same rfl))
  · exact Ends.next h.endReply
  · exact Ends.next h
theorem execReservedEncoding_ends {w : BitVec 32} {tail : Bool} (h : Kept m r s) : Ends m r (execReservedEncoding w tail s) :=
  Ends.next (takeTrap_kept h)
theorem execFetchPageTrap_ends {va : BitVec 64} {status : BitVec 6} (h : Kept m r s) : Ends m r (execFetchPageTrap va status s) :=
  Ends.next (takeTrap_kept h)

end Sys2Proof.Machine
end

section
/-! Geometry: what the operations of Machine/Geometry keep. -/

namespace Sys2Proof.Machine

variable {m r : Prop} {s : State}

theorem geom_runs {k : Pred} {f : BitVec 1} {msg : BitVec 3} {a d : BitVec 5} : Runs m r (geom k f msg a d : M Unit) := by
  intro s h
  unfold geom
  extract_lets t w tie base nc size reg lanes bad
  refine Stays.trap.ite ?_
  split
  · exact Stays.trap
  · exact Stays.ite (Stays.ok h.modMe.advance) (Stays.ite (Stays.wait h) (Stays.wait (Kept.modMe (h.modCore fun _ _ hk => hk.same rfl))))
theorem execGori2_ends {f : BitVec 1} {g : BitVec 3} {a d : BitVec 5} (h : Kept m r s) : Ends m r (execGori2 f g a d s) :=
  runM_ends geom_runs h
theorem execGori3_ends {f : BitVec 1} {g : BitVec 3} {a d : BitVec 5} (h : Kept m r s) : Ends m r (execGori3 f g a d s) :=
  runM_ends geom_runs h
theorem execGinc_ends {f : BitVec 1} {g : BitVec 3} {a d : BitVec 5} (h : Kept m r s) : Ends m r (execGinc f g a d s) :=
  runM_ends geom_runs h
theorem execGins_ends {f : BitVec 1} {g : BitVec 3} {a d : BitVec 5} (h : Kept m r s) : Ends m r (execGins f g a d s) :=
  runM_ends geom_runs h
theorem execGseg_ends {f : BitVec 1} {g : BitVec 3} {a d : BitVec 5} (h : Kept m r s) : Ends m r (execGseg f g a d s) :=
  runM_ends geom_runs h
theorem execPredicateComplete_ends {core slot : Nat} (h : Kept m r s) : Ends m r (execPredicateComplete core slot s) := by
  unfold execPredicateComplete
  extract_lets _ s1
  have hs1 : Kept m r s1 := h.modCore fun _ _ hk => hk.same rfl
  split
  · refine Ends.ite ?_ (Ends.next h)
    split
    · exact Ends.next hs1.trapSlot
    · exact Ends.next (hs1.modSlot.share.ite hs1.modSlot)
  · exact Ends.next h
theorem cells_runs {ga : Word} {n : Nat} {store read : Bool} : Runs m r (cells ga n store read : M (List Nat)) :=
  misaligned_runs.ite (Runs.mapM fun _ => localAddr_runs.bind fun _ => Runs.get_bind fun _ _ => stopTrap_runs.ite
    (afterAtomics_runs.bind fun _ => Runs.pure))
theorem datapathFree_runs : Runs m r (datapathFree : M Unit) := by
  intro s h
  unfold datapathFree
  exact Stays.ite (Stays.wait h) (Stays.ok h)
theorem execXclr_ends {t a : BitVec 5} (h : Kept m r s) : Ends m r (execXclr t a s) :=
  runM_ends (getG_runs.bind fun _ => cells_runs.bind fun _ => outbound_runs.bind fun _ => Runs.bind (Runs.modifying fun _ h1 =>
    h1.foldl fun _ _ h2 => h2.putNum) fun _ => done_runs) h
theorem execXadd_ends {t b a msg : BitVec 5} (h : Kept m r s) : Ends m r (execXadd t b a msg s) := by
  unfold execXadd
  refine runM_ends ?_ h
  refine getG_runs.bind ?_
  intro _
  refine Runs.get_bind ?_
  intro _ _
  refine cells_runs.bind ?_
  intro _
  refine outbound_runs.bind ?_
  intro _
  refine datapathFree_runs.bind ?_
  intro _
  refine Runs.bind ?_ fun _ => done_runs
  refine Runs.modifying ?_
  intro _ h2
  refine h2.foldl ?_
  intro _ _ h3
  refine Kept.ite ?_ h3
  split
  exact h3.putNum.orFlags
theorem execXrnd_ends {a d : BitVec 5} (h : Kept m r s) : Ends m r (execXrnd a d s) :=
  runM_ends (getG_runs.bind fun _ => cells_runs.bind fun _ => datapathFree_runs.bind fun _ => Runs.bind (Runs.modifying fun _ h1 =>
    h1.wv.orFlags) fun _ => done_runs) h

end Sys2Proof.Machine
end

section
/-! The governor: what the operations of Machine/Governor keep. -/

namespace Sys2Proof.Machine

variable {m r : Prop} {s : State}

theorem Ctx.RangesOk.renew {a : Ctx} {allot : Nat} (hx : a.RangesOk) : (a.renew allot).RangesOk := hx.same rfl
theorem Core.RangesOk.lowerVt {k : Core} (hk : k.RangesOk) : k.lowerVt.RangesOk := by
  unfold Core.lowerVt
  split
  · exact hk.same rfl
  · exact hk
theorem execGovernorPeriod_ends (h : Kept m r s) : Ends m r (execGovernorPeriod s) := by
  refine Ends.ite (Ends.next h) (Ends.next ?_)
  refine Kept.of_parts h.memOk (fun hr p hp => ?_) h.coves (fun hr p hp => ?_) h.entries h.commits
  · obtain ⟨q, hq, rfl⟩ := List.mem_map.1 hp
    exact (h.cores hr q hq).lowerVt
  · obtain ⟨q, hq, rfl⟩ := List.mem_map.1 hp
    exact (Ctx.RangesOk.renew (h.ctxs hr q hq)).ite (h.ctxs hr q hq)
theorem execQuotaExhausted_ends {ctx : Nat} (h : Kept m r s) : Ends m r (execQuotaExhausted ctx s) := by
  unfold execQuotaExhausted
  extract_lets x
  have hx : r → x.RangesOk := fun hr => h.ctx _ hr
  exact Ends.ite (Ends.next h) (Ends.next (h.setCtx fun hr => Ctx.RangesOk.same (hx hr) rfl))
theorem execEnrgDelivery_ends {core ctx : Nat} (h : Kept m r s) : Ends m r (execEnrgDelivery core ctx s) := by
  unfold execEnrgDelivery
  extract_lets _ s'
  have hs' : Kept m r s' := h.modCore fun _ _ hk => hk.same rfl
  exact Ends.ite (Ends.next h) (Ends.next (hs'.schedule.ite hs'))
theorem execDvfsStepDone_ends {die : Nat} (h : Kept m r s) : Ends m r (execDvfsStepDone die s) := Ends.next (h.same rfl)
theorem execThermalSample_ends {t0 t1 : List Nat} (h : Kept m r s) : Ends m r (execThermalSample t0 t1 s) := by
  unfold execThermalSample
  extract_lets t s1
  have h1 : Kept m r s1 := h.same rfl
  exact Ends.next (h1.foldl fun _ _ h => h.report)

end Sys2Proof.Machine
end

section
/-! Groups: what the operations of Machine/Group keep. -/

namespace Sys2Proof.Machine

variable {m r : Prop} {s : State}

theorem execGang_ends {k : BitVec 2} {d : BitVec 5} (h : Kept m r s) : Ends m r (execGang k d s) :=
  runM_ends (Runs.get_bind fun _ h1 => illegal_runs.ite
    (waitFor_runs.ite (retG_runs.ite (Runs.bind (Runs.set (h1.wg.foldl fun _ _ h2 => Kept.setSlot (h2.modCore fun _ _ hk =>
    hk.activate)).modMe) fun _ => done_runs)))) h
theorem execSplit_ends (h : Kept m r s) : Ends m r (execSplit s) := by
  unfold execSplit
  refine Ends.ite ?_ (Ends.next h.modMe.advance)
  split
  rename_i e
  exact Ends.next (Kept.modMe (Kept.advance (KeptSnd.of_eq (KeptSnd.nextTaskId h) e)))
theorem execPairchk_ends {n : BitVec 2} {a : BitVec 5} (h : Kept m r s) : Ends m r (execPairchk n a s) :=
  Ends.ite (Ends.next h.advance) (runM_ends (Runs.get_bind fun _ _ => outbound_runs.bind fun _ => done_runs) h)

end Sys2Proof.Machine
end

section
/-! Scalar instructions: what the operations of Machine/Scalar keep. -/

namespace Sys2Proof.Machine

variable {m r : Prop} {s : State}

theorem aluG_ends {d : BitVec 5} {a : Word} (h : Kept m r s) : Ends m r (aluG d a s) := Ends.next h.wg.advance
theorem fpG_ends {d : BitVec 5} {rc : Nat × Flags} (h : Kept m r s) : Ends m r (fpG d rc s) := Ends.next h.wg.orFlags.advance
theorem execAdd_ends {t b a d : BitVec 5} (h : Kept m r s) : Ends m r (execAdd t b a d s) := aluG_ends h
theorem execSub_ends {t b a d : BitVec 5} (h : Kept m r s) : Ends m r (execSub t b a d s) := aluG_ends h
theorem execSlt_ends {t b a d : BitVec 5} (h : Kept m r s) : Ends m r (execSlt t b a d s) := aluG_ends h
theorem execMin_ends {t b a d : BitVec 5} (h : Kept m r s) : Ends m r (execMin t b a d s) := aluG_ends h
theorem execMax_ends {t b a d : BitVec 5} (h : Kept m r s) : Ends m r (execMax t b a d s) := aluG_ends h
theorem execAdds_ends {t b a d : BitVec 5} (h : Kept m r s) : Ends m r (execAdds t b a d s) := aluG_ends h
theorem execSubs_ends {t b a d : BitVec 5} (h : Kept m r s) : Ends m r (execSubs t b a d s) := aluG_ends h
theorem execAnd_ends {t b a d : BitVec 5} (h : Kept m r s) : Ends m r (execAnd t b a d s) := aluG_ends h
theorem execOr_ends {t b a d : BitVec 5} (h : Kept m r s) : Ends m r (execOr t b a d s) := aluG_ends h
theorem execXor_ends {t b a d : BitVec 5} (h : Kept m r s) : Ends m r (execXor t b a d s) := aluG_ends h
theorem execSll_ends {t b a d : BitVec 5} (h : Kept m r s) : Ends m r (execSll t b a d s) := aluG_ends h
theorem execSrl_ends {t b a d : BitVec 5} (h : Kept m r s) : Ends m r (execSrl t b a d s) := aluG_ends h
theorem execSra_ends {t b a d : BitVec 5} (h : Kept m r s) : Ends m r (execSra t b a d s) := aluG_ends h
theorem execClz_ends {t a d : BitVec 5} (h : Kept m r s) : Ends m r (execClz t a d s) := aluG_ends h
theorem execCtz_ends {t a d : BitVec 5} (h : Kept m r s) : Ends m r (execCtz t a d s) := aluG_ends h
theorem execPopc_ends {t a d : BitVec 5} (h : Kept m r s) : Ends m r (execPopc t a d s) := aluG_ends h
theorem execAddi_ends {i : BitVec 14} {a d : BitVec 5} (h : Kept m r s) : Ends m r (execAddi i a d s) := aluG_ends h
theorem execAndi_ends {i : BitVec 14} {a d : BitVec 5} (h : Kept m r s) : Ends m r (execAndi i a d s) := aluG_ends h
theorem execOri_ends {i : BitVec 14} {a d : BitVec 5} (h : Kept m r s) : Ends m r (execOri i a d s) := aluG_ends h
theorem execXori_ends {i : BitVec 14} {a d : BitVec 5} (h : Kept m r s) : Ends m r (execXori i a d s) := aluG_ends h
theorem execSlti_ends {i : BitVec 13} {a d : BitVec 5} (h : Kept m r s) : Ends m r (execSlti i a d s) := aluG_ends h
theorem execSltiz_ends {i : BitVec 13} {a d : BitVec 5} (h : Kept m r s) : Ends m r (execSltiz i a d s) := aluG_ends h
theorem execSlli_ends {n : BitVec 6} {a d : BitVec 5} (h : Kept m r s) : Ends m r (execSlli n a d s) := aluG_ends h
theorem execSrli_ends {n : BitVec 6} {a d : BitVec 5} (h : Kept m r s) : Ends m r (execSrli n a d s) := aluG_ends h
theorem execSrai_ends {n : BitVec 6} {a d : BitVec 5} (h : Kept m r s) : Ends m r (execSrai n a d s) := aluG_ends h
theorem execRori_ends {n : BitVec 6} {a d : BitVec 5} (h : Kept m r s) : Ends m r (execRori n a d s) := aluG_ends h
theorem execLui_ends {i : BitVec 14} {a d : BitVec 5} (h : Kept m r s) : Ends m r (execLui i a d s) := aluG_ends h
theorem execAddpc_ends {i : BitVec 14} {d : BitVec 5} (h : Kept m r s) : Ends m r (execAddpc i d s) := aluG_ends h
theorem execExt_ends {a : BitVec 1} {l p : BitVec 6} {b d : BitVec 5} (h : Kept m r s) : Ends m r (execExt a l p b d s) :=
  aluG_ends h
theorem execIns_ends {l p : BitVec 6} {a d : BitVec 5} (h : Kept m r s) : Ends m r (execIns l p a d s) := aluG_ends h
theorem execMul_ends {t b a d : BitVec 5} (h : Kept m r s) : Ends m r (execMul t b a d s) := aluG_ends h
theorem execMulh_ends {t b a d : BitVec 5} (h : Kept m r s) : Ends m r (execMulh t b a d s) := aluG_ends h
theorem execDiv_ends {t b a d : BitVec 5} (h : Kept m r s) : Ends m r (execDiv t b a d s) := aluG_ends h
theorem execRem_ends {t b a d : BitVec 5} (h : Kept m r s) : Ends m r (execRem t b a d s) := aluG_ends h
theorem execMuls_ends {t b a d : BitVec 5} (h : Kept m r s) : Ends m r (execMuls t b a d s) := aluG_ends h
theorem execFadd_ends {t b a d : BitVec 5} (h : Kept m r s) : Ends m r (execFadd t b a d s) := fpG_ends h
theorem execFsub_ends {t b a d : BitVec 5} (h : Kept m r s) : Ends m r (execFsub t b a d s) := fpG_ends h
theorem execFmul_ends {t b a d : BitVec 5} (h : Kept m r s) : Ends m r (execFmul t b a d s) := fpG_ends h
theorem execFdiv_ends {t b a d : BitVec 5} (h : Kept m r s) : Ends m r (execFdiv t b a d s) := fpG_ends h
theorem execFmin_ends {t b a d : BitVec 5} (h : Kept m r s) : Ends m r (execFmin t b a d s) := fpG_ends h
theorem execFmax_ends {t b a d : BitVec 5} (h : Kept m r s) : Ends m r (execFmax t b a d s) := fpG_ends h
theorem execFsgnj_ends {t b a d : BitVec 5} (h : Kept m r s) : Ends m r (execFsgnj t b a d s) := fpG_ends h
theorem execFsgnjn_ends {t b a d : BitVec 5} (h : Kept m r s) : Ends m r (execFsgnjn t b a d s) := fpG_ends h
theorem execFsgnjx_ends {t b a d : BitVec 5} (h : Kept m r s) : Ends m r (execFsgnjx t b a d s) := fpG_ends h
theorem execFsqrt_ends {t a d : BitVec 5} (h : Kept m r s) : Ends m r (execFsqrt t a d s) := fpG_ends h
theorem execFeq_ends {t b a d : BitVec 5} (h : Kept m r s) : Ends m r (execFeq t b a d s) := fpG_ends h
theorem execFlt_ends {t b a d : BitVec 5} (h : Kept m r s) : Ends m r (execFlt t b a d s) := fpG_ends h
theorem execFle_ends {t b a d : BitVec 5} (h : Kept m r s) : Ends m r (execFle t b a d s) := fpG_ends h
theorem execFcvt_ends {src dst a d : BitVec 5} (h : Kept m r s) : Ends m r (execFcvt src dst a d s) :=
  Ends.ite (Ends.next h.wg.orFlags.advance) (Ends.ite (fpG_ends h) (fpG_ends h))
theorem execFclass_ends {t a d : BitVec 5} (h : Kept m r s) : Ends m r (execFclass t a d s) := aluG_ends h
theorem execFma_ends {c b a d : BitVec 5} (h : Kept m r s) : Ends m r (execFma c b a d s) := fpG_ends h
theorem execFnma_ends {c b a d : BitVec 5} (h : Kept m r s) : Ends m r (execFnma c b a d s) := fpG_ends h

end Sys2Proof.Machine
end

section
/-! Vector instructions: what the operations of Machine/Vector keep. -/

namespace Sys2Proof.Machine

variable {m r : Prop} {s : State}

theorem retV_runs {d : BitVec 5} {a : Vec} : Runs m r (retV d a : M Unit) := by
  intro s h
  unfold retV
  exact Stays.ok h.wv.advance
theorem retVF_runs {d : BitVec 5} {rc : Vec × Flags} : Runs m r (retVF d rc : M Unit) := by
  intro s h
  unfold retVF
  exact Stays.ok h.wv.orFlags.advance
theorem retM_runs {d : BitVec 5} {a : Word} : Runs m r (retM d a : M Unit) := by
  intro s h
  unfold retM
  exact Stays.ok h.wmask.advance
theorem ops2_runs {t : Nat} {a b : BitVec 5} : Runs m r (ops2 t a b : M (Vec × Vec)) := by
  intro s h
  unfold ops2
  exact expandOps_runs.at h
theorem ops1_runs {t : Nat} {a : BitVec 5} : Runs m r (ops1 t a : M Vec) := by
  intro s h
  unfold ops1
  exact Runs.at (expandOps_runs.bind fun _ => Runs.pure) h
theorem vint_runs {t b a d : BitVec 5} {f : Int → Int → Int} : Runs m r (vint t b a d f : M Unit) := by
  unfold vint
  refine ops2_runs.bind ?_
  intro _
  split
  exact retV_runs
theorem vfp_runs {t b a d : BitVec 5} {f : Fmt → Nat → Nat → Nat → Nat × Flags} : Runs m r (vfp t b a d f : M Unit) := by
  unfold vfp
  refine ops2_runs.bind ?_
  intro _
  split
  exact Runs.get_bind fun _ _ => retVF_runs
theorem vpat_runs {t b a d : BitVec 5} {f : Nat → Nat → Nat → Nat} : Runs m r (vpat t b a d f : M Unit) := by
  unfold vpat
  refine ops2_runs.bind ?_
  intro _
  split
  exact retV_runs
theorem vcmp_runs {t b a d : BitVec 5} {fi : Int → Int → Bool} {ff : Fmt → Nat → Nat → Bool × Flags} :
    Runs m r (vcmp t b a d fi ff : M Unit) := by
  unfold vcmp
  refine ops2_runs.bind ?_
  intro _
  split
  exact fun _ h => Stays.ok h.wmask.orFlags.advance
theorem vred_runs {k : Nat} {t b a d : BitVec 5} : Runs m r (vred k t b a d : M Unit) := by
  unfold vred
  refine ops1_runs.bind ?_
  intro _
  refine Runs.get_bind ?_
  intro _ _
  extract_lets _ _
  split <;> exact retVF_runs
theorem vscanK_runs {k : Nat} {t b a d : BitVec 5} : Runs m r (vscanK k t b a d : M Unit) :=
  ops1_runs.bind fun _ => Runs.get_bind fun _ _ => retVF_runs
theorem execVadd_ends {t b a d : BitVec 5} (h : Kept m r s) : Ends m r (execVadd t b a d s) := runM_ends vint_runs h
theorem execVsub_ends {t b a d : BitVec 5} (h : Kept m r s) : Ends m r (execVsub t b a d s) := runM_ends vint_runs h
theorem execVmul_ends {t b a d : BitVec 5} (h : Kept m r s) : Ends m r (execVmul t b a d s) := runM_ends vint_runs h
theorem execVmulh_ends {t b a d : BitVec 5} (h : Kept m r s) : Ends m r (execVmulh t b a d s) := runM_ends vint_runs h
theorem execVmin_ends {t b a d : BitVec 5} (h : Kept m r s) : Ends m r (execVmin t b a d s) := runM_ends vint_runs h
theorem execVmax_ends {t b a d : BitVec 5} (h : Kept m r s) : Ends m r (execVmax t b a d s) := runM_ends vint_runs h
theorem execVadds_ends {t b a d : BitVec 5} (h : Kept m r s) : Ends m r (execVadds t b a d s) := runM_ends vint_runs h
theorem execVsubs_ends {t b a d : BitVec 5} (h : Kept m r s) : Ends m r (execVsubs t b a d s) := runM_ends vint_runs h
theorem execVmuls_ends {t b a d : BitVec 5} (h : Kept m r s) : Ends m r (execVmuls t b a d s) := runM_ends vint_runs h
theorem execVabsd_ends {t b a d : BitVec 5} (h : Kept m r s) : Ends m r (execVabsd t b a d s) := runM_ends vint_runs h
theorem execVavg_ends {t b a d : BitVec 5} (h : Kept m r s) : Ends m r (execVavg t b a d s) := runM_ends vint_runs h
theorem execVabs_ends {t a d : BitVec 5} (h : Kept m r s) : Ends m r (execVabs t a d s) :=
  runM_ends (ops1_runs.bind fun _ => retV_runs) h
theorem execVfadd_ends {t b a d : BitVec 5} (h : Kept m r s) : Ends m r (execVfadd t b a d s) := runM_ends vfp_runs h
theorem execVfsub_ends {t b a d : BitVec 5} (h : Kept m r s) : Ends m r (execVfsub t b a d s) := runM_ends vfp_runs h
theorem execVfmul_ends {t b a d : BitVec 5} (h : Kept m r s) : Ends m r (execVfmul t b a d s) := runM_ends vfp_runs h
theorem execVfdiv_ends {t b a d : BitVec 5} (h : Kept m r s) : Ends m r (execVfdiv t b a d s) := runM_ends vfp_runs h
theorem execVfmin_ends {t b a d : BitVec 5} (h : Kept m r s) : Ends m r (execVfmin t b a d s) := runM_ends vfp_runs h
theorem execVfmax_ends {t b a d : BitVec 5} (h : Kept m r s) : Ends m r (execVfmax t b a d s) := runM_ends vfp_runs h
theorem execVfsgnj_ends {t b a d : BitVec 5} (h : Kept m r s) : Ends m r (execVfsgnj t b a d s) := runM_ends vfp_runs h
theorem execVfsgnjn_ends {t b a d : BitVec 5} (h : Kept m r s) : Ends m r (execVfsgnjn t b a d s) := runM_ends vfp_runs h
theorem execVfsgnjx_ends {t b a d : BitVec 5} (h : Kept m r s) : Ends m r (execVfsgnjx t b a d s) := runM_ends vfp_runs h
theorem execVfsqrt_ends {t a d : BitVec 5} (h : Kept m r s) : Ends m r (execVfsqrt t a d s) :=
  runM_ends (ops1_runs.bind fun _ => Runs.get_bind fun _ _ => retVF_runs) h
theorem execVfma_ends {msg : BitVec 3} {c b a d : BitVec 5} (h : Kept m r s) : Ends m r (execVfma msg c b a d s) := by
  unfold execVfma
  refine runM_ends ?_ h
  refine Runs.get_bind ?_
  intro _ _
  refine ops2_runs.bind ?_
  intro _
  split
  exact retVF_runs
theorem execVfnma_ends {msg : BitVec 3} {c b a d : BitVec 5} (h : Kept m r s) : Ends m r (execVfnma msg c b a d s) := by
  unfold execVfnma
  refine runM_ends ?_ h
  refine Runs.get_bind ?_
  intro _ _
  refine ops2_runs.bind ?_
  intro _
  split
  exact retVF_runs
theorem execVand_ends {t b a d : BitVec 5} (h : Kept m r s) : Ends m r (execVand t b a d s) := runM_ends vpat_runs h
theorem execVor_ends {t b a d : BitVec 5} (h : Kept m r s) : Ends m r (execVor t b a d s) := runM_ends vpat_runs h
theorem execVxor_ends {t b a d : BitVec 5} (h : Kept m r s) : Ends m r (execVxor t b a d s) := runM_ends vpat_runs h
theorem execVandn_ends {t b a d : BitVec 5} (h : Kept m r s) : Ends m r (execVandn t b a d s) := runM_ends vpat_runs h
theorem execVsll_ends {t b a d : BitVec 5} (h : Kept m r s) : Ends m r (execVsll t b a d s) := runM_ends vpat_runs h
theorem execVsrl_ends {t b a d : BitVec 5} (h : Kept m r s) : Ends m r (execVsrl t b a d s) := runM_ends vpat_runs h
theorem execVsra_ends {t b a d : BitVec 5} (h : Kept m r s) : Ends m r (execVsra t b a d s) := runM_ends vpat_runs h
theorem execVror_ends {t b a d : BitVec 5} (h : Kept m r s) : Ends m r (execVror t b a d s) := runM_ends vpat_runs h
theorem execVceq_ends {t b a d : BitVec 5} (h : Kept m r s) : Ends m r (execVceq t b a d s) := runM_ends vcmp_runs h
theorem execVcne_ends {t b a d : BitVec 5} (h : Kept m r s) : Ends m r (execVcne t b a d s) := runM_ends vcmp_runs h
theorem execVclt_ends {t b a d : BitVec 5} (h : Kept m r s) : Ends m r (execVclt t b a d s) := runM_ends vcmp_runs h
theorem execVcle_ends {t b a d : BitVec 5} (h : Kept m r s) : Ends m r (execVcle t b a d s) := runM_ends vcmp_runs h
theorem execVctst_ends {t b a d : BitVec 5} (h : Kept m r s) : Ends m r (execVctst t b a d s) := by
  unfold execVctst
  refine runM_ends ?_ h
  refine ops2_runs.bind ?_
  intro _
  split
  exact retM_runs
theorem execVsel_ends {msg : BitVec 3} {t b a d : BitVec 5} (h : Kept m r s) : Ends m r (execVsel msg t b a d s) := by
  unfold execVsel
  refine runM_ends ?_ h
  refine ops2_runs.bind ?_
  intro _
  split
  exact Runs.get_bind fun _ _ => retV_runs
theorem execVcvt_ends {a : BitVec 1} {p : BitVec 3} {src dst b d : BitVec 5} (h : Kept m r s) : Ends m r (execVcvt a p src dst b d s) :=
  runM_ends (ops1_runs.bind fun _ => Runs.get_bind fun _ _ => retVF_runs) h
theorem execVmxsc_ends {j : BitVec 2} {src e a d : BitVec 5} (h : Kept m r s) : Ends m r (execVmxsc j src e a d s) :=
  runM_ends (ops1_runs.bind fun _ => Runs.get_bind fun _ _ => retV_runs) h
theorem vperm2_runs {t b a d : BitVec 5} {f : (Nat → Nat) → (Nat → Nat) → Nat → Nat → Nat} : Runs m r (vperm2 t b a d f : M Unit) :=
  ops1_runs.bind fun _ => Runs.get_bind fun _ _ => retV_runs
theorem vpermG_runs {t b a d : BitVec 5} {f : (Nat → Nat) → Nat → Nat → Nat → Nat} : Runs m r (vpermG t b a d f : M Unit) :=
  ops1_runs.bind fun _ => Runs.get_bind fun _ _ => retV_runs
theorem execVperm_ends {t b a d : BitVec 5} (h : Kept m r s) : Ends m r (execVperm t b a d s) := runM_ends vperm2_runs h
theorem execVzipl_ends {t b a d : BitVec 5} (h : Kept m r s) : Ends m r (execVzipl t b a d s) := runM_ends vperm2_runs h
theorem execVziph_ends {t b a d : BitVec 5} (h : Kept m r s) : Ends m r (execVziph t b a d s) := runM_ends vperm2_runs h
theorem execVuzpe_ends {t b a d : BitVec 5} (h : Kept m r s) : Ends m r (execVuzpe t b a d s) := runM_ends vperm2_runs h
theorem execVuzpo_ends {t b a d : BitVec 5} (h : Kept m r s) : Ends m r (execVuzpo t b a d s) := runM_ends vperm2_runs h
theorem execVslideup_ends {t b a d : BitVec 5} (h : Kept m r s) : Ends m r (execVslideup t b a d s) := runM_ends vpermG_runs h
theorem execVslidedn_ends {t b a d : BitVec 5} (h : Kept m r s) : Ends m r (execVslidedn t b a d s) := runM_ends vpermG_runs h
theorem execVbcastl_ends {t b a d : BitVec 5} (h : Kept m r s) : Ends m r (execVbcastl t b a d s) := runM_ends vpermG_runs h
theorem execVbcast_ends {t b d : BitVec 5} (h : Kept m r s) : Ends m r (execVbcast t b d s) := runM_ends retV_runs h
theorem execVext_ends {t b a d : BitVec 5} (h : Kept m r s) : Ends m r (execVext t b a d s) :=
  runM_ends (ops1_runs.bind fun _ => Runs.get_bind fun _ _ => retG_runs) h
theorem execVins_ends {t b a d : BitVec 5} (h : Kept m r s) : Ends m r (execVins t b a d s) := runM_ends retV_runs h
theorem execVredsum_ends {t b a d : BitVec 5} (h : Kept m r s) : Ends m r (execVredsum t b a d s) := runM_ends vred_runs h
theorem execVredmin_ends {t b a d : BitVec 5} (h : Kept m r s) : Ends m r (execVredmin t b a d s) := runM_ends vred_runs h
theorem execVredmax_ends {t b a d : BitVec 5} (h : Kept m r s) : Ends m r (execVredmax t b a d s) := runM_ends vred_runs h
theorem execVscan_ends {t b a d : BitVec 5} (h : Kept m r s) : Ends m r (execVscan t b a d s) := runM_ends vscanK_runs h
theorem execVscanmin_ends {t b a d : BitVec 5} (h : Kept m r s) : Ends m r (execVscanmin t b a d s) := runM_ends vscanK_runs h
theorem execVscanmax_ends {t b a d : BitVec 5} (h : Kept m r s) : Ends m r (execVscanmax t b a d s) := runM_ends vscanK_runs h
theorem execVdot_ends {t b a d : BitVec 5} (h : Kept m r s) : Ends m r (execVdot t b a d s) := by
  unfold execVdot
  refine runM_ends ?_ h
  refine ops2_runs.bind ?_
  intro _
  refine Runs.get_bind ?_
  intro _ _
  refine retV_runs.ite ?_
  extract_lets rt f op l
  split
  · exact retVF_runs
  · exact retVF_runs
theorem execMand_ends {b a d : BitVec 5} (h : Kept m r s) : Ends m r (execMand b a d s) := runM_ends retM_runs h
theorem execMor_ends {b a d : BitVec 5} (h : Kept m r s) : Ends m r (execMor b a d s) := runM_ends retM_runs h
theorem execMxor_ends {b a d : BitVec 5} (h : Kept m r s) : Ends m r (execMxor b a d s) := runM_ends retM_runs h
theorem execMandn_ends {b a d : BitVec 5} (h : Kept m r s) : Ends m r (execMandn b a d s) := runM_ends retM_runs h
theorem execMnot_ends {a d : BitVec 5} (h : Kept m r s) : Ends m r (execMnot a d s) := runM_ends retM_runs h
theorem execMpopc_ends {a d : BitVec 5} (h : Kept m r s) : Ends m r (execMpopc a d s) := runM_ends retG_runs h
theorem execMfirst_ends {a d : BitVec 5} (h : Kept m r s) : Ends m r (execMfirst a d s) := runM_ends retG_runs h
theorem execMfromg_ends {a d : BitVec 5} (h : Kept m r s) : Ends m r (execMfromg a d s) := runM_ends retM_runs h
theorem execMtog_ends {a d : BitVec 5} (h : Kept m r s) : Ends m r (execMtog a d s) := runM_ends retG_runs h
theorem execMlanes_ends {t d : BitVec 5} (h : Kept m r s) : Ends m r (execMlanes t d s) := runM_ends retM_runs h
theorem execCbx_ends {seg : BitVec 4} {k n a d : BitVec 5} (h : Kept m r s) : Ends m r (execCbx seg k n a d s) :=
  runM_ends (sample_runs.bind fun _ => illegal_runs.ite (expand_runs.bind fun _ => retV_runs)) h

end Sys2Proof.Machine
end

section
/-! Every instruction and event: what the operations of Machine/Dispatch keep. -/

namespace Sys2Proof.Machine

variable {m r : Prop} {s : State}

/-- Every instruction and every event ends in a next state that keeps what is asked. -/
theorem exec_ends {i : Instr} (h : Kept m r s) : Ends m r (exec i s) := by
  cases i with
  | nop => exact execNop_ends h
  | halt => exact execHalt_ends h
  | haltr => exact execHaltr_ends h
  | brk => exact execBrk_ends h
  | sys => exact execSys_ends h
  | pfx => exact execPfx_ends h
  | br => exact execBr_ends h
  | brl => exact execBrl_ends h
  | jr => exact execJr_ends h
  | jrl => exact execJrl_ends h
  | bcc => exact execBcc_ends h
  | bmask => exact execBmask_ends h
  | loop => exact execLoop_ends h
  | ld => exact execLd_ends h
  | st => exact execSt_ends h
  | vld => exact execVld_ends h
  | vst => exact execVst_ends h
  | vgather => exact execVgather_ends h
  | vscatter => exact execVscatter_ends h
  | pref => exact execPref_ends h
  | prefh => exact execPrefh_ends h
  | clean => exact execClean_ends h
  | inv => exact execInv_ends h
  | lda => exact execLda_ends h
  | strel => exact execStrel_ends h
  | fence => exact execFence_ends h
  | amoSwap => exact execAmoSwap_ends h
  | amoCas => exact execAmoCas_ends h
  | amoAdd => exact execAmoAdd_ends h
  | amoAnd => exact execAmoAnd_ends h
  | amoOr => exact execAmoOr_ends h
  | amoXor => exact execAmoXor_ends h
  | amoMinS => exact execAmoMinS_ends h
  | amoMaxS => exact execAmoMaxS_ends h
  | amoMinZ => exact execAmoMinZ_ends h
  | amoMaxZ => exact execAmoMaxZ_ends h
  | amoFadd => exact execAmoFadd_ends h
  | amoFmin => exact execAmoFmin_ends h
  | amoFmax => exact execAmoFmax_ends h
  | amoXadd => exact execAmoXadd_ends h
  | amoXaddv => exact execAmoXaddv_ends h
  | amoDep => exact execAmoDep_ends h
  | amoFlags => exact execAmoFlags_ends h
  | csrrw => exact execCsrrw_ends h
  | csrrs => exact execCsrrs_ends h
  | csrrc => exact execCsrrc_ends h
  | mbtake => exact execMbtake_ends h
  | mbclr => exact execMbclr_ends h
  | recv => exact execRecv_ends h
  | rpeek => exact execRpeek_ends h
  | rack => exact execRack_ends h
  | qstat => exact execQstat_ends h
  | emit => exact execEmit_ends h
  | emitl => exact execEmitl_ends h
  | tide => exact execTide_ends h
  | tsread => exact execTsread_ends h
  | tsinh => exact execTsinh_ends h
  | tflush => exact execTflush_ends h
  | tget => exact execTget_ends h
  | trel => exact execTrel_ends h
  | tstat => exact execTstat_ends h
  | tstatHandle => exact execTstatHandle_ends h
  | mxq => exact execMxq_ends h
  | mxpoll => exact execMxpoll_ends h
  | mxwait => exact execMxwait_ends h
  | mxcan => exact execMxcan_ends h
  | ebq => exact execEbq_ends h
  | ebwait => exact execEbwait_ends h
  | ebwaitNw => exact execEbwaitNw_ends h
  | cbld => exact execCbld_ends h
  | cblda => exact execCblda_ends h
  | cbswap => exact execCbswap_ends h
  | cbinv => exact execCbinv_ends h
  | cbrd => exact execCbrd_ends h
  | cbstat => exact execCbstat_ends h
  | spawn => exact execSpawn_ends h
  | spawnr => exact execSpawnr_ends h
  | amsg => exact execAmsg_ends h
  | migrate => exact execMigrate_ends h
  | launch => exact execLaunch_ends h
  | join => exact execJoin_ends h
  | jdone => exact execJdone_ends h
  | jwait => exact execJwait_ends h
  | gang => exact execGang_ends h
  | split => exact execSplit_ends h
  | pairchk => exact execPairchk_ends h
  | barw => exact execBarw_ends h
  | bara => exact execBara_ends h
  | bart => exact execBart_ends h
  | waitq => exact execWaitq_ends h
  | wake => exact execWake_ends h
  | raise => exact execRaise_ends h
  | tinsp => exact execTinsp_ends h
  | tinspW => exact execTinspW_ends h
  | tresume => exact execTresume_ends h
  | tkill => exact execTkill_ends h
  | add => exact execAdd_ends h
  | sub => exact execSub_ends h
  | and => exact execAnd_ends h
  | or => exact execOr_ends h
  | xor => exact execXor_ends h
  | sll => exact execSll_ends h
  | srl => exact execSrl_ends h
  | sra => exact execSra_ends h
  | slt => exact execSlt_ends h
  | min => exact execMin_ends h
  | max => exact execMax_ends h
  | adds => exact execAdds_ends h
  | subs => exact execSubs_ends h
  | clz => exact execClz_ends h
  | ctz => exact execCtz_ends h
  | popc => exact execPopc_ends h
  | addi => exact execAddi_ends h
  | andi => exact execAndi_ends h
  | ori => exact execOri_ends h
  | xori => exact execXori_ends h
  | slti => exact execSlti_ends h
  | sltiz => exact execSltiz_ends h
  | slli => exact execSlli_ends h
  | srli => exact execSrli_ends h
  | srai => exact execSrai_ends h
  | rori => exact execRori_ends h
  | lui => exact execLui_ends h
  | addpc => exact execAddpc_ends h
  | ext => exact execExt_ends h
  | ins => exact execIns_ends h
  | mul => exact execMul_ends h
  | mulh => exact execMulh_ends h
  | div => exact execDiv_ends h
  | rem => exact execRem_ends h
  | muls => exact execMuls_ends h
  | fadd => exact execFadd_ends h
  | fsub => exact execFsub_ends h
  | fmul => exact execFmul_ends h
  | fdiv => exact execFdiv_ends h
  | fsqrt => exact execFsqrt_ends h
  | fmin => exact execFmin_ends h
  | fmax => exact execFmax_ends h
  | feq => exact execFeq_ends h
  | flt => exact execFlt_ends h
  | fle => exact execFle_ends h
  | fcvt => exact execFcvt_ends h
  | fclass => exact execFclass_ends h
  | fsgnj => exact execFsgnj_ends h
  | fsgnjn => exact execFsgnjn_ends h
  | fsgnjx => exact execFsgnjx_ends h
  | fma => exact execFma_ends h
  | fnma => exact execFnma_ends h
  | vadd => exact execVadd_ends h
  | vsub => exact execVsub_ends h
  | vmul => exact execVmul_ends h
  | vmulh => exact execVmulh_ends h
  | vmin => exact execVmin_ends h
  | vmax => exact execVmax_ends h
  | vadds => exact execVadds_ends h
  | vsubs => exact execVsubs_ends h
  | vmuls => exact execVmuls_ends h
  | vabsd => exact execVabsd_ends h
  | vavg => exact execVavg_ends h
  | vabs => exact execVabs_ends h
  | vfadd => exact execVfadd_ends h
  | vfsub => exact execVfsub_ends h
  | vfmul => exact execVfmul_ends h
  | vfdiv => exact execVfdiv_ends h
  | vfsqrt => exact execVfsqrt_ends h
  | vfmin => exact execVfmin_ends h
  | vfmax => exact execVfmax_ends h
  | vfsgnj => exact execVfsgnj_ends h
  | vfsgnjn => exact execVfsgnjn_ends h
  | vfsgnjx => exact execVfsgnjx_ends h
  | vfma => exact execVfma_ends h
  | vfnma => exact execVfnma_ends h
  | vand => exact execVand_ends h
  | vor => exact execVor_ends h
  | vxor => exact execVxor_ends h
  | vandn => exact execVandn_ends h
  | vsll => exact execVsll_ends h
  | vsrl => exact execVsrl_ends h
  | vsra => exact execVsra_ends h
  | vror => exact execVror_ends h
  | vceq => exact execVceq_ends h
  | vcne => exact execVcne_ends h
  | vclt => exact execVclt_ends h
  | vcle => exact execVcle_ends h
  | vctst => exact execVctst_ends h
  | vsel => exact execVsel_ends h
  | vcvt => exact execVcvt_ends h
  | vperm => exact execVperm_ends h
  | vslideup => exact execVslideup_ends h
  | vslidedn => exact execVslidedn_ends h
  | vbcast => exact execVbcast_ends h
  | vbcastl => exact execVbcastl_ends h
  | vext => exact execVext_ends h
  | vins => exact execVins_ends h
  | vzipl => exact execVzipl_ends h
  | vziph => exact execVziph_ends h
  | vuzpe => exact execVuzpe_ends h
  | vuzpo => exact execVuzpo_ends h
  | vredsum => exact execVredsum_ends h
  | vredmin => exact execVredmin_ends h
  | vredmax => exact execVredmax_ends h
  | vdot => exact execVdot_ends h
  | vscan => exact execVscan_ends h
  | vscanmin => exact execVscanmin_ends h
  | vscanmax => exact execVscanmax_ends h
  | vmxsc => exact execVmxsc_ends h
  | mand => exact execMand_ends h
  | mor => exact execMor_ends h
  | mxor => exact execMxor_ends h
  | mandn => exact execMandn_ends h
  | mnot => exact execMnot_ends h
  | mpopc => exact execMpopc_ends h
  | mfirst => exact execMfirst_ends h
  | mfromg => exact execMfromg_ends h
  | mtog => exact execMtog_ends h
  | mlanes => exact execMlanes_ends h
  | gori2 => exact execGori2_ends h
  | gori3 => exact execGori3_ends h
  | ginc => exact execGinc_ends h
  | gins => exact execGins_ends h
  | gseg => exact execGseg_ends h
  | xclr => exact execXclr_ends h
  | xadd => exact execXadd_ends h
  | xrnd => exact execXrnd_ends h
  | cbx => exact execCbx_ends h
  | taskBudget => exact execTaskBudget_ends h
  | globalLoadReturn => exact execGlobalLoadReturn_ends h
  | coveAccessArrive => exact execCoveAccessArrive_ends h
  | writebackAck => exact execWritebackAck_ends h
  | atomicPerform => exact execAtomicPerform_ends h
  | atomicReply => exact execAtomicReply_ends h
  | sysHeartbeat => exact execSysHeartbeat_ends h
  | sysTrace => exact execSysTrace_ends h
  | sysReply => exact execSysReply_ends h
  | stealProbe => exact execStealProbe_ends h
  | stealReply => exact execStealReply_ends h
  | stealRetry => exact execStealRetry_ends h
  | spawnrArrive => exact execSpawnrArrive_ends h
  | spawnrReply => exact execSpawnrReply_ends h
  | amsgArrive => exact execAmsgArrive_ends h
  | amsgReply => exact execAmsgReply_ends h
  | migrateArrive => exact execMigrateArrive_ends h
  | jdonePerform => exact execJdonePerform_ends h
  | recordArrive => exact execRecordArrive_ends h
  | recordResend => exact execRecordResend_ends h
  | recordResendRetry => exact execRecordResendRetry_ends h
  | overflowRecord => exact execOverflowRecord_ends h
  | emitAccept => exact execEmitAccept_ends h
  | emitTimeout => exact execEmitTimeout_ends h
  | sensorHeartbeat => exact execSensorHeartbeat_ends h
  | tidemarkUpdateArrive => exact execTidemarkUpdateArrive_ends h
  | windowTimeout => exact execWindowTimeout_ends h
  | wcloseWrite => exact execWcloseWrite_ends h
  | timerExpiry => exact execTimerExpiry_ends h
  | bwRecordArrive => exact execBwRecordArrive_ends h
  | bwRecordStep => exact execBwRecordStep_ends h
  | bwTidemarkStep => exact execBwTidemarkStep_ends h
  | bwFlushStep => exact execBwFlushStep_ends h
  | bwReleaseStep => exact execBwReleaseStep_ends h
  | bwAgeSeal => exact execBwAgeSeal_ends h
  | bwWindowTimeout => exact execBwWindowTimeout_ends h
  | bwTileDispatch => exact execBwTileDispatch_ends h
  | bwJobSubmit => exact execBwJobSubmit_ends h
  | mxeAccept => exact execMxeAccept_ends h
  | jobBankSample => exact execJobBankSample_ends h
  | mxeAdmit => exact execMxeAdmit_ends h
  | mxeOperandArrive => exact execMxeOperandArrive_ends h
  | mxeSlotBoundary => exact execMxeSlotBoundary_ends h
  | mxeDrainEnd => exact execMxeDrainEnd_ends h
  | mxeJobDone => exact execMxeJobDone_ends h
  | mxeCancel => exact execMxeCancel_ends h
  | cbLoadStart => exact execCbLoadStart_ends h
  | cbLoadDone => exact execCbLoadDone_ends h
  | bankClaimPass => exact execBankClaimPass_ends h
  | bankSave => exact execBankSave_ends h
  | bankRestore => exact execBankRestore_ends h
  | cbfetch => exact execCbfetch_ends h
  | pairCompare => exact execPairCompare_ends h
  | pairCompareTimeout => exact execPairCompareTimeout_ends h
  | barrierComplete => exact execBarrierComplete_ends h
  | barrierReleaseArrive => exact execBarrierReleaseArrive_ends h
  | barrierTimeout => exact execBarrierTimeout_ends h
  | waitqAtOwner => exact execWaitqAtOwner_ends h
  | wakeAtOwner => exact execWakeAtOwner_ends h
  | waiterWoken => exact execWaiterWoken_ends h
  | pageWalkDone => exact execPageWalkDone_ends h
  | tlbInvalidate => exact execTlbInvalidate_ends h
  | localPageFillDone => exact execLocalPageFillDone_ends h
  | localPageSpillDone => exact execLocalPageSpillDone_ends h
  | ebbFootprint => exact execEbbFootprint_ends h
  | ebbCopy => exact execEbbCopy_ends h
  | ebbFill => exact execEbbFill_ends h
  | ebbSpill => exact execEbbSpill_ends h
  | ebbJobDone => exact execEbbJobDone_ends h
  | governorPeriod => exact execGovernorPeriod_ends h
  | quotaExhausted => exact execQuotaExhausted_ends h
  | enrgDelivery => exact execEnrgDelivery_ends h
  | dvfsStepDone => exact execDvfsStepDone_ends h
  | thermalSample => exact execThermalSample_ends h
  | contextLoadDone => exact execContextLoadDone_ends h
  | contextDrainDone => exact execContextDrainDone_ends h
  | contextScrubDone => exact execContextScrubDone_ends h
  | boundaryCommit => exact execBoundaryCommit_ends h
  | boundaryCommitDone => exact execBoundaryCommitDone_ends h
  | regionCommit => exact execRegionCommit_ends h
  | regionSwitch => exact execRegionSwitch_ends h
  | registerWrite => exact execRegisterWrite_ends h
  | linkEnable => exact execLinkEnable_ends h
  | linkTrainingDone => exact execLinkTrainingDone_ends h
  | linkTrainingTimeout => exact execLinkTrainingTimeout_ends h
  | linkLaneLost => exact execLinkLaneLost_ends h
  | linkDisable => exact execLinkDisable_ends h
  | ucieReplay => exact execUcieReplay_ends h
  | ucieReroute => exact execUcieReroute_ends h
  | rhoashRecordArrive => exact execRhoashRecordArrive_ends h
  | sdioLaunch => exact execSdioLaunch_ends h
  | sdioWrite => exact execSdioWrite_ends h
  | sdioRead => exact execSdioRead_ends h
  | sdioTraceRead => exact execSdioTraceRead_ends h
  | queryDevice => exact execQueryDevice_ends h
  | queryContexts => exact execQueryContexts_ends h
  | queryLinks => exact execQueryLinks_ends h
  | queryStream => exact execQueryStream_ends h
  | queryCove => exact execQueryCove_ends h
  | sdioAttest => exact execSdioAttest_ends h
  | fwCreateContext => exact execFwCreateContext_ends h
  | fwDrainContext => exact execFwDrainContext_ends h
  | fwResumeContext => exact execFwResumeContext_ends h
  | fwMap => exact execFwMap_ends h
  | fwUnmap => exact execFwUnmap_ends h
  | fwParkCore => exact execFwParkCore_ends h
  | fwUnparkCore => exact execFwUnparkCore_ends h
  | fwRetireSource => exact execFwRetireSource_ends h
  | fwReviveSource => exact execFwReviveSource_ends h
  | fwConfigureStream => exact execFwConfigureStream_ends h
  | fwSetTimer => exact execFwSetTimer_ends h
  | fwLoadKernel => exact execFwLoadKernel_ends h
  | recoveryStageWrite => exact execRecoveryStageWrite_ends h
  | recoveryCommit => exact execRecoveryCommit_ends h
  | recoveryQuery => exact execRecoveryQuery_ends h
  | csi2FrameStart => exact execCsi2FrameStart_ends h
  | csi2Packet => exact execCsi2Packet_ends h
  | decoderWatchdog => exact execDecoderWatchdog_ends h
  | taxelScan => exact execTaxelScan_ends h
  | taxelFrameDone => exact execTaxelFrameDone_ends h
  | hfrzGo => exact execHfrzGo_ends h
  | hrelGo => exact execHrelGo_ends h
  | freezeRelease => exact execFreezeRelease_ends h
  | hicmdRead => exact execHicmdRead_ends h
  | hicmdWrite => exact execHicmdWrite_ends h
  | helogPop => exact execHelogPop_ends h
  | hwdogReload => exact execHwdogReload_ends h
  | htimeRead => exact execHtimeRead_ends h
  | hfwmbPost => exact execHfwmbPost_ends h
  | errorReport => exact execErrorReport_ends h
  | heartbeatMiss => exact execHeartbeatMiss_ends h
  | lockstepMismatch => exact execLockstepMismatch_ends h
  | clockFault => exact execClockFault_ends h
  | watchdogFault => exact execWatchdogFault_ends h
  | frzNAssert => exact execFrzNAssert_ends h
  | frzNDeassert => exact execFrzNDeassert_ends h
  | powerOnReset => exact execPowerOnReset_ends h
  | warmReset => exact execWarmReset_ends h
  | reservedEncoding => exact execReservedEncoding_ends h
  | fetchPageTrap => exact execFetchPageTrap_ends h
  | windowEndClose => exact execWindowEndClose_ends h
  | bwWindowEndClose => exact execBwWindowEndClose_ends h
  | predicateComplete => exact execPredicateComplete_ends h
  | tgetCopyDone => exact execTgetCopyDone_ends h
  | trapTargetArrive => exact execTrapTargetArrive_ends h
  | rhoashFrameReplay => exact execRhoashFrameReplay_ends h

end Sys2Proof.Machine
end

section
/-! Bundles and steps: what the operations of Machine/Bundle keep. -/

namespace Sys2Proof.Machine

variable {m r : Prop} {s : State}

/-- The slots that a core looks through are its own. -/
theorem lt_of_mem_slotsAfter {n j : Nat} (h : j ∈ slotsAfter n) : j < 5 := by
  obtain ⟨i, -, rfl⟩ := List.mem_map.1 h
  exact Nat.mod_lt _ (by decide)
theorem lt_of_chosen {c j : Nat} (e : s.chosen c = some j) : j < 5 := by
  unfold State.chosen at e
  extract_lets ready at e
  have hready {j} (hj : j ∈ ready) : j < 5 := lt_of_mem_slotsAfter (List.mem_of_mem_filter hj)
  split at e
  · rename_i hf
    cases e
    exact hready (List.mem_of_find?_eq_some hf)
  · refine foldl_inv (fun a => ∀ j, a = some j → j < 5) _ ready none nofun ?_ j e
    intro a i hi ha b hb
    split at hb
    · cases hb
      exact hready hi
    · split at hb
      · cases hb
        exact hready hi
      · exact ha b hb
theorem Kept.idle {c n : Nat} (h : Kept m r s) : Kept m r (s.idle c n) := h.modCore fun _ _ hk => hk.same rfl
theorem Kept.cycle {s0 : State} {c : Nat} (h : Kept m r s) : Kept m r (s.cycle s0 c) :=
  h.modCore fun _ _ hk => hk.same rfl
theorem Kept.charge {c a : Nat} (h : Kept m r s) : Kept m r (s.charge c a) := Kept.meter (h.modCore fun _ _ hk => hk.same rfl)
/-- A word that cannot be fetched ends the issue in a next state. -/
theorem Ends.of_fetch {e : Out} (h : Kept m r s) (he : s.fetch = .error e) : Ends m r e := by
  unfold State.fetch at he
  extract_lets pc cur word frame at he
  have hword : ∀ va x, word va = .error x → Ends m r x := by
    intro va x hx
    unfold word at hx
    split at hx
    · split at hx
      · cases hx
        exact Ends.next (stall_kept h)
      · cases hx
    · cases hx
      exact execFetchPageTrap_ends (h.same rfl)
    · rename_i ht
      cases hx
      exact Ends.next (stall_kept (translate_runs.at h |>.of_error (β := Unit) ht))
  have hframe : ∀ w, Ends m r (frame w) := fun _ => Ends.next (takeTrap_kept h)
  split at he
  · rename_i hx
    cases he
    exact hword _ _ hx
  · split at he
    · split at he
      · rename_i hx
        cases he
        exact hword _ _ hx
      · split at he
        · cases he
          exact hframe _
        · cases he
    · split at he
      · cases he
        exact hframe _
      · cases he
theorem Kept.atWord {rc : Role} {w : BitVec 32} (h : Kept m r s) : Kept m r (s.atWord rc w) := h.same rfl
theorem Kept.withCur {k : Cur} (h : Kept m r s) : Kept m r { s with cur := k } := h.same rfl
theorem Kept.atCore (h : Kept m r s) (c : Fin 512) : Kept m r { s with cur := { s.cur with core := c } } := h.withCur
theorem Kept.atSlot {c : Fin 512} {j : Fin 5} (h : Kept m r s) : Kept m r (s.atSlot c j) := h.same rfl
theorem Kept.agendaTo {l : List Act} (h : Kept m r s) : Kept m r (s.agendaTo l) := h.same rfl
theorem Ends.runTail {tw : BitVec 32} {t : Instr} (h : Kept m r s) : Ends m r (s.runTail tw t) := by
  unfold State.runTail
  split
  · exact Ends.next h.modMe
  · exact exec_ends h.atWord
theorem Ends.runPair {hw tw : BitVec 32} {hd t : Instr} (h : Kept m r s) : Ends m r (s.runPair hw tw hd t) := by
  unfold State.runPair
  extract_lets t0
  split
  · rename_i s2 e2
    have h2 : Kept m r s2 := Ends.of_next (Ends.runTail h) e2
    extract_lets o sh
    have hsh : Kept m r sh := h.same rfl
    split
    · rename_i s1 e1
      have h1 : Kept m r s1 := (exec_ends hsh).of_next e1
      split
      · exact Ends.next h1
      · split
        · exact Ends.next h1
        · exact Ends.next h1
        · exact Ends.next h1
        · exact Ends.next h1
        · exact Ends.next h2
      · exact Ends.next (Kept.ite h1.modMe h1)
      · exact Ends.next (Kept.ite h2 h1)
      · exact Ends.next h2
      · exact Ends.next h2
      · exact Ends.next h1.modMe
      · exact Ends.next h1
    · exact exec_ends hsh
  · exact Ends.runTail h
theorem Ends.runWords {hw : BitVec 32} {tw : Option (BitVec 32)} (h : Kept m r s) : Ends m r (s.runWords hw tw) := by
  unfold State.runWords
  extract_lets _ _ _
  split
  · exact execReservedEncoding_ends h
  · exact Ends.ite (Ends.next (takeTrap_kept h.atWord)) (Ends.ite (Ends.next (stall_kept h.atWord)) (exec_ends h.atWord))
  · split
    · exact Ends.ite (Ends.next (takeTrap_kept h.atWord)) (execReservedEncoding_ends h)
    · exact Ends.ite (Ends.next (takeTrap_kept h.atWord)) (Ends.ite (Ends.next (takeTrap_kept h.atWord))
        (Ends.ite (Ends.next (stall_kept h.atWord)) (Ends.runPair h.atWord)))
theorem Kept.follow {s0 : State} {hw : BitVec 32} {tw : Option (BitVec 32)} (h : Kept m r s) : Kept m r (s.follow s0 hw tw) :=
  h.ite (h.foldl fun _ _ h1 => h1.modSlot)
theorem Ends.of_nextWords {e : Out} (h : Kept m r s) (he : s.nextWords = .error e) : Ends m r e := by
  unfold State.nextWords at he
  split at he
  · cases he
  · exact Ends.of_fetch h he
theorem Core.RangesOk.unstamped {k : Core} (hk : k.RangesOk) : k.unstamped.RangesOk := hk.same rfl
theorem Kept.cacheCode {s0 : State} (hs : Kept m r s) : Kept m r (s0.cacheCode s) := by
  unfold State.cacheCode
  split
  · exact hs
  · exact hs.ite (Kept.ite (hs.modCore fun _ _ hk => hk.same rfl) (Kept.modCore (hs.same rfl) fun _ _ hk => hk.same rfl))
theorem Kept.ended {s0 : State} {hw : BitVec 32} {tw : Option (BitVec 32)} (h : Kept m r s) : Kept m r (s0.ended s hw tw) := by
  unfold State.ended
  extract_lets _ _ s1 s2 s3
  have h1 : Kept m r s1 := Kept.cycle h.cacheCode
  have h2 : Kept m r s2 := Kept.ite (h1.modCore fun _ _ hk => hk.same rfl) h1
  have h3 : Kept m r s3 := Kept.charge h2.follow
  split
  · split
    · exact h3.modMe
    · exact h3
  · exact h3
  · exact h2.charge
  · exact h2.charge.ite (Kept.ite h2.follow h2)
theorem Ends.runSelf (h : Kept m r s) : Ends m r s.runSelf := by
  unfold State.runSelf
  split
  · rename_i e
    exact Ends.of_nextWords h e
  · exact Ends.runWords h
theorem Ends.withTwin {d : Fin 512} (h : Kept m r s) : Ends m r (s.withTwin d) := by
  unfold State.withTwin
  extract_lets _ wait _
  have hwait : ∀ (v : State), Kept m r v → Kept m r (wait v) := fun _ h1 => stall_kept (h1.same rfl)
  split
  · rename_i e
    refine Ends.ite (Ends.next (Ends.of_next (Ends.runSelf h) e)) ?_
    refine Ends.ite (Ends.next (hwait _ h)) ?_
    refine Ends.ite (Ends.next (h.trapSlot.same rfl)) ?_
    split
    · rename_i e1
      split
      · exact Ends.next (h.trapSlot.same rfl)
      · split
        · rename_i e3
          exact Ends.next (hwait _ (Kept.ite (Ends.of_next (Ends.runSelf h.atSlot) e3) h))
        · exact Ends.runSelf h.atSlot
      · exact Ends.next (Kept.same (Ends.of_next (Ends.runSelf (Kept.atSlot (Ends.of_next (Ends.runSelf h) e))) e1) rfl)
    · exact Ends.runSelf (Kept.atSlot (Ends.of_next (Ends.runSelf h) e))
  · exact Ends.runSelf h
theorem Ends.attempt (h : Kept m r s) : Ends m r s.attempt := by
  unfold State.attempt
  split
  · exact Ends.runSelf h
  · refine Ends.ite (Ends.withTwin h) ?_
    split
    · rename_i e1
      exact Ends.next (Kept.ite (stall_kept h) (Ends.of_next (Ends.runSelf h) e1))
    · exact Ends.runSelf h
theorem Kept.endedPair {s0 : State} {d : Fin 512} {hw : BitVec 32} {tw : Option (BitVec 32)} (h : Kept m r s) :
    Kept m r (s0.endedPair s d hw tw) := by
  unfold State.endedPair
  extract_lets own twin
  have htwin {v} (hv : Kept m r v) : Kept m r (twin v) := by
    unfold twin
    split
    · exact (hv.atCore d).ended.withCur
    · exact hv
  split
  · exact Kept.ite h.ended (htwin h).cycle
  · exact h.ended
  · exact htwin h.ended
theorem Ends.issue (h : Kept m r s) : Ends m r s.issue := by
  unfold State.issue
  extract_lets c j t
  refine Ends.ite (Ends.next (Kept.ite h.stopFrozen h.haltSlot)) (Ends.ite (Ends.next h) ?_)
  refine Ends.ite (Ends.ite (Ends.next h.stopFrozen) (execTaskBudget_ends h)) ?_
  split
  · rename_i e
    exact Ends.of_nextWords h e
  · split
    · rename_i s' e
      have h' : Kept m r s' := (Ends.attempt h).of_next e
      refine Ends.next ?_
      split
      · exact h'.endedPair.ite h'.ended
      · exact h'.ended
    · exact Ends.attempt h
/-- A slot that the device has issues. -/
theorem Ends.issueAt {c j : Nat} (hc : c < 512) (hj : j < 5) (h : Kept m r s) : Ends m r (s.issueAt c j) := by
  unfold State.issueAt
  rw [dif_pos ⟨hc, hj⟩]
  exact Ends.issue h.atSlot
theorem Ends.trial {c j : Nat} (hc : c < 512) (hj : j < 5) (h : Kept m r s) : Ends m r (s.trial c j).2 := by
  unfold State.trial
  rw [dif_pos ⟨hc, hj⟩]
  extract_lets u
  split
  · rename_i e
    exact Ends.of_nextWords h.atSlot e
  · exact Ends.attempt h.atSlot
theorem Kept.beginWait {c j : Nat} (h : Kept m r s) : Kept m r (s.beginWait c j) := by
  unfold State.beginWait
  split
  · rename_i hcj
    refine h.ite ?_
    split
    · rename_i e
      have ht := Ends.trial hcj.1 hcj.2 h
      rw [e] at ht
      exact (ht.of_next rfl).withCur
    · exact h
  · exact h
theorem Ends.coreCycle {c : Nat} (hc : c < 512) (h : Kept m r s) : Ends m r (s.coreCycle c) := by
  unfold State.coreCycle
  extract_lets s1
  have h1 : Kept m r s1 := h.foldl fun _ _ h => h.beginWait
  split
  · rename_i e
    exact Ends.issueAt hc (lt_of_chosen e) h1
  · exact Ends.next h1.idle
theorem Kept.dropTlb {cove idx : Nat} (h : Kept m r s) : Kept m r (s.dropTlb cove idx) := by
  unfold State.dropTlb
  split
  · exact h
  · extract_lets s1
    have h1 : Kept m r s1 := h.modCove fun _ _ hk => hk.same rfl
    exact h1.foldl fun _ _ h => h.modCore fun _ _ hk => hk.same rfl
theorem Kept.evictSector {c a : Nat} (h : Kept m r s) : Kept m r (s.evictSector c a) :=
  h.writeBack.modCore fun _ _ hk => hk.same rfl
/-- The agenda's entry names an agent that the device has. -/
def Act.Known : Act → Prop
  | .issue c j => c < 512 ∧ j < 5
  | .core c => c < 512
  | _ => True
theorem Ends.act {a : Act} (ha : a.Known) (h : Kept m r s) : Ends m r (s.act a) := by
  cases a with
  | tick ns => exact Ends.next (h.same rfl)
  | issue c j => exact Ends.issueAt ha.1 ha.2 h
  | core c =>
    have e : s.act (.core c) = s.coreCycle c := if_pos (show c < 512 from ha)
    exact e ▸ Ends.coreCycle ha h
  | idle c n => exact Ends.next h.idle
  | event i => exact Ends.ite (exec_ends h) (Ends.next h)
  | land c j => exact Ends.next h.modSlot
  | evict c a => exact Ends.next h.evictSector
  | evictLine l => exact Ends.next (h.same rfl)
  | chunk c f => exact Ends.next h.moveChunk
  | evictTlb v i => exact Ends.next h.dropTlb
  | host off bs => exact Ends.next (h.putBytes.ite h)
  | poison x on => exact Ends.next (h.ite (h.same rfl))
  | cccr on => exact Ends.next (h.same rfl)
  | peer rc d w l => exact Ends.next (h.post.ite h)
  | relay l x arg a gs => exact Ends.next (h.relayed.ite h)
  | hart => exact Ends.next h.hartStep
  | nor off bs => exact Ends.next (h.putBytes.ite h)
theorem Ends.doStep (hk : ∀ a l, s.agenda = a :: l → a.Known) (h : Kept m r s) : Ends m r s.doStep := by
  unfold State.doStep
  split
  · exact Ends.issue h
  · rename_i e
    exact Ends.act (hk _ _ e) h.agendaTo
theorem step_ends (hk : ∀ a l, s.agenda = a :: l → a.Known) (h : Kept m r s) : Ends m r (step s) := Ends.doStep hk h

end Sys2Proof.Machine
end

section
/-! What every step keeps, and when it stops. -/

namespace Sys2Proof.Machine

variable {m r : Prop} {s t : State}

theorem Kept.of_memOk (h : s.MemOk) : Kept True False s := ⟨fun _ => h, False.elim⟩
theorem Kept.of_rangesOk (h : s.RangesOk) : Kept False True s := ⟨False.elim, fun _ => h⟩
/-- Nothing is asked. -/
theorem Kept.trivial : Kept False False s := ⟨False.elim, False.elim⟩

/-- An entry that names an agent which the device does not have stops the step. -/
theorem step_of_not_known {a : Act} {l : List Act} (e : s.agenda = a :: l) (h : ¬ a.Known) : step s = .fault .noSuchAgent := by
  have hs : step s = (s.agendaTo l).act a := by
    show s.doStep = _
    unfold State.doStep
    rw [e]
  rw [hs]
  cases a with
  | issue c j => exact dif_neg h
  | core c => exact if_neg h
  | _ => exact absurd trivial h
/-- A step that answers a next state keeps what is asked. -/
theorem Kept.step (h : Kept m r s) (e : Sys2Proof.Machine.step s = .next t) : Kept m r t := by
  refine (step_ends (fun a l ha => ?_) h).of_next e
  by_contra hk
  cases (step_of_not_known ha hk).symm.trans e
/-- Settles O12: every meaning changes memory through `Mem.set`, `puts`, `clear`, `copy` and `filter` alone, which keep its form. -/
theorem memoryFormKept : Obligations.MemoryFormKept := by
  intro s t hs e
  exact ((Kept.of_memOk hs).step e).1 trivial
/-- Settles O13: the ranged fields move by a remainder, a mask or a copy of one that is in its range. -/
theorem rangesKept : Obligations.RangesKept := by
  refine ⟨fun s t hs e => ((Kept.of_rangesOk hs).step e).2 trivial, State.reset_rangesOk, fun s => ⟨?_, ?_⟩⟩
  · exact State.rg_zero s
  · rfl
/-- Settles O10: with nothing asked of the states, that every meaning ends in a kept state says that it ends in one. -/
theorem nothingStopsButNoSuchAgent : Obligations.NothingStopsButNoSuchAgent := by
  refine ⟨fun i s => ?_, fun s => ⟨?_, fun hi hc => ?_⟩⟩
  · obtain ⟨t, e, -⟩ := exec_ends (i := i) (Kept.trivial (s := s))
    exact ⟨t, e⟩
  · rintro (⟨c, j, l, e, h⟩ | ⟨c, l, e, h⟩)
    · exact step_of_not_known e h
    · exact step_of_not_known e h
  · have hk : ∀ a l, s.agenda = a :: l → a.Known := by
      intro a l e
      cases a with
      | issue c j => exact hi c j l e
      | core c => exact hc c l e
      | _ => exact trivial
    obtain ⟨t, e, -⟩ := step_ends hk (Kept.trivial (s := s))
    exact ⟨t, e⟩

end Sys2Proof.Machine
end
section
/-! What memory reads after a write, and that its form is canonical. -/

namespace Sys2Proof.Machine

theorem Mem.get_clear (m : List Host.Cell) (lo n b : Nat) :
    Mem.get (Mem.clear m lo n) b = if lo ≤ b ∧ b < lo + n then Mem.unlisted else Mem.get m b := by
  unfold Mem.clear
  rw [Mem.get_filter m _ b 0 fun _ => rfl]
  by_cases h : lo ≤ b ∧ b < lo + n
  · simp [h]
  · rw [if_neg h, if_pos (by simp; omega)]
/-- A byte that does not read as unlisted is listed. -/
theorem Mem.mem_of_get {m : List Host.Cell} {a : Nat} (h : Mem.get m a ≠ Mem.unlisted) : (a, Mem.get m a) ∈ m := by
  induction m with
  | nil => exact absurd rfl h
  | cons q t ih =>
    simp only [Mem.get] at h ⊢
    split
    · rename_i e
      exact e ▸ List.mem_cons_self
    · rename_i e
      rw [if_neg e] at h
      exact List.mem_cons_of_mem _ (ih h)
/-- Memory in canonical form lists exactly the bytes that do not read as unlisted. -/
theorem Mem.mem_iff_get {m : List Host.Cell} (h : Mem.wf m = true) (p : Host.Cell) :
    p ∈ m ↔ Mem.get m p.1 = p.2 ∧ p.2 ≠ Mem.unlisted := by
  obtain ⟨hp, hv⟩ := (Mem.wf_iff m).1 h
  refine ⟨fun hm => ⟨Mem.get_of_mem m hp p hm, hv p hm⟩, fun ⟨hg, hne⟩ => ?_⟩
  have hm := Mem.mem_of_get (hg ▸ hne)
  rwa [hg] at hm
theorem Mem.ext_get {m k : List Host.Cell} (hm : Mem.wf m = true) (hk : Mem.wf k = true) (h : ∀ a, Mem.get m a = Mem.get k a) : m = k := by
  refine ((Mem.wf_iff m).1 hm).1.eq_of_mem_iff ((Mem.wf_iff k).1 hk).1 fun p => ?_
  rw [Mem.mem_iff_get hm, Mem.mem_iff_get hk, h]

variable {s : State}

/-- The lowest byte is stored first, then the rest of the number above it. -/
theorem State.putNum_succ (s : State) (a n x : Nat) : s.putNum a (n + 1) x = (s.setByte a (BitVec.ofNat 8 x)).putNum (a + 1) n (x / 256) := by
  unfold State.putNum State.putBytes
  simp [leBytes, Mem.puts, State.setByte, List.mapIdx_cons, Nat.add_assoc, Nat.add_comm 1]
theorem State.byte_setByte (h : s.MemOk) (a b : Nat) (x : Byte) : (s.setByte a x).byte b = if b = a then x else s.byte b :=
  Mem.get_set s.mem a b x h
theorem State.byte_putNum_outside {a n x b : Nat} (h : s.MemOk) (hb : b < a ∨ a + n ≤ b) : (s.putNum a n x).byte b = s.byte b := by
  induction n generalizing s a x with
  | zero => rfl
  | succ n ih =>
    rw [State.putNum_succ, ih (h.setByte _ _) (by omega), State.byte_setByte h, if_neg (by omega)]
theorem State.num_succ (s : State) (a n : Nat) : s.num a (n + 1) = (s.byte a).toNat + 256 * s.num (a + 1) n := rfl
theorem State.num_putNum {a n x : Nat} (h : s.MemOk) : (s.putNum a n x).num a n = x % 256 ^ n := by
  induction n generalizing s a x with
  | zero => simp [State.num, State.bytes, leNat, Nat.mod_one]
  | succ n ih =>
    have hs : (s.setByte a (BitVec.ofNat 8 x)).MemOk := h.setByte _ _
    have hlow : ((s.setByte a (BitVec.ofNat 8 x)).putNum (a + 1) n (x / 256)).byte a = BitVec.ofNat 8 x := by
      rw [State.byte_putNum_outside hs (by omega), State.byte_setByte h, if_pos rfl]
    have hmod : (BitVec.ofNat 8 x).toNat = x % 256 := BitVec.toNat_ofNat x 8
    rw [State.putNum_succ, State.num_succ, hlow, ih hs, hmod, Nat.pow_succ', Nat.mod_mul]
/-- Settles O14, by the rules of a byte's write and, for a number, induction on its bytes. -/
theorem memoryReadsBack : Obligations.MemoryReadsBack := by
  refine ⟨fun m a b x h => ⟨Mem.get_set m a b x h, Mem.wf_set m a x h⟩, fun m lo n b h => ⟨Mem.get_clear m lo n b, Mem.wf_clear m lo n h⟩,
    fun m k hm hk h => Mem.ext_get hm hk h, fun s a n x h => ⟨State.num_putNum h, fun b hb => State.byte_putNum_outside h hb, h.putNum a n x⟩⟩

end Sys2Proof.Machine
end
section
/-! A frozen slot that waits for a page stops before the word at its PC, though its group's stop lies further on (R302). -/

namespace Sys2Proof.Machine

/-- NOP stands at the PC of a frozen slot that waits for a page, on its way to the stop of its group at 5 words. -/
def stuckSlot : State :=
  (State.reset.withFetchWord 32 0).modMe fun t => { t with frozen := true, stopAt := some 5, life := .stalled .page }
/-- A lone NOP at address 0, as a leader hands it to its followers. -/
def nopBundle : Bundle := { pc := 0, head := 0, tail := none, next := 4, result := none, ev := Vector.replicate 4 0 }
/-- The same slot as a follower that its leader has handed a NOP. -/
def stuckFollower : State :=
  stuckSlot.modMe fun t => { t with leader := some (0, 1), bundles := [nopBundle] }
/-- The PC of the current slot in the next state, where there is one. -/
def nextPc : Out → Option Word
  | .next t => some t.me.pc
  | _ => none
/-- Whether a meaning completes with an answer. -/
def answers (r : Except Stop (Nat × State)) (p : Nat × State) : Bool :=
  match r with
  | .ok q => q = p
  | .error _ => false
theorem eq_ok_of_answers {r : Except Stop (Nat × State)} {p : Nat × State} (h : answers r p = true) : r = .ok p := by
  unfold answers at h
  split at h
  · rw [of_decide_eq_true h]
  · cases h
theorem stuckSlot_ready : Ready stuckSlot := by
  unfold Ready
  decide +kernel
theorem stuckSlot_fetches : Fetches stuckSlot stuckSlot.me.pc 0 :=
  ⟨eq_ok_of_answers (by decide +kernel), by decide +kernel⟩
/-- Refutes O6: `Ready` leaves out that a frozen slot which waits for a page stops where it stands (`State.abandons`): the
step does not run the NOP, whose meaning moves the PC to 4. -/
theorem not_stepRunsDecoded : ¬ Obligations.StepRunsDecoded := by
  unfold Obligations.StepRunsDecoded
  intro h
  have e := h stuckSlot 0 .nop stuckSlot_ready stuckSlot_fetches (by decide +kernel) (by decide +kernel) (by decide +kernel)
    (by decide +kernel)
  exact absurd (congrArg nextPc e) (by decide +kernel)
/-- Refutes O7: the clause of followers leaves the same case out, so that a frozen follower that waits for a page stops
before the NOP that its leader has handed it. -/
theorem not_stepRunsPairsAndEvents : ¬ Obligations.StepRunsPairsAndEvents := by
  unfold Obligations.StepRunsPairsAndEvents
  rintro ⟨-, h, -, -⟩
  have e := h stuckFollower nopBundle [] (0, 1) (by decide +kernel) (by decide +kernel) (by decide +kernel)
    (by decide +kernel) (by decide +kernel) (by decide +kernel)
  exact absurd (congrArg nextPc e) (by decide +kernel)

end Sys2Proof.Machine
end

section
/-! What each check of an access answers where it fails (R112, R151), and that an access or an atomic traps as its check
does. -/

namespace Sys2Proof.Machine

/-! ### Runs that trap -/

theorem M.bind_trap {α β : Type} {x : M α} (g : α → M β) {s : State} {f : Trap} (h : x s = .error (.trap f)) :
    (x >>= g) s = .error (.trap f) := by
  rw [M.bind_run, h]
theorem M.bind_ok {α β : Type} {x : M α} (g : α → M β) {s t : State} {a : α} (h : x s = .ok (a, t)) :
    (x >>= g) s = g a t := by
  rw [M.bind_run, h]

/-! ### The translation of a virtual address (R336) -/

/-- The translation of an address for an access of kind `k` ends in the page trap of walk status `st`: the address is too
high, its entry does not allow the access, or its walk failed. -/
def PageTraps (s : State) (va : Word) (k : Acc) (st : BitVec 6) : Prop :=
  (2 ^ 48 ≤ va.toNat ∧ st = walkStatus 0 1) ∨
  (va.toNat < 2 ^ 48 ∧ ∃ e, s.lookup s.myCore s.me.ctx.toNat va.toNat = some e ∧ e.allows k = false ∧ st = walkStatus e.level 5) ∨
  (va.toNat < 2 ^ 48 ∧ s.lookup s.myCore s.me.ctx.toNat va.toNat = none ∧ s.me.walkFail = some (va.toNat / 2 ^ 14, st))
theorem translateTo_pageTraps {s : State} {va : Word} {k : Acc} {st : BitVec 6} (h : PageTraps s va k st) :
    translateTo va k s = .error (.trap (pageTrap k va st)) := by
  rcases h with ⟨high, rfl⟩ | ⟨low, e, found, no, rfl⟩ | ⟨low, none, failed⟩
  · simp only [translateTo, ge_iff_le, high, if_true]
  · simp only [translateTo, ge_iff_le, Nat.not_le.mpr low, if_false, found, no, Bool.false_eq_true]
  · simp only [translateTo, ge_iff_le, Nat.not_le.mpr low, if_false, none, failed, if_true]
theorem translate_pageTraps {s : State} {va : Word} {k : Acc} {st : BitVec 6} (h : PageTraps s va k st) :
    translate va k s = .error (.trap (pageTrap k va st)) :=
  M.bind_trap _ (translateTo_pageTraps h)
theorem translate_translates {s : State} {va : Word} {k : Acc} {e : TlbEntry} {a : Nat} (h : Translates s va k e a)
    (held : s.regionHeld s.myCore a = false) : translate va k s = .ok (a, s) := by
  obtain ⟨low, found, allowed, rfl⟩ := h
  have entry : translateTo va k s = .ok (e, s) := by
    simp only [translateTo, ge_iff_le, Nat.not_le.mpr low, if_false, found, allowed, if_true]
  rw [translate, M.bind_ok _ entry]
  simp only [held, Bool.false_eq_true, if_false]

/-! ### The checks of an access (R112) -/

/-- The trap of an access to an address. -/
def trapAt (ea : Word) (c : BitVec 8) (v : Nat) : Trap := ⟨c, BitVec.ofNat 64 v, ea.setWidth 48⟩
/-- A cove address outside the context's share, or of a core that it is not given. -/
def CoveBad (s : State) (ea : Word) : Prop :=
  2 ^ 48 ≤ ea.toNat ∨ 8 * s.myCtx.sws ≤ ea.toNat ∨ s.myCtx.has (coveAddr s.myCore ea.toNat).1 = false
theorem coveCheck_bad {s : State} {ea : Word} (h : CoveBad s ea) :
    coveCheck ea s = .error (.trap (trapAt ea Cause.localBounds 1)) := by
  unfold CoveBad at h
  simp only [coveCheck, ge_iff_le, Bool.not_eq_true', h, if_true]
  rfl
theorem localAddr_outside {s : State} {ea : Word} {la n : Nat} (st : Bool) (h : 2 ^ 14 * s.myCtx.lpages < la + n) :
    localAddr ea la n st s = .error (.trap (trapAt ea Cause.localBounds 0)) :=
  if_pos h
theorem localAddr_failed {s : State} {ea : Word} {la n p : Nat} (st : Bool) (inside : la + n ≤ 2 ^ 14 * s.myCtx.lpages)
    (h : s.local? s.myCore s.me.ctx.toNat la = .failed p) :
    localAddr ea la n st s = .error (.trap (trapAt ea Cause.eccUncorrectable 0)) := by
  have inside' : ¬ la + n > 2 ^ 14 * (s.ctx s.me.ctx.toNat).lpages := Nat.not_lt.mpr inside
  simp only [localAddr, inside', if_false, h]
  rfl
theorem localAddr_here {s : State} {ea : Word} {n f a : Nat} (st : Bool) (h : LocalAt s ea n f a) :
    localAddr ea ea.toNat n st s = .ok (a, touched s ea f st) := by
  obtain ⟨-, inside, here, mayEnter, -⟩ := h
  have inside' : ¬ ea.toNat + n > 2 ^ 14 * (s.ctx s.me.ctx.toNat).lpages := Nat.not_lt.mpr inside
  simp only [localAddr, inside', if_false, here, mayEnter, if_true]
  rfl
theorem poisoned_touched (s : State) (ea : Word) (f a n : Nat) (st : Bool) :
    (touched s ea f st).poisoned a n = s.poisoned a n := rfl

section
variable {s : State} {ea : Word} {n : Nat} {k : Acc}
theorem checkAccess_misaligned (m : BitVec 2) (h : ea.toNat % n ≠ 0) :
    checkAccess m ea n k s = .error (.trap (trapAt ea Cause.misaligned n)) := by
  simp only [checkAccess, ne_eq, h, not_false_eq_true, if_true, misaligned_run]
  rfl
theorem checkAccess_local {x : Trap} (aligned : ea.toNat % n = 0)
    (h : localAddr ea ea.toNat n (k == .store) s = .error (.trap x)) : checkAccess 0 ea n k s = .error (.trap x) := by
  simp only [checkAccess, ne_eq, aligned, not_true_eq_false, if_false, if_true]
  exact M.bind_trap _ h
theorem checkAccess_cove (aligned : ea.toNat % n = 0) (h : CoveBad s ea) :
    checkAccess 1 ea n k s = .error (.trap (trapAt ea Cause.localBounds 1)) := by
  simp only [checkAccess, ne_eq, aligned, not_true_eq_false, if_false, if_true]
  exact M.bind_trap _ (coveCheck_bad h)
theorem checkAccess_pageTraps {st : BitVec 6} (aligned : ea.toNat % n = 0) (h : PageTraps s ea k st) :
    checkAccess 2 ea n k s = .error (.trap (pageTrap k ea st)) := by
  simp only [checkAccess, ne_eq, aligned, not_true_eq_false, if_false, show ¬ (2 : BitVec 2) = 0 by decide,
    show ¬ (2 : BitVec 2) = 1 by decide]
  exact M.bind_trap _ (translate_pageTraps h)
theorem checkAccess_local_poisoned {f a : Nat} (h : LocalAt s ea n f a) (bad : s.poisoned a n = true) :
    checkAccess 0 ea n .load s = .error (.trap (trapAt ea Cause.eccUncorrectable 0)) := by
  have aligned : ea.toNat % n = 0 := h.1
  simp only [checkAccess, ne_eq, aligned, not_true_eq_false, if_false, if_true]
  rw [M.bind_ok _ (localAddr_here _ h), M.bind_ok _ (M.get_run _)]
  simp only [poisoned_touched, bad, beq_self_eq_true, Bool.and_self, if_true]
  rfl
theorem checkAccess_global_poisoned {e : TlbEntry} {a : Nat} (h : GlobalAt s ea n .load e a) (bad : s.globalBad a n = true) :
    checkAccess 2 ea n .load s = .error (.trap (trapAt ea Cause.eccUncorrectable 0)) := by
  obtain ⟨aligned, translates, held, -⟩ := h
  simp only [checkAccess, ne_eq, aligned, not_true_eq_false, if_false, show ¬ (2 : BitVec 2) = 0 by decide,
    show ¬ (2 : BitVec 2) = 1 by decide]
  rw [M.bind_ok _ (translate_translates translates held), M.bind_ok _ (M.get_run _)]
  simp only [bad, beq_self_eq_true, Bool.and_self, if_true]
  rfl
end

/-! ### An access traps as its check does -/

/-- In every mode, an instruction whose access check traps takes that trap. -/
def TrapsAsChecked (s : State) (i : BitVec 2 → Instr) (ea : Word) (n : Nat) (k : Acc) : Prop :=
  ∀ m f, checkAccess m ea n k s = .error (.trap f) → exec (i m) s = .next (takeTrap s f)
theorem storeTo_trap {m : BitVec 2} {ea : Word} {l : List Byte} {s : State} {f : Trap}
    (h : checkAccess m ea l.length .store s = .error (.trap f)) : storeTo m ea l s = .error (.trap f) :=
  M.bind_trap _ h

section
variable (s : State) (o9 : BitVec 9) (o6 : BitVec 6) (sz sc : BitVec 3) (z : BitVec 2) (b d : BitVec 5)
theorem ld_trapsAsChecked : TrapsAsChecked s (fun m => .ld o9 sz m b d)
    (addresses (sz == 7) (s.rg b) o9 (2 ^ (sz.toNat % 4))).1 (2 ^ (sz.toNat % 4)) .load := fun _ _ h =>
  runM_trap ((M.bind_ok _ (getG_run b s)).trans (M.bind_trap _ h))
theorem st_trapsAsChecked : TrapsAsChecked s (fun m => .st o9 sz m b d)
    (addresses (decide (sz.toNat ≥ 4)) (s.rg b) o9 (2 ^ (sz.toNat % 4))).1 (2 ^ (sz.toNat % 4)) .store := fun _ _ h =>
  runM_trap ((M.bind_ok _ (getG_run b s)).trans ((M.bind_ok _ (getG_run d s)).trans
    (M.bind_trap _ (storeTo_trap (by rwa [leBytes_length])))))
theorem vld_trapsAsChecked : TrapsAsChecked s (fun m => .vld o9 sz m b d)
    (addresses (sz == 1 || sz == 3) (s.rg b) o9 (vecBytes sz)).1 (vecBytes sz) .load := fun _ _ h =>
  runM_trap ((M.bind_ok _ (getG_run b s)).trans (M.bind_trap _ h))
theorem vst_trapsAsChecked : TrapsAsChecked s (fun m => .vst o9 sz m b d)
    (addresses (sz == 1 || sz == 3) (s.rg b) o9 (vecBytes sz)).1 (vecBytes sz) .store := fun _ _ h =>
  runM_trap ((M.bind_ok _ (getG_run b s)).trans ((M.bind_ok _ (M.get_run s)).trans
    (M.bind_trap _ (storeTo_trap (by rwa [leBytes_length])))))
theorem lda_trapsAsChecked : TrapsAsChecked s (fun m => .lda o6 sc z m b d)
    (scaled (s.rg b) o6 (2 ^ z.toNat)) (2 ^ z.toNat) .load := fun _ _ h =>
  runM_trap ((M.bind_ok _ (getG_run b s)).trans (M.bind_trap _ h))
theorem strel_trapsAsChecked : TrapsAsChecked s (fun m => .strel o6 sc z m b d)
    (scaled (s.rg b) o6 (2 ^ z.toNat)) (2 ^ z.toNat) .store := fun _ _ h =>
  runM_trap ((M.bind_ok _ (getG_run b s)).trans ((M.bind_ok _ (getG_run d s)).trans (M.bind_trap _ h)))
end

/-! ### The checks of an atomic (R151) -/

/-- An owner address outside the context's share, or of a core that it is not given. -/
def OwnerBad (s : State) (x : Word) (n : Nat) : Prop :=
  2 ^ 57 ≤ x.toNat ∨ s.myCtx.has (bits x.toNat 48 9) = false ∨ s.myCtx.sws < x.toNat % 2 ^ 48 + n
section
variable {s : State} {x : Word} {n al : Nat}
theorem ownerCheck_bad (h : OwnerBad s x n) : ownerCheck x n s = .error (.trap (trapAt x Cause.localBounds 2)) := by
  unfold OwnerBad at h
  simp only [ownerCheck, ge_iff_le, gt_iff_lt, Bool.not_eq_true', h, if_true]
  rfl
theorem atomicAddr_misaligned (m : BitVec 2) (h : x.toNat % al ≠ 0) :
    atomicAddr m x n al s = .error (.trap (trapAt x Cause.misaligned al)) := by
  simp only [atomicAddr, ne_eq, h, not_false_eq_true, if_true, misaligned_run]
  rfl
theorem atomicAddr_owner (aligned : x.toNat % al = 0) (h : OwnerBad s x n) :
    atomicAddr 0 x n al s = .error (.trap (trapAt x Cause.localBounds 2)) := by
  simp only [atomicAddr, ne_eq, aligned, not_true_eq_false, if_false, if_true]
  exact M.bind_trap _ (ownerCheck_bad h)
theorem atomicAddr_cove (aligned : x.toNat % al = 0) (h : CoveBad s x) :
    atomicAddr 1 x n al s = .error (.trap (trapAt x Cause.localBounds 1)) := by
  simp only [atomicAddr, ne_eq, aligned, not_true_eq_false, if_false, if_true]
  exact M.bind_trap _ (coveCheck_bad h)
theorem atomicAddr_pageTraps {st : BitVec 6} (aligned : x.toNat % al = 0) (h : PageTraps s x .store st) :
    atomicAddr 2 x n al s = .error (.trap (pageTrap .store x st)) := by
  simp only [atomicAddr, ne_eq, aligned, not_true_eq_false, if_false, show ¬ (2 : BitVec 2) = 0 by decide,
    show ¬ (2 : BitVec 2) = 1 by decide]
  exact M.bind_trap _ (translate_pageTraps h)
end

/-- In every mode, an atomic whose address check traps takes that trap. -/
def AtomicTrapsAsChecked (s : State) (i : BitVec 2 → Instr) (x : Word) (n al : Nat) : Prop :=
  ∀ m f, atomicAddr m x n al s = .error (.trap f) → exec (i m) s = .next (takeTrap s f)
theorem amoValue_atomicTrapsAsChecked {s : State} {w : BitVec 2} {b a d : BitVec 5} (op : Nat) {i : BitVec 2 → Instr}
    (meaning : ∀ m, exec (i m) s = runM (amoValue op m w b a d) s) :
    AtomicTrapsAsChecked s i (s.rg a) (if w = 2 then 4 else 8) (if w = 2 then 4 else 8) := fun m _ h =>
  (meaning m).trans (runM_trap ((M.bind_ok _ (getG_run a s)).trans ((M.bind_ok _ (getG_run b s)).trans
    ((M.bind_ok _ (getG_run d s)).trans (M.bind_trap _ h)))))
theorem amoXadd_atomicTrapsAsChecked (s : State) (w : BitVec 2) (b a d : BitVec 5) :
    AtomicTrapsAsChecked s (fun m => .amoXadd m w b a d) (s.rg a) 64 64 := fun _ _ h =>
  runM_trap ((M.bind_ok _ (getG_run a s)).trans ((M.bind_ok _ (getG_run b s)).trans (M.bind_trap _ h)))
theorem amoXaddv_traps {s : State} {w : BitVec 2} {a : BitVec 5} {f : Trap} (b d : BitVec 5)
    (h : atomicAddr 0 (s.rg a) (64 * lanes (xaddType w)) 64 s = .error (.trap f)) :
    exec (.amoXaddv w b a d) s = .next (takeTrap s f) :=
  runM_trap ((M.bind_ok _ (getG_run a s)).trans ((M.bind_ok _ (M.get_run s)).trans (M.bind_trap _ h)))
theorem amoDep_traps {s : State} {a : BitVec 5} (b d : BitVec 5)
    (h : 2 ^ 57 ≤ (s.rg a).toNat ∨ s.myCtx.has (bits (s.rg a).toNat 48 9) = false ∨ bits (s.rg a).toNat 7 41 ≠ 0 ∨
      bits (s.rg a).toNat 2 2 ≠ 0 ∨ 4 < bits (s.rg a).toNat 4 3) :
    exec (.amoDep b a d) s = .next (takeTrap s (trapAt (s.rg a) Cause.localBounds 2)) := by
  refine runM_trap ((M.bind_ok _ (getG_run a s)).trans ((M.bind_ok _ (getG_run b s)).trans
    ((M.bind_ok _ (M.get_run s)).trans ?_)))
  simp only [ge_iff_le, gt_iff_lt, Bool.not_eq_true', h, if_true]
  rfl
theorem amoFlags_owner_traps {s : State} {a : BitVec 5} (d : BitVec 5)
    (h : 2 ^ 57 ≤ (s.rg a).toNat ∨ s.myCtx.has (bits (s.rg a).toNat 48 9) = false ∨ (s.rg a).toNat % 2 ^ 48 ≠ 0) :
    exec (.amoFlags 0 a d) s = .next (takeTrap s (trapAt (s.rg a) Cause.localBounds 2)) := by
  refine runM_trap ((M.bind_ok _ (getG_run a s)).trans ((M.bind_ok _ (M.get_run s)).trans ?_))
  have h' : 2 ^ 57 ≤ (s.rg a).toNat ∨ (s.rg a).toNat % 2 ^ 48 ≠ 0 ∨ s.myCtx.has (bits (s.rg a).toNat 48 9) = false :=
    h.imp_right Or.symm
  simp only [ge_iff_le, Bool.not_eq_true', h', if_true]
  rfl
theorem amoFlags_cove_traps {s : State} {m : BitVec 2} {a : BitVec 5} (d : BitVec 5) (hm : m ≠ 0)
    (h : 2 ^ 10 ≤ (s.rg a).toNat ∨ (s.rg a).toNat % 2 ^ 7 ≠ 0 ∨
      s.myCtx.has (coreAt (coveOf s.myCore) (bits (s.rg a).toNat 7 3)) = false) :
    exec (.amoFlags m a d) s = .next (takeTrap s (trapAt (s.rg a) Cause.localBounds 1)) := by
  refine runM_trap ((M.bind_ok _ (getG_run a s)).trans ((M.bind_ok _ (M.get_run s)).trans ?_))
  simp only [ge_iff_le, Bool.not_eq_true', hm, h, if_true, if_false]
  rfl

/-! ### Gather and scatter (R130) -/

/-- The lanes before one that fails pass; the check of all of them is its trap. -/
theorem checkLanes_trap {m : BitVec 2} {n : Nat} {k : Acc} {q : Nat × Word} {s1 : State} {f : Trap}
    (h : checkAccess m q.2 n k s1 = .error (.trap f)) (r : List (Nat × Word)) :
    ∀ (l : List (Nat × Word)) (s : State) (ps : List (Nat × Place)), checkLanes m n k l s = .ok (ps, s1) →
      checkLanes m n k (l ++ q :: r) s = .error (.trap f) := by
  intro l
  induction l with
  | nil =>
    intro s ps pass
    cases pass
    exact M.bind_trap _ h
  | cons p t ih =>
    intro s ps pass
    simp only [List.cons_append, checkLanes, M.bind_run] at pass ⊢
    cases first : checkAccess m p.2 n k s with
    | error e => rw [first] at pass; cases pass
    | ok c =>
      rw [first] at pass
      simp only at pass ⊢
      cases rest : checkLanes m n k t c.2 with
      | error e => rw [rest] at pass; cases pass
      | ok u =>
        rw [rest] at pass
        cases pass
        rw [ih c.2 u.1 rest]
section
variable {s : State} {g : BitVec 3} {sz m : BitVec 2} {x : BitVec 1} {b a : BitVec 5} {f : Trap}
theorem vgather_traps (d : BitVec 5) (h : checkLanes m (2 ^ sz.toNat) .load
      (activeLanes (s.rmask g.toNat) (s.rg a) (s.rv b) (2 ^ sz.toNat) (x == 1)) s = .error (.trap f)) :
    exec (.vgather g sz m x b a d) s = .next (takeTrap s f) :=
  runM_trap ((M.bind_ok _ (getG_run a s)).trans ((M.bind_ok _ (M.get_run s)).trans (M.bind_trap _ h)))
theorem vscatter_traps (d : BitVec 5) (h : checkLanes m (2 ^ sz.toNat) .store
      (activeLanes (s.rmask g.toNat) (s.rg a) (s.rv b) (2 ^ sz.toNat) (x == 1)) s = .error (.trap f)) :
    exec (.vscatter g sz m x b a d) s = .next (takeTrap s f) :=
  runM_trap ((M.bind_ok _ (getG_run a s)).trans ((M.bind_ok _ (M.get_run s)).trans (M.bind_trap _ h)))
end

end Sys2Proof.Machine
end
section
/-! The traps of an access to memory (R112, R151). -/

namespace Sys2Proof.Machine

/-- Settles O34: each instruction traps as its check does (`TrapsAsChecked`, `AtomicTrapsAsChecked`), and each check's trap is
that of its own lemma. -/
theorem accessTraps : Obligations.AccessTraps := by
  refine ⟨?_, ?_, ?_⟩
  · intro s o9 o6 sz sc z b d i ea n k q w access T
    have traps : TrapsAsChecked s i ea n k := by
      simp only [List.mem_cons, Prod.mk.injEq, List.not_mem_nil, or_false] at access
      rcases access with ⟨rfl, rfl, rfl, rfl⟩ | ⟨rfl, rfl, rfl, rfl⟩ | ⟨rfl, rfl, rfl, rfl⟩ | ⟨rfl, rfl, rfl, rfl⟩ |
        ⟨rfl, rfl, rfl, rfl⟩ | ⟨rfl, rfl, rfl, rfl⟩
      · exact ld_trapsAsChecked s o9 sz b d
      · exact st_trapsAsChecked s o9 sz b d
      · exact vld_trapsAsChecked s o9 sz b d
      · exact vst_trapsAsChecked s o9 sz b d
      · exact lda_trapsAsChecked s o6 sc z b d
      · exact strel_trapsAsChecked s o6 sc z b d
    refine ⟨fun m h => traps m _ (checkAccess_misaligned m h), fun aligned => ⟨fun h => ?_, fun p inside h => ?_, fun h => ?_,
      fun h => ?_, fun e low found no => ?_, fun st low none failed => ?_⟩, ?_⟩
    · exact traps 0 _ (checkAccess_local aligned (localAddr_outside _ h))
    · exact traps 0 _ (checkAccess_local aligned (localAddr_failed _ inside h))
    · exact traps 1 _ (checkAccess_cove aligned h)
    · exact traps 2 _ (checkAccess_pageTraps aligned (.inl ⟨h, rfl⟩))
    · exact traps 2 _ (checkAccess_pageTraps aligned (.inr (.inl ⟨low, e, found, no, rfl⟩)))
    · exact traps 2 _ (checkAccess_pageTraps aligned (.inr (.inr ⟨low, none, failed⟩)))
    · rintro f a e rfl
      exact ⟨fun h bad => traps 0 _ (checkAccess_local_poisoned h bad), fun h bad => traps 2 _ (checkAccess_global_poisoned h bad)⟩
  · intro s w b a d i n al x v T core
    refine ⟨fun atomic => ?_, fun h => ?_, fun aligned h => ?_, fun h => ?_, fun h => ?_, fun m hm h => ?_⟩
    · have traps : AtomicTrapsAsChecked s i x n al := by
        simp only [List.mem_cons, Prod.mk.injEq, List.not_mem_nil, or_false] at atomic
        rcases atomic with ⟨rfl, rfl, rfl⟩ | ⟨rfl, rfl, rfl⟩ | ⟨rfl, rfl, rfl⟩ | ⟨rfl, rfl, rfl⟩ | ⟨rfl, rfl, rfl⟩ |
          ⟨rfl, rfl, rfl⟩ | ⟨rfl, rfl, rfl⟩ | ⟨rfl, rfl, rfl⟩ | ⟨rfl, rfl, rfl⟩ | ⟨rfl, rfl, rfl⟩ | ⟨rfl, rfl, rfl⟩ |
          ⟨rfl, rfl, rfl⟩ | ⟨rfl, rfl, rfl⟩ | ⟨rfl, rfl, rfl⟩
        · exact amoValue_atomicTrapsAsChecked 0x00 fun _ => rfl
        · exact amoValue_atomicTrapsAsChecked 0x01 fun _ => rfl
        · exact amoValue_atomicTrapsAsChecked 0x02 fun _ => rfl
        · exact amoValue_atomicTrapsAsChecked 0x03 fun _ => rfl
        · exact amoValue_atomicTrapsAsChecked 0x04 fun _ => rfl
        · exact amoValue_atomicTrapsAsChecked 0x05 fun _ => rfl
        · exact amoValue_atomicTrapsAsChecked 0x06 fun _ => rfl
        · exact amoValue_atomicTrapsAsChecked 0x07 fun _ => rfl
        · exact amoValue_atomicTrapsAsChecked 0x08 fun _ => rfl
        · exact amoValue_atomicTrapsAsChecked 0x09 fun _ => rfl
        · exact amoValue_atomicTrapsAsChecked 0x0A fun _ => rfl
        · exact amoValue_atomicTrapsAsChecked 0x0B fun _ => rfl
        · exact amoValue_atomicTrapsAsChecked 0x0C fun _ => rfl
        · exact amoXadd_atomicTrapsAsChecked s w b a d
      refine ⟨fun m h => traps m _ (atomicAddr_misaligned m h), fun aligned => ⟨fun h => ?_, fun h => ?_, fun h => ?_,
        fun e low found no => ?_, fun st low none failed => ?_⟩⟩
      · exact traps 0 _ (atomicAddr_owner aligned h)
      · exact traps 1 _ (atomicAddr_cove aligned h)
      · exact traps 2 _ (atomicAddr_pageTraps aligned (.inl ⟨h, rfl⟩))
      · exact traps 2 _ (atomicAddr_pageTraps aligned (.inr (.inl ⟨low, e, found, no, rfl⟩)))
      · exact traps 2 _ (atomicAddr_pageTraps aligned (.inr (.inr ⟨low, none, failed⟩)))
    · exact amoXaddv_traps b d (atomicAddr_misaligned 0 h)
    · exact amoXaddv_traps b d (atomicAddr_owner aligned h)
    · exact amoDep_traps b d h
    · exact amoFlags_owner_traps d h
    · exact amoFlags_cove_traps d hm h
  · intro s s1 g sz m x b a d l r q ps f n active
    refine ⟨fun pass h => vgather_traps d ?_, fun pass h => vscatter_traps d ?_⟩
    · exact active ▸ checkLanes_trap h r l s ps pass
    · exact active ▸ checkLanes_trap h r l s ps pass

end Sys2Proof.Machine
end
section
/-! What a store does once its access is checked (R110, R111, R130, R137, R139). -/

namespace Sys2Proof.Machine

/-! ### Stores at checked places -/

section
variable {s u : State} {go : Bool}

theorem storeAt_global {a : Nat} {l : List Byte} (free : s.me.loading a l.length = false) (room : RoomMade s go [a / 128] u) :
    storeAt 2 (.at a) l go s = .ok ((), if go then u.putGlobal a l else u) := by
  cases go with
  | true => exact storeGlobal_run a l s u free room
  | false => cases room; rfl
/-- A core of a pair that performs no store leaves its L1 as it is. -/
theorem foldl_storeLane_stays (out : List (Place × List Byte)) (s : State) : out.foldl (State.storeLane 2 false) s = s := by
  refine foldl_inv (· = s) _ out s rfl fun t q _ e => ?_
  cases h : q.1 <;> simp [State.storeLane, h, e]
/-- Lanes with a place in memory are stored each into the L1. -/
theorem foldl_storeLane_global (out : List (Place × List Byte)) (s : State) :
    out.foldl (State.storeLane 2 true) s = out.foldl (fun t q => match q.1 with
      | .at k => t.putGlobal k q.2
      | .core .. => t) s := by
  refine List.foldl_ext _ _ s fun t q _ => ?_
  cases h : q.1 <;> simp [State.storeLane, h]
theorem storeLanes_global_room {out : List (Place × List Byte)} (room : RoomMade s go (out.map laneSector).dedup u) :
    storeLanes 2 go out s = .ok ((), if go then out.foldl (State.storeLane 2 true) u else u) := by
  cases go with
  | true => exact storeLanes_global out s u room
  | false => cases room; exact congrArg (fun t => Except.ok ((), t)) (foldl_storeLane_stays out s)
end

/-! ### ST and VST -/

/-- Once its access is checked and its effect passes the comparison, a store of the bytes `l` completes with what `storeAt`
leaves, its base updated. -/
def StoresAsChecked (s : State) (i : Instr) (m : BitVec 2) (ea : Word) (l : List Byte) (post : Bool) (b : BitVec 5) (nb : Word) : Prop :=
  ∀ s1 p go u, Passes s1 go → checkAccess m ea l.length .store s = .ok (p, s1) → storeAt m p l go s1 = .ok ((), u) →
    exec i s = .next ((based u post b nb).advance)
theorem storeTo_base_run {m : BitVec 2} {ea nb : Word} {l : List Byte} {post go : Bool} {b : BitVec 5} {s s1 u : State} {p : Place}
    (pass : Passes s1 go) (check : checkAccess m ea l.length .store s = .ok (p, s1)) (stored : storeAt m p l go s1 = .ok ((), u)) :
    (do storeTo m ea l; putBase post b nb; done : M Unit) s = .ok ((), (based u post b nb).advance) := by
  rw [M.bind_ok _ ((storeTo_run m ea l s s1 p go pass check).trans stored), M.bind_ok _ (putBase_run post b nb u), done_run]

section
variable (s : State) (o : BitVec 9) (sz : BitVec 3) (b d : BitVec 5) (m : BitVec 2)
theorem st_storesAsChecked : StoresAsChecked s (.st o sz m b d) m
    (addresses (decide (sz.toNat ≥ 4)) (s.rg b) o (2 ^ (sz.toNat % 4))).1 (leBytes (2 ^ (sz.toNat % 4)) (s.rg d).toNat)
    (decide (sz.toNat ≥ 4)) b (addresses (decide (sz.toNat ≥ 4)) (s.rg b) o (2 ^ (sz.toNat % 4))).2 := fun _ _ _ _ pass check stored =>
  runM_ok ((M.bind_ok _ (getG_run b s)).trans ((M.bind_ok _ (getG_run d s)).trans (storeTo_base_run pass check stored)))
theorem vst_storesAsChecked : StoresAsChecked s (.vst o sz m b d) m
    (addresses (sz == 1 || sz == 3) (s.rg b) o (vecBytes sz)).1 (leBytes (vecBytes sz) (s.rv d).toNat)
    (sz == 1 || sz == 3) b (addresses (sz == 1 || sz == 3) (s.rg b) o (vecBytes sz)).2 := fun _ _ _ _ pass check stored =>
  runM_ok ((M.bind_ok _ (getG_run b s)).trans ((M.bind_ok _ (M.get_run s)).trans (storeTo_base_run pass check stored)))
end

section
variable {s s1 : State} {i : Instr} {m : BitVec 2} {ea nb : Word} {l : List Byte} {post go : Bool} {b : BitVec 5}
/-- The three modes of a store of `n` bytes. -/
theorem StoresAsChecked.modes {n : Nat} (run : StoresAsChecked s i m ea l post b nb) (length : l.length = n) (pass : Passes s1 go) :
    (∀ a, m = 0 → checkAccess m ea n .store s = .ok (.at a, s1) → exec i s = .next ((based (s1.putBytes a l) post b nb).advance)) ∧
    (∀ a u, m = 2 → checkAccess m ea n .store s = .ok (.at a, s1) → s1.me.loading a n = false → RoomMade s1 go [a / 128] u →
      exec i s = .next ((based (if go then u.putGlobal a l else u) post b nb).advance)) ∧
    (∀ c la, m = 1 → checkAccess m ea n .store s = .ok (.core c la, s1) →
      exec i s = .next ((based (if go then s1.post (Agent.slot s1.myCore s1.mySlot) (Agent.owner c)
        (.coveStore s1.me.ctx.toNat s1.myCore s1.mySlot la n (BitVec.ofNat 512 (leNat l))) else s1) post b nb).advance)) := by
  subst length
  refine ⟨?_, ?_, ?_⟩
  · rintro a rfl check
    exact run s1 _ go _ pass check rfl
  · rintro a u rfl check free room
    exact run s1 _ go _ pass check (storeAt_global free room)
  · rintro c la rfl check
    exact run s1 _ go _ pass check rfl
end

/-! ### VSCATTER -/

/-- Whether a load of the slot that is still outstanding reads a byte that a lane stores (R113). -/
def Slot.loadingLanes (t : Slot) (out : List (Place × List Byte)) : Bool := out.any (fun q => match q.1 with
  | .at a => t.loading a q.2.length
  | .core .. => false)
theorem Slot.loadingLanes_nil {t : Slot} (h : t.loads = []) (out : List (Place × List Byte)) : t.loadingLanes out = false := by
  refine List.any_eq_false.2 fun q _ => ?_
  cases q.1 <;> simp [Slot.loading, h]

/-- The active lanes of a scatter pass their checks in mode `m`: their places, and the state after the checks. -/
def LanesChecked (s : State) (m : BitVec 2) (g : BitVec 3) (w : BitVec 2) (x : BitVec 1) (b a : BitVec 5)
    (ps : List (Nat × Place)) (s1 : State) : Prop :=
  checkLanes m (2 ^ w.toNat) .store (activeLanes (s.rmask g.toNat) (s.rg a) (s.rv b) (2 ^ w.toNat) (x == 1)) s = .ok (ps, s1)
section
variable {s s1 u : State} {g : BitVec 3} {w m : BitVec 2} {x : BitVec 1} {b a d : BitVec 5} {ps : List (Nat × Place)} {go : Bool}
theorem vscatter_cove (pass : Passes s1 go) (check : LanesChecked s 1 g w x b a ps s1) :
    exec (.vscatter g w 1 x b a d) s =
      .next ((if go then sendScatter (scatterBytes (2 ^ w.toNat) (s.rv d) ps) s1 else s1).advance) := by
  refine runM_ok ((M.bind_ok _ (getG_run a s)).trans ((M.bind_ok _ (M.get_run s)).trans ((M.bind_ok _ check).trans
    ((M.bind_ok _ (pass _ _ _)).trans ((M.bind_ok _ (M.get_run s1)).trans ?_)))))
  cases go <;> rfl
theorem vscatter_lanes (hm : m ≠ 1) (pass : Passes s1 go) (check : LanesChecked s m g w x b a ps s1)
    (free : m = 2 → s1.me.loadingLanes (scatterBytes (2 ^ w.toNat) (s.rv d) ps) = false)
    (stored : storeLanes m go (scatterBytes (2 ^ w.toNat) (s.rv d) ps) s1 = .ok ((), u)) :
    exec (.vscatter g w m x b a d) s = .next u.advance := by
  refine runM_ok ((M.bind_ok _ (getG_run a s)).trans ((M.bind_ok _ (M.get_run s)).trans ((M.bind_ok _ check).trans
    ((M.bind_ok _ (pass _ _ _)).trans ((M.bind_ok _ (M.get_run s1)).trans ?_)))))
  have no_wait : ¬ (decide (m = 2) && go && s1.me.loadingLanes (scatterBytes (2 ^ w.toNat) (s.rv d) ps)) = true := by
    simp only [Bool.and_eq_true, decide_eq_true_eq, not_and, Bool.not_eq_true]
    exact fun hm => free hm.1
  exact (congrFun ((if_neg hm).trans (if_neg no_wait)) s1).trans (M.bind_ok _ stored)
end

end Sys2Proof.Machine
end
section
/-! Stores (R111, R130, R137, R139). -/

namespace Sys2Proof.Machine

/-- Settles O33: a store completes with what `storeAt` leaves at the checked place (`StoresAsChecked`), VSCATTER with the stores
of its lanes or the messages to their cores. -/
theorem storesComplete : Obligations.StoresComplete := by
  intro s s1 o sz b d go pass S
  refine ⟨fun m => ?_, fun m => ?_, fun g w x a ps => ⟨fun check _ => ?_, vscatter_cove pass, fun u check _ no_loads room => ?_⟩⟩
  · exact (st_storesAsChecked s o sz b d m).modes (leBytes_length _ _) pass
  · exact (vst_storesAsChecked s o sz b d m).modes (leBytes_length _ _) pass
  · exact vscatter_lanes (by decide) pass check (fun h => absurd h (by decide)) (storeLanes_local go _ s1)
  · have stored := storeLanes_global_room room
    rw [foldl_storeLane_global] at stored
    exact vscatter_lanes (by decide) pass check (fun _ => Slot.loadingLanes_nil no_loads _) stored

end Sys2Proof.Machine
end
section
/-! A release that is done at once counts the write-backs of its core (R141), and so leaves a mark in its slot. -/

namespace Sys2Proof.Machine

/-- A task whose core has sent one write-back before, number 0, which is acknowledged. -/
def sentOnce : State := (State.reset.withFetchWord 32 0).modCore 0 fun k => { k with wbSeq := 1 }
theorem sentOnce_memOk : sentOnce.MemOk := show Mem.wf sentOnce.mem = true by decide +kernel
/-- What the slot of a next state shows: its life, its PC and the number below which its last release counted write-backs. -/
def releaseMark : Out → Option (Life × Word × Nat)
  | .next t => some (t.me.life, t.me.pc, t.me.relUpto)
  | _ => none
theorem eq_next_of_releaseMark {r : Out} {life : Life} {pc : Word} {n : Nat} (h : releaseMark r = some (life, pc, n)) :
    ∃ t, r = .next t ∧ t.me.life = life ∧ t.me.pc = pc ∧ t.me.relUpto = n := by
  cases r with
  | next t => exact ⟨t, rfl, by simpa [releaseMark] using h⟩
  | fault f => cases h
  | refused f => cases h
theorem strel_releaseMark : releaseMark (exec (.strel 2 3 3 2 0 0) sentOnce) = some (.running, sentOnce.nextPc, 1) := by decide +kernel
/-- Refutes O36: STREL completes, but its release sets `relUpto`, which `Slot.special` keeps: here an STREL of 8 bytes at address
16 in mode .g at scope .dev moves it from 0 to 1. -/
theorem not_storeFrame : ¬ Obligations.StoreFrame := by
  unfold Obligations.StoreFrame
  rintro ⟨-, frame, -⟩
  obtain ⟨t, e, life, pc, mark⟩ := eq_next_of_releaseMark strel_releaseMark
  obtain ⟨-, -, special, -⟩ := (frame sentOnce sentOnce t 2 3 3 2 0 0 sentOnce_memOk (by decide +kernel) life pc).2 e
  have same := congrArg Slot.relUpto (show t.me.special = sentOnce.me.special from special)
  have moved : 1 = sentOnce.me.relUpto := mark.symm.trans same
  exact absurd moved (by decide +kernel)

end Sys2Proof.Machine
end
section
/-! Lanes packed into a register (R49, R114): what a lane of a packed register reads, and what replacing one lane leaves. -/

namespace Sys2Proof.Machine

/-! ### Widths -/

/-- The lanes of every type fit in a register. -/
theorem typeBits_mul_lanes_le (t : Nat) : typeBits t * lanes t ≤ 512 := by
  unfold lanes
  split
  · next six => rw [six]; decide
  · exact Nat.mul_div_le 512 (typeBits t)
/-- A lane below the lane count ends inside the register. -/
theorem lane_end_le {t i : Nat} (h : i < lanes t) : typeBits t * i + typeBits t ≤ 512 :=
  calc typeBits t * i + typeBits t = typeBits t * (i + 1) := (Nat.mul_succ _ _).symm
    _ ≤ typeBits t * lanes t := Nat.mul_le_mul_left _ h
    _ ≤ 512 := typeBits_mul_lanes_le t

/-! ### Packed lanes -/

theorem pack_lt (w : Nat) (l : List Nat) : pack w l < 2 ^ (w * l.length) := by
  induction l with
  | nil => simp [pack]
  | cons x l ih =>
    have low : x % 2 ^ w < 2 ^ w := Nat.mod_lt _ (Nat.two_pow_pos w)
    calc x % 2 ^ w + 2 ^ w * pack w l < 2 ^ w * (pack w l + 1) := by rw [Nat.mul_succ]; omega
      _ ≤ 2 ^ w * 2 ^ (w * l.length) := Nat.mul_le_mul_left _ ih
      _ = 2 ^ (w * (x :: l).length) := by rw [List.length_cons, Nat.mul_succ, ← Nat.pow_add, Nat.add_comm]
theorem pack_cons_div (w x : Nat) (l : List Nat) : pack w (x :: l) / 2 ^ w = pack w l := by
  rw [pack, Nat.add_mul_div_left _ _ (Nat.two_pow_pos w), Nat.div_eq_of_lt (Nat.mod_lt _ (Nat.two_pow_pos w)), Nat.zero_add]
theorem pack_lane (w : Nat) (l : List Nat) (i : Nat) (h : i < l.length) : pack w l / 2 ^ (w * i) % 2 ^ w = l[i] % 2 ^ w := by
  induction l generalizing i with
  | nil => exact absurd h (Nat.not_lt_zero i)
  | cons x l ih =>
    cases i with
    | zero => simp [pack]
    | succ i =>
      rw [Nat.mul_succ, Nat.add_comm, Nat.pow_add, ← Nat.div_div_eq_div_mul, pack_cons_div]
      exact ih i (Nat.lt_of_succ_lt_succ h)
theorem toNat_ofNat_of_lt_two_pow {k n x : Nat} (h : x < 2 ^ k) (fits : k ≤ n) : (BitVec.ofNat n x).toNat = x := by
  rw [BitVec.toNat_ofNat, Nat.mod_eq_of_lt (h.trans_le (Nat.pow_le_pow_right two_pos fits))]
theorem laneW_ofLanes {w i : Nat} {l : List Nat} (fits : w * l.length ≤ 512) (h : i < l.length) :
    laneW w (ofLanes w l) i = l[i] % 2 ^ w := by
  rw [laneW, ofLanes, toNat_ofNat_of_lt_two_pow (pack_lt w l) fits, pack_lane w l i h]
/-- A register built lane by lane reads its lanes back, for every type code. -/
theorem lane_vecOf {t i : Nat} (f : Nat → Nat) (h : i < lanes t) : lane t (vecOf t f) i = f i % 2 ^ typeBits t := by
  have count : ((List.range (lanes t)).map f).length = lanes t := by simp
  have fits : typeBits t * ((List.range (lanes t)).map f).length ≤ 512 := count.symm ▸ typeBits_mul_lanes_le t
  rw [lane, vecOf, laneW_ofLanes fits (count.symm ▸ h)]
  simp

/-! ### A lane replaced -/

theorem laneW_lt (w : Nat) (v : Vec) (i : Nat) : laneW w v i < 2 ^ w := Nat.mod_lt _ (Nat.two_pow_pos w)
/-- A register is what stands above a lane, the lane, and what stands below it. -/
theorem toNat_eq_around_lane (w : Nat) (v : Vec) (i : Nat) :
    v.toNat = 2 ^ (w * i) * (2 ^ w * (v.toNat / 2 ^ (w * i + w)) + laneW w v i) + v.toNat % 2 ^ (w * i) := by
  have above : v.toNat / 2 ^ (w * i + w) = v.toNat / 2 ^ (w * i) / 2 ^ w := by rw [Nat.pow_add, Nat.div_div_eq_div_mul]
  rw [above, laneW, Nat.div_add_mod, Nat.div_add_mod]
/-- The sum that replaces a lane keeps what stands above it and what stands below it. -/
theorem replaced_eq (w : Nat) (v : Vec) (i x : Nat) :
    v.toNat - laneW w v i * 2 ^ (w * i) + x % 2 ^ w * 2 ^ (w * i) =
      2 ^ (w * i) * (2 ^ w * (v.toNat / 2 ^ (w * i + w)) + x % 2 ^ w) + v.toNat % 2 ^ (w * i) := by
  have around := toNat_eq_around_lane w v i
  rw [Nat.mul_add] at around ⊢
  rw [Nat.mul_comm (laneW w v i), Nat.mul_comm (x % 2 ^ w)]
  omega
theorem setLane_testBit {w i : Nat} (v : Vec) (x b : Nat) (h : w * i + w ≤ 512) :
    (setLane w v i x).toNat.testBit b = if w * i ≤ b ∧ b < w * i + w then x.testBit (b - w * i) else v.toNat.testBit b := by
  rw [setLane, BitVec.testBit_toNat, BitVec.getLsbD_ofNat, replaced_eq,
    Nat.testBit_two_pow_mul_add _ (Nat.mod_lt _ (Nat.two_pow_pos _)), Nat.testBit_two_pow_mul_add _ (Nat.mod_lt _ (Nat.two_pow_pos _))]
  simp only [Nat.testBit_mod_two_pow, Nat.testBit_div_two_pow]
  by_cases below : b < w * i
  · simp [below, Nat.not_le.2 below, show b < 512 by omega]
  · by_cases inside : b - w * i < w
    · rw [if_neg below, if_pos inside, if_pos (by omega)]
      simp [inside, show b < 512 by omega]
    · rw [if_neg below, if_neg inside, if_neg (by omega), show b - w * i - w + (w * i + w) = b by omega]
      by_cases held : b < 512
      · simp [held]
      · simp [held, BitVec.testBit_toNat, BitVec.getLsbD_of_ge v b (Nat.le_of_not_lt held)]
theorem laneW_testBit (w : Nat) (v : Vec) (i p : Nat) :
    (laneW w v i).testBit p = (decide (p < w) && v.toNat.testBit (w * i + p)) := by
  simp [laneW, Nat.testBit_mod_two_pow, Nat.testBit_div_two_pow, Nat.add_comm]
/-- A bit of lane `j` lies in lane `i` only where they are the same lane. -/
theorem lane_of_bit {w i j p : Nat} (h : p < w) : (w * i ≤ w * j + p ∧ w * j + p < w * i + w) ↔ j = i := by
  refine ⟨fun ⟨low, high⟩ => ?_, fun same => by subst same; omega⟩
  have number : (w * j + p) / w = j := by
    rw [Nat.mul_add_div (by omega), Nat.div_eq_of_lt h, Nat.add_zero]
  rw [← number]
  exact Nat.div_eq_of_lt_le (by rwa [Nat.mul_comm]) (by rwa [Nat.succ_mul, Nat.mul_comm i])
theorem laneW_setLane {w i : Nat} (v : Vec) (j x : Nat) (h : w * i + w ≤ 512) :
    laneW w (setLane w v i x) j = if j = i then x % 2 ^ w else laneW w v j := by
  refine Nat.eq_of_testBit_eq fun p => ?_
  rw [laneW_testBit, setLane_testBit v x _ h]
  by_cases inside : p < w
  · simp only [lane_of_bit inside, inside, decide_true, Bool.true_and]
    split
    · next same => simp [same, inside]
    · simp [laneW_testBit, inside]
  · have left : (if j = i then x % 2 ^ w else laneW w v j) < 2 ^ w := by
      split
      · exact Nat.mod_lt _ (Nat.two_pow_pos w)
      · exact laneW_lt w v j
    rw [Nat.testBit_lt_two_pow (left.trans_le (Nat.pow_le_pow_right two_pos (Nat.le_of_not_lt inside)))]
    simp [inside]

/-- Settles O31: the lanes of a packed register do not overlap, nor does one that is replaced touch another. -/
theorem lanesRoundTrip : Obligations.LanesRoundTrip :=
  ⟨fun _ f _ _ hi => lane_vecOf f hi, fun _ v _ j x _ hi _ => laneW_setLane v j x (lane_end_le hi)⟩

end Sys2Proof.Machine
end
section
/-! What an instruction does whose vector operands expand (R116), and its lanes on integers and on patterns (R118, R121, R122). -/

namespace Sys2Proof.Machine

variable {s : State} {x y z : Vec}

/-- An instruction whose operands a and b expand goes on with them. -/
theorem runM_ops2 {n : Nat} {a b : BitVec 5} (h : expandOps (some n) (some n) (s.rv a) (s.rv b) s = .ok ((x, y), s))
    (f : Vec × Vec → M Unit) : runM (ops2 n a b >>= f) s = runM (f (x, y)) s :=
  congrArg (finish s) (M.bind_ok f h)
/-- An instruction whose operand a expands goes on with it. -/
theorem runM_ops1 {n : Nat} {a : BitVec 5} (h : expandOps (some n) none (s.rv a) 0 s = .ok ((x, z), s))
    (f : Vec → M Unit) : runM (ops1 n a >>= f) s = runM (f x) s :=
  congrArg (finish s) (M.bind_ok f (M.bind_ok _ h))

/-- A body that reads the state goes on with it. -/
theorem runM_get (f : State → M Unit) : runM (get >>= f) s = runM (f s) s := rfl

section
variable {t a b : BitVec 5} (d : BitVec 5) (h : expandOps (some t.toNat) (some t.toNat) (s.rv a) (s.rv b) s = .ok ((x, y), s))
include h

theorem vint_lanes (f : Int → Int → Int) : runM (vint t b a d f) s = .next ((s.wv d (vecOf t.toNat fun i =>
    wrapInt (f (readInt (lane t.toNat x i) t.toNat) (readInt (lane t.toNat y i) t.toNat)) (typeBits t.toNat))).advance) :=
  runM_ops2 h _
theorem vpat_lanes (f : Nat → Nat → Nat → Nat) : runM (vpat t b a d f) s = .next ((s.wv d (vecOf t.toNat fun i =>
    f (typeBits t.toNat) (lane t.toNat x i) (lane t.toNat y i))).advance) :=
  runM_ops2 h _
theorem vsel_lanes (m : BitVec 3) : exec (.vsel m t b a d) s = .next ((s.wv d (vecOf t.toNat fun i =>
    if active (s.rmask m.toNat) i then lane t.toNat x i else lane t.toNat y i)).advance) :=
  runM_ops2 h _
theorem vctst_lanes : exec (.vctst t b a d) s = .next ((s.wmask d.toNat (maskOf (lanes t.toNat) fun i =>
    (lane t.toNat x i &&& lane t.toNat y i) != 0)).advance) :=
  runM_ops2 h _
end

/-- Settles O24: each instruction is `vint` or `vpat` of its function on a lane, VSEL or VCTST. -/
theorem vectorIntegerResults : Obligations.VectorIntegerResults := by
  intro s t b a d x y h w L R I P
  have int := vint_lanes d h
  have pat := vpat_lanes d h
  exact ⟨int _, int _, int _, int _, int _, int _, int _, int _, int _, int _, int _,
    pat fun _ p q => p &&& q, pat fun _ p q => p ||| q, pat fun _ p q => p ^^^ q, pat fun w p q => p &&& (2 ^ w - 1 - q),
    pat fun w p q => p * 2 ^ (q % w), pat fun w p q => p / 2 ^ (q % w), pat fun w p q => wrapInt (sval w p / 2 ^ (q % w)) w,
    pat fun w p q => p / 2 ^ (q % w) + p * 2 ^ (w - q % w), vsel_lanes d h, vctst_lanes d h⟩

end Sys2Proof.Machine
end
section
/-! Sums of lanes modulo their width: the pairwise tree of R64 and the scan of R65 over integers. -/

namespace Sys2Proof.Machine

/-! ### Sums modulo a width -/

theorem readInt_emod (p t : Nat) : readInt p t % 2 ^ typeBits t = (p : Int) % 2 ^ typeBits t := by
  unfold readInt
  extract_lets w q
  have low : (q : Int) % 2 ^ w = (p : Int) % 2 ^ w := by
    rw [show (q : Int) = (p : Int) % 2 ^ w by simp [q], Int.emod_emod]
  split
  · rw [Int.sub_emod_right, low]
  · exact low
theorem wrapInt_readInt_add (p q t : Nat) : wrapInt (readInt p t + readInt q t) (typeBits t) = (p + q) % 2 ^ typeBits t := by
  rw [wrapInt, Int.add_emod, readInt_emod, readInt_emod, ← Int.add_emod]
  exact_mod_cast Int.toNat_natCast _

/-- The pair of a lane and its flags stands for a number modulo the width of `t`, without flags. -/
def LaneHolds (t : Nat) (a : Nat × Flags) (n : Nat) : Prop := a = (n % 2 ^ typeBits t, 0)
theorem redOp_sum {t : Nat} (int : t < 8) (rm : Nat) {a b : Nat × Flags} {m n : Nat} (ha : LaneHolds t a m) (hb : LaneHolds t b n) :
    LaneHolds t (redOp 0 t rm a b) (m + n) := by
  rw [LaneHolds] at *
  rw [redOp, if_pos int, ha, hb]
  simp [wrapInt_readInt_add]

/-! ### The tree of R64 -/

section
variable {α : Type} {op : α → α → α} {P : α → Nat → Prop} (adds : ∀ {a b m n}, P a m → P b n → P (op a b) (m + n))
include adds

/-- A level over an even number of live lanes halves them and keeps their sum. -/
theorem treeLevel_sum {k : Nat} {l : List α} {ns : List Nat} (h : List.Forall₂ P l ns) (len : l.length = 2 * k) :
    ∃ l' ns', treeLevel op (l.map some) = l'.map some ∧ List.Forall₂ P l' ns' ∧ l'.length = k ∧ ns'.sum = ns.sum := by
  induction k generalizing l ns with
  | zero =>
    cases List.eq_nil_of_length_eq_zero len
    cases h
    exact ⟨[], [], rfl, .nil, rfl, rfl⟩
  | succ k ih =>
    match h, len with
    | .cons ha (.cons hb rest), len =>
      obtain ⟨l', ns', level, holds, count, sum⟩ := ih rest (by simp at len; omega)
      exact ⟨_ :: l', _ :: ns', by simp [treeLevel, level], .cons (adds ha hb) holds, by simp [count], by simp [sum, Nat.add_assoc]⟩
/-- Over a power of two of live lanes the root stands for their sum. -/
theorem treeReduce_sum {k : Nat} {l : List α} {ns : List Nat} (h : List.Forall₂ P l ns) (len : l.length = 2 ^ k) :
    ∃ a, treeReduce op k (l.map some) = some a ∧ P a ns.sum := by
  induction k generalizing l ns with
  | zero =>
    match h, len with
    | .cons ha .nil, _ => exact ⟨_, rfl, by simpa using ha⟩
  | succ k ih =>
    obtain ⟨l', ns', level, holds, count, sum⟩ := treeLevel_sum adds h (len.trans (Nat.pow_succ'))
    obtain ⟨a, root, ha⟩ := ih holds count
    cases h with
    | nil => exact absurd len (Nat.two_pow_pos _).ne
    | cons => exact ⟨a, by simpa [treeReduce, ← level] using root, sum ▸ ha⟩
end

theorem treeLevel_dead {α : Type} (op : α → α → α) (l : List (Option α)) (dead : ∀ o ∈ l, o = none) :
    ∀ o ∈ treeLevel op l, o = none := by
  fun_induction treeLevel op l with
  | case1 a b l ih => exact absurd (dead _ List.mem_cons_self) (by simp)
  | case2 b l ih =>
    obtain ⟨-, hb, hl⟩ := List.forall_mem_cons.1 dead |>.imp_right List.forall_mem_cons.1
    exact List.forall_mem_cons.2 ⟨hb, ih hl⟩
  | case3 a l _ ih =>
    obtain ⟨ha, -, hl⟩ := List.forall_mem_cons.1 dead |>.imp_right List.forall_mem_cons.1
    exact List.forall_mem_cons.2 ⟨ha, ih hl⟩
  | case4 => exact dead
theorem treeReduce_dead {α : Type} (op : α → α → α) (k : Nat) (l : List (Option α)) (dead : ∀ o ∈ l, o = none) :
    treeReduce op k l = none := by
  fun_induction treeReduce op k l with
  | case1 => rfl
  | case2 a l => exact dead a List.mem_cons_self
  | case3 k l _ ih => exact ih (treeLevel_dead op l dead)

/-! ### The scan of R65 -/

/-- After lanes that add up to `n`, each further lane of an unbroken scan receives the sum so far. -/
theorem scanLanes_some {t : Nat} (int : t < 8) (rm : Nat) (e : Nat × Flags) (l : List Nat) {q : Nat × Flags} {n : Nat}
    (hq : LaneHolds t q n) :
    scanLanes (redOp 0 t rm) e (some q) (l.map fun v => ((v % 2 ^ typeBits t, 0), true)) =
      (List.range l.length).map fun j => ((n + (l.take (j + 1)).sum) % 2 ^ typeBits t, 0) := by
  induction l generalizing n q with
  | nil => rfl
  | cons v l ih =>
    have next : LaneHolds t (redOp 0 t rm q (v % 2 ^ typeBits t, 0)) (n + v) := redOp_sum int rm hq rfl
    simp only [List.map_cons, scanLanes, if_true, ih next, List.length_cons, List.range_succ_eq_map, List.map_map,
      Option.getD_some]
    simpa [Function.comp_def, Nat.add_assoc, LaneHolds] using next
theorem scanLanes_none {t : Nat} (int : t < 8) (rm : Nat) (e : Nat × Flags) (l : List Nat) :
    scanLanes (redOp 0 t rm) e none (l.map fun v => ((v % 2 ^ typeBits t, 0), true)) =
      (List.range l.length).map fun j => ((l.take (j + 1)).sum % 2 ^ typeBits t, 0) := by
  cases l with
  | nil => rfl
  | cons v l =>
    have first : LaneHolds t (v % 2 ^ typeBits t, 0) v := rfl
    simp only [List.map_cons, scanLanes, if_true, scanLanes_some int rm e l first, List.length_cons, List.range_succ_eq_map,
      List.map_map, Option.getD_some]
    simp [Function.comp_def]

end Sys2Proof.Machine
end
section
/-! Reductions, scans, dot products, conversions and scale factors (R50, R57, R58, R64, R65, R123, R124, R126). -/

namespace Sys2Proof.Machine

variable {s : State} {x y z : Vec}

/-! ### Reductions (R126) -/

/-- The leaves of a reduction's tree: the lanes that its mask governs. -/
def redLeaves (t : Nat) (x : Vec) (m : Word) : List (Option (Nat × Flags)) :=
  (List.range (lanes t)).map fun j => if active m j then some (lane t x j, (0 : Flags)) else none
theorem redLeaves_eq (t : Nat) (x : Vec) (m : Word) :
    (maskedLanes t x m).map (fun o => o.map fun v => (v, (0 : Flags))) = redLeaves t x m := by
  rw [maskedLanes, List.map_map, redLeaves]
  exact List.map_congr_left fun j _ => by simp only [Function.comp_apply]; split <;> rfl
theorem active_allOnes {i : Nat} (h : i < 64) : active (BitVec.allOnes 64) i = true := by
  rw [active, BitVec.getLsbD_allOnes, decide_eq_true h]
/-- Integer types have a power of two of lanes, as many as a mask has bits at most. -/
theorem lanes_int {t : Nat} (int : t < 8) : lanes t = 2 ^ Nat.log2 (lanes t) ∧ lanes t ≤ 64 := by
  interval_cases t <;> exact ⟨by decide, by decide⟩
theorem lane_mod (t : Nat) (x : Vec) (i : Nat) : lane t x i % 2 ^ typeBits t = lane t x i := Nat.mod_eq_of_lt (laneW_lt _ _ _)

section
variable {k : Nat} {t a : BitVec 5} (b d : BitVec 5) (h : expandOps (some t.toNat) none (s.rv a) 0 s = .ok ((x, z), s))
include h

theorem vred_some {v : Nat} {fl : Flags}
    (root : treeReduce (redOp k t.toNat s.rmode) (Nat.log2 (lanes t.toNat)) (redLeaves t.toNat x (s.rmask b.toNat)) = some (v, fl)) :
    runM (vred k t b a d) s =
      (let r := if t.toNat < 8 then (v, 0) else
        if (Fp.read (fmtOf t.toNat) v).isNan then ((fmtOf t.toNat).nanPat, snan (Fp.read (fmtOf t.toNat) v)) else (v, 0)
      .next (((s.wv d (BitVec.ofNat 512 r.1)).orFlags (fl ||| r.2)).advance)) := by
  refine (runM_ops1 h _).trans ((runM_get _).trans ?_)
  simp only [redLeaves_eq, root]
  rfl
theorem vred_none
    (root : treeReduce (redOp k t.toNat s.rmode) (Nat.log2 (lanes t.toNat)) (redLeaves t.toNat x (s.rmask b.toNat)) = none) :
    runM (vred k t b a d) s = .next (((s.wv d (BitVec.ofNat 512 (redId k t.toNat))).orFlags 0).advance) := by
  refine (runM_ops1 h _).trans ((runM_get _).trans ?_)
  simp only [redLeaves_eq, root]
  rfl
/-- Over no lane a reduction holds its identity. -/
theorem vred_inactive (mask : s.rmask b.toNat = 0) :
    runM (vred k t b a d) s = .next (((s.wv d (BitVec.ofNat 512 (redId k t.toNat))).orFlags 0).advance) := by
  refine vred_none b d h (treeReduce_dead _ _ _ fun o ho => ?_)
  obtain ⟨j, -, rfl⟩ := List.mem_map.1 ho
  simp [mask, active]
/-- Over all lanes of an integer type the sum wraps. -/
theorem vred_all (int : t.toNat < 8) (mask : s.rmask b.toNat = BitVec.allOnes 64) :
    runM (vred 0 t b a d) s = .next (((s.wv d (BitVec.ofNat 512
      (((List.range (lanes t.toNat)).map (lane t.toNat x)).sum % 2 ^ typeBits t.toNat))).orFlags 0).advance) := by
  obtain ⟨pow, small⟩ := lanes_int int
  have live : redLeaves t.toNat x (s.rmask b.toNat) =
      ((List.range (lanes t.toNat)).map fun j => (lane t.toNat x j, (0 : Flags))).map some := by
    rw [redLeaves, List.map_map, mask]
    exact List.map_congr_left fun j hj => if_pos (active_allOnes ((List.mem_range.1 hj).trans_le small))
  have lanesHold : List.Forall₂ (LaneHolds t.toNat) ((List.range (lanes t.toNat)).map fun j => (lane t.toNat x j, (0 : Flags)))
      ((List.range (lanes t.toNat)).map (lane t.toNat x)) := by
    rw [List.forall₂_map_left_iff, List.forall₂_map_right_iff, List.forall₂_same]
    exact fun j _ => by rw [LaneHolds, lane_mod]
  obtain ⟨_, root, rfl⟩ := treeReduce_sum (op := redOp 0 t.toNat s.rmode) (redOp_sum int s.rmode) lanesHold (by simpa using pow)
  rw [vred_some b d h (live ▸ root)]
  simp [int]

theorem vscanK_lanes : runM (vscanK k t b a d) s =
    (let r := scanLanes (redOp k t.toNat s.rmode) (redId k t.toNat, 0) none
      ((List.range (lanes t.toNat)).map fun j => ((lane t.toNat x j, (0 : Flags)), active (s.rmask b.toNat) j))
    .next (((s.wv d (ofLanes (typeBits t.toNat) (r.map (·.1)))).orFlags (r.foldl (fun f p => f ||| p.2) 0)).advance)) :=
  runM_ops1 h _
/-- Over all lanes of an integer type each lane of the scan holds the wrapped sum so far. -/
theorem vscan_all (int : t.toNat < 8) (mask : s.rmask b.toNat = BitVec.allOnes 64) :
    ∃ f, runM (vscanK 0 t b a d) s = .next (((s.wv d (ofLanes (typeBits t.toNat) ((List.range (lanes t.toNat)).map fun j =>
      ((List.range (j + 1)).map (lane t.toNat x)).sum % 2 ^ typeBits t.toNat))).orFlags f).advance) := by
  obtain ⟨-, small⟩ := lanes_int int
  have live : ((List.range (lanes t.toNat)).map fun j => ((lane t.toNat x j, (0 : Flags)), active (s.rmask b.toNat) j)) =
      ((List.range (lanes t.toNat)).map (lane t.toNat x)).map fun v => ((v % 2 ^ typeBits t.toNat, 0), true) := by
    rw [List.map_map, mask]
    refine List.map_congr_left fun j hj => ?_
    rw [active_allOnes ((List.mem_range.1 hj).trans_le small), Function.comp_apply, lane_mod]
  have values : ((List.range (lanes t.toNat)).map fun j =>
      (((List.range (lanes t.toNat)).map (lane t.toNat x)).take (j + 1)).sum % 2 ^ typeBits t.toNat) =
      (List.range (lanes t.toNat)).map fun j => ((List.range (j + 1)).map (lane t.toNat x)).sum % 2 ^ typeBits t.toNat := by
    refine List.map_congr_left fun j hj => ?_
    rw [← List.map_take, List.take_range, Nat.min_eq_left (List.mem_range.1 hj)]
  have run := vscanK_lanes (k := 0) b d h
  rw [live, scanLanes_none int] at run
  simp only [List.map_map, Function.comp_def, List.length_map, List.length_range, values] at run
  exact ⟨_, run⟩
end

/-! ### Dot products (R126) -/

/-- A sum modulo 2^64 in a register, its upper bits zero. -/
theorem ofNat_wrapInt_sum (l : List Int) :
    BitVec.ofNat 512 (wrapInt (l.foldl (· + ·) 0) 64) = BitVec.ofInt 512 (l.sum % 2 ^ 64) := by
  have nonneg : 0 ≤ l.sum % 2 ^ 64 := Int.emod_nonneg _ (by decide)
  rw [← List.sum_eq_foldl, wrapInt, ← BitVec.ofInt_natCast, Int.toNat_of_nonneg nonneg]

section
variable {t a b : BitVec 5} (d : BitVec 5) (h : expandOps (some t.toNat) (some t.toNat) (s.rv a) (s.rv b) s = .ok ((x, y), s))
include h

theorem vdot_int (int : t.toNat < 8) : exec (.vdot t b a d) s = .next ((s.wv d (BitVec.ofInt 512
    (((List.range (lanes t.toNat)).map fun i => readInt (lane t.toNat x i) t.toNat * readInt (lane t.toNat y i) t.toNat).sum %
      2 ^ 64))).advance) := by
  rw [← ofNat_wrapInt_sum]
  exact (runM_ops2 h _).trans ((runM_get _).trans (congrArg (runM · s) (if_pos int)))
theorem vdot_float (float : 8 ≤ t.toNat) {v : Fp} {fl : Flags} :
    let n := t.toNat
    let f := fmtOf (if n = 13 ∨ n = 14 then 15 else n)
    let node : Fp × Flags → Fp × Flags → Fp × Flags := fun p q =>
      let r := Fp.addExact s.rmode p.1 q.1
      (Fp.read f (r.1.toPat f s.rmode).1, p.2 ||| q.2 ||| r.2 ||| (r.1.toPat f s.rmode).2)
    treeReduce node (Nat.log2 (lanes n)) ((List.range (lanes n)).map fun i =>
      some (Fp.mulExact (Fp.read (fmtOf n) (lane n x i)) (Fp.read (fmtOf n) (lane n y i)))) = some (v, fl) →
    exec (.vdot t b a d) s = .next (((s.wv d (BitVec.ofNat 512 (v.toPat f s.rmode).1)).orFlags
      (fl ||| (v.toPat f s.rmode).2)).advance) := by
  intro n f node root
  refine (runM_ops2 h _).trans ((runM_get _).trans ((congrArg (runM · s) (if_neg (Nat.not_lt.2 float))).trans ?_))
  simp only [n, f, node] at root
  simp only [root]
  rfl
end

/-! ### Scale factors (R124) -/

theorem foldl_max_eq {l : List Nat} {q : Nat} (hq : q ∈ l) (top : ∀ o ∈ l, o ≤ q) : l.foldl max 0 = q := by
  rw [List.foldl_eq_foldr]
  exact le_antisymm (List.max_le_of_forall_le l q top) (List.le_max_of_le hq le_rfl)
/-- The exponent of the largest value of VMXSC's element type. -/
def maxExponent (e : BitVec 5) : Int := match e.toNat with
  | 12 => 15
  | 11 => 8
  | 10 => 4
  | _ => 2
theorem maxExponent_eq (e : BitVec 5) :
    maxExponent e = if e = 12 then 15 else if e = 11 then 8 else if e = 10 then 4 else 2 := by
  revert e
  decide
/-- The scale of R124 for an element type, from the magnitudes of lanes of type `n`. -/
def mxScale (n : Nat) (e : BitVec 5) (l : List Nat) : Nat :=
  if l.any (fun q => (Fp.read (fmtOf n) q).isNan) then 0xFF
  else if l.foldl max 0 = 0 then 0
  else match Fp.read (fmtOf n) (l.foldl max 0) with
    | .fin _ m k => (min (max ((Nat.log2 m : Int) + k - maxExponent e + 127) 0) 254).toNat
    | _ => 0xFE
theorem vmxsc_scale {t a : BitVec 5} (d : BitVec 5) (h : expandOps (some t.toNat) none (s.rv a) 0 s = .ok ((x, z), s))
    (j : BitVec 2) (e : BitVec 5) : exec (.vmxsc j t e a d) s = .next ((s.wv d (setLane 8 (s.rv d) j.toNat
      (max (laneW 8 (s.rv d) j.toNat) (mxScale t.toNat e
        ((List.range (lanes t.toNat)).map fun i => lane t.toNat x i % (fmtOf t.toNat).signBit))))).advance) :=
  runM_ops1 h _

section
variable {n : Nat} (e : BitVec 5) {l : List Nat}

theorem mxScale_nan (nan : l.any (fun q => (Fp.read (fmtOf n) q).isNan) = true) : mxScale n e l = 0xFF := if_pos nan
variable (number : l.any (fun q => (Fp.read (fmtOf n) q).isNan) = false)
include number
theorem mxScale_zero (zero : ∀ q ∈ l, q = 0) : mxScale n e l = 0 := by
  have top : l.foldl max 0 = 0 := by
    rw [List.foldl_eq_foldr]
    exact Nat.le_zero.1 (List.max_le_of_forall_le l 0 fun q hq => (zero q hq).le)
  simp [mxScale, number, top]
variable {q : Nat} (hq : q ∈ l) (nonzero : q ≠ 0) (top : ∀ o ∈ l, o ≤ q)
include hq nonzero top
theorem mxScale_fin {g : Bool} {k : Nat} {y : Int} (value : Fp.read (fmtOf n) q = .fin g k y) :
    mxScale n e l = (min (max ((Nat.log2 k : Int) + y - maxExponent e + 127) 0) 254).toNat := by
  simp only [mxScale, number, foldl_max_eq hq top, nonzero, value, if_false, Bool.false_eq_true]
theorem mxScale_inf {g : Bool} (value : Fp.read (fmtOf n) q = .inf g) : mxScale n e l = 0xFE := by
  simp only [mxScale, number, foldl_max_eq hq top, nonzero, value, if_false, Bool.false_eq_true]
end

/-- Settles O28: each instruction goes on with its expanded operands; the trees and scans of integers over all lanes add up by
`treeReduce_sum` and `scanLanes_none`. -/
theorem vectorReductionsComplete : Obligations.VectorReductionsComplete := by
  refine ⟨fun s t b a d x z h => ⟨?_, ?_, fun int => vscan_all b d h int, ?_, fun int => vred_all b d h int, ?_, ?_⟩,
    fun s t b a d x y h => ⟨fun float v fl => vdot_float d h float, fun int => vdot_int d h int⟩⟩
  · intro k i hi v fl root
    have run : exec i s = runM (vred k t b a d) s := by
      simp only [List.mem_cons, Prod.mk.injEq, List.not_mem_nil, or_false] at hi
      obtain ⟨rfl, rfl⟩ | ⟨rfl, rfl⟩ | ⟨rfl, rfl⟩ := hi <;> rfl
    rw [run, vred_some b d h root]
    refine ⟨fun plain => ?_, fun float nan => ?_⟩
    · obtain int | number := plain
      · simp [int]
      · simp [number]
    · simp only [if_neg (Nat.not_lt.2 float), if_pos nan]
  · intro k i hi
    have run : exec i s = runM (vscanK k t b a d) s := by
      simp only [List.mem_cons, Prod.mk.injEq, List.not_mem_nil, or_false] at hi
      obtain ⟨rfl, rfl⟩ | ⟨rfl, rfl⟩ | ⟨rfl, rfl⟩ := hi <;> rfl
    exact run.trans (vscanK_lanes b d h)
  · exact fun mask => ⟨vred_inactive b d h mask, vred_inactive b d h mask, vred_inactive b d h mask⟩
  · -- VCVT: the model reads the scale's number by cases of the latch, and saturation as a Boolean.
    intro u p dst dt c scl mx one base r
    refine (runM_ops1 h _).trans ?_
    show finish s (.ok _) = _
    cases hp : s.pfx <;>
    · simp only [r, one, mx, scl, hp, Option.map_none, Option.map_some, Option.getD_none, Option.getD_some, Bool.and_eq_true,
        beq_iff_eq, decide_eq_true_eq]
      rfl
  · intro j e l emax S any
    have run := vmxsc_scale d h j e
    have exponent := maxExponent_eq e
    refine ⟨fun nan => ?_, fun number zero => ?_, fun number q hq nonzero top => ⟨fun g k y value => ?_, fun g value => ?_⟩⟩
    · rw [run, mxScale_nan e nan]
    · rw [run, mxScale_zero e number zero]
    · rw [run, mxScale_fin e number hq nonzero top value, exponent]
    · rw [run, mxScale_inf e number hq nonzero top value]

end Sys2Proof.Machine
end
section
/-! What reset leaves (R397). -/

namespace Sys2Proof.Machine

theorem State.slot_reset (c j : Nat) : State.reset.slot c j = {} := by
  show ((Vector.replicate 5 ({} : Slot))[j]?).getD {} = {}
  rw [Vector.getElem?_replicate]
  split <;> rfl
theorem State.stored_reset {i : Nat} (h : i < 128) : State.reset.stored (i * 2 ^ 30) = i * 2 ^ 30 := by
  have region : (State.reset.region i).toNat = 2 ^ 15 + (if 64 ≤ i then 2 ^ 14 else 0) + i % 64 := by
    show (BitVec.ofNat 16 _).toNat = _
    rw [BitVec.toNat_ofNat, Nat.mod_eq_of_lt (by split <;> omega)]
  simp only [State.stored, Nat.mul_div_cancel _ (Nat.two_pow_pos 30), Nat.mul_mod_left, region, lpddr]
  split <;> omega
/-- Settles O11: every table is empty at reset, so that each slot and core is the default one, and the region table's defaults
map each granule to itself. -/
theorem resetState : Obligations.ResetState :=
  ⟨rfl, rfl, rfl, rfl, State.reset_memOk, fun c j => by simp [State.slot_reset], fun _ => ⟨rfl, rfl, rfl⟩,
    fun c j => by simp [State.slot_reset], fun _ h => State.stored_reset h, rfl⟩

end Sys2Proof.Machine
end
section
/-! The CSR group outside a paired context (R74, R75, R106): what an access answers, and what a CSR then reads. -/

namespace Sys2Proof.Machine

/-- The value that a function of the CSR group forms from the old value and ga (R106). -/
def CsrOp.form : CsrOp → Word → Word → Word
  | .write, _, w => w
  | .set, x, w => x ||| w
  | .clear, x, w => x &&& ~~~w

theorem readOnce_alone {s : State} {f : State → Word} (alone : s.paired = false) : readOnce f s = .ok (f s, s) := by
  simp [readOnce, M.bind_run, obtained_alone _ _ alone]

section
variable {s : State} {op : CsrOp} {r d : BitVec 5} {c : BitVec 12}
theorem csrAccess_denied (high : 0x800 ≤ c.toNat) (soft : s.isFw s.myCore = false) : runM (csrAccess op r c d) s =
    .next (takeTrap s ⟨Cause.privilege, s.cur.word.setWidth 64, s.wordPc.setWidth 48⟩) :=
  runM_trap (by simp [csrAccess, M.bind_run, high, soft])
variable (may : c.toNat < 0x800 ∨ s.isFw s.myCore = true)
include may
theorem csr_allowed : ¬(c.toNat ≥ 0x800 ∧ (!s.isFw s.myCore) = true) := by
  rintro ⟨high, soft⟩
  rcases may with low | fw
  · omega
  · simp [fw] at soft
theorem csrAccess_absent (absent : s.csr s.myCore s.mySlot c.toNat = none) :
    runM (csrAccess op r c d) s = .next (takeTrap s (illegalTrap s)) :=
  runM_trap (by simp only [csrAccess, M.bind_run, M.get_run, if_neg (csr_allowed may), absent, illegal_run])
variable {x : Word} (old : s.csr s.myCore s.mySlot c.toNat = some x) (alone : s.paired = false)
include old alone
/-- An access that is allowed to a CSR that exists, outside a pair: only the write is left. -/
theorem csrAccess_run : csrAccess op r c d s =
    if op ≠ .write ∧ r = 0 then .ok ((), (s.wg d x).advance)
    else if 0x800 ≤ c.toNat then .ok ((), ((s.csrWrite s.myCore c.toNat (op.form x (s.rg r))).wg d x).advance)
    else match s.me.csrWrite c.toNat (op.form x (s.rg r)) (s.rg r) with
      | none => .error (.trap (illegalTrap s))
      | some u => .ok ((), ((s.setMe u).wg d x).advance) := by
  have read (k : Word → M Unit) :
      (if ownCsr c.toNat = true then pure x >>= k else readOnce (fun _ => x) >>= k) s = k x s := by
    split
    · rfl
    · rw [M.bind_run, readOnce_alone alone]
  have last (o : Option Slot) :
      (match o with
      | none => illegal
      | some u => set (s.setMe u) >>= fun _ => retG d x : M Unit) s = (match o with
      | none => .error (.trap (illegalTrap s))
      | some u => .ok ((), ((s.setMe u).wg d x).advance)) := by cases o <;> rfl
  simp only [csrAccess, M.bind_run (get : M State), M.get_run, if_neg (csr_allowed may), old, read]
  split
  · rfl
  · split
    · cases op <;> rfl
    · cases op <;> exact last _
theorem csrAccess_reads (op : CsrOp) (d : BitVec 5) (only : op ≠ .write) : runM (csrAccess op 0 c d) s = .next ((s.wg d x).advance) :=
  runM_ok (by rw [csrAccess_run may old alone, if_pos ⟨only, rfl⟩])
theorem csrAccess_firmware (op : CsrOp) (d : BitVec 5) (writes : op = .write ∨ r ≠ 0) (high : 0x800 ≤ c.toNat) :
    runM (csrAccess op r c d) s = .next (((s.csrWrite s.myCore c.toNat (op.form x (s.rg r))).wg d x).advance) :=
  runM_ok (by rw [csrAccess_run may old alone, if_neg (by tauto), if_pos high])
omit may
theorem csrAccess_slot (op : CsrOp) (d : BitVec 5) (writes : op = .write ∨ r ≠ 0) (low : c.toNat < 0x800) {u : Slot}
    (written : s.me.csrWrite c.toNat (op.form x (s.rg r)) (s.rg r) = some u) :
    runM (csrAccess op r c d) s = .next (((s.setMe u).wg d x).advance) :=
  runM_ok (by rw [csrAccess_run (.inl low) old alone, if_neg (by tauto), if_neg (by omega), written])
theorem csrAccess_reserved (op : CsrOp) (d : BitVec 5) (writes : op = .write ∨ r ≠ 0) (low : c.toNat < 0x800)
    (refused : s.me.csrWrite c.toNat (op.form x (s.rg r)) (s.rg r) = none) :
    runM (csrAccess op r c d) s = .next (takeTrap s (illegalTrap s)) :=
  runM_trap (by rw [csrAccess_run (.inl low) old alone, if_neg (by tauto), if_neg (by omega), refused])
end

/-! ### What a CSR of the slot reads after a write -/

/-- What a CSR reads after a CSRRW of ga that names g0. -/
def ReadsBack (s : State) (r : BitVec 5) (c : BitVec 12) (v : Word) : Prop :=
  ∃ t, exec (.csrrw r c 0) s = .next t ∧ t.csr s.myCore s.mySlot c.toNat = some v

theorem State.wg_zero_advance (s : State) (x : Word) : (s.wg 0 x).advance = s.setMe { s.me.settle with pc := s.nextPc } := by
  have same : s.wg 0 x = s.setMe s.me := rfl
  rw [same, State.advance, State.goto, State.modMe_setMe, State.nextPc, State.nextPc, State.me_setMe]
  rfl
theorem State.slot_setMe (s : State) (u : Slot) : (s.setMe u).slot s.myCore s.mySlot = u := by
  rw [← State.myCore_setMe s u, ← State.mySlot_setMe s u, State.slot_me, State.me_setMe]
theorem setWidth_setWidth_eq_ofNat (k : Nat) (w : Word) : (w.setWidth k).setWidth 64 = BitVec.ofNat 64 (w.toNat % 2 ^ k) := by
  apply BitVec.eq_of_toNat_eq
  rw [BitVec.toNat_setWidth, BitVec.toNat_setWidth, BitVec.toNat_ofNat]
/-- Bit 10 of STATUS is UNORD (Table 4.3). -/
theorem State.status_unord (s : State) (c j : Nat) : (s.status c j).getLsbD 10 = (s.slot c j).unord := by
  have prio := (s.slot c j).prio.isLt
  have step := (((s.dies[c / 256]?).getD {}).step).isLt
  rw [State.status, BitVec.getLsbD_ofNat, Nat.testBit_eq_decide_div_mod_eq]
  have above (p : Bool) (i : Nat) (h : 11 ≤ i) : 2048 ∣ if p then 2 ^ i else 0 := by
    split
    · exact pow_dvd_pow 2 h
    · exact dvd_zero _
  have service := above (j == 4) 11 (by decide)
  have gang := above (s.slot c j).gang 12 (by decide)
  have pair := above (s.ctx (s.slot c j).ctx.toNat).pair 13 (by decide)
  have pending := above (s.slot c j).pfxp 14 (by decide)
  have fw := above (s.isFw c) 15 (by decide)
  rw [decide_eq_true (by decide), Bool.true_and]
  cases (s.slot c j).unord
  · simp only [Bool.false_eq_true, if_false, decide_eq_false_iff_not]
    omega
  · simp only [if_true, decide_eq_true_iff]
    omega
/-- Bit 3 of GCTL is NFS (Table 4.5). -/
theorem Slot.gctl_nfs (t : Slot) : t.gctl.getLsbD 3 = t.nfs := by
  have tie := t.tie.isLt
  rw [Slot.gctl, BitVec.getLsbD_ofNat, Nat.testBit_eq_decide_div_mod_eq]
  have low : t.tie.toNat + (if t.nfq then 4 else 0) < 8 := by split <;> omega
  rw [decide_eq_true (by decide), Bool.true_and]
  cases t.nfs
  · simp only [Bool.false_eq_true, if_false, decide_eq_false_iff_not]
    omega
  · simp only [if_true, decide_eq_true_iff]
    omega
theorem toNat_mod_eight (w : Word) : w.toNat % 8 = w.toNat % 4 + if w.getLsbD 2 = true then 4 else 0 := by
  rw [BitVec.getLsbD, Nat.testBit_eq_decide_div_mod_eq]
  simp only [decide_eq_true_eq]
  split <;> omega
theorem setWidth_boundary (w : Word) : (boundary w).setWidth 64 = BitVec.ofNat 64 (w.toNat % 2 ^ 22 / 2 ^ 12 * 2 ^ 12) := by
  apply BitVec.eq_of_toNat_eq
  rw [boundary, BitVec.toNat_setWidth, BitVec.toNat_ofNat, BitVec.toNat_ofNat]
  omega
theorem Slot.csrWrite_readOnly (t : Slot) {n : Nat} (new w : Word)
    (readOnly : n ∉ [0x000, 0x009, 0x018, 0x019, 0x020, 0x021, 0x058, 0x070, 0x078]) : t.csrWrite n new w = some t := by
  unfold Slot.csrWrite
  split <;> simp_all

section
variable {s : State} {r : BitVec 5} {c : BitVec 12} {x : Word} (old : s.csr s.myCore s.mySlot c.toNat = some x) (alone : s.paired = false)
include old alone
theorem csrrw_slot_next (low : c.toNat < 0x800) {u : Slot} (written : s.me.csrWrite c.toNat (s.rg r) (s.rg r) = some u) :
    ∃ pc, exec (.csrrw r c 0) s = .next (s.setMe { u.settle with pc := pc }) := by
  refine ⟨(s.setMe u).nextPc, (csrAccess_slot old alone .write 0 (.inl rfl) low written).trans ?_⟩
  rw [State.wg_zero_advance, State.me_setMe, State.setMe_setMe]
theorem readsBack_slot (low : c.toNat < 0x800) {u : Slot} (written : s.me.csrWrite c.toNat (s.rg r) (s.rg r) = some u) {v : Word}
    (reads : ∀ pc, (s.setMe { u.settle with pc := pc }).csr s.myCore s.mySlot c.toNat = some v) : ReadsBack s r c v := by
  obtain ⟨pc, next⟩ := csrrw_slot_next old alone low written
  exact ⟨_, next, reads pc⟩
theorem readsBack_field {q : Nat × Nat} (listed : q ∈ [(0x009, (s.rg r).toNat % 2 ^ 48), (0x018, (s.rg r).toNat % 2 ^ 4),
      (0x019, (s.rg r).toNat % 2 ^ 5), (0x021, (s.rg r).toNat), (0x058, (s.rg r).toNat % 2 ^ 32), (0x070, (s.rg r).toNat % 2 ^ 32),
      (0x078, (s.rg r).toNat % 2 ^ 32)]) (number : c.toNat = q.1) : ReadsBack s r c (BitVec.ofNat 64 q.2) := by
  have joined (n : Nat) : n % 4 + n / 4 % 4 * 4 = n % 16 := by omega
  simp only [List.mem_cons, List.not_mem_nil, or_false] at listed
  rcases listed with rfl | rfl | rfl | rfl | rfl | rfl | rfl
  all_goals
    refine readsBack_slot old alone (by omega) (congrArg (s.me.csrWrite · _ _) number) fun pc => ?_
    simp [State.csr, number, State.slot_setMe, Slot.fctl, setWidth_setWidth_eq_ofNat, joined]
theorem readsBack_gctl (number : c.toNat = 0x020) (defined : (s.rg r).toNat % 4 ≠ 3) : ReadsBack s r c
    (BitVec.ofNat 64 ((s.rg r).toNat % 8 + (if x.getLsbD 3 && !(s.rg r).getLsbD 3 then 8 else 0))) := by
  have was : s.me.gctl = x := by simpa [State.csr, number, State.slot_me] using old
  refine readsBack_slot old alone (by omega) ((congrArg (s.me.csrWrite · _ _) number).trans (if_neg defined)) fun pc => ?_
  rw [← was, Slot.gctl_nfs]
  simp [State.csr, number, State.slot_setMe, Slot.gctl, toNat_mod_eight]
theorem status_readsBack (number : c.toNat = 0x000) : ∃ t, exec (.csrrw r c 0) s = .next t ∧
    (t.status s.myCore s.mySlot).getLsbD 10 = (x.getLsbD 10 && !(s.rg r).getLsbD 10) := by
  obtain ⟨pc, next⟩ := csrrw_slot_next old alone (by omega) (congrArg (s.me.csrWrite · _ _) number)
  refine ⟨_, next, ?_⟩
  simp only [State.csr, number] at old
  have was : s.status s.myCore s.mySlot = x := by simpa using old
  rw [State.status_unord, State.slot_setMe, ← was, State.status_unord, State.slot_me]
  rfl
theorem csrrw_readOnly (d : BitVec 5) (low : c.toNat < 0x800)
    (readOnly : c.toNat ∉ [0x000, 0x009, 0x018, 0x019, 0x020, 0x021, 0x058, 0x070, 0x078]) :
    exec (.csrrw r c d) s = .next (((s.setMe s.me).wg d x).advance) :=
  csrAccess_slot old alone .write d (.inl rfl) low (s.me.csrWrite_readOnly _ _ readOnly)
end

/-! ### What a firmware CSR reads after a write -/

theorem State.csr_setMe_firmware (s : State) (u : Slot) (c j : Nat) {n : Nat} (high : 0x800 ≤ n) :
    (s.setMe u).csr c j n = s.csr c j n := by
  have core : ∃ l, (s.setMe u).core c = { s.core c with slots := l } := by
    by_cases own : c = s.myCore
    · subst own
      exact ⟨_, State.core_setCore_self _ _ _⟩
    · exact ⟨_, State.core_setMe_ne s u c own⟩
  obtain ⟨l, core⟩ := core
  have region (i : Nat) : (s.setMe u).region i = s.region i := rfl
  simp only [State.csr, core, region, if_neg (Nat.not_lt.2 high)]
theorem setWidth_eq_one (b : BitVec 2) : b.setWidth 64 = (1 : Word) ↔ b = 1 := by decide +revert
theorem State.core_csrWrite (s : State) (c n : Nat) (w : Word) : (s.csrWrite c n w).core c = (s.core c).csrWrite n w := by
  simp only [State.csrWrite]
  split <;> exact State.core_setCore_self _ _ _
theorem Core.regionState_csrWrite (k : Core) (w : Word) :
    (k.csrWrite 0x8C0 w).regionState = if w.toNat % 4 = 1 ∧ k.regionState ≠ 1 then 1 else k.regionState :=
  apply_ite Core.regionState (w.toNat % 4 = 1 ∧ k.regionState ≠ 1) { k with regionState := 1 } k
theorem Core.pbstate_csrWrite (k : Core) (w : Word) :
    (k.csrWrite 0x8CC w).pbstate = if w.toNat % 4 = 1 ∧ k.pbstate ≠ 1 then 1 else k.pbstate :=
  apply_ite Core.pbstate (w.toNat % 4 = 1 ∧ k.pbstate ≠ 1) { k with pbstate := 1 } k
/-- A write of region words leaves the valid, die and granule bits of each of its four entries in the shadow (R359). -/
theorem Core.shadow_csrWrite (k : Core) (w : Word) (e : BitVec 16) {n i : Nat} (first : 0x880 ≤ n) (last : n < 0x8A0) (hi : i < 4) :
    (k.csrWrite n w).shadow.getD (4 * (n - 0x880) + i) e = BitVec.ofNat 16 (w.toNat / 2 ^ (16 * i)) &&& 0xC03F := by
  simp only [Core.csrWrite, if_pos (And.intro first last)]
  interval_cases i <;> simp [List.range_succ, FMap.getD, FMap.find_set]
/-- Masking lane by lane masks the packed number. -/
theorem pack_map_and (w : Nat) (f g : Nat → Nat) (l : List Nat) :
    pack w (l.map fun i => f i &&& g i) = pack w (l.map f) &&& pack w (l.map g) := by
  induction l with
  | nil => exact (Nat.and_self 0).symm
  | cons i l ih =>
    have split (h : Nat → Nat) : pack w ((i :: l).map h) % 2 ^ w = h i % 2 ^ w ∧ pack w ((i :: l).map h) / 2 ^ w = pack w (l.map h) :=
      ⟨by simp [pack], pack_cons_div w _ _⟩
    rw [← Nat.mod_add_div (_ &&& _) (2 ^ w), Nat.and_mod_two_pow, Nat.and_div_two_pow, (split f).1, (split g).1, (split f).2, (split g).2,
      ← ih, ← Nat.and_mod_two_pow]
    rfl
theorem pack_maskedEntries (w : Word) :
    pack 16 ((List.range 4).map fun i => (BitVec.ofNat 16 (w.toNat / 2 ^ (16 * i)) &&& 0xC03F).toNat) = w.toNat &&& 0xC03FC03FC03FC03F := by
  have lanes : pack 16 ((List.range 4).map fun i => (BitVec.ofNat 16 (w.toNat / 2 ^ (16 * i))).toNat) = w.toNat := by
    have bound := w.isLt
    simp [List.range_succ, pack]
    omega
  have mask : pack 16 ((List.range 4).map fun _ => 0xC03F) = 0xC03FC03FC03FC03F := by decide
  rw [← mask]
  conv_rhs => rw [← lanes]
  rw [← pack_map_and]
  rfl

section
variable {s : State} {r : BitVec 5} {c : BitVec 12} {x : Word} (fw : s.isFw s.myCore = true)
  (old : s.csr s.myCore s.mySlot c.toNat = some x) (alone : s.paired = false)
include fw old alone
theorem readsBack_firmware (high : 0x800 ≤ c.toNat) {v : Word}
    (reads : (s.csrWrite s.myCore c.toNat (s.rg r)).csr s.myCore s.mySlot c.toNat = some v) : ReadsBack s r c v := by
  refine ⟨_, csrAccess_firmware (.inr fw) old alone .write 0 (.inl rfl) high, ?_⟩
  rw [State.wg_zero_advance, State.csr_setMe_firmware _ _ _ _ high]
  exact reads
theorem readsBack_target (number : c.toNat = 0x8C8) : ReadsBack s r c (BitVec.ofNat 64 ((s.rg r).toNat % 2 ^ 9)) := by
  refine readsBack_firmware fw old alone (by omega) ?_
  simp [State.csr, number, State.core_csrWrite, Core.csrWrite, setWidth_setWidth_eq_ofNat]
theorem readsBack_boundary (first : 0x8C9 ≤ c.toNat) (last : c.toNat ≤ 0x8CB) :
    ReadsBack s r c (BitVec.ofNat 64 ((s.rg r).toNat % 2 ^ 22 / 2 ^ 12 * 2 ^ 12)) := by
  refine readsBack_firmware fw old alone (by omega) ?_
  obtain number | number | number : c.toNat = 0x8C9 ∨ c.toNat = 0x8CA ∨ c.toNat = 0x8CB := by omega
  all_goals
    simp [State.csr, number, State.core_csrWrite, Core.csrWrite, setWidth_boundary]
theorem readsBack_regions (first : 0x880 ≤ c.toNat) (last : c.toNat < 0x8A0) :
    ReadsBack s r c (BitVec.ofNat 64 ((s.rg r).toNat &&& 0xC03FC03FC03FC03F)) := by
  refine readsBack_firmware fw old alone (by omega) ?_
  simp only [State.csr, State.core_csrWrite, if_neg (show ¬c.toNat < 0x800 by omega), if_pos (And.intro first last)]
  rw [← pack_maskedEntries]
  refine congrArg (fun l => some (BitVec.ofNat 64 (pack 16 l))) (List.map_congr_left fun i hi => ?_)
  rw [Core.shadow_csrWrite _ _ _ first last (List.mem_range.1 hi)]
theorem readsBack_started (high : 0x800 ≤ c.toNat) {b : BitVec 2} (was : b.setWidth 64 = x)
    (now : (s.csrWrite s.myCore c.toNat (s.rg r)).csr s.myCore s.mySlot c.toNat =
      some ((if (s.rg r).toNat % 4 = 1 ∧ b ≠ 1 then 1 else b).setWidth 64)) :
    ((s.rg r).toNat % 4 = 1 ∧ x ≠ 1 → ReadsBack s r c 1) ∧ ((s.rg r).toNat % 4 ≠ 1 ∨ x = 1 → ReadsBack s r c x) := by
  have runs : x = 1 ↔ b = 1 := was ▸ setWidth_eq_one b
  refine ⟨fun ⟨asks, idle⟩ => readsBack_firmware fw old alone high ?_, fun stays => readsBack_firmware fw old alone high ?_⟩
  · rw [now, if_pos ⟨asks, mt runs.2 idle⟩]
    rfl
  · rw [now, if_neg (by tauto), was]
theorem readsBack_command (number : c.toNat = 0x8C0 ∨ c.toNat = 0x8CC) :
    ((s.rg r).toNat % 4 = 1 ∧ x ≠ 1 → ReadsBack s r c 1) ∧ ((s.rg r).toNat % 4 ≠ 1 ∨ x = 1 → ReadsBack s r c x) := by
  rcases number with number | number
  · refine readsBack_started fw old alone (by omega) (b := (s.core s.myCore).regionState) (by simpa [State.csr, number] using old) ?_
    simp [State.csr, number, State.core_csrWrite, Core.regionState_csrWrite]
  · refine readsBack_started fw old alone (by omega) (b := (s.core s.myCore).pbstate) (by simpa [State.csr, number] using old) ?_
    simp [State.csr, number, State.core_csrWrite, Core.pbstate_csrWrite]
end

/-- Settles O41: an access is its checks and one write (`csrAccess_run`), and each CSR reads the fields that the write left. -/
theorem csrResults : Obligations.CsrResults := by
  intro s r d c alone
  refine ⟨fun may x old => ⟨?_, fun low u => csrAccess_slot old alone .write d (.inl rfl) low,
      fun low writes u => csrAccess_slot old alone .set d (.inr writes) low,
      fun low writes u => csrAccess_slot old alone .clear d (.inr writes) low, fun high => ?_, fun low => ?_⟩,
    fun high soft => ⟨csrAccess_denied high soft, csrAccess_denied high soft, csrAccess_denied high soft⟩,
    fun may absent => ⟨csrAccess_absent may absent, csrAccess_absent may absent, csrAccess_absent may absent⟩,
    fun x old => ⟨fun q => readsBack_field old alone, readsBack_gctl old alone, status_readsBack old alone,
      csrrw_readOnly old alone d, fun fw => ⟨readsBack_target fw old alone, readsBack_boundary fw old alone,
        readsBack_regions fw old alone, readsBack_command fw old alone⟩⟩⟩
  · rintro rfl
    exact ⟨csrAccess_reads may old alone .set d (by decide), csrAccess_reads may old alone .clear d (by decide)⟩
  · exact ⟨csrAccess_firmware may old alone .write d (.inl rfl) high, fun writes =>
      ⟨csrAccess_firmware may old alone .set d (.inr writes) high, csrAccess_firmware may old alone .clear d (.inr writes) high⟩⟩
  · exact ⟨csrAccess_reserved old alone .write d (.inl rfl) low, fun writes => csrAccess_reserved old alone .set d (.inr writes) low,
      fun writes => csrAccess_reserved old alone .clear d (.inr writes) low⟩

end Sys2Proof.Machine
end
section
/-! Events of the pair comparator, of barriers and of wait cells where they are enabled (R315, R316, R325, R329, R332). -/

namespace Sys2Proof.Machine

/-! ### The pair comparator and barriers -/

section
variable {s : State} {c j : Nat}
section
variable {a b : Copy} (mine : (s.slot c j).copy = some a) (its : (s.slot (twinOf c) j).copy = some b) (even : c % 2 = 0)
  (fresh : (s.slot c j).agreed = false) (its_fresh : (s.slot (twinOf c) j).agreed = false)
include mine its even fresh its_fresh
theorem pairCompare_agrees (same : mismatch a b = 0) : exec (.pairCompare c j) s =
    .next ((s.modSlot c j (fun t => { t with agreed := true })).modSlot (twinOf c) j (fun t => { t with agreed := true })) := by
  show execPairCompare c j s = _
  simp [execPairCompare, mine, its, even, fresh, its_fresh, same]
theorem pairCompare_differs (differ : mismatch a b ≠ 0) :
    exec (.pairCompare c j) s = .next (s.redundancyTrap c j (mismatch a b) a.addr) := by
  show execPairCompare c j s = _
  simp [execPairCompare, mine, its, even, fresh, its_fresh, differ]
end
theorem pairCompareTimeout_late {a : Copy} (mine : (s.slot c j).copy = some a) (its : (s.slot (twinOf c) j).copy = none)
    (fresh : (s.slot c j).agreed = false) (word : isPairchk a.word = false) (late : a.since + 854 ≤ s.dtime.toNat) :
    exec (.pairCompareTimeout c j) s = .next (s.redundancyTrap c j 8 a.addr) := by
  show execPairCompareTimeout c j s = _
  simp [execPairCompareTimeout, mine, its, fresh, word, late]
theorem barrierTimeout_late {k : Nat} {l : List Nat} (waits : (s.slot c j).awaiting = k :: l)
    (life : (s.slot c j).life = .stalled .barrier) (limited : (s.slot c j).barto ≠ 0) (uncompleted : (s.barrier k).completing = false)
    (armed : (s.slot c j).armAt k = some (s.barrier k).episode)
    (late : (s.slot c j).started + (s.slot c j).barto.toNat ≤ s.dtime.toNat + 1) :
    let m := ((s.barrier k).members s k).filter (fun c => !(s.barrier k).flags.contains c)
    exec (.barrierTimeout c j) s = .next ({ s with barriers := s.barriers.set k { s.barrier k with missing := some m } }.trapSlot c j
      ⟨Cause.barrierTimeout, BitVec.ofNat 64 (barrierTval k m), 0⟩) := by
  show execBarrierTimeout c j s = _
  simp only [execBarrierTimeout, waits]
  exact if_neg (by simpa [life, uncompleted, armed] using ⟨limited, late⟩)
end
theorem barrierComplete_opens {s : State} {k : Nat} (h : (s.barrier k).completing = true) :
    exec (.barrierComplete k) s = .next (s.openNext k) := if_pos h

/-! ### Wait cells at their owner -/

/-- An access to a wait cell that its owner serves at once: it has a lane and its page, and both are sound (R332, R334). -/
structure CellServed (s u : State) (id o x la c j : Nat) : Prop where
  unshut : s.shut o = false
  ready : u.ownerReady o x c j = true
  servable : u.unservable o x la 16 (msgWho id) = false
  present : u.missing o x la 16 (msgWho id) = none

section
variable {s u : State} {id : Nat} {m : Msg} (taken : s.take id = some (m, u))
include taken
theorem waiterWoken_answers {c j : Nat} {task : BitVec 32} {ask : Nat} {v : Word} {t : State}
    (body : m.body = .reply .woken c j task ask v) (answered : u.giveAnswer c j task ask v = some t) :
    exec (.waiterWoken id) s = .next t := by
  show execWaiterWoken id s = _
  simp [execWaiterWoken, onMessage, taken, body, answered]
variable {x la c j : Nat} {task : BitVec 32}
section
variable {v : Word} (body : m.body = .waitq x la c j task v) (live : (s.slot c j).taskid = task) (asks : (s.slot c j).ask = some id)
  (served : CellServed s u id (m.dst / 8) x la c j)
include body live asks served
theorem waitqAtOwner_links {o : Nat} {w : State} (owner : m.dst / 8 = o) (visited : (u.leave o (msgWho id)).checkCell o x la = w)
    (holds : leNat (w.localBytes o x la 8) = v.toNat) : exec (.waitqAtOwner id) s = .next ((w.setWaiters o (cellKey x la)
      ((w.core o).links.getD (cellKey x la) [] ++ [(c * 8 + j, task, id)])).modSlot c j
      (fun t => { t with linkedAt := some (o, cellKey x la) })) := by
  subst owner visited
  obtain ⟨unshut, ready, servable, present⟩ := served
  show execWaitqAtOwner id s = _
  simp [execWaitqAtOwner, taken, body, live, asks, unshut, ready, servable, present, holds]
theorem waitqAtOwner_answers {o : Nat} {w t : State} (owner : m.dst / 8 = o) (visited : (u.leave o (msgWho id)).checkCell o x la = w)
    (differs : leNat (w.localBytes o x la 8) ≠ v.toNat) (answered : w.giveAnswer c j task id 0#64 = some t) :
    exec (.waitqAtOwner id) s = .next t := by
  subst owner visited
  obtain ⟨unshut, ready, servable, present⟩ := served
  show execWaitqAtOwner id s = _
  simp [execWaitqAtOwner, taken, body, live, asks, unshut, ready, servable, present, differs, answered]
end
theorem wakeAtOwner_wakes {n : Word} (body : m.body = .wake x la c j task n) (served : CellServed s u id (m.dst / 8) x la c j) :
    let o := m.dst / 8
    let w := (u.leave o (msgWho id)).checkCell o x la
    let l := (w.core o).links.getD (cellKey x la) []
    let k := min n.toNat l.length
    exec (.wakeAtOwner id) s = .next ((((l.take k).foldl (fun s q => s.wakeOne o q 1) w).setWaiters o (cellKey x la) (l.drop k)).post
      m.dst (Agent.slot c j) (.reply .atomic c j task id (BitVec.ofNat 64 k))) := by
  obtain ⟨unshut, ready, servable, present⟩ := served
  show execWakeAtOwner id s = _
  simp [execWakeAtOwner, taken, body, unshut, ready, servable, present]
end

end Sys2Proof.Machine
end
section
/-! Events of a context's life, of the commits of boundaries and regions, and of the governor where they are enabled (R73, R160 to R163,
R168 to R171, R359, R400). -/

namespace Sys2Proof.Machine

/-! ### Contexts -/

section
variable {s : State} {x : Nat}
theorem contextLoadDone_error (loading : (s.ctx x).state = .loading) (bad : (s.ctx x).pending = some false) :
    exec (.contextLoadDone x) s = .next ((s.release x).endLoad x 5) := by
  show execContextLoadDone x s = _
  simp [execContextLoadDone, loading, bad]
theorem contextLoadDone_ready {u : State} (loading : (s.ctx x).state = .loading) (checked : (s.ctx x).pending = some true)
    (pages : ((List.range 512).filter (s.ctx x).has).all (fun k => (s.fixedState x k).1 && !(s.fixedState x k).2) = true)
    (settled : s.invals.any (fun i => i.ctx == x) = false) (banks : s.preload x (s.ctx x).preloads = some (u, true)) :
    exec (.contextLoadDone x) s = .next ((u.makeReady x).endLoad x 0) := by
  have sound : ((List.range 512).filter (s.ctx x).has).any (fun k => (s.fixedState x k).2) = false :=
    List.any_eq_false.2 fun k hk => by simpa using (Bool.and_eq_true_iff.1 (List.all_eq_true.1 pages k hk)).2
  have there : ((List.range 512).filter (s.ctx x).has).all (fun k => (s.fixedState x k).1) = true :=
    List.all_eq_true.2 fun k hk => (Bool.and_eq_true_iff.1 (List.all_eq_true.1 pages k hk)).1
  show execContextLoadDone x s = _
  unfold execContextLoadDone
  simp only [loading, checked, sound, there, settled, banks, ne_eq, not_true_eq_false, if_false, Bool.false_eq_true, Bool.not_true]
theorem contextDrainDone_releases (draining : (s.ctx x).state = .draining) (empty : s.remains x = false) :
    exec (.contextDrainDone x) s = .next (s.release x) := if_pos (by simp [draining, empty])
/-- Scrubbing of cores and updates of coves leave every context and timer. -/
theorem State.foldl_scrubCore (x : Nat) (l : List Nat) (s : State) :
    (l.foldl (fun s k => s.scrubCore x k) s).ctxs = s.ctxs ∧ (l.foldl (fun s k => s.scrubCore x k) s).timers = s.timers :=
  foldl_inv (fun t : State => t.ctxs = s.ctxs ∧ t.timers = s.timers) _ l s ⟨rfl, rfl⟩ fun _ _ _ same => same
theorem State.foldl_modCove (f : Cove → Cove) (l : List Nat) (s : State) :
    (l.foldl (fun s v => s.modCove v f) s).ctxs = s.ctxs ∧ (l.foldl (fun s v => s.modCove v f) s).timers = s.timers :=
  foldl_inv (fun t : State => t.ctxs = s.ctxs ∧ t.timers = s.timers) _ l s ⟨rfl, rfl⟩ fun _ _ _ same => same
theorem contextScrubDone_frees (released : (s.ctx x).state = .released) (settled : s.invals.any (fun i => i.ctx == x) = false) :
    ∃ t, exec (.contextScrubDone x) s = .next t ∧ t.ctxs = s.ctxs.del x ∧ t.timers = s.timers.filter (fun t => t.ctx != x) := by
  have guard : ¬((s.ctx x).state ≠ .released ∨ s.invals.any (fun i => i.ctx == x) = true) := by simp [released, settled]
  refine ⟨_, if_neg guard, ?_, ?_⟩
  · simp only [(State.foldl_modCove _ _ _).1, (State.foldl_scrubCore _ _ _).1]
  · simp only [(State.foldl_modCove _ _ _).2, (State.foldl_scrubCore _ _ _).2]
end

/-! ### Commits of boundaries and regions -/

section
variable {s : State} {c t : Nat} {n0 n1 n2 : BitVec 22}
section
variable (due : s.commitDue c = some (t, n0, n1, n2))
include due
theorem boundaryCommit_refuses : let u := { s with commits := s.commits.filter (fun q => q.1 != c) }
    (u.quiescent t = false ∨ boundsOk n0.toNat n1.toNat n2.toNat = false) →
      exec (.boundaryCommit c) s = .next (u.modCore c (fun k => { k with pbstate := 2 })) := by
  intro u refused
  show execBoundaryCommit c s = _
  unfold execBoundaryCommit
  rw [due]
  exact if_pos (by simpa using refused)
theorem boundaryCommit_starts : let u := { s with commits := s.commits.filter (fun q => q.1 != c) }
    u.quiescent t = true → boundsOk n0.toNat n1.toNat n2.toNat = true →
      exec (.boundaryCommit c) s = .next ((u.modCore c (fun k => { k with pbstate := 1 })).modCore t (fun k =>
        { k with committing := some (c, n0, n1, n2), l1 := [], banks := k.banks.map (fun b => { gen := b.gen }) })) := by
  intro u quiet bounds
  show execBoundaryCommit c s = _
  unfold execBoundaryCommit
  rw [due]
  exact if_neg (by simpa using ⟨quiet, bounds⟩)
end
theorem boundaryCommitDone_stands {f : Nat} (runs : (s.core c).committing = some (f, n0, n1, n2)) :
    exec (.boundaryCommitDone c) s = .next ((((s.zeroChanged c
      ((s.core c).b0.toNat, (s.core c).b1.toNat, (s.core c).b2.toNat) (n0.toNat, n1.toNat, n2.toNat)).modCore c (fun k =>
        { k with committing := none, b0 := n0, b1 := n1, b2 := n2, frames := [] })).modCore f (fun k => { k with pbstate := 3 })).schedule c) := by
  show execBoundaryCommitDone c s = _
  simp [execBoundaryCommitDone, runs]
section
variable (fw : s.isFw c = true) (running : s.phase = .running) (asked : (s.core c).regionState = 1) (idle : s.regionFrom = none)
include fw running asked idle
theorem regionCommit_refuses (refused : s.regionRefused c = true) :
    exec (.regionCommit c) s = .next (s.modCore c (fun k => { k with regionState := 2 })) := by
  show execRegionCommit c s = _
  simp [execRegionCommit, fw, running, asked, idle, refused]
theorem regionCommit_starts (accepted : s.regionRefused c = false) :
    exec (.regionCommit c) s = .next { s.modCore c (fun k => { k with regionState := 1 }) with
      regionFrom := some c, regionNew := (List.range 128).map (fun i => (i, s.shadowAt c i)) } := by
  show execRegionCommit c s = _
  simp [execRegionCommit, fw, running, asked, idle, accepted]
end
theorem regionSwitch_switches {f : Nat} (commit : s.regionFrom = some f) (quiet : s.crossing = false) : exec .regionSwitch s = .next
    { s.modCore f (fun k => { k with regionState := 0 }) with
      regions := s.regionNew, regionFrom := none, regionNew := []
      cores := (s.modCore f (fun k => { k with regionState := 0 })).cores.map (fun p : Nat × Core => (p.1, p.2.moved s.moved))
      msc := s.msc.foldl (fun (m : FMap MscLine) p => m.set (s.moved (256 * p.1) / 256) p.2) [] } := by
  show execRegionSwitch s = _
  simp [execRegionSwitch, commit, quiet]
end

/-! ### The governor -/

section
variable {s : State} {x c : Nat}
theorem quotaExhausted_spends (shares : (s.ctx x).state.shares = true) (fresh : (s.ctx x).spentOut = false)
    (reached : (s.ctx x).quota ≤ (s.ctx x).spent) : exec (.quotaExhausted x) s = .next (s.setCtx x { s.ctx x with
      spentOut := true, state := if (s.ctx x).state = .ready then .quotaHeld else (s.ctx x).state }) :=
  if_neg (by simp [shares, fresh, reached])
theorem enrgDelivery_reaches (given : (s.ctx x).has c = true) (live : (s.ctx x).state ≠ .free) :
    let u := s.modCore c (fun k => { k with enrg := k.enrg.set x ⟨(s.ctx x).spentOut, sat32 ((s.ctx x).quota - (s.ctx x).spent)⟩ })
    exec (.enrgDelivery c x) s =
      .next (if ((s.core c).enrg.getD x {}).spentOut = true ∧ (s.ctx x).spentOut = false then u.schedule c else u) := by
  show execEnrgDelivery c x s = _
  simp [execEnrgDelivery, given, live]
theorem governorPeriod_renews (running : s.phase = .running) (due : s.dtime.toNat / 100000 % 2 ^ 16 ≠ s.period.toNat) :
    ∃ t, exec .governorPeriod s = .next t ∧ t.period = s.period + 1 ∧ t.allowance = s.allowanceFor (Config.baseEnergy s.free) ∧
      (∀ i : Fin 2, (t.dies[i]).next = (let n := nextStep (s.dies[i]).temp s.ttgt (s.dies[i]).step
        if n = (s.dies[i]).step then none else some n)) :=
  ⟨_, if_neg (not_or.2 ⟨not_not.2 running, due⟩), rfl, rfl, fun i => by simp⟩
theorem dvfsStepDone_steps (i : Fin 2) : ∃ t, exec (.dvfsStepDone i.val) s = .next t ∧ (t.dies[i]).next = none ∧
    (t.dies[i]).step = (s.dies[i]).next.getD (s.dies[i]).step := by
  refine ⟨_, rfl, ?_⟩
  cases h : (s.dies[i]).next <;> simp_all
end

/-- Reports leave one message each, and the dies as they are. -/
theorem State.foldl_report {α : Type} (l : List α) (src c x : Nat) (s : State) :
    (l.foldl (fun s _ => s.report src c x) s).net.length = s.net.length + l.length ∧
    (l.foldl (fun s _ => s.report src c x) s).dies = s.dies := by
  induction l generalizing s with
  | nil => exact ⟨rfl, rfl⟩
  | cons y l ih =>
    obtain ⟨count, dies⟩ := ih (s.report src c x)
    have one : (s.report src c x).net.length = s.net.length + 1 := List.length_append
    exact ⟨by rw [List.foldl_cons, count, one, List.length_cons]; omega, dies⟩
theorem thermalSample_reads (s : State) (t0 t1 : List Nat) : ∃ t, exec (.thermalSample t0 t1) s = .next t ∧
    (∀ k : Fin 8, (t.dies[0]).sensors[k] = t0.getD k.val 0 ∧ (t.dies[1]).sensors[k] = t1.getD k.val 0) ∧
    t.net.length = s.net.length + (t0.take 8 ++ t1.take 8).countP (fun x => decide (115 ≤ x)) := by
  refine ⟨_, rfl, fun k => ?_, ?_⟩
  · rw [(State.foldl_report _ _ _ _ _).2]
    simp
  · rw [(State.foldl_report _ _ _ _ _).1, List.countP_eq_length_filter]

/-- Settles O58: each event's clause is its meaning with its guard met. -/
theorem syncContextAndGovernorEventsComplete : Obligations.SyncContextAndGovernorEventsComplete := by
  refine ⟨fun s c j => ⟨fun a b mine its even fresh its_fresh => ?_, fun a mine its fresh word late => ?_,
    fun k l waits life limited uncompleted armed late => ?_⟩, fun s k => ⟨barrierComplete_opens, fun c => rfl⟩,
    fun s u id m taken => ⟨fun c j task ask v t => waiterWoken_answers taken,
      fun x la c j task v body live asks unshut ready servable present => ?_,
      fun x la c j task n body unshut ready servable present => ?_⟩,
    fun s x c => ⟨contextLoadDone_error, contextDrainDone_releases, fun loading checked pages settled u => ?_, contextScrubDone_frees,
      fun t n0 n1 n2 due => ⟨boundaryCommit_refuses due, boundaryCommit_starts due⟩,
      fun fw running asked idle => ⟨regionCommit_refuses fw running asked idle, regionCommit_starts fw running asked idle⟩,
      fun f n0 n1 n2 => boundaryCommitDone_stands, fun f => regionSwitch_switches⟩,
    fun s x c t0 t1 => ⟨quotaExhausted_spends, enrgDelivery_reaches, governorPeriod_renews, dvfsStepDone_steps,
      thermalSample_reads s t0 t1⟩⟩
  · exact ⟨pairCompare_agrees mine its even fresh its_fresh, pairCompare_differs mine its even fresh its_fresh⟩
  · exact pairCompareTimeout_late mine its fresh word late
  · exact barrierTimeout_late waits life limited uncompleted armed late
  · have served : CellServed s u id (m.dst / 8) x la c j := ⟨unshut, ready, servable, present⟩
    exact ⟨waitqAtOwner_links taken body live asks served rfl rfl,
      fun differs t => waitqAtOwner_answers taken body live asks served rfl rfl differs⟩
  · exact wakeAtOwner_wakes taken body ⟨unshut, ready, servable, present⟩
  · exact contextLoadDone_ready loading checked pages settled

end Sys2Proof.Machine
end
section
/-! Absolute values, square roots, permutes, broadcasts, extracts and inserts (R118, R119, R125). -/

namespace Sys2Proof.Machine

variable {s : State} {x z : Vec}

section
variable {t a : BitVec 5} (b d : BitVec 5) (h : expandOps (some t.toNat) none (s.rv a) 0 s = .ok ((x, z), s))
include h

theorem vabs_lanes : exec (.vabs t a d) s = .next ((s.wv d (vecOf t.toNat fun i =>
    wrapInt (readInt (lane t.toNat x i) t.toNat).natAbs (typeBits t.toNat))).advance) :=
  runM_ops1 h _
theorem vfsqrt_lanes : exec (.vfsqrt t a d) s =
    (let r := vecFlags t.toNat fun i => fpSqrt (fmtOf t.toNat) s.rmode (lane t.toNat x i)
    .next (((s.wv d r.1).orFlags r.2).advance)) :=
  runM_ops1 h _
/-- A permute goes on with the lanes of its expanded operand a and of vb. -/
theorem vperm2_lanes (f : (Nat → Nat) → (Nat → Nat) → Nat → Nat → Nat) : runM (vperm2 t b a d f) s =
    .next ((s.wv d (vecOf t.toNat (f (lane t.toNat x) (lane t.toNat (s.rv b)) (lanes t.toNat)))).advance) :=
  runM_ops1 h _
/-- A permute by gb goes on with the lanes of its expanded operand a and gb's value. -/
theorem vpermG_lanes (f : (Nat → Nat) → Nat → Nat → Nat → Nat) : runM (vpermG t b a d f) s =
    .next ((s.wv d (vecOf t.toNat (f (lane t.toNat x) (s.rg b).toNat (lanes t.toNat)))).advance) :=
  runM_ops1 h _
theorem vext_lane : exec (.vext t b a d) s = .next ((s.wg d
    (if t.toNat < 8 then writeInt (lane t.toNat x ((s.rg b).toNat % lanes t.toNat)) t.toNat
      else BitVec.ofNat 64 (lane t.toNat x ((s.rg b).toNat % lanes t.toNat)))).advance) :=
  runM_ops1 h _
end

/-- Settles O26: each permute is `vperm2` or `vpermG` of Table 6.6's choice of a lane; VBCAST and VINS read no operand that
expands. -/
theorem vectorUnaryResults : Obligations.VectorUnaryResults := by
  refine ⟨fun s t b a d x z h => ?_, fun s t b a d => ⟨rfl, rfl⟩⟩
  intro n L B k R
  have perm := vperm2_lanes b d h
  have permG := vpermG_lanes b d h
  exact ⟨vabs_lanes d h, vfsqrt_lanes d h, perm fun p q n i => p (q i % n),
    perm fun p q _ i => if i % 2 = 0 then p (i / 2) else q (i / 2),
    perm fun p q n i => if i % 2 = 0 then p (i / 2 + n / 2) else q (i / 2 + n / 2),
    perm fun p q n i => if 2 * i < n then p (2 * i) else q (2 * i - n),
    perm fun p q n i => if 2 * i + 1 < n then p (2 * i + 1) else q (2 * i + 1 - n),
    permG fun p k _ i => if i ≥ k then p (i - k) else 0,
    permG fun p k n i => if i + k < n then p (i + k) else 0,
    permG fun p k n _ => p (k % n), vext_lane b d h⟩

end Sys2Proof.Machine
end
section
/-! Codebook banks: loads, swaps, invalidation, reads and expansion, as the bank stands (R131, R275 to R288). -/

namespace Sys2Proof.Machine

variable {s s1 : State} {k : BitVec 3}

/-! ### The checks before an instruction's effect (R181, R282) -/

/-- An instruction goes on with what a part of it answers where the state stands. -/
theorem runM_bind_ok {α : Type} {p : M α} {v : α} (h : p s = .ok (v, s)) (f : α → M Unit) : runM (p >>= f) s = runM (f v) s :=
  congrArg (finish s) (M.bind_ok f h)
theorem runM_bind_trap {α : Type} {p : M α} {x : Trap} (h : p s = .error (.trap x)) (f : α → M Unit) :
    runM (p >>= f) s = .next (takeTrap s x) :=
  runM_trap (M.bind_trap f h)
theorem runM_outside_service (slot : s.mySlot ≠ 4) (f : State → M Unit) :
    runM (get >>= fun u => if u.mySlot = 4 then illegal else f u) s = runM (f s) s :=
  (runM_get _).trans (congrArg (fun p : M Unit => runM p s) (if_neg slot))

theorem bankArg_masked (mask : s.myCtx.cbmask.getLsbD k.toNat = true) : bankArg k s = .ok ((), s) := if_pos mask
theorem bankArg_unmasked (unmasked : s.myCtx.cbmask.getLsbD k.toNat = false) : bankArg k s = .error (.trap (illegalTrap s)) :=
  if_neg (Bool.eq_false_iff.mp unmasked)
/-- A bank outside the mask is illegal in the service slot too. -/
theorem runM_unmasked (unmasked : s.myCtx.cbmask.getLsbD k.toNat = false) (f : State → Unit → M Unit) :
    runM (get >>= fun u => if u.mySlot = 4 then illegal else bankArg k >>= f u) s = .next (takeTrap s (illegalTrap s)) := by
  by_cases slot : s.mySlot = 4
  · exact congrArg (fun p : M Unit => runM p s) (if_pos slot)
  · rw [runM_outside_service slot]
    exact runM_bind_trap (bankArg_unmasked unmasked) _
theorem myBank_held (held : s.holdsBank s.myCore k.toNat s.me.ctx.toNat = true) :
    myBank k s = .ok ((s.core s.myCore).bank k.toNat, s) := if_pos held
theorem myBank_not_held (free : ¬ s.holdsBank s.myCore k.toNat s.me.ctx.toNat = true) :
    myBank k s = .error (.trap (cbEmptyTrap k)) := if_neg free
theorem sample_not_holder {n : Nat} (other : ((s.core s.myCore).bank n).holder ≠ some s.me.ctx.toNat) :
    sample n s = .error (.trap ⟨Cause.cbEmpty, BitVec.ofNat 64 n, 0⟩) := if_pos (.inl other)

/-! ### The parts of CBSTAT's answer (R288) -/

/-- The shadow's code in CBSTAT's answer. -/
def Side.statCode (d : Side) : Nat := match d.state with
  | .loading => 1
  | .standby => 2
  | .held _ => 3
  | _ => 0
/-- The live side's fields in CBSTAT's answer, 0 where no side is live. -/
def Bank.statLive (y : Bank) : Nat := match y.live with
  | some l => 2 ^ 3 + (if (y.side l).clean then 2 ^ 4 else 0) + ((y.side l).cnt - 1) * 2 ^ 16 + (y.side l).et * 2 ^ 32 +
      (y.side l).el * 2 ^ 37 + min (y.side l).readers 255 * 2 ^ 40
  | none => 0

section
variable (mask : s.myCtx.cbmask.getLsbD k.toNat = true)
include mask

/-! ### Loads (R283, R284) -/

section
variable {m : BitVec 2} {b a : BitVec 5} {q : CbReq} (d : BitVec 5) (args : loadArgs m k b a s = .ok (q, s))
include args

/-- CBLD after its checks ends as `cbStart` answers: with a status at once, or with one still to come. -/
theorem cbld_started (slot : s.mySlot ≠ 4) {o : Option Word} (start : cbStart q s = .ok (o, s1)) :
    exec (.cbld m k b a d) s = finish s ((match o with
      | some x => retG d x
      | none => replyLater d s.msgSeq) s1) :=
  calc exec (.cbld m k b a d) s
    _ = _ := runM_outside_service slot _
    _ = _ := runM_bind_ok (bankArg_masked mask) _
    _ = _ := runM_bind_ok args _
    _ = _ := congrArg (finish s) (M.bind_ok _ start)

section
variable (rel : release 1 s = .ok ((), s1)) (alone : s1.paired = false)
include rel alone

theorem cblda_draining (draining : s1.myCtx.state = .draining) : exec (.cblda m k b a d) s = .next ((s1.wg d 0).advance) :=
  runM_ok (by
    rw [M.bind_ok _ (bankArg_masked mask), M.bind_ok _ args, M.bind_ok _ rel, M.bind_ok _ (outbound_alone _ _ _ _ alone),
      M.bind_run, obtained_alone _ _ alone, if_pos draining]
    rfl)
theorem cblda_enters (working : s1.myCtx.state ≠ .draining) :
    let e := s1.enqueueEbb (coveOf s1.myCore) { s1.newEbb [] with fetch := some (s1.myCore, q.bank, q.src, q.mode, q.fmt) }
    exec (.cblda m k b a d) s = .next ((e.2.wg d e.1).advance) :=
  runM_ok (by
    rw [M.bind_ok _ (bankArg_masked mask), M.bind_ok _ args, M.bind_ok _ rel, M.bind_ok _ (outbound_alone _ _ _ _ alone),
      M.bind_run, obtained_alone _ _ alone, if_neg working]
    rfl)
end
end

/-! ### Swap and invalidation (R285, R286) -/

section
variable (slot : s.mySlot ≠ 4)
include slot

theorem cbswap_held (d : BitVec 5) (held : s.holdsBank s.myCore k.toNat s.me.ctx.toNat = true) :
    let y := (s.core s.myCore).bank k.toNat
    (y.side y.shadow).state ≠ .loading → exec (.cbswap k d) s =
      .next (((s.modCore s.myCore (fun c => c.setBank k.toNat y.swap)).wg d (y.swap.gen.setWidth 64)).advance) := by
  intro y idle
  calc exec (.cbswap k d) s
    _ = _ := runM_outside_service slot _
    _ = _ := runM_bind_ok (bankArg_masked mask) _
    _ = _ := runM_bind_ok (myBank_held held) _
    _ = _ := congrArg (fun p : M Unit => runM p s) (if_neg idle)
theorem cbinv_held (held : s.holdsBank s.myCore k.toNat s.me.ctx.toNat = true) :
    let y := (s.core s.myCore).bank k.toNat
    (y.side 0).state ≠ .loading → (y.side 1).state ≠ .loading →
      exec (.cbinv k) s = .next ((s.modCore s.myCore (fun c => c.setBank k.toNat y.invalidate)).advance) := by
  intro y idle0 idle1
  calc exec (.cbinv k) s
    _ = _ := runM_outside_service slot _
    _ = _ := runM_bind_ok (bankArg_masked mask) _
    _ = _ := runM_bind_ok (myBank_held held) _
    _ = _ := congrArg (fun p : M Unit => runM p s) (if_neg (not_or.mpr ⟨idle0, idle1⟩))
/-- An instruction that changes a bank traps where the context does not hold it. -/
theorem runM_myBank_not_held (free : ¬ s.holdsBank s.myCore k.toNat s.me.ctx.toNat = true) (f : Bank → M Unit) :
    runM (get >>= fun u => if u.mySlot = 4 then illegal else bankArg k >>= fun _ => myBank k >>= f) s =
      .next (takeTrap s (cbEmptyTrap k)) :=
  calc runM _ s
    _ = _ := runM_outside_service slot _
    _ = _ := runM_bind_ok (bankArg_masked mask) _
    _ = _ := runM_bind_trap (myBank_not_held free) _
end

/-! ### Reads (R287, R288) -/

section
variable {b : BitVec 5} (d : BitVec 5) {x : Side} (side : sample k.toNat s = .ok (x, s))
include side

theorem cbrd_entry (below : (s.rg b).toNat < x.cnt) (sound : s.entryBad s.myCore x (s.rg b).toNat = false) :
    exec (.cbrd k b d) s = .next ((s.wv d (BitVec.ofNat 512 (s.entry s.myCore x (s.rg b).toNat))).advance) :=
  runM_ok (by
    rw [M.bind_ok _ (getG_run b s), M.bind_ok _ (bankArg_masked mask), M.bind_ok _ side, M.bind_ok _ (M.get_run s),
      if_neg (Nat.not_le.mpr below), if_neg (Bool.eq_false_iff.mp sound)]
    rfl)
theorem cbrd_beyond (beyond : x.cnt ≤ (s.rg b).toNat) : exec (.cbrd k b d) s = .next (takeTrap s
    ⟨Cause.cbIndex, BitVec.ofNat 64 ((s.rg b).toNat % 2 ^ 16 + k.toNat * 2 ^ 24 + 2 ^ 28), 0⟩) :=
  runM_trap (by
    rw [M.bind_ok _ (getG_run b s), M.bind_ok _ (bankArg_masked mask), M.bind_ok _ side, M.bind_ok _ (M.get_run s),
      if_pos beyond]
    rfl)
end

theorem cbstat_not_held (d : BitVec 5) (free : s.holdsBank s.myCore k.toNat s.me.ctx.toNat = false) :
    exec (.cbstat k d) s = .next ((s.wg d 0).advance) :=
  runM_ok (by
    rw [M.bind_ok _ (bankArg_masked mask), M.bind_ok _ (M.get_run s), if_pos (by rw [free]; rfl)]
    rfl)
theorem cbstat_held (d : BitVec 5) (held : s.holdsBank s.myCore k.toNat s.me.ctx.toNat = true) :
    let y := (s.core s.myCore).bank k.toNat
    let sh := y.side y.shadow
    exec (.cbstat k d) s = .next ((s.wg d (BitVec.ofNat 64 (sh.statCode + (if sh.clean then 2 ^ 5 else 0) + y.gen.toNat * 2 ^ 8 +
      y.statLive + min sh.readers 255 * 2 ^ 48 + 2 ^ 56))).advance) :=
  runM_ok (by
    rw [M.bind_ok _ (bankArg_masked mask), M.bind_ok _ (M.get_run s), if_neg (by rw [held]; decide), retG_run]
    simp only [Side.statCode, Bank.statLive]
    generalize (s.core s.myCore).bank k.toNat = y
    cases (y.side y.shadow).state <;> rfl)
end

/-! ### Expansion (R131) -/

theorem cbx_expands {g : BitVec 4} {t n a : BitVec 5} (d : BitVec 5) {x : Side} {v : Vec} (side : sample n.toNat s = .ok (x, s))
    (fits : segmentOk x (typeBits t.toNat) g.toNat = true)
    (expands : expand (s.rv a) (typeBits t.toNat) n.toNat g.toNat 0 x s = .ok (v, s)) :
    exec (.cbx g t n a d) s = .next ((s.wv d v).advance) :=
  runM_ok (by
    rw [M.bind_ok _ side, if_neg (by rw [fits]; decide), M.bind_ok _ expands]
    rfl)

/-- Settles O48: each instruction goes on past its checks to its one effect, as the bank's mask, holder and sides allow. -/
theorem bankInstructionResults : Obligations.BankInstructionResults := by
  intro s s1 m k g t b a d _ y Held Illegal Put
  refine ⟨fun mask => ⟨fun q args => ⟨fun slot => ⟨fun begun => ?_, fun x refused => ?_⟩, fun rel alone => ?_⟩, ?_, ?_, ?_, ?_, ?_⟩,
    fun unmasked => ?_, fun n x v => cbx_expands d, fun n other => ?_⟩
  · exact cbld_started mask d args slot begun
  · exact cbld_started mask d args slot refused
  · exact ⟨cblda_draining mask d args rel alone, cblda_enters mask d args rel alone⟩
  · exact fun slot held => ⟨cbswap_held mask slot d held, cbinv_held mask slot held⟩
  · exact fun slot free => ⟨runM_myBank_not_held mask slot free _, runM_myBank_not_held mask slot free _⟩
  · exact fun x side => ⟨cbrd_entry mask d side, cbrd_beyond mask d side⟩
  · exact fun free => cbstat_not_held mask d (Bool.eq_false_iff.mpr free)
  · exact cbstat_held mask d
  · have outside := bankArg_unmasked unmasked
    exact ⟨((runM_bind_ok (getG_run b s) _).trans (runM_bind_trap outside _)).symm, (runM_bind_trap outside _).symm,
      (runM_bind_trap outside _).symm, (runM_unmasked unmasked _).symm, (runM_unmasked unmasked _).symm, (runM_unmasked unmasked _).symm⟩
  · exact runM_bind_trap (sample_not_holder other) _

end Sys2Proof.Machine
end
section
/-! Atomics at the slot that sends them (R151 to R155, R315): what leaves once the address is checked and the comparison of a
pair lets the slot go on. -/

namespace Sys2Proof.Machine

/-- The atomic that the issuing slot sends to place `p`; with `d = 0` it is posted (R155). -/
def atomicFrom (s : State) (d : BitVec 5) (op width : Nat) (p : AtomicAt) (y z : Word) (v : Vec) : Atomic :=
  { op := op, width := width, ctx := s.me.ctx.toNat, la := p.la, glob := p.glob, operand := y, compare := z, vec := v
    near := p.near, core := s.myCore, slot := s.mySlot, task := s.me.taskid, posted := d == 0 }
/-- An atomic is on its way to its owner where this core performs it (`go`, R315), and the bundle is complete; unless it is
posted, the slot waits for the reply that writes `d` (R155). -/
def atomicLeaves (s : State) (go : Bool) (d : BitVec 5) (p : AtomicAt) (x : Atomic) : Out :=
  let t := if go then s.post (Agent.slot s.myCore s.mySlot) p.agent (.atomic x) else s
  if d = 0 then .next t.advance
  else .next ((t.advance).modMe (fun u => { u with reply := some (d, s.msgSeq), life := .stalled .reply }))

theorem postRoom_run {s : State} (room : s.postedBy s.myCore s.mySlot < 16) : postRoom s = .ok ((), s) :=
  if_neg (Nat.not_le.mpr room)

section
variable {s s1 : State} {go : Bool} {d : BitVec 5} (pass : Passes s1 go) (room : d = 0 → s1.postedBy s1.myCore s1.mySlot < 16)
include pass room

/-- A meaning that comes to send its atomic lets it leave. -/
theorem runM_sendAtomic {x : M Unit} {op width : Nat} {p : AtomicAt} {addr y z : Word} {v : Vec}
    (sends : x s = sendAtomic op width p addr y z v d s1) :
    runM x s = atomicLeaves s1 go d p (atomicFrom s1 d op width p y z v) := by
  rw [runM, sends, sendAtomic, M.bind_ok _ (pass _ _ _)]
  by_cases posted : d = 0
  · simp only [atomicLeaves, if_pos posted]
    rw [M.bind_ok _ (postRoom_run (room posted)), M.bind_ok _ (M.get_run s1)]
    cases go <;> rfl
  · simp only [atomicLeaves, if_neg posted]
    cases go <;> rfl

variable {m w : BitVec 2} {b a : BitVec 5} {p : AtomicAt}
theorem amoValue_leaves (op : Nat) :
    let n : Nat := if w = 2 then 4 else 8
    atomicAddr m (s.rg a) n n s = .ok (p, s1) →
      runM (amoValue op m w b a d) s = atomicLeaves s1 go d p (atomicFrom s1 d op n p (s.rg b) (s.rg d) 0) := fun check =>
  runM_sendAtomic pass room ((M.bind_ok _ (getG_run a s)).trans ((M.bind_ok _ (getG_run b s)).trans
    ((M.bind_ok _ (getG_run d s)).trans (M.bind_ok _ check))))
theorem amoXadd_leaves (check : atomicAddr m (s.rg a) 64 64 s = .ok (p, s1)) : exec (.amoXadd m w b a d) s =
    atomicLeaves s1 go d p (atomicFrom s1 d 0x0D (xaddType w) p (s.rg b) 0 0) :=
  runM_sendAtomic pass room ((M.bind_ok _ (getG_run a s)).trans ((M.bind_ok _ (getG_run b s)).trans (M.bind_ok _ check)))
theorem amoXaddv_leaves (check : atomicAddr 0 (s.rg a) (64 * lanes (xaddType w)) 64 s = .ok (p, s1)) :
    exec (.amoXaddv w b a d) s = atomicLeaves s1 go d p (atomicFrom s1 d 0x0E (xaddType w) p 0 0 (s.rv b)) :=
  runM_sendAtomic pass room ((M.bind_ok _ (getG_run a s)).trans ((M.bind_ok _ (M.get_run s)).trans (M.bind_ok _ check)))
end

/-! ### Deposits and flag reads, whose address names a core and no byte of it (R151, R153, R154) -/

section
variable {s : State} {go : Bool} {d : BitVec 5} (pass : Passes s go) (room : d = 0 → s.postedBy s.myCore s.mySlot < 16)
  {m : BitVec 2} {b a : BitVec 5}
include pass room

theorem amoDep_leaves (low : (s.rg a).toNat < 2 ^ 57) (has : s.myCtx.has (bits (s.rg a).toNat 48 9) = true)
    (reserved : bits (s.rg a).toNat 7 41 = 0) (aligned : bits (s.rg a).toNat 2 2 = 0) (slot : bits (s.rg a).toNat 4 3 ≤ 4) :
    let p : AtomicAt := ⟨Agent.owner (bits (s.rg a).toNat 48 9), (s.rg a).toNat % 128, false, false⟩
    exec (.amoDep b a d) s = atomicLeaves s go d p (atomicFrom s d 0x0F 8 p (s.rg b) 0 0) :=
  runM_sendAtomic pass room ((M.bind_ok _ (getG_run a s)).trans ((M.bind_ok _ (getG_run b s)).trans
    ((M.bind_ok _ (M.get_run s)).trans (congrFun (if_neg (by simp [-Nat.reducePow, low, has, reserved, aligned, slot])) s))))
theorem amoFlags_owner_leaves (low : (s.rg a).toNat < 2 ^ 57) (has : s.myCtx.has (bits (s.rg a).toNat 48 9) = true)
    (core : (s.rg a).toNat % 2 ^ 48 = 0) :
    let p : AtomicAt := ⟨Agent.owner (bits (s.rg a).toNat 48 9), 0, false, false⟩
    exec (.amoFlags 0 a d) s = atomicLeaves s go d p (atomicFrom s d 0x10 8 p 0 0 0) :=
  runM_sendAtomic pass room ((M.bind_ok _ (getG_run a s)).trans ((M.bind_ok _ (M.get_run s)).trans
    ((congrFun (if_pos rfl) s).trans (congrFun (if_neg (by simp [-Nat.reducePow, low, core, has])) s))))
theorem amoFlags_cove_leaves (mode : m ≠ 0) (low : (s.rg a).toNat < 2 ^ 10) (core : (s.rg a).toNat % 2 ^ 7 = 0)
    (has : s.myCtx.has (coreAt (coveOf s.myCore) (bits (s.rg a).toNat 7 3)) = true) :
    let p : AtomicAt := ⟨Agent.owner (coreAt (coveOf s.myCore) (bits (s.rg a).toNat 7 3)), 0, false, false⟩
    exec (.amoFlags m a d) s = atomicLeaves s go d p (atomicFrom s d 0x10 8 p 0 0 0) :=
  runM_sendAtomic pass room ((M.bind_ok _ (getG_run a s)).trans ((M.bind_ok _ (M.get_run s)).trans
    ((congrFun (if_neg mode) s).trans (congrFun (if_neg (by simp [-Nat.reducePow, low, core, has])) s))))
end

/-- Settles O37: past its checks, every instruction of the group comes to the one sending of its atomic (`runM_sendAtomic`). -/
theorem atomicsLeave : Obligations.AtomicsLeave := by
  intro s s1 m w b a d p go pass room x R
  refine ⟨?_, amoXadd_leaves pass room, amoXaddv_leaves pass room, ?_⟩
  · intro n check
    have value op := amoValue_leaves pass room (b := b) op check
    exact ⟨value 0x00, value 0x01, value 0x02, value 0x03, value 0x04, value 0x05, value 0x06, value 0x07, value 0x08,
      value 0x09, value 0x0A, value 0x0B, value 0x0C⟩
  · rintro rfl c
    exact ⟨amoDep_leaves pass room, amoFlags_owner_leaves pass room, amoFlags_cove_leaves pass room⟩

end Sys2Proof.Machine
end
section
/-! What the operations on local pages and on translations leave: memory, slots, banks and the boundary of the codebook region. -/

namespace Sys2Proof.Machine

/-! ### Page operations on a core (R344 to R346) -/

/-- A core's slots and banks stand as they were. -/
structure Core.SameData (k q : Core) : Prop where
  slots : q.slots = k.slots
  banks : q.banks = k.banks
theorem Core.SameData.refl (k : Core) : k.SameData k := ⟨rfl, rfl⟩
theorem Core.SameData.trans {k q r : Core} (h : k.SameData q) (g : q.SameData r) : k.SameData r :=
  ⟨g.slots.trans h.slots, g.banks.trans h.banks⟩
theorem Core.SameData.frames (k : Core) (l : FMap Frame) : k.SameData { k with frames := l } := ⟨rfl, rfl⟩

theorem Core.sameData_obtain {k q : Core} {r : PageAsk} (h : k.obtain r = some q) : k.SameData q := by
  unfold Core.obtain at h
  split at h
  · cases h
    exact .frames k _
  · obtain ⟨x, _, rfl⟩ := Option.map_eq_some_iff.mp h
    exact .frames k _
theorem Core.sameData_retryList (l : List PageAsk) (k : Core) : k.SameData (Core.retryList l k) := by
  induction l generalizing k with
  | nil => exact ⟨rfl, rfl⟩
  | cons r l ih =>
    unfold Core.retryList
    split
    · exact ih k
    · split
      · next q found => exact (sameData_obtain found).trans (ih q)
      · exact ⟨rfl, rfl⟩
theorem Core.sameData_retryFills (k : Core) : k.SameData k.retryFills := sameData_retryList k.fills k
theorem Core.sameData_entered (k : Core) (x p who : Nat) : k.SameData (k.entered x p who) := by
  unfold Core.entered
  split
  · obtain ⟨slots, banks⟩ := sameData_retryFills { k with waits := k.waits.filter (· != (x, p, who)) }
    exact ⟨slots, banks⟩
  · exact .refl k
theorem Core.sameData_leave (k : Core) (who : Nat) : k.SameData (k.leave who) := by
  unfold Core.leave
  split
  · obtain ⟨slots, banks⟩ := sameData_retryFills { k with waits := k.waits.filter (fun w => w.2.2 != who) }
    exact ⟨slots, banks⟩
  · exact .refl k
theorem Core.sameData_touch (k : Core) (f : Nat) (store : Bool) : k.SameData (k.touch f store) := by
  unfold Core.touch
  split
  · exact ⟨rfl, rfl⟩
  · exact .refl k
theorem Core.sameData_pinPage (k : Core) (x p : Nat) : k.SameData (k.pinPage x p) := by
  unfold Core.pinPage Core.pin
  split
  · split
    · exact .frames k _
    · exact .refl k
  · exact .refl k
theorem Core.sameData_unpinPage (k : Core) (x p : Nat) : k.SameData (k.unpinPage x p) := by
  unfold Core.unpinPage Core.unpin
  split
  · split
    · exact .frames k _
    · exact .refl k
  · exact .refl k

/-- The issuing slot stands where an update of a core keeps its slots. -/
theorem State.me_modCore {s : State} {c : Nat} {f : Core → Core} (keeps : (f (s.core c)).slots = (s.core c).slots) :
    (s.modCore c f).me = s.me := by
  by_cases own : s.cur.core.val = c
  · subst own
    simp only [State.me]
    simp [keeps, State.core_modCore_self]
  · simp [State.me, State.core_modCore_ne _ _ _ _ own]

/-! ### Page operations on the state -/

/-- The memory and the data of every core stand as they were. -/
structure State.SameData (s t : State) : Prop where
  mem : t.mem = s.mem
  core : ∀ c, (s.core c).SameData (t.core c)
theorem State.SameData.refl (s : State) : s.SameData s := ⟨rfl, fun _ => .refl _⟩
theorem State.SameData.trans {s t u : State} (h : s.SameData t) (g : t.SameData u) : s.SameData u :=
  ⟨g.mem.trans h.mem, fun c => (h.core c).trans (g.core c)⟩
theorem State.sameData_modCore (s : State) (c : Nat) {f : Core → Core} (keeps : (s.core c).SameData (f (s.core c))) :
    s.SameData (s.modCore c f) := by
  refine ⟨rfl, fun d => ?_⟩
  by_cases same : d = c
  · subst same
    rwa [State.core_modCore_self]
  · rw [State.core_modCore_ne _ _ _ _ same]
    exact .refl _
theorem State.sameData_foldl {α : Type} (f : State → α → State) (l : List α) (s : State) (keeps : ∀ s a, State.SameData s (f s a)) :
    s.SameData (l.foldl f s) :=
  foldl_inv (s.SameData ·) f l s (.refl s) fun t a _ h => h.trans (keeps t a)
theorem State.sameData_modEbbJob (s : State) (v id : Nat) (f : EbbJob → EbbJob) : s.SameData (s.modEbbJob v id f) :=
  ⟨rfl, fun _ => .refl _⟩
theorem State.sameData_meter (s : State) (x n : Nat) : s.SameData (s.meter x n) := ⟨rfl, fun _ => .refl _⟩
theorem State.sameData_leaveAll (s : State) (who : Nat) : s.SameData (s.leaveAll who) :=
  sameData_foldl _ _ s fun s k => s.sameData_modCore k.1 (Core.sameData_leave _ who)
theorem State.sameData_touchPage (s : State) (c x p : Nat) (store : Bool) : s.SameData (s.touchPage c x p store) :=
  s.sameData_modCore c (by
    split
    · exact Core.sameData_touch _ _ store
    · exact .refl _)
theorem State.sameData_pinNew (s : State) (x : Nat) (old l : List (Nat × Nat)) : s.SameData (s.pinNew x old l).1 :=
  sameData_foldl _ _ s fun s p => s.sameData_modCore p.1 (Core.sameData_pinPage _ x p.2)
theorem State.sameData_unpinAll (s : State) (x : Nat) (l : List (Nat × Nat)) : s.SameData (s.unpinAll x l) :=
  sameData_foldl _ _ s fun s p => s.sameData_modCore p.1 ((Core.sameData_unpinPage _ x p.2).trans (Core.sameData_retryList _ _))

/-! ### Walks (R340, R341) -/

/-- The memory, and the frames of every core, stand as they were. -/
structure State.SameFrames (s t : State) : Prop where
  mem : t.mem = s.mem
  frames : ∀ c, (t.core c).frames = (s.core c).frames
  b1 : ∀ c, (t.core c).b1 = (s.core c).b1
theorem State.SameFrames.refl (s : State) : s.SameFrames s := ⟨rfl, fun _ => rfl, fun _ => rfl⟩
theorem State.SameFrames.trans {s t u : State} (h : s.SameFrames t) (g : t.SameFrames u) : s.SameFrames u :=
  ⟨g.mem.trans h.mem, fun c => (g.frames c).trans (h.frames c), fun c => (g.b1 c).trans (h.b1 c)⟩
theorem State.sameFrames_modTlb (s : State) (c : Nat) (f : List TlbEntry → List TlbEntry) :
    s.SameFrames (s.modCore c (fun k => { k with tlb := f k.tlb })) := by
  refine ⟨rfl, fun d => ?_, fun d => ?_⟩ <;>
  · by_cases same : d = c
    · rw [same, State.core_modCore_self]
    · rw [State.core_modCore_ne _ _ _ _ same]
theorem State.sameFrames_dropCore (s : State) (v : Nat) (t : TlbEntry) : s.SameFrames (s.dropCore v t) :=
  foldl_inv (s.SameFrames ·) _ _ s (.refl s) fun u _ _ h => h.trans (u.sameFrames_modTlb _ (fun m => m.filter (· != t)))
theorem State.sameFrames_fillTlb (s : State) (v : Nat) (t : TlbEntry) : s.SameFrames (s.fillTlb v t []) := by
  unfold State.fillTlb
  generalize tlbPut (s.cove v).tlb coveTlbSize (Config.freeNat s.free) t = put
  obtain ⟨l, _ | x⟩ := put
  · exact ⟨rfl, fun _ => rfl, fun _ => rfl⟩
  · obtain ⟨mem, frames, b1⟩ := State.sameFrames_dropCore
      ({ s with free := s.free + 1 }.modCove v (fun k => { k with tlb := l })) v x
    exact ⟨mem, frames, b1⟩
theorem State.sameFrames_fillWalks (v : Nat) (all l : List TlbEntry) (s : State) (room : (s.fillWalks v all l).2 = true) :
    s.SameFrames (s.fillWalks v all l).1 := by
  induction l generalizing s with
  | nil => exact .refl s
  | cons t l ih =>
    rw [State.fillWalks] at room ⊢
    cases full : s.makeRoom v t all with
    | some u => simp [full] at room
    | none =>
      simp only [full] at room ⊢
      refine .trans ?_ (ih _ room)
      split
      · exact s.sameFrames_fillTlb v t
      · exact .refl s

end Sys2Proof.Machine
end
section
/-! Tasks that are created, moved and joined outside a paired context, gangs and PAIRCHK (R191 to R197, R308, R312, R318). -/

namespace Sys2Proof.Machine

variable {s s1 : State} {b a d : BitVec 5}

/-! ### The checks before an instruction's effect (R191), and answers that are awaited -/

theorem M.bind_wait {α β : Type} {x : M α} (g : α → M β) {t : State} {w : Wait} (h : x s = .error (.wait w t)) :
    (x >>= g) s = .error (.wait w t) := by
  rw [M.bind_run, h]
theorem handlerArg_run {x h : Nat} (below : h < (s.ctx x).handlers.length) : handlerArg x h s = .ok ((), s) :=
  if_neg (Nat.not_le.mpr below)
theorem prioArg_run {x p : Nat} (least : (s.ctx x).pmin ≤ p) (most : p ≤ (s.ctx x).pmax) : prioArg x p s = .ok ((), s) :=
  if_neg (by omega)
theorem askFor_answered (w : Wait) (send : State → State) {v : Word} (got : s.me.got = some v) : askFor w send s = .ok (v, s) := by
  simp only [askFor, got]
theorem askFor_asks (w : Wait) (send : State → State) (ungot : s.me.got = none) (unasked : s.me.ask = none) :
    askFor w send s = .error (.wait w ((send s).modMe (fun t => { t with ask := some s.msgSeq }))) := by
  simp only [askFor, ungot, unasked]

/-! ### Spawns (R192) -/

/-- A new identifier leaves the issuing slot (R178), and so does the access to a counter (R136). -/
@[simp] theorem State.me_nextTaskId (s : State) (c : Nat) : (s.nextTaskId c).2.me = s.me := State.me_modCore rfl
theorem counterAt_me {c la pa : Nat} (at_ : counterAt c la s = .ok (pa, s1)) : s1.me = s.me := by
  unfold counterAt at at_
  rw [M.bind_run] at at_
  unfold afterAtomics at at_
  split at at_
  next x t passed =>
    split at passed
    · cases passed
    · cases passed
      dsimp only at at_
      split at at_
      · split at at_
        · cases at_
          exact State.me_modCore ((Core.sameData_touch _ _ _).trans (Core.sameData_entered _ _ _ _)).slots
        · cases at_
      · cases at_
      · cases at_
  next => cases at_

/-- The stored address of the counter that a spawn's join argument names; `none` where it names none. -/
def joinPlace (j : Word) : M (Option Nat) :=
  if j = 0 then pure none
  else do
    let (c, la) ← counterArg j true
    let a ← counterAt c la
    pure (some a)
/-- The counter at a place, where there is one, counts one more. -/
def State.countUp (s : State) (place : Option Nat) : State := place.elim s (fun a => s.addCounter a 1)
theorem joinPlace_run {y : Word} {c la pa : Nat} (named : y = 0 ∧ s1 = s ∨
      y ≠ 0 ∧ counterArg y true s = .ok ((c, la), s) ∧ counterAt c la s = .ok (pa, s1)) :
    joinPlace y s = .ok (if y = 0 then none else some pa, s1) := by
  obtain ⟨rfl, rfl⟩ | ⟨some, arg, place⟩ := named
  · rfl
  · rw [joinPlace, if_neg some, if_neg some]
    exact (M.bind_ok _ arg).trans (M.bind_ok _ place)
theorem State.countUp_named (s : State) (y : Word) (pa : Nat) :
    s.countUp (if y = 0 then none else some pa) = if y = 0 then s else s.addCounter pa 1 := by
  split <;> rfl
@[simp] theorem State.me_countUp (s : State) (place : Option Nat) : (s.countUp place).me = s.me := by cases place <;> rfl
@[simp] theorem State.net_countUp (s : State) (place : Option Nat) : (s.countUp place).net = s.net := by cases place <;> rfl
@[simp] theorem State.msgSeq_countUp (s : State) (place : Option Nat) : (s.countUp place).msgSeq = s.msgSeq := by cases place <;> rfl

theorem counterNamed_me {y : Word} {c la pa : Nat} (named : y = 0 ∧ s1 = s ∨
    y ≠ 0 ∧ counterArg y true s = .ok ((c, la), s) ∧ counterAt c la s = .ok (pa, s1)) : s1.me = s.me := by
  obtain ⟨-, rfl⟩ | ⟨-, -, place⟩ := named
  · rfl
  · exact counterAt_me place

/-- The handler and the priority of a spawn are in range (R191). -/
structure SpawnFits (s : State) (h p : Nat) : Prop where
  handler : h < s.myCtx.handlers.length
  least : s.myCtx.pmin ≤ p
  most : p ≤ s.myCtx.pmax

/-- A spawn onto the own core's deque, of the identifier `id`: it writes `id` where the deque takes its entry, and else 0, the
counter as it was. -/
theorem spawnHere_run {place : Option Nat} {j : Word} {id : BitVec 32} {t up u : State} {ok : Bool} {h p : Nat} (d : BitVec 5)
    (counter : joinPlace j s = .ok (place, s1)) (alone : s1.paired = false) (new : s1.nextTaskId s1.myCore = (id, t))
    (counted : t.countUp place = up) (pushed : up.pushDeque up.myCore (up.spawnStart h p j id) = (u, ok)) :
    spawnHere h p j d s = .ok ((), ((if ok then u else t).wg d (if ok then id.setWidth 64 else 0)).advance) := by
  -- the push stands for itself, so that the kernel does not unfold its comparison with the deque's room
  obtain ⟨push, e⟩ : ∃ f, f = State.pushDeque := ⟨_, rfl⟩
  rw [← e] at pushed
  unfold spawnHere
  rw [← e]
  refine (M.bind_ok _ counter).trans ?_
  rw [M.bind_ok _ (M.get_run s1), M.bind_ok _ (outbound_alone _ _ _ _ alone), M.bind_run,
    obtained_alone _ _ alone, M.bind_ok _ (M.get_run s1), new]
  subst counted
  cases place with
  | none =>
    change push t t.myCore (t.spawnStart h p j id) = _ at pushed
    simp only [pushed]
    rfl
  | some n =>
    change push (t.addCounter n 1) t.myCore (t.spawnStart h p j id) = _ at pushed
    simp only [pushed]
    rfl

/-- The state once a spawn has left for core `o`, its counter counted up. -/
def State.sendSpawn (s : State) (place : Option Nat) (o h : Nat) (p : BitVec 6) (j : Word) : State :=
  let u := (s.nextTaskId s.myCore).2.countUp place
  u.post (Agent.slot u.myCore u.mySlot) (Agent.owner o)
    (.spawnr (u.spawnStart h (u.spawnPrio p) j (s.nextTaskId s.myCore).1) u.myCore u.mySlot u.me.taskid)
theorem State.sendSpawn_net (s : State) (place : Option Nat) (o h : Nat) (p : BitVec 6) (j : Word) : ∃ m st,
    (s.sendSpawn place o h p j).net = s.net ++ [m] ∧ m.id = s.msgSeq ∧ m.dst = Agent.owner o ∧
    m.body = .spawnr st s.myCore s.mySlot s.me.taskid ∧ st.handler = h ∧ st.prio = s.spawnPrio p ∧
    st.args = #v[s.rg 1, s.rg 2, s.rg 3, s.rg 4] ∧ st.id = (s.nextTaskId s.myCore).1 ∧ st.join = j := by
  have me : ((s.nextTaskId s.myCore).2.countUp place).me = s.me := by rw [State.me_countUp, State.me_nextTaskId]
  let u := (s.nextTaskId s.myCore).2.countUp place
  refine ⟨_, u.spawnStart h (u.spawnPrio p) j (s.nextTaskId s.myCore).1, congrArg (· ++ _) (State.net_countUp _ place),
    State.msgSeq_countUp _ place, rfl, ?_, rfl, ?_, ?_, rfl, rfl⟩
  · rw [me]
    cases place <;> rfl
  · simp only [u, State.spawnStart, State.spawnPrio, me]
  · simp only [u, State.spawnStart, me]
    rfl

theorem State.sendSpawn_mem (s : State) (place : Option Nat) (o h : Nat) (p : BitVec 6) (j : Word) :
    (s.sendSpawn place o h p j).mem = (s.countUp place).mem := by
  cases place <;> rfl

section
variable {p : BitVec 6} {y : Word} {h c o la pa : Nat} (handler : (s.rg a).toNat % 2 ^ 16 = h) (join : s.rg b = y)
  (fits : SpawnFits s h (s.spawnPrio p))
include handler join fits

theorem spawn_checked : exec (.spawn p b a d) s = runM (spawnHere h (s.spawnPrio p) y d) s := by
  subst handler join
  obtain ⟨below, least, most⟩ := fits
  calc exec (.spawn p b a d) s
    _ = _ := runM_bind_ok (getG_run a s) _
    _ = _ := runM_bind_ok (getG_run b s) _
    _ = _ := runM_get _
    _ = _ := runM_bind_ok (handlerArg_run below) _
    _ = _ := runM_bind_ok (prioArg_run least most) _

section
variable (named : y = 0 ∧ s1 = s ∨ y ≠ 0 ∧ counterArg y true s = .ok ((c, la), s) ∧ counterAt c la s = .ok (pa, s1))
  (alone : s1.paired = false)
include named alone
theorem spawn_results {id : BitVec 32} {s3 up u : State} {ok : Bool} (new : s1.nextTaskId s1.myCore = (id, s3))
    (counted : (if y = 0 then s3 else s3.addCounter pa 1) = up)
    (pushed : up.pushDeque up.myCore (up.spawnStart h (s.spawnPrio p) y id) = (u, ok)) :
    exec (.spawn p b a d) s = .next ((if ok then u else s3).wg d (if ok then id.setWidth 64 else 0)).advance :=
  (spawn_checked handler join fits).trans
    (runM_ok (spawnHere_run d (joinPlace_run named) alone new ((s3.countUp_named y pa).trans counted) pushed))
end

section
variable (slot : s.mySlot ≠ 4) (target : targetCore (s.rg a) s.me.ctx.toNat s = .ok (o, s))
include slot target
theorem spawnr_own (own : s.sameCore o s.myCore = true) : exec (.spawnr p b a d) s = exec (.spawn p b a d) s := by
  rw [spawn_checked handler join fits]
  subst handler join
  obtain ⟨below, least, most⟩ := fits
  calc exec (.spawnr p b a d) s
    _ = _ := runM_bind_ok (getG_run a s) _
    _ = _ := runM_bind_ok (getG_run b s) _
    _ = _ := runM_outside_service slot _
    _ = _ := runM_bind_ok (handlerArg_run below) _
    _ = _ := runM_bind_ok (prioArg_run least most) _
    _ = _ := runM_bind_ok target _
    _ = _ := congrArg (fun x : M Unit => runM x s) (if_pos own)

section
variable (away : s.sameCore o s.myCore = false)
  (named : y = 0 ∧ s1 = s ∨ y ≠ 0 ∧ counterArg y true s = .ok ((c, la), s) ∧ counterAt c la s = .ok (pa, s1))
  (alone : s1.paired = false)
include away named alone
/-- A spawn onto another core awaits its reply once its counter's page is there. -/
theorem spawnr_away : exec (.spawnr p b a d) s = finish s ((askFor .reply (fun u =>
    u.sendSpawn (if y = 0 then none else some pa) o h p y) >>= retG d) s1) := by
  have counter := joinPlace_run named
  subst handler join
  obtain ⟨below, least, most⟩ := fits
  calc exec (.spawnr p b a d) s
    _ = _ := runM_bind_ok (getG_run a s) _
    _ = _ := runM_bind_ok (getG_run b s) _
    _ = _ := runM_outside_service slot _
    _ = _ := runM_bind_ok (handlerArg_run below) _
    _ = _ := runM_bind_ok (prioArg_run least most) _
    _ = _ := runM_bind_ok target _
    _ = _ := congrArg (fun x : M Unit => runM x s) (if_neg (Bool.eq_false_iff.mp away))
    _ = _ := congrArg (finish s) ((M.bind_ok _ counter).trans (M.bind_ok _ (outbound_alone _ _ _ _ alone)))
    _ = _ := by
      generalize (if s.rg b = 0 then none else some pa) = place
      cases place <;> rfl
theorem spawnr_answered {v : Word} (got : s1.me.got = some v) : exec (.spawnr p b a d) s = .next ((s1.wg d v).advance) := by
  rw [spawnr_away handler join fits slot target away named alone, M.bind_ok _ (askFor_answered _ _ got)]
  rfl
theorem spawnr_asks (ungot : s1.me.got = none) (unasked : s1.me.ask = none) : ∃ t m st, exec (.spawnr p b a d) s = .next t ∧
    t.me.life = .stalled .reply ∧ t.me.ask = some m.id ∧ t.mem = (if y = 0 then s1 else s1.addCounter pa 1).mem ∧
    t.net = s1.net ++ [m] ∧ m.dst = Agent.owner o ∧ m.body = .spawnr st s1.myCore s1.mySlot s1.me.taskid ∧ st.handler = h ∧
    st.prio = s.spawnPrio p ∧ st.args = #v[s1.rg 1, s1.rg 2, s1.rg 3, s1.rg 4] ∧ st.id = (s1.nextTaskId s1.myCore).1 ∧
    st.join = y := by
  rw [spawnr_away handler join fits slot target away named alone, M.bind_wait _ (askFor_asks _ _ ungot unasked), finish_wait]
  obtain ⟨m, st, net, num, dst, body, sent, prio, args, id, counted⟩ :=
    s1.sendSpawn_net (if y = 0 then none else some pa) o h p y
  refine ⟨_, m, st, rfl, ?_, ?_, ?_, net, dst, body, sent, prio.trans ?_, args, id, counted⟩
  · rw [stall, State.me_modMe]
  · rw [stall, State.me_modMe, State.me_modMe, num]
  · exact (s1.sendSpawn_mem _ o h p y).trans (congrArg State.mem (s1.countUp_named y pa))
  · rw [State.spawnPrio, State.spawnPrio, counterNamed_me named]
end
end
end

/-! ### Messages (R193) -/

section
variable {x y : Word} {c : Nat} (addr : s.rg a = x) (what : s.rg b = y) (alone : s.paired = false)
  (below : y.toNat % 2 ^ 16 < s.myCtx.handlers.length) (target : targetCore x s.me.ctx.toNat s = .ok (c, s))

/-- The state once the message of an AMSG has left for core `c`. -/
def State.sendAmsg (s : State) (c h : Nat) (x : Word) (awaited : Bool) : State :=
  s.post (Agent.slot s.myCore s.mySlot) (Agent.owner c) (.amsg {
    handler := h, ctx := s.me.ctx.toNat, prio := s.me.prio.toNat, limit := 256, id := 0
    args := #v[s.rg 1, s.rg 2, s.rg 3, s.rg 4], g5 := BitVec.ofNat 64 (x.toNat % 2 ^ 48), tsinh := s.me.tsinh }
    s.myCore s.mySlot s.me.taskid awaited)
include addr what alone below target
theorem amsg_posts (room : s.postedBy s.myCore s.mySlot < 16) :
    exec (.amsg b a 0) s = .next (s.sendAmsg c (y.toNat % 2 ^ 16) x false).advance := by
  subst addr what
  calc exec (.amsg b a 0) s
    _ = _ := runM_bind_ok (getG_run a s) _
    _ = _ := runM_bind_ok (getG_run b s) _
    _ = _ := runM_get _
    _ = _ := congrArg (fun x : M Unit => runM x s) (if_neg fun h => h.2 rfl)
    _ = _ := runM_bind_ok (handlerArg_run below) _
    _ = _ := runM_bind_ok target _
    _ = _ := runM_bind_ok (outbound_alone _ _ _ _ alone) _
    _ = _ := runM_bind_ok (postRoom_run room) _
section
variable (dest : d ≠ 0) (slot : s.mySlot ≠ 4)
include dest slot
/-- An AMSG with a register for its result awaits it. -/
theorem amsg_awaits : exec (.amsg b a d) s =
    runM (askFor .reply (fun u => u.sendAmsg c (y.toNat % 2 ^ 16) x (d != 0)) >>= retG d) s := by
  subst addr what
  calc exec (.amsg b a d) s
    _ = _ := runM_bind_ok (getG_run a s) _
    _ = _ := runM_bind_ok (getG_run b s) _
    _ = _ := runM_get _
    _ = _ := congrArg (fun x : M Unit => runM x s) (if_neg fun h => slot h.1)
    _ = _ := runM_bind_ok (handlerArg_run below) _
    _ = _ := runM_bind_ok target _
    _ = _ := runM_bind_ok (outbound_alone _ _ _ _ alone) _
    _ = _ := congrArg (fun x : M Unit => runM x s) (if_neg dest)
theorem amsg_answered {v : Word} (got : s.me.got = some v) : exec (.amsg b a d) s = .next ((s.wg d v).advance) :=
  (amsg_awaits addr what alone below target dest slot).trans (runM_bind_ok (askFor_answered _ _ got) _)
theorem amsg_asks (ungot : s.me.got = none) (unasked : s.me.ask = none) : exec (.amsg b a d) s =
    .next (stall ((s.sendAmsg c (y.toNat % 2 ^ 16) x (d != 0)).modMe (fun t => { t with ask := some s.msgSeq })) .reply) :=
  (amsg_awaits addr what alone below target dest slot).trans (runM_wait (M.bind_wait _ (askFor_asks _ _ ungot unasked)))
end
end

/-! ### Migration (R194) -/

section
variable {c : Nat} (target : targetCore (s.rg a) s.me.ctx.toNat s = .ok (c, s))
include target
theorem migrate_own (own : s.sameCore c s.myCore = true) : exec (.migrate a d) s = .next ((s.wg d 0).advance) :=
  calc exec (.migrate a d) s
    _ = _ := runM_bind_ok (getG_run a s) _
    _ = _ := runM_get _
    _ = _ := runM_bind_ok target _
    _ = _ := congrArg (fun x : M Unit => runM x s) (if_pos own)
variable (away : s.sameCore c s.myCore = false)
include away
theorem migrate_unfit (unfit : s.unfit ≠ 0) : exec (.migrate a d) s =
    .next (takeTrap s ⟨Cause.migrateState, BitVec.ofNat 64 s.unfit, (s.rg a).setWidth 48⟩) :=
  calc exec (.migrate a d) s
    _ = _ := runM_bind_ok (getG_run a s) _
    _ = _ := runM_get _
    _ = _ := runM_bind_ok target _
    _ = _ := congrArg (fun x : M Unit => runM x s) ((if_neg (Bool.eq_false_iff.mp away)).trans (if_pos unfit))
theorem migrate_leaves (alone : s.paired = false) (fit : s.unfit = 0) (returned : s.me.loads = [])
    (rel : release (scopeOf s.myCore c) s = .ok ((), s1)) :
    let t := s1.me
    let s3 := s1.post (Agent.slot s1.myCore s1.mySlot) (Agent.owner (s1.homeOf c t.ctx.toNat)) (.migrate
      { handler := t.handler, ctx := t.ctx.toNat, prio := t.prio.toNat, limit := t.limit.toNat, id := t.taskid,
        tsinh := t.tsinh, join := t.join } (s1.carried (scopeOf s.myCore c) d))
    exec (.migrate a d) s = .next ((s3.freeSlot s3.myCore s3.mySlot).afterFree s3.myCore s3.mySlot t.ctx.toNat) := by
  have idle : ¬ (!s.me.loads.isEmpty) = true := by simp [returned]
  calc exec (.migrate a d) s
    _ = _ := runM_bind_ok (getG_run a s) _
    _ = _ := runM_get _
    _ = _ := runM_bind_ok target _
    _ = _ := congrArg (fun x : M Unit => runM x s)
      ((if_neg (Bool.eq_false_iff.mp away)).trans ((if_neg (not_not.mpr fit)).trans (if_neg idle)))
    _ = _ := runM_bind_ok (outbound_alone _ _ _ _ alone) _
    _ = _ := congrArg (finish s) (M.bind_ok _ rel)
end

/-! ### Launches (R195) -/

theorem launch_denied (p : BitVec 6) (soft : s.isFw s.myCore = false) : exec (.launch p b a d) s =
    .next (takeTrap s ⟨Cause.privilege, s.cur.word.setWidth 64, s.wordPc.setWidth 48⟩) :=
  calc exec (.launch p b a d) s
    _ = _ := runM_bind_ok (getG_run a s) _
    _ = _ := runM_bind_ok (getG_run b s) _
    _ = _ := runM_get _
    _ = _ := congrArg (fun x : M Unit => runM x s) (if_pos (by rw [soft]; rfl))
theorem launch_makes (p : BitVec 6) {y : Word} {e g q c : Nat} (what : s.rg b = y) (context : y.toNat / 2 ^ 16 % 16 = e)
    (handler : y.toNat % 2 ^ 16 = g) (prio : (s.ctx e).launchPrio p g = q) (fw : s.isFw s.myCore = true)
    (below : g < (s.ctx e).handlers.length) (least : (s.ctx e).pmin ≤ q) (most : q ≤ (s.ctx e).pmax)
    (target : targetCore (s.rg a) e s = .ok (c, s)) :
    let r := s.launch c e g q #v[s.rg 1, s.rg 2, s.rg 3, s.rg 4] (BitVec.ofNat 64 ((s.rg a).toNat % 2 ^ 48))
    exec (.launch p b a d) s = .next ((r.1.wg d (r.2.setWidth 64)).advance) := by
  subst what context handler prio
  calc exec (.launch p b a d) s
    _ = _ := runM_bind_ok (getG_run a s) _
    _ = _ := runM_bind_ok (getG_run b s) _
    _ = _ := runM_get _
    _ = _ := congrArg (fun x : M Unit => runM x s) (if_neg (by rw [fw]; decide))
    _ = _ := runM_bind_ok (handlerArg_run below) _
    _ = _ := runM_bind_ok (prioArg_run least most) _
    _ = _ := runM_bind_ok target _

/-! ### Join counters (R196, R197) -/

section
variable {c la pa : Nat} (arg : counterArg (s.rg a) true s = .ok ((c, la), s)) (place : counterAt c la s = .ok (pa, s1))
  (alone : s1.paired = false)
include arg place alone
theorem join_adds : exec (.join b a) s =
    .next (((s1.addCounter pa (s.rg b)).wakeCounter c s1.me.ctx.toNat la pa).advance) :=
  calc exec (.join b a) s
    _ = _ := runM_bind_ok (getG_run a s) _
    _ = _ := runM_bind_ok (getG_run b s) _
    _ = _ := runM_bind_ok arg _
    _ = _ := congrArg (finish s) ((M.bind_ok _ place).trans (M.bind_ok _ (outbound_alone _ _ _ _ alone)))
variable (slot : s.mySlot ≠ 4)
include slot
theorem jwait_done (least : s1.num pa 8 = 0 ∨ 2 ^ 63 ≤ s1.num pa 8) :
    exec (.jwait a d) s = .next (((s1.acquireAt s1.myCore 3).wg d (BitVec.ofNat 64 (s1.num pa 8))).advance) := by
  have test : ¬ (0 < s1.num pa 8 ∧ s1.num pa 8 < 2 ^ 63) := by omega
  calc exec (.jwait a d) s
    _ = _ := runM_bind_ok (getG_run a s) _
    _ = _ := runM_outside_service slot _
    _ = _ := runM_bind_ok arg _
    _ = _ := congrArg (finish s) (M.bind_ok _ place)
    _ = _ := by
      rw [M.bind_run, obtained_alone _ _ alone, M.bind_ok _ (M.get_run s1)]
      simp only [if_neg test]
      rfl
theorem jwait_waits (least : 0 < s1.num pa 8) (most : s1.num pa 8 < 2 ^ 63) :
    exec (.jwait a d) s = .next (stall (s1.modMe (fun t => { t with joinOn := some la })) .join) :=
  calc exec (.jwait a d) s
    _ = _ := runM_bind_ok (getG_run a s) _
    _ = _ := runM_outside_service slot _
    _ = _ := runM_bind_ok arg _
    _ = _ := congrArg (finish s) (M.bind_ok _ place)
    _ = _ := by
      rw [M.bind_run, obtained_alone _ _ alone, M.bind_ok _ (M.get_run s1)]
      simp only [if_pos (And.intro least most)]
      rfl
end
theorem jdone_posts {c la : Nat} (arg : counterArg (s.rg a) false s = .ok ((c, la), s)) (alone : s.paired = false)
    (rel : release (scopeOf s.myCore c) s = .ok ((), s1)) (room : s1.postedBy s1.myCore s1.mySlot < 16) :
    exec (.jdone a) s = .next (s1.post (Agent.slot s1.myCore s1.mySlot) (Agent.owner c)
      (.jdone s1.me.ctx.toNat la s1.myCore s1.mySlot s1.me.taskid)).advance :=
  calc exec (.jdone a) s
    _ = _ := runM_bind_ok (getG_run a s) _
    _ = _ := runM_bind_ok arg _
    _ = _ := runM_bind_ok (outbound_alone _ _ _ _ alone) _
    _ = _ := runM_get _
    _ = _ := congrArg (finish s) ((M.bind_ok _ rel).trans (M.bind_ok _ (postRoom_run room)))

/-! ### Gangs and pairs (R308, R312, R318) -/

/-- Core `o` joins the gang of task `lead`, whose leader stands on core `c` in context `x` (R308). -/
def State.enlist (c x : Nat) (k : BitVec 2) (lead : Slot) (s : State) (o : Nat) : State :=
  (s.modCore o (fun q => q.activate x)).setSlot o 0 ((lead.followerOf (c, s.mySlot) s.nextPc k.toNat
    ((posOf o + 2 ^ k.toNat - posOf c % 2 ^ k.toNat) % 2 ^ k.toNat)).over (s.slot o 0))

section
variable {k : BitVec 2} (slot : s.mySlot ≠ 4) (alone : s.paired = false) (single : s.me.gang = false) (returned : s.me.loads = [])
include slot alone single returned
/-- Outside the service slot, a pair and a gang, and with its loads returned, a GANG comes to its claims. -/
theorem gang_checked (f : State → M Unit) : runM (get >>= fun s => if s.mySlot = 4 ∨ s.paired ∨ s.me.gang then illegal
    else if !s.me.loads.isEmpty then waitFor .load else f s) s = runM (f s) s :=
  (runM_get _).trans (congrArg (fun x : M Unit => runM x s)
    ((if_neg (by simp [slot, alone, single])).trans (if_neg (by simp [returned]))))
theorem gang_refused (claimed : (groupOf s.myCore (2 ^ k.toNat)).all (s.claimable s.me.ctx.toNat) = false) :
    exec (.gang k d) s = .next ((s.wg d 0).advance) :=
  calc exec (.gang k d) s
    _ = _ := gang_checked slot alone single returned _
    _ = _ := congrArg (fun x : M Unit => runM x s) (if_pos (by rw [claimed]; rfl))
theorem gang_forms (free : (groupOf s.myCore (2 ^ k.toNat)).all (s.claimable s.me.ctx.toNat) = true) :
    let u := s.wg d (BitVec.ofNat 64 (2 ^ k.toNat))
    exec (.gang k d) s = .next ((((groupOf s.myCore (2 ^ k.toNat)).foldl (State.enlist s.myCore s.me.ctx.toNat k u.me) u).modMe
      (fun t => { t with gang := true, gk := k, lane := 0 })).advance) := by
  intro u
  have ctx : s.me.ctx = u.me.ctx := by simp [u]
  calc exec (.gang k d) s
    _ = _ := gang_checked slot alone single returned _
    _ = _ := congrArg (fun x : M Unit => runM x s) (if_neg (by rw [free]; decide))
    _ = _ := by rw [ctx]; rfl
end

theorem split_leads (leads : s.follower = false) :
    exec .split s = .next ((s.modMe (fun t => { t with gang := false, gk := 0, lane := 0 })).advance) :=
  if_neg (Bool.eq_false_iff.mp leads)
theorem split_follows (follows : s.follower = true) : ∃ t, exec .split s = .next t ∧ t.me.taskid = (s.nextTaskId s.myCore).1 ∧
    t.me.gang = false ∧ t.me.leader = none ∧ t.me.join = 0 ∧ t.me.pc = s.nextPc ∧ (∀ r, t.rg r = s.rg r) := by
  have kept := s.me_nextTaskId s.myCore
  rcases new : s.nextTaskId s.myCore with ⟨id, u⟩
  have me : u.me = s.me := by rwa [new] at kept
  have cur : u.cur = s.cur := congrArg (fun q => q.2.cur) new.symm
  refine ⟨(u.advance).modMe (fun t => { t with
    taskid := id, gang := false, gk := 0, lane := 0, leader := none, join := 0, pins := [] }), ?_, ?_⟩
  · show execSplit s = _
    rw [execSplit, if_pos follows, new]
  · simp [State.nextPc, State.rg, me, cur, Slot.rg]
theorem pairchk_passes (k : BitVec 2) {go : Bool} (pass : Passes s go) : exec (.pairchk k a) s = .next s.advance := by
  by_cases compared : !s.paired ∨ (k ≠ 1 ∧ a = 0)
  · exact if_pos compared
  · exact (if_neg compared).trans ((runM_get _).trans (runM_bind_ok (pass _ _ _) _))

/-- Settles O49: past its checks, each instruction comes to the one effect that its operands and its counter's page allow. -/
theorem taskInstructionResults : Obligations.TaskInstructionResults := by
  refine ⟨fun s s1 p k b a d c o la pa alone => ?_, fun s k a go => pairchk_passes k⟩
  intro x y h n Fits
  have fits : Fits → SpawnFits s h (s.spawnPrio p) := fun ⟨below, least, most⟩ => ⟨below, least, most⟩
  refine ⟨fun ok named alone1 => ?_, fun ok slot target => ⟨?_, fun away named alone1 => ⟨fun v got => ?_, fun ungot unasked => ?_⟩⟩,
    fun below target => ⟨?_, fun dest slot => ⟨fun v got => ?_, fun ungot unasked => ?_⟩⟩,
    fun target => ⟨migrate_own target, fun away => ⟨migrate_unfit target away, migrate_leaves target away alone⟩⟩,
    launch_denied p,
    fun fw below least most target => launch_makes p rfl rfl rfl rfl fw below least most target,
    fun arg place alone1 => ⟨join_adds arg place alone1, fun slot =>
      ⟨jwait_done arg place alone1 slot, jwait_waits arg place alone1 slot⟩⟩,
    fun arg rel => jdone_posts arg alone rel,
    fun slot single returned => ⟨gang_refused slot alone single returned, gang_forms slot alone single returned⟩,
    split_leads, split_follows, pairchk_passes k (passes_alone s alone)⟩
  · intro id s3 up
    obtain ⟨u, accepted, pushed⟩ : ∃ u accepted, up.pushDeque up.myCore (up.spawnStart h (s.spawnPrio p) y id) = (u, accepted) :=
      ⟨_, _, Prod.mk.eta.symm⟩
    have result := spawn_results (d := d) rfl rfl (fits ok) named alone1 Prod.mk.eta.symm rfl pushed
    rw [pushed]
    cases accepted
    · exact ⟨nofun, fun _ => result⟩
    · exact ⟨fun _ => result, nofun⟩
  · exact spawnr_own rfl rfl (fits ok) slot target
  · exact spawnr_answered rfl rfl (fits ok) slot target away named alone1 got
  · exact spawnr_asks rfl rfl (fits ok) slot target away named alone1 ungot unasked
  · rintro rfl room
    exact amsg_posts rfl rfl alone below target room
  · exact amsg_answered rfl rfl alone below target dest slot got
  · exact amsg_asks rfl rfl alone below target dest slot ungot unasked

end Sys2Proof.Machine
end
section
/-! Walks, invalidations, local pages and banks where their events are enabled (R185, R279, R280, R283, R340 to R343). -/

namespace Sys2Proof.Machine

variable {s : State}

/-! ### Walks and invalidations (R340 to R342) -/

/-- Walk `n` leaves its cove's walker, and the oldest miss that waits enters it (R340). -/
def State.dropWalk (s : State) (v n : Nat) : State :=
  let left := s.modCove v (fun k => { k with walks := k.walks.eraseIdx n })
  match (left.cove v).misses with
  | [] => left
  | m :: l => (left.modCove v (fun k => { k with misses := l })).enterWalk v m

section
variable {v n : Nat} {w : Walk} (walk : (s.cove v).walks[n]? = some w) (once : w.again = false)
include walk once
theorem pageWalkDone_fails {st : BitVec 6} (failed : s.walk w.ctx w.va = .error st) : exec (.pageWalkDone v n) s =
    .next ((w.waiters.foldl (fun s p => s.modSlot p.1 p.2.1 (fun t =>
      if t.life = .stalled .walk then { t with walkFail := some (p.2.2 / 2 ^ 14, st) } else t)) (s.dropWalk v n)).endHints w.hints none) := by
  show execPageWalkDone v n s = _
  simp only [execPageWalkDone, walk, once, failed, Bool.false_eq_true, if_false]
  rfl
theorem pageWalkDone_fills {t : TlbEntry} (found : s.walk w.ctx w.va = .ok t) (room : s.dirRoom v t = true) :
    exec (.pageWalkDone v n) s = .next (((s.dropWalk v n).fillTlb v t (w.waiters.map (·.1) ++ w.hints.map (·.core)).dedup).endHints
      w.hints (some t)) := by
  have placed : s.makeRoom v t = none := if_pos room
  show execPageWalkDone v n s = _
  simp only [execPageWalkDone, walk, once, found, placed, Bool.false_eq_true, if_false]
  rfl
end

/-- What an invalidation's cores write back leaves the coves and the invalidations (R146, R342). -/
theorem State.mscSet_coves (s : State) (line : Nat) (x : MscLine) :
    (s.mscSet line x).coves = s.coves ∧ (s.mscSet line x).invals = s.invals := by
  unfold State.mscSet
  split
  · exact ⟨rfl, rfl⟩
  · dsimp only
    split <;> exact ⟨rfl, rfl⟩
theorem State.flushFrames_coves (s : State) (c : Nat) (t : TlbEntry) :
    (s.flushFrames c t).coves = s.coves ∧ (s.flushFrames c t).invals = s.invals :=
  foldl_inv (fun u : State => u.coves = s.coves ∧ u.invals = s.invals) _ _ _ ⟨rfl, rfl⟩ fun u a _ ⟨coves, invals⟩ =>
    ⟨(u.mscSet_coves a {}).1.trans coves, (u.mscSet_coves a {}).2.trans invals⟩
theorem State.flushRange_coves (gone : List TlbEntry) (f : List TlbEntry → List TlbEntry) (cores : List Nat) (s : State) :
    let t := cores.foldl (fun s c => (gone.foldl (fun s t => s.flushFrames c t) s).modCore c (fun k => { k with tlb := f k.tlb })) s
    t.coves = s.coves ∧ t.invals = s.invals :=
  foldl_inv (fun u : State => u.coves = s.coves ∧ u.invals = s.invals) _ _ _ ⟨rfl, rfl⟩ fun u c _ before =>
    foldl_inv (fun u : State => u.coves = s.coves ∧ u.invals = s.invals) _ gone u before fun w t _ ⟨coves, invals⟩ =>
      ⟨(w.flushFrames_coves c t).1.trans coves, (w.flushFrames_coves c t).2.trans invals⟩
/-- Whether an invalidation's range meets an entry's. -/
def Inval.hits (i : Inval) (e : TlbEntry) : Bool := e.ctx == i.ctx && decide (e.va < i.hi) && decide (i.lo < e.va + e.size)
theorem tlbInvalidate_acknowledges {v n : Nat} {i : Inval} (found : s.invals[n]? = some i)
    (listed : i.coves.contains v = true) (others : i.coves.filter (· != v) ≠ [])
    (idle : ∀ e ∈ (s.cove v).tlb, i.hits e = true → s.translates v e = false ∧ ∀ q, q < 8 → s.flushHeld (coreAt v q) e = false)
    (unkept : s.keeps v i.hits = false) : ∃ t, exec (.tlbInvalidate v n) s = .next t ∧
      t.invals = s.invals.set n { i with coves := i.coves.filter (· != v) } ∧
      (t.cove v).tlb = (s.cove v).tlb.filter (fun e => !i.hits e) := by
  have free : (((s.cove v).tlb.filter i.hits).any (s.translates v) || s.keeps v i.hits ||
      ((List.range 8).map (coreAt v)).any (fun c => ((s.cove v).tlb.filter i.hits).any (s.flushHeld c))) = false := by
    simp only [unkept, Bool.or_false, Bool.or_eq_false_iff, List.any_eq_false, List.mem_filter, List.mem_map, List.mem_range,
      forall_exists_index, and_imp, Bool.not_eq_true]
    exact ⟨fun e here hit => (idle e here hit).1, fun _ q low core e here hit => core ▸ (idle e here hit).2 q low⟩
  change ∃ t, execTlbInvalidate v n s = .next t ∧ _
  unfold execTlbInvalidate
  rw [found]
  refine ⟨_, (if_neg (by rw [listed]; decide)).trans (if_neg (Bool.eq_false_iff.mp free)), ?_⟩
  obtain ⟨coves, invals⟩ := State.flushRange_coves ((s.cove v).tlb.filter i.hits) (·.filter (fun e => !i.hits e))
      ((List.range 8).map (coreAt v)) (s.modCove v (fun k => { k with
        tlb := k.tlb.filter (fun e => !i.hits e)
        walks := k.walks.map (fun w => if w.ctx = i.ctx ∧ i.lo ≤ w.va ∧ w.va < i.hi then { w with again := true } else w) }))
  refine ⟨(if_neg (by simpa using others)).trans
    (congrArg (fun l : List Inval => l.set n { i with coves := i.coves.filter (· != v) }) invals), ?_⟩
  exact (congrArg (fun m => (FMap.getD m v {}).tlb) coves).trans (congrArg Cove.tlb (State.cove_modCove_self s v _))

/-! ### Local pages (R343, R345) -/

section
variable {c n : Nat} {fr : Frame} (frame : (s.core c).frames.find n = some fr) (turn : s.pageYields c n fr = false)
include frame turn
section
variable {l : List Nat} {new : List TlbEntry} (sound : fr.fault = false) (filling : fr.state = .filling)
  (home : s.homeSectors c fr fr.pos (16 - fr.pos) .load = .ok (l, new))
include sound filling home
theorem localPageFillDone_fails (poisoned : l.any (fun a => s.poisoned a 128) = true) :
    exec (.localPageFillDone c n) s = .next (s.fillFails c n fr) := by
  show execLocalPageFillDone c n s = _
  simp [execLocalPageFillDone, State.moveChunks, frame, turn, sound, filling, home, poisoned]
theorem localPageFillDone_fills (whole : l.any (fun a => s.poisoned a 128) = false) :
    exec (.localPageFillDone c n) s = .next (s.withWalks (coveOf c) new (fun u =>
      let z := u.copySectors (l.zip (u.frameSectors c n fr.pos (16 - fr.pos)))
      z.modCore c (fun k => { k with
        stamp := k.stamp + 1
        frames := k.frames.set n { fr with
          state := .resident, dirty := false, pos := 0, pins := z.newPins c fr, stamp := k.stamp + 1 } }.retryFills))) := by
  show execLocalPageFillDone c n s = _
  simp [execLocalPageFillDone, State.moveChunks, frame, turn, sound, filling, home, whole]
end
theorem localPageSpillDone_passes {l : List Nat} {new : List TlbEntry} {r : PageAsk} (spilling : fr.state = .spilling)
    (unasked : fr.demand = false) (asker : fr.next = some r)
    (home : s.homeSectors c fr fr.pos (16 - fr.pos) .engineWrite = .ok (l, new)) :
    exec (.localPageSpillDone c n) s = .next (s.withWalks (coveOf c) new (fun u =>
      (u.copySectors ((u.frameSectors c n fr.pos (16 - fr.pos)).zip l)).modCore c (fun k =>
        { k with frames := k.frames.set n r.frame }))) := by
  show execLocalPageSpillDone c n s = _
  simp [execLocalPageSpillDone, State.moveChunks, frame, turn, spilling, unasked, asker, home]
end

/-! ### Footprints (R185) -/

/-- A context with no pair runs each task on one core. -/
theorem State.both_alone {c x : Nat} (alone : (s.ctx x).pair = false) : s.both c x = [c] := by simp [State.both, alone]
theorem State.paused_of_ne {x : Nat} (live : (s.ctx x).state ≠ .frozen) : s.paused x = false := beq_eq_false_iff_ne.mpr live
theorem ebbFootprint_asks {c n : Nat} {f : Footprint} (pending : (s.core c).footprint n = some f) : let x : Nat := f.start.ctx
      f.served = false → (s.ctx x).state ≠ .frozen → (s.ctx x).pair = false → ((s.core c).earlier n).any s.unasked = false →
      let h := (s.ctx x).handler f.start.handler
      let new := h.footPages.filter (fun p => !f.pins.contains p)
      let here := new.filter (s.residentOn [c] x)
      let banks := (List.range 8).filter (fun b => h.cbm.getLsbD b)
      let w := s.modCore c (fun k => (new.filter (fun p => !here.contains p)).foldl (fun k p => k.request x p 2)
        (here.foldl (fun k p => k.pinPage x p) k))
      let u := banks.foldl (fun s b => s.ownBank c b x) w
      let all : Bool := here.length == new.length && banks.all (fun b => u.holdsBank c b x)
      let z := u.modCore c (fun k => k.setFootprint n { f with asked := true, served := all, pins := f.pins ++ here })
      exec (.ebbFootprint c n) s = .next (if all then (z.schedule c).startService c else z) := by
  intro x unserved live alone first
  show execEbbFootprint c n s = _
  unfold execEbbFootprint
  rw [pending]
  refine (if_neg (by simp [x, unserved, first, State.paused_of_ne live])).trans ?_
  rw [State.both_alone alone]
  simp only [List.foldl_cons, List.foldl_nil, List.all_cons, List.all_nil, Bool.and_true]
  rfl

/-! ### Banks that pass between contexts (R279, R280) -/

section
variable {c n : Nat} {y : Bank} (bank : (s.core c).bank n = y)
include bank
theorem bankClaimPass_passes {d x : Nat} {l : List Nat} (holder : y.holder = some d) (claims : y.claims = x :: l)
    (idle : s.bankIdle c n d = true) (low : n < 8) : exec (.bankClaimPass c n) s =
    .next (s.modCore c (fun k => { k.setBank n { y.bump with
        holder := some x, claims := l, since := k.stamp
        passing := if (y.side 0).used || (y.side 1).used then some d else none } with stamp := k.stamp + 1 })) := by
  subst bank
  show execBankClaimPass c n s = _
  simp only [execBankClaimPass, holder, claims, idle, low, and_self, if_true]
section
variable {d x : Nat} (passing : y.passing = some d) (holder : y.holder = some x) (live : (s.ctx x).state ≠ .frozen)
  (turn : s.pageDue (coveOf c) 3 = false)
include passing holder live turn
theorem bankSave_ends (last : (savedChunks (y.savedSides.filter (fun v => !v.clean)))[y.moved]? = none) :
    exec (.bankSave c n) s = .next (s.endSave c n d) := by
  subst bank
  show execBankSave c n s = _
  simp only [execBankSave, passing, holder, Option.getD_some, State.paused_of_ne live, turn, last, Bool.or_self, Bool.false_eq_true,
    if_false]
theorem bankSave_moves {v : Saved} {k : Nat} {as : List Nat} {new : List TlbEntry}
    (next : (savedChunks (y.savedSides.filter (fun v => !v.clean)))[y.moved]? = some (v, k))
    (reached : s.reach (coveOf c) (fun u => u.engineRun c d ((u.ctx d).bankVa c n v.side + 1024 * k) (v.chunkBytes k) .engineWrite) =
      .ok (as, new)) :
    exec (.bankSave c n) s = .next (s.withWalks (coveOf c) new (fun u =>
      let z := { u with mem := Mem.puts u.mem (as.mapIdx (fun i a => (a, u.byte (u.sideAddr c (y.side v.side) (1024 * k + i))))) }
      if y.moved + 1 = (savedChunks (y.savedSides.filter (fun v => !v.clean))).length then z.endSave c n d
      else z.modCore c (fun q => q.setBank n { q.bank n with moved := y.moved + 1 }))) := by
  subst bank
  show execBankSave c n s = _
  simp only [execBankSave, passing, holder, Option.getD_some, State.paused_of_ne live, turn, next, reached, Bool.or_self,
    Bool.false_eq_true, if_false]
end
section
variable {x : Nat} {l : List Saved} (holder : y.holder = some x) (settled : y.passing = none)
  (image : (s.ctx x).saved.find (cbKey c n) = some l) (live : (s.ctx x).state ≠ .frozen) (turn : s.pageDue (coveOf c) 3 = false)
  (room : s.restorable c n l = true)
include holder settled image live turn room
theorem bankRestore_ends (last : (savedChunks l)[y.moved]? = none) : exec (.bankRestore c n) s = .next (s.endRestore c n x l) := by
  subst bank
  show execBankRestore c n s = _
  simp only [execBankRestore, holder, settled, image, State.paused_of_ne live, turn, room, last, Bool.or_self, Bool.not_true,
    Bool.false_eq_true, if_false]
theorem bankRestore_refills {v : Saved} {k : Nat} {ps : List Nat} {new : List TlbEntry} (next : (savedChunks l)[y.moved]? = some (v, k))
    (reached : s.reach (coveOf c) (fun u => u.engineRun c x (u.savedVa c n x v + 1024 * k) (v.chunkBytes k) .load) = .ok (ps, new)) :
    exec (.bankRestore c n) s = .next (s.withWalks (coveOf c) new (fun u =>
      let z := (if y.moved = 0 then u.beginRestore c n l else u).restoreChunk c n x v k ps
      if y.moved + 1 = (savedChunks l).length then z.endRestore c n x l
      else z.modCore c (fun q => q.setBank n { q.bank n with moved := y.moved + 1 }))) := by
  subst bank
  show execBankRestore c n s = _
  simp only [execBankRestore, holder, settled, image, State.paused_of_ne live, turn, room, next, reached, Bool.or_self, Bool.not_true,
    Bool.false_eq_true, if_false]
end
end

end Sys2Proof.Machine
end
section
/-! Codebook loads and the jobs of the Ebb engine where their events are enabled (R283, R284, R347 to R351). -/

namespace Sys2Proof.Machine

variable {s : State}

/-! ### Loads that start, and CBFETCH (R283, R284) -/

theorem cbLoadStart_runs {c n : Nat} {r : CbReq} (low : n < 5) (waiting : (s.slot c n).cbreq = some r)
    (awake : (s.slot c n).frozen = false) (stalled : (s.slot c n).life = .stalled .claim ∨ (s.slot c n).life = .stalled .side)
    (held : s.holdsBank c r.bank (s.slot c n).ctx.toNat = true)
    (free : (((s.core c).bank r.bank).side ((s.core c).bank r.bank).shadow).busy = false) :
    exec (.cbLoadStart c n) s = .next (s.modSlot c n (fun t => { t with life := .running })) := by
  show execCbLoadStart c n s = _
  simp only [execCbLoadStart, waiting]
  exact if_pos ⟨low, by simp [awake], stalled, held, by simp [free]⟩

section
variable {v n : Nat} {j : EbbJob} (found : (s.cove v).ebb.jobs.find? (fun j => j.id.toNat == n) = some j)
include found

section
variable {c bank src mode fmt : Nat} (asks : j.fetch = some (c, bank, src, mode, fmt)) (queued : j.state = .queued)
  (live : (s.ctx j.ctx).state ≠ .frozen) (turn : s.pageDue v 3 = false) (alone : (s.ctx j.ctx).pair = false)
  (held : (s.ownBank c bank j.ctx).holdsBank c bank j.ctx = true)
  (free : ((((s.ownBank c bank j.ctx).core c).bank bank).side (((s.ownBank c bank j.ctx).core c).bank bank).shadow).busy = false)
include asks queued live turn alone held free
theorem cbfetch_faults {e a : Nat} (bad : (s.ownBank c bank j.ctx).reach v (fun w => w.fetchCheck v j.ctx mode src (formatBytes fmt)) =
      .error (.fault e a)) :
    let z := (s.ownBank c bank j.ctx).modCore c (fun k => k.setBank bank ((k.bank bank).mod (k.bank bank).shadow Side.emptied))
    exec (.cbfetch v n) s = .next ((if e = 7 then z.report 3 c j.ctx else z).modEbbJob v n (fun j => j.ended e a)) := by
  show execCbfetch v n s = _
  simp [execCbfetch, found, asks, queued, State.paused_of_ne live, turn, State.fetchCores, alone, held, State.bankOpen, free, bad]
theorem cbfetch_begins {pages : List (Nat × TlbEntry)} {new : List TlbEntry} {z : State}
    (good : (s.ownBank c bank j.ctx).reach v (fun w => w.fetchCheck v j.ctx mode src (formatBytes fmt)) = .ok (pages, new))
    (room : (s.ownBank c bank j.ctx).fillWalks v new new = (z, true)) :
    let r := z.beginLoad c ⟨bank, mode, src, fmt, false⟩ none (some n) pages (mode == 2 && pages.all (fun p => !p.2.allows .engineWrite))
    let mine := ((r.1.core c).bank bank).loaders.filter (fun l => l.job = some n)
    r.2 = none → exec (.cbfetch v n) s =
      .next ((mine.foldl (fun s l => (s.pinLoad c bank j.ctx l).1) r.1).modEbbJob v n (fun j => { j with state := .running })) := by
  intro r mine enough
  show execCbfetch v n s = _
  simp [execCbfetch, found, asks, queued, State.paused_of_ne live, turn, State.fetchCores, alone, held, State.bankOpen, free, good,
    withWalks_room _ _ _ _ _ room, r, mine, enough]
end

/-! ### The end of a class-4 job (R351) -/

section
variable (transfers : j.class4 = true) (moved : j.moved = true) (going : j.state.final = false)
include transfers moved going
theorem ebbJobDone_silent (quiet : j.f 0 41 1 = 1) : exec (.ebbJobDone v n) s =
    .next (((if j.code = 0 then s.tagLines j.lines j.cscope j.core j.ctx else s).modEbbJob v n
      (fun k => { k with state := if k.code = 0 then .done else .faulted })).ebbOver v n) := by
  show execEbbJobDone v n s = _
  simp only [execEbbJobDone, found, transfers, moved, going]
  exact (if_neg (by decide)).trans (if_pos quiet)
theorem ebbJobDone_records (asked : j.f 0 41 1 ≠ 1) :
    let u := (if j.code = 0 then s.tagLines j.lines j.cscope j.core j.ctx else s).modEbbJob v n
      (fun k => { k with state := if k.code = 0 then .done else .faulted })
    exec (.ebbJobDone v n) s = .next ((u.modEbbJob v n (fun k => { k with sent := true })).post (Agent.engine v 2)
      (Agent.queue (j.f 0 42 9) (j.f 0 51 4)) (.record ⟨mkRec j.stamp (u.srcId 2 (4 * v + 2)) 4 (if j.late then 1 else 0)
        (j.id.toNat + (if j.code = 0 then 0 else 2 ^ 32) + j.code * 2 ^ 35), []⟩ j.ctx (.queue (j.f 0 42 9) (j.f 0 51 4))
        (.ebb v n) false)) := by
  intro u
  show execEbbJobDone v n s = _
  simp only [execEbbJobDone, found, transfers, moved, going]
  exact (if_neg (by decide)).trans (if_neg asked)
end

/-! ### The step of the job whose turn it is (R347) -/

section
variable (turn : s.ebbTurn v = some j) (noPage : s.pageDue v 4 = false) (noBank : s.bankDue v = false)
  (ready : j.state ≠ .queued ∨ s.ebbDescOk v j = true)
include turn noPage noBank ready
theorem ebbStep_runs {cmd : Nat} (same : j.cmd = cmd) (f : EbbJob → State) : ebbStep cmd v n s f = f j := by
  have id : j.id.toNat = n := by simpa using List.find?_some found
  have descOk : ¬(j.state = .queued ∧ (!s.ebbDescOk v j) = true) := by
    rintro ⟨queued, bad⟩
    rcases ready with started | ok
    · exact started queued
    · simp [ok] at bad
  simp only [ebbStep, turn, noPage, noBank, id, same]
  exact (if_neg (by decide)).trans ((if_neg (by simp)).trans (if_neg descOk))

theorem ebbFill_here (fill : j.cmd = 1) {f a : Nat}
    (here : s.local? (j.f 1 52 9) j.ctx ((j.f 1 0 48 / 2 ^ 14 + j.pos) * 2 ^ 14) = .here f a) : exec (.ebbFill v n) s =
    .next (((s.leaveAll j.who).meter j.ctx (Config.ebbEnergy s.free)).modEbbJob v n
      (fun j => { j with state := .running, pos := j.pos + 1, moved := decide (j.pos + 1 = j.len) })) := by
  show execEbbFill v n s = _
  unfold execEbbFill
  rw [ebbStep_runs found turn noPage noBank ready fill]
  simp only [here]
theorem ebbFill_absent (fill : j.cmd = 1) {p : Nat}
    (absent : s.local? (j.f 1 52 9) j.ctx ((j.f 1 0 48 / 2 ^ 14 + j.pos) * 2 ^ 14) = .absent p) : exec (.ebbFill v n) s =
    .next ((s.modEbbJob v n (fun j => { j with state := .running })).waitPage (j.f 1 52 9) j.ctx p j.who 4) := by
  show execEbbFill v n s = _
  unfold execEbbFill
  rw [ebbStep_runs found turn noPage noBank ready fill]
  simp only [absent]

theorem ebbSpill_passes (spill : j.cmd = 2) (gone : (s.core (j.f 1 52 9)).frameOf j.ctx (j.f 1 0 48 / 2 ^ 14 + j.pos / 2 ^ 14) = none) :
    exec (.ebbSpill v n) s = .next (s.modEbbJob v n (fun j => { j with
      state := .running, pos := j.pos + 2 ^ 14, pins := [], moved := decide (j.pos + 2 ^ 14 = 2 ^ 14 * j.len) })) := by
  show execEbbSpill v n s = _
  unfold execEbbSpill
  rw [ebbStep_runs found turn noPage noBank ready spill]
  simp only [gone]

theorem ebbCopy_faults (copy : j.cmd = 0) (queued : j.state = .queued) {e a : Nat}
    (bad : s.reach v (fun u => u.copyCheck v j) = .error (.fault e a)) :
    exec (.ebbCopy v n) s = .next ((if e = 7 then s.report 3 j.core j.ctx else s).ebbMoved v j e a) := by
  show execEbbCopy v n s = _
  unfold execEbbCopy
  rw [ebbStep_runs found turn noPage noBank ready copy, if_pos queued]
  simp only [bad]
theorem ebbCopy_starts (copy : j.cmd = 0) (queued : j.state = .queued) {pages : List (Nat × TlbEntry)} {new : List TlbEntry}
    (good : s.reach v (fun u => u.copyCheck v j) = .ok (pages, new)) : exec (.ebbCopy v n) s =
    .next (s.withWalks v new (fun u => u.modEbbJob v n (fun j => { j with state := .running, pages := pages }))) := by
  show execEbbCopy v n s = _
  unfold execEbbCopy
  rw [ebbStep_runs found turn noPage noBank ready copy, if_pos queued]
  simp only [good]
end
end

end Sys2Proof.Machine
end
section
/-! The chunks of a `SPILL` (R350). -/

namespace Sys2Proof.Machine

variable {s : State}

/-- Whether frame `f` holds a modified page, if it holds one. -/
def Core.dirtyAt (k : Core) (f : Nat) : Option Bool := (k.frames.find f).map (·.dirty)
/-- A frame that is set at its number as dirty as it stood leaves every frame as dirty. -/
theorem Core.dirtyAt_set {k : Core} {f : Nat} {fr x : Frame} (stood : k.frames.find f = some fr) (same : x.dirty = fr.dirty) (g : Nat) :
    ({ k with frames := k.frames.set f x } : Core).dirtyAt g = k.dirtyAt g := by
  unfold Core.dirtyAt
  by_cases here : g = f
  · subst here
    simp [stood, same]
  · rw [FMap.find_set_ne _ _ _ _ here]
/-- A read leaves every frame as dirty as it was (R344). -/
theorem Core.dirtyAt_read (k : Core) (f g : Nat) : (k.touch f false).dirtyAt g = k.dirtyAt g := by
  unfold Core.touch
  split
  · next fr stood =>
    exact dirtyAt_set (x := { fr with stamp := k.stamp + 1, dirty := fr.dirty || false, copied := fr.copied && !false }) stood
      (Bool.or_false _) g
  · rfl
theorem State.dirtyAt_readPage (s : State) (c x p g : Nat) : ((s.touchPage c x p false).core c).dirtyAt g = (s.core c).dirtyAt g := by
  unfold State.touchPage
  rw [State.core_modCore_self]
  split
  · exact Core.dirtyAt_read _ _ g
  · rfl

/-- A `SPILL` goes on by `k` bytes. -/
def State.spillOn (s : State) (v n k : Nat) (pins : List (Nat × Nat)) : State :=
  s.modEbbJob v n (fun j => { j with state := .running, pos := j.pos + k, pins := pins, moved := decide (j.pos + k = 2 ^ 14 * j.len) })
theorem State.core_spillOn (s : State) (v n k : Nat) (pins : List (Nat × Nat)) (c : Nat) : (s.spillOn v n k pins).core c = s.core c := rfl
/-- Chunk `i` of page `p`, in frame `f` of core `c`, goes to the spill area: the first marks the frame as copied and pins
it, the last leaves it clean, unless stored to meanwhile, and lets it go. -/
def State.spillChunk (s : State) (v n : Nat) (j : EbbJob) (c f p i : Nat) (l : List Nat) : State :=
  let w := (s.copySectors ((s.frameSectors c f i 1).zip l)).touchPage c j.ctx p false
  let z := w.meter j.ctx (Config.ebbEnergy w.free)
  if i = 0 then (z.modCore c (fun k => match k.frames.find f with
      | some fr => { k with frames := k.frames.set f { fr with copied := true, pins := fr.pins + 1 } }
      | none => k)).spillOn v n 1024 [(c, p)]
  else if i = 15 then ((z.modCore c (fun k => match k.frames.find f with
      | some fr => { k with frames := k.frames.set f { fr with dirty := fr.dirty && !fr.copied, copied := false } }
      | none => k)).unpinAll j.ctx j.pins).spillOn v n 1024 []
  else z.spillOn v n 1024 j.pins
/-- Of the data, a chunk's copy is all that a step of a `SPILL` changes. -/
theorem State.sameData_spillChunk (s : State) (v n : Nat) (j : EbbJob) (c f p i : Nat) (l : List Nat) :
    (s.copySectors ((s.frameSectors c f i 1).zip l)).SameData (s.spillChunk v n j c f p i l) := by
  unfold State.spillChunk
  extract_lets w z
  have read : (s.copySectors ((s.frameSectors c f i 1).zip l)).SameData z :=
    (sameData_touchPage _ c j.ctx p false).trans (w.sameData_meter _ _)
  split
  · refine read.trans (.trans (z.sameData_modCore c ?_) (sameData_modEbbJob _ v n _))
    split
    · exact Core.SameData.frames _ _
    · exact .refl _
  · split
    · refine read.trans (.trans (z.sameData_modCore c ?_) (.trans (sameData_unpinAll _ _ _) (sameData_modEbbJob _ v n _)))
      split
      · exact Core.SameData.frames _ _
      · exact .refl _
    · exact read.trans (sameData_modEbbJob _ v n _)
/-- Until the last chunk a `SPILL` leaves its frame as dirty as it was. -/
theorem State.dirtyAt_spillChunk (s : State) (v n : Nat) (j : EbbJob) (c f p : Nat) (l : List Nat) {i : Nat} (more : i < 15) :
    ((s.spillChunk v n j c f p i l).core c).dirtyAt f = (s.core c).dirtyAt f := by
  have read := dirtyAt_readPage (s.copySectors ((s.frameSectors c f i 1).zip l)) c j.ctx p f
  unfold State.spillChunk
  extract_lets w z
  rw [if_neg (Nat.ne_of_lt more)]
  split
  · refine Eq.trans ?_ read
    rw [State.core_spillOn, z.core_modCore_self]
    split
    · next fr stood => exact Core.dirtyAt_set (x := { fr with copied := true, pins := fr.pins + 1 }) stood rfl f
    · rfl
  · exact read

section
variable {v n : Nat} {j : EbbJob} (found : (s.cove v).ebb.jobs.find? (fun j => j.id.toNat == n) = some j)
  (turn : s.ebbTurn v = some j) (noPage : s.pageDue v 4 = false) (noBank : s.bankDue v = false)
  (ready : j.state ≠ .queued ∨ s.ebbDescOk v j = true)
include found turn noPage noBank ready
theorem ebbSpill_moves (spill : j.cmd = 2) : let c : Nat := j.f 1 52 9
    let p : Nat := j.f 1 0 48 / 2 ^ 14 + j.pos / 2 ^ 14
    let i : Nat := j.pos % 2 ^ 14 / 1024
    ∀ {f fr l new}, (s.core c).frameOf j.ctx p = some (f, fr) → fr.state = .resident → (fr.dirty = true ∨ 0 < i) →
      s.poisoned (poolAt c ((s.core c).frameOff f + 1024 * i)) 1024 = false → s.homeSectors c fr i 1 .engineWrite = .ok (l, new) →
      exec (.ebbSpill v n) s = .next (s.withWalks v new (fun u => u.spillChunk v n j c f p i l)) := by
  intro c p i f fr l new frame resident due whole home
  show execEbbSpill v n s = _
  unfold execEbbSpill
  rw [ebbStep_runs found turn noPage noBank ready spill]
  dsimp only [c, p, i] at frame due whole home ⊢
  simp only [frame]
  rw [if_pos ⟨resident, due⟩, if_neg (Bool.eq_false_iff.mp whole), home]
  rfl
end

/-- Chunk `i` of a page stands, after the walks, where it stood before them. -/
theorem State.copySectors_walked {u : State} (same : s.SameFrames u) (c f i : Nat) (l : List Nat) :
    (u.copySectors ((u.frameSectors c f i 1).zip l)).mem = (s.copySectors ((s.frameSectors c f i 1).zip l)).mem := by
  have base : (u.core c).frameOff f = (s.core c).frameOff f := congrArg (fun b => b.toNat + f * 2 ^ 14) (same.b1 c)
  simp only [State.copySectors, State.frameSectors, base, same.mem]
/-- The walks placed, a step of a `SPILL` copies its chunk, and leaves the frame as dirty as it was until the last one. -/
theorem State.withWalks_spillChunk (v n : Nat) (j : EbbJob) (c f p i : Nat) (l : List Nat) {new : List TlbEntry}
    (room : (s.fillWalks v new new).2 = true) :
    let t := s.withWalks v new (fun u => u.spillChunk v n j c f p i l)
    t.mem = (s.copySectors ((s.frameSectors c f i 1).zip l)).mem ∧ (i < 15 → (t.core c).dirtyAt f = (s.core c).dirtyAt f) := by
  have walked := s.sameFrames_fillWalks v new new room
  rw [withWalks_room s (s.fillWalks v new new).1 v new _ (Prod.ext rfl room)]
  exact ⟨(sameData_spillChunk _ v n j c f p i l).mem.trans (copySectors_walked walked c f i l), fun more =>
    (dirtyAt_spillChunk _ v n j c f p l more).trans (congrArg (fun m => (FMap.find m f).map Frame.dirty) (walked.frames c))⟩

end Sys2Proof.Machine
end
section
/-! The chunks of a `COPY` (R349). -/

namespace Sys2Proof.Machine

variable {s : State}

/-- Where a job has written at no place of a chunk, the chunk's bytes are copied as they stand: no free value enters. -/
theorem EbbJob.copied_unwritten {j : EbbJob} {l : List ((Nat × Nat) × Nat × Nat)}
    (unwritten : ∀ q ∈ l, j.wrote q.1.1 = none ∧ j.wrote q.2.1 = none) (s : State) (r : Nat) :
    j.copied s r l = l.map (fun q => (q.1, s.byte q.2.2)) := by
  have plain : j.copied s r l = l.zipIdx.map ((fun q => (q.1, s.byte q.2.2)) ∘ Prod.fst) := by
    refine List.filterMap_eq_map_iff_forall_eq_some.mpr fun e here => ?_
    obtain ⟨toPlace, fromPlace⟩ := unwritten e.1 (List.fst_mem_of_mem_zipIdx here)
    simp [EbbJob.keeps, EbbJob.source, toPlace, fromPlace]
  rw [plain, ← List.map_map, List.zipIdx_map_fst]
/-- The pages that a chunk pins leave what the job has written. -/
theorem State.wrote_pinChunk (s : State) (v : Nat) (j : EbbJob) (l : List (Nat × Nat)) (p : Nat) :
    (s.pinChunk v j l).2.wrote p = j.wrote p := rfl

/-- A chunk of a `COPY` moves, from the places `a` to the places `b`, and the last ends the transfer. -/
def State.copyChunk (s : State) (v n : Nat) (j : EbbJob) (a b : List (Nat × Nat)) : State :=
  let run := j.pos / j.len
  let off := j.pos % j.len
  let k := min 1024 (j.len - off)
  let cells : List ((Nat × Nat) × Byte) := j.copied s run (b.zip a)
  let undo := j.undone s run (cells.map (·.1))
  let w := ({ s with mem := Mem.puts s.mem (cells.map (fun e : (Nat × Nat) × Byte => (e.1.2, e.2))), free := s.free + k }).leaveAll j.who
  let touch (s : State) (w : Nat) : State :=
    (j.sidePages v run off k w).foldl (fun s p => s.touchPage p.1 j.ctx p.2 (w == 2)) s
  let z := (touch (touch w 1) 2).meter j.ctx (Config.ebbEnergy w.free)
  let ends := decide (j.pos + k = j.len * j.n1 * j.n2)
  (if ends then z.unpinAll j.ctx j.pins else z).modEbbJob v n (fun j => { j with
    pos := j.pos + k, undo := undo, moved := ends, pins := if ends then [] else j.pins
    lines := if j.f 2 61 3 = 2 then (j.lines ++ b.map (fun x : Nat × Nat => x.2 / 256)).dedup else j.lines })
/-- A chunk of a `COPY` writes the bytes that its run copies. -/
theorem State.mem_copyChunk (s : State) (v n : Nat) (j : EbbJob) (a b : List (Nat × Nat)) :
    (s.copyChunk v n j a b).mem = Mem.puts s.mem ((j.copied s (j.pos / j.len) (b.zip a)).map (fun e => (e.1.2, e.2))) := by
  unfold State.copyChunk
  extract_lets run off k cells undo w touch z ends
  have touched (u : State) (i : Nat) : u.SameData (touch u i) := sameData_foldl _ _ u fun u p => u.sameData_touchPage p.1 j.ctx p.2 (i == 2)
  have kept : w.SameData z := (touched w 1).trans ((touched _ 2).trans (sameData_meter _ _ _))
  have last : w.SameData (if ends then z.unpinAll j.ctx j.pins else z) := by
    split
    · exact kept.trans (z.sameData_unpinAll _ _)
    · exact kept
  exact last.mem.trans (sameData_leaveAll _ _).mem
/-- Where the job has written at none of the chunk's places, these are the bytes that stand there. -/
theorem State.mem_copyChunk_unwritten {v n : Nat} {j : EbbJob} {a b : List (Nat × Nat)}
    (unwritten : ∀ p, p ∈ a ∨ p ∈ b → j.wrote p.1 = none) (s : State) :
    (s.copyChunk v n j a b).mem = Mem.puts s.mem (b.zipWith (fun q p => (q.2, s.byte p.2)) a) := by
  have each (q : (Nat × Nat) × Nat × Nat) (here : q ∈ b.zip a) : j.wrote q.1.1 = none ∧ j.wrote q.2.1 = none :=
    have ⟨right, left⟩ := List.of_mem_zip here
    ⟨unwritten q.1 (.inr right), unwritten q.2 (.inl left)⟩
  rw [mem_copyChunk, EbbJob.copied_unwritten each, List.map_map, ← List.map_uncurry_zip_eq_zipWith]
  rfl

section
variable {v n : Nat} {j : EbbJob} (found : (s.cove v).ebb.jobs.find? (fun j => j.id.toNat == n) = some j)
  (turn : s.ebbTurn v = some j) (noPage : s.pageDue v 4 = false) (noBank : s.bankDue v = false)
  (ready : j.state ≠ .queued ∨ s.ebbDescOk v j = true)
include found turn noPage noBank ready
theorem ebbCopy_moves (copy : j.cmd = 0) (running : j.state ≠ .queued) :
    let k : Nat := min 1024 (j.len - j.pos % j.len)
    let run : Nat := j.pos / j.len
    let off : Nat := j.pos % j.len
    ∀ {u q a b}, s.pinChunk v j (j.sidePages v run off k 1 ++ j.sidePages v run off k 2).dedup = (u, q) →
      let place : Nat → Nat → Except JobStop (Nat × Nat) := fun w i =>
        (q.place u v run w (off + i)).map (fun x => (q.key v run w (off + i) x, x))
      (List.range k).mapM (place 1) = .ok a → (List.range k).mapM (place 2) = .ok b → (∀ p ∈ a, u.poisoned p.2 1 = false) →
      exec (.ebbCopy v n) s = .next (u.copyChunk v n q a b) := by
  intro k run off u q a b pinned place sources targets whole
  have sound : a.zipIdx.find? (fun p => u.poisoned p.1.2 1) = none := List.find?_eq_none.mpr fun p here =>
    Bool.eq_false_iff.mp (whole p.1 (List.fst_mem_of_mem_zipIdx here))
  have same : q.pos = j.pos ∧ q.len = j.len := by
    cases pinned
    exact ⟨rfl, rfl⟩
  show execEbbCopy v n s = _
  unfold execEbbCopy
  rw [ebbStep_runs found turn noPage noBank ready copy, if_neg running]
  dsimp only [k, run, off, place] at pinned sources targets ⊢
  rw [pinned]
  dsimp only
  rw [sources]
  dsimp only [bind, Except.bind]
  rw [targets]
  dsimp only
  rw [sound]
  unfold State.copyChunk
  rw [same.1, same.2]
end

end Sys2Proof.Machine
end
section
/-! The chunks of a codebook load (R283, R347). -/

namespace Sys2Proof.Machine

variable {s : State}

theorem Core.bank_setBank (k : Core) {b : Nat} (low : b < 8) (x : Bank) : (k.setBank b x).bank b = x := by
  simp [Core.bank, Core.setBank, low]

/-- The loads of a bank once the load of `l`'s side stands as `l`. -/
def Loading.among (l : Loading) (ls : List Loading) : List Loading := ls.map (fun o => if o.side = l.side then l else o)
/-- Of two changes of one load the later stands. -/
theorem Loading.among_among {l o : Loading} (same : l.side = o.side) (ls : List Loading) : l.among (o.among ls) = l.among ls := by
  refine List.map_map.trans (List.map_congr_left fun q _ => ?_)
  by_cases here : q.side = o.side <;> simp [here, same]
theorem State.loaders_setLoading (s : State) (c : Nat) {b : Nat} (low : b < 8) (l : Loading) :
    (((s.setLoading c b l).core c).bank b).loaders = l.among ((s.core c).bank b).loaders := by
  rw [State.setLoading, State.core_modCore_self, Core.bank_setBank _ low]
  rfl
theorem State.SameData.bank {t : State} (same : s.SameData t) (c b : Nat) : (t.core c).bank b = (s.core c).bank b :=
  congrArg (fun (m : Vector Bank 8) => (m[b]?).getD {}) (same.core c).banks

/-- Before a chunk of an engine's load its source pages are pinned (R344). -/
def State.loadReady (s : State) (c b x : Nat) (l : Loading) : State × Loading := if l.job.isSome then s.pinLoad c b x l else (s, l)
/-- What it moves, and for whom, stays. -/
theorem State.loadReady_load (s : State) (c b x : Nat) (l : Loading) :
    (s.loadReady c b x l).2.side = l.side ∧ (s.loadReady c b x l).2.pos = l.pos ∧ (s.loadReady c b x l).2.len = l.len := by
  unfold State.loadReady
  split <;> exact ⟨rfl, rfl, rfl⟩
/-- The bank's loads stand as they were, or with this one's pins. -/
theorem State.loaders_loadReady (s : State) (c : Nat) {b : Nat} (low : b < 8) (x : Nat) (l : Loading) :
    (((s.loadReady c b x l).1.core c).bank b).loaders = ((s.core c).bank b).loaders ∨
    (((s.loadReady c b x l).1.core c).bank b).loaders = (s.loadReady c b x l).2.among ((s.core c).bank b).loaders := by
  unfold State.loadReady
  split
  · refine .inr ((State.loaders_setLoading _ c low _).trans ?_)
    exact congrArg (fun y : Bank => (s.pinLoad c b x l).2.among y.loaders) ((s.sameData_pinNew x l.pins (l.part.sourcePages c)).bank c b)
  · exact .inl rfl

/-- A load that ends leaves the memory. -/
theorem State.mem_loadOver (s : State) (c b x : Nat) (l : Loading) (f : Side → Side) (status code a : Nat) :
    (s.loadOver c b x l f status code a).mem = s.mem := by
  have ended (u : State) : (u.loadEnds c l status code a).mem = u.mem := by
    unfold State.loadEnds
    split
    · rfl
    · split <;> rfl
    · rfl
  exact (sameData_leaveAll _ _).mem.trans ((sameData_unpinAll _ _ _).mem.trans (ended _))

/-- A chunk of a load moves its bytes, and the last ends it. -/
def State.loadChunk (s : State) (c b x : Nat) (l : Loading) (bytes : List Byte) (k : Nat) : State :=
  let d := ((s.core c).bank b).side l.side
  let w := { s with mem := Mem.puts s.mem (bytes.mapIdx (fun i x => (s.sideAddr c d (l.pos + i), x))) }
  let u := (l.part.sourcePages c).foldl (fun s p => s.touchPage p.1 x p.2 false) w
  let z := if l.job.isSome then u.meter x (Config.ebbEnergy u.free) else u
  if l.pos + k = l.len then z.loadOver c b x l (fun d => { d with state := .standby }) 0 0 0
  else (z.setLoading c b { l with pos := l.pos + k }).leaveAll (loadWho c b l.side)
/-- Stamps and the meter leave the data. -/
theorem State.sameData_loadRead (s : State) (c x : Nat) (l : Loading) :
    let u := (l.part.sourcePages c).foldl (fun s p => s.touchPage p.1 x p.2 false) s
    s.SameData (if l.job.isSome then u.meter x (Config.ebbEnergy u.free) else u) := by
  intro u
  have read : s.SameData u := sameData_foldl _ _ s fun s p => s.sameData_touchPage p.1 x p.2 false
  split
  · exact read.trans (u.sameData_meter _ _)
  · exact read
theorem State.mem_loadChunk (s : State) (c b x : Nat) (l : Loading) (bytes : List Byte) (k : Nat) : (s.loadChunk c b x l bytes k).mem =
    Mem.puts s.mem (bytes.mapIdx (fun i x => (s.sideAddr c (((s.core c).bank b).side l.side) (l.pos + i), x))) := by
  unfold State.loadChunk
  extract_lets d w u z
  have read : w.SameData z := w.sameData_loadRead c x l
  split
  · exact (mem_loadOver z c b x l _ 0 0 0).trans read.mem
  · exact (sameData_leaveAll _ _).mem.trans read.mem
/-- A chunk that is not the last moves its load on. -/
theorem State.loaders_loadChunk (s : State) (c : Nat) {b : Nat} (low : b < 8) (x : Nat) (l : Loading) (bytes : List Byte) {k : Nat}
    (more : l.pos + k ≠ l.len) : (((s.loadChunk c b x l bytes k).core c).bank b).loaders =
      ({ l with pos := l.pos + k } : Loading).among ((s.core c).bank b).loaders := by
  unfold State.loadChunk
  extract_lets d w u z
  have read : w.SameData z := w.sameData_loadRead c x l
  rw [if_neg more, (sameData_leaveAll _ _).bank c b, loaders_setLoading _ c low, read.bank c b]
  rfl

/-- Once a load of a bank has moved its chunk, the others wait. -/
theorem foldl_loadStep_done (c b x : Nat) (t : State) (ls : List Loading) :
    ls.foldl (fun (r : State × Bool) l => if r.2 then r else r.1.loadStep c b x l) (t, true) = (t, true) := by
  induction ls with
  | nil => rfl
  | cons l ls ih => exact ih

section
variable {c n x : Nat} {l : Loading} {as : List Nat} (unpaired : s.mateOf c n x l = none)
  (goes : (l.job.isSome && (s.paused x || s.pageDue (coveOf c) 3)) = false) (ordered : l.slot.any (s.storing c) = false)
include unpaired goes ordered
theorem loadStep_moves {u : State} {q : Loading} (ready : s.loadReady c n x l = (u, q)) :
    let near := if (u.ctx x).pair then primaryOf c else c
    let hit : Nat → Option Byte := fun a => if q.slot.isSome && q.mode == 2 then u.l1Get near a else none
    u.loadSource c n x q.part = .ok as → (∀ a ∈ as, u.poisoned a 1 = false ∨ (hit a).isSome = true) →
      s.loadStep c n x l = (u.loadChunk c n x q (as.map (fun a => (hit a).getD (u.byte a))) as.length, true) := by
  intro near hit source whole
  have sound : as.zipIdx.find? (fun p => u.poisoned p.1 1 && (hit p.1).isNone) = none := by
    refine List.find?_eq_none.mpr fun p here => ?_
    rcases whole p.1 (List.fst_mem_of_mem_zipIdx here) with clean | cached
    · simp [clean]
    · simp [Option.isNone_eq_false_iff.mpr cached]
  unfold State.loadReady at ready
  dsimp only [hit, near] at sound ⊢
  unfold State.loadStep
  rw [unpaired, goes, ordered]
  refine (if_neg (by simp)).trans ?_
  dsimp only
  rw [ready]
  dsimp only
  rw [source]
  dsimp only
  rw [sound]
  exact (apply_ite (·, true) _ _ _).symm

theorem cbLoadDone_moves {y : Bank} {rest : List Loading} (bank : (s.core c).bank n = y) (loaders : y.loaders = l :: rest)
    (holder : y.holder = some x) : let r := s.loadReady c n x l
    let near := if (r.1.ctx x).pair then primaryOf c else c
    let hit : Nat → Option Byte := fun a => if r.2.slot.isSome && r.2.mode == 2 then r.1.l1Get near a else none
    r.1.loadSource c n x r.2.part = .ok as → (∀ a ∈ as, r.1.poisoned a 1 = false ∨ (hit a).isSome = true) →
    ∃ t, exec (.cbLoadDone c n) s = .next t ∧ t.mem = Mem.puts r.1.mem (as.mapIdx (fun i a =>
      (r.1.sideAddr c (((r.1.core c).bank n).side r.2.side) (l.pos + i), (hit a).getD (r.1.byte a)))) ∧
      (n < 8 → l.pos + as.length ≠ l.len → ((t.core c).bank n).loaders =
        y.loaders.map (fun o => if o.side = l.side then { r.2 with pos := l.pos + as.length } else o)) := by
  intro r near hit source whole
  obtain ⟨side, pos, len⟩ := s.loadReady_load c n x l
  have step := loadStep_moves unpaired goes ordered (u := r.1) (q := r.2) rfl source whole
  refine ⟨r.1.loadChunk c n x r.2 (as.map (fun a => (hit a).getD (r.1.byte a))) as.length, ?_, ?_, fun low more => ?_⟩
  · show execCbLoadDone c n s = _
    unfold execCbLoadDone
    rw [bank, holder, loaders]
    dsimp only [List.foldl_cons]
    rw [if_neg Bool.false_ne_true, step, foldl_loadStep_done]
  · rw [State.mem_loadChunk, pos]
    exact congrArg _ (List.ext_getElem? fun i => by simp [List.getElem?_mapIdx, Function.comp_def])
  · rw [State.loaders_loadChunk _ c low x _ _ (by rwa [pos, len]), pos, ← side]
    subst bank
    rcases s.loaders_loadReady c low x l with same | pinned
    · exact congrArg _ same
    · exact (congrArg _ pinned).trans (Loading.among_among (l := { r.2 with pos := l.pos + as.length }) (o := r.2) rfl _)
end

end Sys2Proof.Machine
end
section
/-! Walks, pages, banks and the Ebb engine's jobs (O57). -/

namespace Sys2Proof.Machine

/-- Settles O57: each event, where it is enabled, through the equation of its own branch; what a `SPILL`, a `COPY` and a
load leave in memory is their chunk's bytes, since pins, stamps and the meter leave the data. -/
theorem pageAndEbbEventsComplete : Obligations.PageAndEbbEventsComplete := by
  unfold Obligations.PageAndEbbEventsComplete
  refine ⟨fun s v n => ⟨fun w walk once => ?_, fun i found listed others => ?_, fun j found => ⟨?_, ?_, ?_⟩⟩,
    fun s c n => ⟨fun fr frame => ?_, fun f pending => ?_, ?_, ?_⟩⟩
  · exact ⟨fun st failed => pageWalkDone_fails walk once failed, fun t found room => pageWalkDone_fills walk once found room⟩
  · exact tlbInvalidate_acknowledges found listed others
  · intro c bank src mode fmt asks queued live turn alone u held free _ check
    exact ⟨fun e a bad => cbfetch_faults found asks queued live turn alone held free bad,
      fun pages new z good room => cbfetch_begins found asks queued live turn alone held free good room⟩
  · intro transfers moved going
    exact ⟨ebbJobDone_silent found transfers moved going, ebbJobDone_records found transfers moved going⟩
  · intro turn noPage noBank ready
    refine ⟨fun fill => ?_, fun spill => ?_, fun copy queued => ?_, fun copy running => ?_⟩
    · exact ⟨fun f a here => ebbFill_here found turn noPage noBank ready fill here,
        fun p absent => ebbFill_absent found turn noPage noBank ready fill absent⟩
    · refine ⟨ebbSpill_passes found turn noPage noBank ready spill, fun f fr l new frame resident due whole home => ?_⟩
      refine ⟨_, ebbSpill_moves found turn noPage noBank ready spill frame resident due whole home, fun room => ?_⟩
      obtain ⟨mem, dirty⟩ := State.withWalks_spillChunk v n j (j.f 1 52 9) f (j.f 1 0 48 / 2 ^ 14 + j.pos / 2 ^ 14)
        (j.pos % 2 ^ 14 / 1024) l room
      exact ⟨mem, fun stood more => (dirty more).trans (congrArg (Option.map Frame.dirty) stood)⟩
    · exact ⟨fun e a bad => ebbCopy_faults found turn noPage noBank ready copy queued bad,
        fun pages new good => ebbCopy_starts found turn noPage noBank ready copy queued good⟩
    · intro k run off r u place a b sources targets whole
      have pinned : s.pinChunk v j (j.sidePages v run off k 1 ++ j.sidePages v run off k 2).dedup = (u, r.2) := Prod.mk.eta.symm
      exact ⟨u.copyChunk v n r.2 a b, ebbCopy_moves found turn noPage noBank ready copy running pinned sources targets whole,
        fun unwritten => State.mem_copyChunk_unwritten (j := r.2) unwritten u⟩
  · exact ⟨fun sound filling turn l new home => ⟨localPageFillDone_fails frame turn sound filling home,
        localPageFillDone_fills frame turn sound filling home⟩,
      fun spilling unasked turn r l new asker home => localPageSpillDone_passes frame turn spilling unasked asker home⟩
  · exact ebbFootprint_asks pending
  · refine ⟨fun d x l holder claims idle low => bankClaimPass_passes rfl holder claims idle low,
      fun d x passing holder live turn => ?_, fun x l ps holder settled image live turn room => ?_,
      fun l rest x as loaders holder unpaired goes ordered => cbLoadDone_moves unpaired goes ordered rfl loaders holder⟩
    · exact ⟨bankSave_ends rfl passing holder live turn, fun v k as new => bankSave_moves rfl passing holder live turn⟩
    · exact ⟨bankRestore_ends rfl holder settled image live turn room,
        fun v k new => bankRestore_refills rfl holder settled image live turn room⟩
  · exact fun r low waiting awake stalled held free => cbLoadStart_runs low waiting awake stalled held free

end Sys2Proof.Machine
end
section
/-! Records at their queues, closes, tidemarks, emit outcomes and timers, where their events are enabled (R205 to R207, R211 to R219, R226,
R365, R374). -/

namespace Sys2Proof.Machine

theorem onMessage_taken {s u t : State} {id : Nat} {m : Msg} {f : Msg → State → Option State} (taken : s.take id = some (m, u))
    (acts : f m u = some t) : onMessage id s f = .next t := by
  simp [onMessage, taken, acts]

/-! ### What becomes of a record at its queue (R206, R207) -/

section
variable {r : Rec} {x c q : Nat} {w : Sender} {o : Bool} {t : State} {m : Msg} (body : m.body = .record r x (.queue c q) w o)
include body
section
variable {s u : State} {id : Nat} (taken : s.take id = some (m, u))
include taken
theorem recordArrive_accepted (outcome : u.arriveRec c q r x = .accepted t) : exec (.recordArrive id) s = .next (t.tell m w 0) :=
  onMessage_taken taken (by simp only [body, outcome])
theorem recordArrive_rejected (outcome : u.arriveRec c q r x = .rejected t) : exec (.recordArrive id) s = .next (t.tell m w 2) :=
  onMessage_taken taken (by simp only [body, outcome])
theorem recordArrive_refused {y : State} (outcome : u.arriveRec c q r x = .full t) (refused : t.refuse m c q r x w = some y) :
    exec (.recordArrive id) s = .next y :=
  onMessage_taken taken (by simp only [body, outcome, refused])
end
section
variable {s : State} {n due : Nat} (waits : s.retries[n]? = some (due, m)) (late : due ≤ s.dtime.toNat)
include waits late
theorem recordResendRetry_accepted (outcome : State.arriveRec { s with retries := s.retries.eraseIdx n } c q r x = .accepted t) :
    exec (.recordResendRetry n) s = .next (t.tell m w 0) := by
  show execRecordResendRetry n s = _
  simp only [execRecordResendRetry, waits, if_neg late.not_gt, body, outcome]
theorem recordResendRetry_rejected (outcome : State.arriveRec { s with retries := s.retries.eraseIdx n } c q r x = .rejected t) :
    exec (.recordResendRetry n) s = .next (t.tell m w 2) := by
  show execRecordResendRetry n s = _
  simp only [execRecordResendRetry, waits, if_neg late.not_gt, body, outcome]
theorem recordResendRetry_refused {y : State} (outcome : State.arriveRec { s with retries := s.retries.eraseIdx n } c q r x = .full t)
    (refused : t.refuse m c q r x w = some y) : exec (.recordResendRetry n) s = .next y := by
  show execRecordResendRetry n s = _
  simp only [execRecordResendRetry, waits, if_neg late.not_gt, body, outcome, refused, Option.getD_some]
end
end

/-! ### Emit outcomes (R226) -/

theorem emitTimeout_withdraws {s u v : State} {n j x : Nat} {m : Msg} {r : Rec} {g : Target} {w : Sender} {o : Bool} {d : BitVec 5}
    (asks : (s.slot n j).reply = some (d, m.id)) (flies : m ∈ s.net) (mine : m.src = Agent.slot n j) (body : m.body = .record r x g w o)
    (late : (s.slot n j).started + (s.slot n j).emitto.toNat ≤ s.dtime.toNat) (withdrawn : s.withdraw m.id = some u)
    (answered : u.giveReply n j (s.slot n j).taskid m.id 1 = some v) : exec (.emitTimeout n j) s = .next v := by
  show execEmitTimeout n j s = _
  simp only [execEmitTimeout, asks, withdrawn, answered, Option.getD_some]
  refine if_neg (not_or.2 ⟨?_, late.not_gt⟩)
  rw [Bool.not_eq_true', Bool.not_eq_false]
  exact List.any_eq_true.2 ⟨m, by simp [flies], by simp [mine, body]⟩

/-! ### Tidemarks (R206, R212, R215) -/

section
variable {s u : State} {id : Nat} {m : Msg} {x : Nat} {src : BitVec 16} {a : BitVec 48} (taken : s.take id = some (m, u))
  (alone : u.recordAhead m src = false)
include taken alone
theorem tidemarkUpdateArrive_queue {c q : Nat} {y : Queue} (body : m.body = .tidemark (.queue c q) x src a)
    (found : (u.core c).queues.find q = some y) (bound : y.ctx = x) (unshut : u.shut c = false) :
    exec (.tidemarkUpdateArrive id) s =
      .next (u.modCore c (fun k => { k with queues := k.queues.set q ((y.tide (u.ctx x) src a).closeNormal (u.ctx x)) })) :=
  onMessage_taken taken (by simp [body, alone, unshut, State.modCore, found, bound])
theorem tidemarkUpdateArrive_stream {v n : Nat} {t : TileStream} (body : m.body = .tidemark (.stream v n) x src a)
    (found : (u.cove v).bw.streams.find n = some t) (bound : t.ctx = x) (room : (u.cove v).bw.fifo.length < 256) :
    exec (.tidemarkUpdateArrive id) s =
      .next (u.modCove v (fun k => { k with bw := { k.bw with fifo := k.bw.fifo ++ [.tidemark n src a] } })) :=
  onMessage_taken taken (by simp [body, alone, found, bound, room.not_ge])
end

/-! ### A queue's own events (R207, R217 to R219, R374) -/

section
variable {s : State} {c q : Nat} {u : Queue} (found : (s.core c).queues.find q = some u)
include found
section
variable (home : s.homeOf c u.ctx = c) (unowed : s.goesFirst c q u.ctx u = false) (settled : u.ovfPending = false) (closed : u.closes = [])
include home unowed settled closed
theorem recordResend_trap {r : Rec} {l : List Rec}
    (store : (if s.homeOf (s.ctx u.ctx).trapcore u.ctx = c ∧ (s.ctx u.ctx).trapq = q then (s.ctx u.ctx).store else []) = r :: l)
    (room : 4 ≤ s.roomOf c q u.ctx) : exec (.recordResend c q) s = .next ((s.setCtx u.ctx { s.ctx u.ctx with store := l }).place c q u.ctx
      { r with head := r.head ||| BitVec.ofNat 128 (2 ^ 100) }) := by
  show execRecordResend c q s = _
  simp [execRecordResend, found, home, unowed, State.owes, settled, closed, store, room]
theorem recordResend_waiter {m : Msg} {l : List Msg} {t : State}
    (store : (if s.homeOf (s.ctx u.ctx).trapcore u.ctx = c ∧ (s.ctx u.ctx).trapq = q then (s.ctx u.ctx).store else []) = [])
    (oldest : u.waiters = m :: l) (sent : (s.modQueue c q u.ctx (fun u => { u with waiters := l })).sendAgain m = some t) :
    exec (.recordResend c q) s = .next t := by
  show execRecordResend c q s = _
  simp [execRecordResend, found, home, unowed, State.owes, settled, closed, store, oldest, sent]
end
theorem overflowRecord_places (pending : u.ovfPending = true) (live : (s.ctx u.ctx).stopped = false) (home : s.homeOf c u.ctx = c)
    (room : 1 ≤ s.roomOf c q u.ctx) : exec (.overflowRecord c q) s =
      .next ((s.modQueue c q u.ctx (fun u => { u with ovfPending := false, dropsSent := u.drops })).place c q u.ctx
        ⟨mkRec u.ovfStamp (s.srcId 3 c) 0x0C 0 (u.drops - u.dropsSent).toNat, []⟩) := by
  show execOverflowRecord c q s = _
  simp only [execOverflowRecord, found]
  exact if_neg (by simp [pending, live, home, Nat.one_le_iff_ne_zero.1 room])
theorem wcloseWrite_places {k : Int} {n : Nat} {late : Bool} {mask : Word} {l : List (Int × Nat × Bool × Word)}
    (oldest : u.closes = (k, n, late, mask) :: l) (settled : u.ovfPending = false) (live : (s.ctx u.ctx).stopped = false)
    (home : s.homeOf c u.ctx = c) (room : closeSize u ≤ s.roomOf c q u.ctx) : exec (.wcloseWrite c q) s =
      .next ((s.modQueue c q u.ctx (fun u => { u with closes := l })).place c q u.ctx (s.closeRec c q u k n late mask)) := by
  show execWcloseWrite c q s = _
  simp only [execWcloseWrite, found, oldest]
  exact if_neg (by simp [settled, live, home, room])
section
variable (windowed : u.wlen ≠ 0)
include windowed
theorem windowTimeout_closes (timed : u.stale ≠ 0)
    (lags : laggards (s.ctx u.ctx) u.subs u.tm (windowEnd u.wlen u.wphase u.window) ≠ [])
    (due : windowEndTime u.wlen u.wphase u.window + u.stale ≤ (s.dtime.toNat : Int)) :
    exec (.windowTimeout c q) s = .next (s.modQueue c q u.ctx (fun v => (v.close (timeoutCount (s.ctx u.ctx) u.subs u.tm u.wlen u.wphase
      u.stale s.dtime.toNat u.window) true (lagMask (laggards (s.ctx u.ctx) u.subs u.tm
        (windowEnd u.wlen u.wphase u.window)))).closeNormal (s.ctx u.ctx))) := by
  show execWindowTimeout c q s = _
  simp only [execWindowTimeout, found]
  exact if_neg (by simp [windowed, timed, lags, due])
theorem windowEndClose_closes (unsubscribed : (s.ctx u.ctx).liveSubs u.subs = []) : exec (.windowEndClose c q) s =
    .next (s.modQueue c q u.ctx (fun v => v.close (endedCount s.dtime.toNat u.wlen u.wphase u.window) false 0)) := by
  show execWindowEndClose c q s = _
  simp only [execWindowEndClose, found]
  exact if_neg (by simp [windowed, unsubscribed])
end
end

/-! ### Heartbeats and timers (R211, R365) -/

section
variable {s : State} {n : Nat}
theorem sensorHeartbeat_promises {t : Stream} (found : s.streams.find n = some t) (enabled : t.en = true) (whole : t.cut = false)
    (up : s.portUp n = true) (idle : t.lastSend + 1000 * t.hbeat ≤ s.dtime.toNat) : exec (.sensorHeartbeat n) s =
      .next ({ s with streams := s.streams.set n { t with lastSend := s.dtime.toNat } }.sendTides (Agent.stream n) t.ctx
        (s.srcId 0 n) s.now48) := by
  show execSensorHeartbeat n s = _
  simp only [execSensorHeartbeat, found]
  exact if_neg (by simp [enabled, whole, up, idle])
theorem timerExpiry_sends {t : Timer} (found : s.timers[n]? = some t) (due : t.due ≤ s.dtime.toNat) : exec (.timerExpiry n) s =
    .next ({ s with timers := s.timers.set n { t with count := t.count + 1, due := t.due + 1000 * t.period } }.post Agent.firmware
      (Agent.queue t.core t.queue) (.record ⟨mkRec s.now48 (s.srcId 3 s.firstFw) 6 0 (t.num + (t.count + 1).toNat * 2 ^ 16), []⟩
        t.ctx (.queue t.core t.queue) .system false)) := by
  show execTimerExpiry n s = _
  simp only [execTimerExpiry, found]
  exact if_neg due.not_gt
end

/-- Settles O54: each event, where its guard is met, is its meaning's one branch. -/
theorem recordEventsComplete : Obligations.RecordEventsComplete := by
  refine ⟨fun s u id m taken => ⟨fun r x c q w o body => ?_,
      fun c q x src v y body alone => tidemarkUpdateArrive_queue taken alone body,
      fun v n x src a t body alone => tidemarkUpdateArrive_stream taken alone body⟩,
    fun s c q u found => ⟨fun home unowed settled closed => ?_, overflowRecord_places found, windowTimeout_closes found,
      windowEndClose_closes found, fun k n late mask l => wcloseWrite_places found⟩,
    fun s n => ⟨fun due m waits late r x c q w o body => ?_, fun t => sensorHeartbeat_promises, fun t => timerExpiry_sends,
      fun j d r x g w o m u v => emitTimeout_withdraws⟩⟩
  · exact ⟨fun t => recordArrive_accepted body taken, fun t => recordArrive_rejected body taken,
      fun t y => recordArrive_refused body taken⟩
  · exact ⟨fun r l => recordResend_trap found home unowed settled closed,
      fun m l t => recordResend_waiter found home unowed settled closed⟩
  · exact ⟨fun t => recordResendRetry_accepted body waits late, fun t => recordResendRetry_rejected body waits late,
      fun t y => recordResendRetry_refused body waits late⟩

end Sys2Proof.Machine
end
section
/-! Receiving, emitting and time instructions of a task that is no gang's follower and not paired (R205, R210, R213, R223 to R230). -/

namespace Sys2Proof.Machine

variable {s : State} {a d : BitVec 5} {q : BitVec 4} {u : Queue}

/-! ### A completing instruction's frame -/

theorem elsewhereSame_setMe_advance (z : Slot) : ElsewhereSame s (s.setMe z).advance := by
  simp [ElsewhereSame, State.advance, State.goto]
/-- Where the slot's g registers are those of a write to gd, the completed instruction has written gd and no other g register. -/
theorem setMe_advance_frame {z : Slot} {x : Word} (writes : ∀ r, z.rg r = (s.me.wg d x).rg r) (pc : z.pc = s.me.pc) :
    let t := (s.setMe z).advance
    (d ≠ 0 → t.rg d = x) ∧ t.me.pc = s.nextPc ∧ GSame s t d ∧ ElsewhereSame s t := by
  have reads : ∀ r, (s.setMe z).advance.rg r = (s.me.wg d x).rg r := fun r => by
    rw [← writes r, State.rg, State.me_advance, State.me_setMe]
    rfl
  refine ⟨fun gd => (reads d).trans (Slot.rg_wg_self _ _ _ gd), ?_, fun r other => (reads r).trans (Slot.rg_wg_ne _ _ _ _ other),
    elsewhereSame_setMe_advance z⟩
  simp [State.nextPc, pc]

/-! ### Emitting and virtual time (R213, R225 to R230) -/

/-- An emit's record has left, and the slot waits for the status (R226). -/
def State.emitted (s : State) (w : Target) (d : BitVec 5) (r : Rec) : State :=
  (s.post (Agent.slot s.myCore s.mySlot) w.agent
    (.record r s.me.ctx.toNat w (.slot s.myCore s.mySlot s.me.taskid) false)).advance.modMe
      (fun k => { k with reply := some (d, s.msgSeq), life := .stalled .emit, started := s.dtime.toNat })
/-- The LATE flag of what the task emits (R225). -/
def State.lateFlag (s : State) : Nat := if tsBefore s.me.tsinh (s.toutOf s.myCore s.me.ctx.toNat) then 1 else 0
section
variable (alone : s.paired = false)
include alone
section
variable {w : Target}
theorem emit_run {x : Word} (target : emitTarget x s = .ok (w, s)) (p : Nat) (ext : List (BitVec 128)) : emit x p ext d s = .ok ((),
    s.emitted w d ⟨mkRec s.me.tsinh (s.srcId 1 s.myCore) 2 (s.lateFlag + (if ext.isEmpty then 0 else 4)) p, ext⟩) := by
  simp [emit, M.bind_run, target, outbound_alone _ _ _ _ alone, State.modMe_modMe, State.emitted, State.lateFlag]
variable {b : BitVec 5} (target : emitTarget (s.rg a) s = .ok (w, s))
include target
theorem emit_sends : exec (.emit b a d) s = .next (s.emitted w d
    ⟨mkRec s.me.tsinh (s.srcId 1 s.myCore) 2 s.lateFlag ((s.rg b).toNat % 2 ^ 48), []⟩) :=
  (runM_bind_ok (getG_run a s) _).trans ((runM_bind_ok (getG_run b s) _).trans (runM_ok (emit_run alone target _ _)))
theorem emitl_sends : let v := (s.rv b).toNat
    exec (.emitl b a d) s = .next (s.emitted w d ⟨mkRec s.me.tsinh (s.srcId 1 s.myCore) 2 (s.lateFlag + 4) (bits v 384 48),
      [BitVec.ofNat 128 v, BitVec.ofNat 128 (v / 2 ^ 128), BitVec.ofNat 128 (v / 2 ^ 256)]⟩) := by
  intro v
  exact (runM_bind_ok (getG_run a s) _).trans ((runM_get _).trans (runM_ok (emit_run alone target _ _)))
end
theorem tide_raises (leads : s.follower = false) :
    exec (.tide a) s = .next ((s.raiseTout s.myCore s.me.ctx.toNat ((s.rg a).setWidth 48)).advance) := by
  show execTide a s = _
  rw [execTide, leads]
  exact runM_ok (by simp [M.bind_run, outbound_alone _ _ _ _ alone])
theorem tsread_value {sl : BitVec 5} {x : Word} (value : tsValue sl.toNat (s.rg a) s = .ok (x, s)) :
    exec (.tsread sl a d) s = .next ((s.wg d x).advance) :=
  (runM_bind_ok (getG_run a s) _).trans ((runM_bind_ok value _).trans (runM_ok (retOnce_alone d x s alone)))
end
theorem tsread_illegal {sl : BitVec 5} (value : tsValue sl.toNat (s.rg a) s = .error (.trap (illegalTrap s))) :
    exec (.tsread sl a d) s = .next (takeTrap s (illegalTrap s)) :=
  (runM_bind_ok (getG_run a s) _).trans (runM_bind_trap value _)
theorem tsinh_raises : ∃ t, exec (.tsinh a d) s = .next t ∧ (d ≠ 0 → t.rg d = s.me.tsinh.setWidth 64) ∧
    t.me.tsinh = tsMax s.me.tsinh ((s.rg a).setWidth 48) ∧ t.me.pc = s.nextPc ∧ GSame s t d ∧ ElsewhereSame s t := by
  obtain ⟨gd, pc, others, elsewhere⟩ := setMe_advance_frame (s := s) (d := d) (x := s.me.tsinh.setWidth 64)
    (z := { s.me.wg d (s.me.tsinh.setWidth 64) with tsinh := tsMax s.me.tsinh ((s.rg a).setWidth 48) }) (fun _ => rfl) (by simp)
  refine ⟨_, rfl, ?_⟩
  rw [State.wg, State.modMe_modMe]
  exact ⟨gd, by simp [State.modMe], pc, others, elsewhere⟩

/-! ### A queue that is the task's (R210) -/

section
variable (found : (s.core s.myCore).queues.find q.toNat = some u) (bound : u.ctx = s.me.ctx.toNat)
include found
theorem myQueue_unfit {ok : Queue → Bool} (unfit : ok u = false) : myQueue q ok s = .error (.trap (illegalTrap s)) := by
  simp [myQueue, found, unfit]
include bound
theorem myQueue_mine {ok : Queue → Bool} (fits : ok u = true) : myQueue q ok s = .ok (u, s) := by
  simp [myQueue, found, bound, fits]

/-! ### Reading time stamps of a window (R229) -/

section
variable {x : Word}
omit bound in
/-- Selectors 1 to 3 of a queue without a window are illegal. -/
theorem tsValue_unwindowed {sl : Nat} (names : (if sl = 1 then bits x.toNat 8 4 else bits x.toNat 0 4) = q.toNat) (low : sl ≠ 0)
    (unwindowed : u.wlen = 0) : tsValue sl x s = .error (.trap (illegalTrap s)) := by
  unfold tsValue
  rw [M.bind_ok _ (M.get_run s), if_neg low]
  split
  · rfl
  · simp only [names, BitVec.ofNat_toNat, BitVec.setWidth_eq]
    exact M.bind_trap _ (myQueue_unfit found (by simp [unwindowed]))
section
variable (windowed : u.wlen ≠ 0)
include windowed
theorem tsValue_tidemark (names : bits x.toNat 8 4 = q.toNat) (listed : bits x.toNat 0 6 < s.myCtx.sources.length)
    (subscribed : u.subs.getLsbD (bits x.toNat 0 6) = true) :
    tsValue 1 x s = .ok ((u.tm.getD (bits x.toNat 0 6) 0).setWidth 64, s) := by
  simp [tsValue, M.bind_run, names, myQueue_mine found bound, windowed, listed.not_ge, subscribed]
theorem tsValue_unsubscribed (names : bits x.toNat 8 4 = q.toNat)
    (unknown : s.myCtx.sources.length ≤ bits x.toNat 0 6 ∨ u.subs.getLsbD (bits x.toNat 0 6) = false) :
    tsValue 1 x s = .error (.trap (illegalTrap s)) := by
  simp [tsValue, M.bind_run, names, myQueue_mine found bound, windowed, unknown]
variable (names : bits x.toNat 0 4 = q.toNat)
include names
theorem tsValue_lastClosed : tsValue 2 x s = .ok ((u.lastClosed.getD 0).setWidth 64, s) := by
  simp [tsValue, M.bind_run, M.map_run, names, myQueue_mine found bound, windowed]
theorem tsValue_open : tsValue 3 x s = .ok ((windowEnd u.wlen u.wphase u.window).setWidth 64, s) := by
  simp [tsValue, M.bind_run, M.map_run, names, myQueue_mine found bound, windowed]
end
end
end

/-! ### The record at the head (R223) -/

/-- An event register travels as two words (R314) that make it again. -/
theorem halves_ofNat (e : BitVec 128) :
    BitVec.ofNat 128 ((e.setWidth 64).toNat + (BitVec.ofNat 64 (e.toNat / 2 ^ 64)).toNat * 2 ^ 64) = e := by
  refine BitVec.eq_of_toNat_eq ?_
  simp only [BitVec.toNat_ofNat, BitVec.toNat_setWidth]
  omega
/-- Event registers as the words that the two cores of a pair pass on (R314). -/
def evWords (e : Vector (BitVec 128) 4) : List Word := e.toList.flatMap (fun e => [e.setWidth 64, BitVec.ofNat 64 (e.toNat / 2 ^ 64)])
theorem evWords_eq (e : Vector (BitVec 128) 4) : evWords e = [e[0].setWidth 64, BitVec.ofNat 64 (e[0].toNat / 2 ^ 64),
    e[1].setWidth 64, BitVec.ofNat 64 (e[1].toNat / 2 ^ 64), e[2].setWidth 64, BitVec.ofNat 64 (e[2].toNat / 2 ^ 64),
    e[3].setWidth 64, BitVec.ofNat 64 (e[3].toNat / 2 ^ 64)] := by
  have four : e.toList = [e[0], e[1], e[2], e[3]] := List.ext_getElem (by simp) fun i h _ => by
    have low : i < 4 := by simpa using h
    interval_cases i <;> simp
  rw [evWords, four]
  rfl
theorem evs_evWords (e : Vector (BitVec 128) 4) (x y : Word) : Vector.ofFn (fun i : Fin 4 =>
    BitVec.ofNat 128 (((x :: evWords e ++ [y])[2 * i.val + 1]?.getD 0).toNat +
      ((x :: evWords e ++ [y])[2 * i.val + 2]?.getD 0).toNat * 2 ^ 64)) = e := by
  rw [evWords_eq]
  ext i low : 1
  rw [Vector.getElem_ofFn]
  interval_cases i <;> exact halves_ofNat _
/-- The slot with the event registers and the stamp of a record (R223). -/
def Slot.withHead (t : Slot) (r : Rec) : Slot := { t with ev := r.evs, tsinh := r.ts }
theorem Slot.rg_wg_withHead (t : Slot) (r : Rec) (x : Word) (k : BitVec 5) : ((t.withHead r).wg d x).rg k = (t.wg d x).rg k := by
  unfold Slot.wg
  split <;> rfl
theorem readHead_words (x : Word) (r : Rec) : readHead d (x :: evWords r.evs ++ [r.ts.setWidth 64]) s =
    .ok ((), ((s.modMe (fun t => t.withHead r)).wg d x).advance) := by
  have stamp : ((x :: evWords r.evs ++ [r.ts.setWidth 64])[9]?.getD 0).setWidth 48 = r.ts := by
    rw [evWords_eq]
    exact BitVec.setWidth_setWidth_of_le _ (by decide)
  simp only [readHead, evs_evWords, stamp]
  rfl
/-- What RECV and RPEEK take from the record at the head (R223). -/
theorem readHead_takes (small : u.size ≤ 15) : ∃ t, readHead d (s.headWords u) s = .ok ((), t) ∧
    (d ≠ 0 → (t.rg d).toNat = 1 + (if (s.ringRec s.myCore u u.head).2 = 4 then 2 else 0) + u.head % 2 ^ u.size * 2 ^ 16) ∧
    t.me.ev = (s.ringRec s.myCore u u.head).1.evs ∧ t.me.tsinh = (s.ringRec s.myCore u u.head).1.ts ∧ t.me.pc = s.nextPc ∧
    GSame s t d ∧ ElsewhereSame s t := by
  obtain ⟨p, head⟩ : ∃ p, s.ringRec s.myCore u u.head = p := ⟨_, rfl⟩
  obtain ⟨n, position⟩ : ∃ n, 1 + (if p.2 = 4 then 2 else 0) + u.head % 2 ^ u.size * 2 ^ 16 = n := ⟨_, rfl⟩
  have fits : n < 2 ^ 64 := by
    have inside : u.head % 2 ^ u.size < 2 ^ u.size := Nat.mod_lt _ (by positivity)
    have ring : 2 ^ u.size ≤ 2 ^ 15 := Nat.pow_le_pow_right (by decide) small
    rw [← position]
    split <;> omega
  have runs := readHead_words (s := s) (d := d) (BitVec.ofNat 64 n) p.1
  obtain ⟨gd, pc, others, elsewhere⟩ := setMe_advance_frame (s.me.rg_wg_withHead p.1 (BitVec.ofNat 64 n)) (by simp [Slot.withHead])
  rw [State.wg, State.modMe_modMe] at runs
  rw [head, position]
  refine ⟨_, ?_, fun written => ?_, ?_, ?_, pc, others, elsewhere⟩
  · rw [State.headWords, head]
    simp only [position]
    exact runs
  · rw [gd written, BitVec.toNat_ofNat, Nat.mod_eq_of_lt fits]
  · simp [Slot.withHead]
  · simp [Slot.withHead]

/-! ### A queue in a new state, and the close that it frees (R213) -/

/-- A core's queue in a new state. -/
def State.putQueue (s : State) (c q : Nat) (u : Queue) : State := s.modCore c (fun k => { k with queues := k.queues.set q u })
@[simp] theorem State.find_putQueue (s : State) (c q : Nat) (u : Queue) : ((s.putQueue c q u).core c).queues.find q = some u := by
  simp [State.putQueue]
@[simp] theorem State.putQueue_putQueue (s : State) (c q : Nat) (u v : Queue) : (s.putQueue c q u).putQueue c q v = s.putQueue c q v := by
  simp [State.putQueue, State.modCore]
/-- A queue whose head stands past a record of `n` entries (R206). -/
def Queue.past (u : Queue) (n : Nat) : Queue := { u with head := (u.head + n) % 2 ^ (u.size + 1) }
/-- A queue of which a close that ends at `t` is consumed (R213). -/
def Queue.consumed (u : Queue) (t : BitVec 48) : Queue := { u with done := tsMax u.done t }
theorem State.consumeClose_plain (s : State) (c q : Nat) {u : Queue} (t : BitVec 48) (plain : u.tadv = false) :
    (s.putQueue c q u).consumeClose c q t = s.putQueue c q u := by
  simp [State.consumeClose, plain]
/-- The end of a consumed close moves T_out to the least of the context's `TADV` queues (R213). -/
theorem State.consumeClose_raises (s : State) (c q : Nat) {u : Queue} (t : BitVec 48) (advances : u.tadv = true) {x : BitVec 48}
    {l : List (BitVec 48)} (dones : (((s.putQueue c q (u.consumed t)).core c).queues.filter
      (fun p => p.2.ctx == u.ctx && p.2.tadv)).map (fun p => p.2.done) = x :: l) : (s.putQueue c q u).consumeClose c q t =
        (s.putQueue c q (u.consumed t)).raiseTout c u.ctx (l.foldl tsMin x) := by
  have again := s.putQueue_putQueue c q u (u.consumed t)
  rw [State.putQueue, Queue.consumed] at again
  rw [State.consumeClose, State.find_putQueue]
  refine (if_neg (by simp [advances])).trans ?_
  simp only [again]
  rw [show { u with done := tsMax u.done t } = u.consumed t from rfl]
  simp only [dones]

/-! ### Receiving from a queue (R213, R223, R224) -/

section
variable (leads : s.follower = false) (found : (s.core s.myCore).queues.find q.toNat = some u) (bound : u.ctx = s.me.ctx.toNat)
include leads found bound
section
variable (polled : u.poll = true)
include polled
theorem rack_empty (empty : u.tail = u.head) : exec (.rack q) s = .next s.advance := by
  show execRack q s = _
  rw [execRack, leads]
  exact (runM_bind_ok (myQueue_mine found bound polled) _).trans (runM_ok (by simp [M.bind_run, empty]))
section
variable (stands : u.tail ≠ u.head) {r : Rec} {n : Nat} (head : s.ringRec s.myCore u u.head = (r, n))
include stands head
theorem rack_frees : exec (.rack q) s = .next (if r.kind = 5 then
    (s.putQueue s.myCore q.toNat (u.past n)).consumeClose s.myCore q.toNat r.ts else s.putQueue s.myCore q.toNat (u.past n)).advance := by
  show execRack q s = _
  rw [execRack, leads]
  exact (runM_bind_ok (myQueue_mine found bound polled) _).trans
    (runM_ok (by simp [M.bind_run, stands, head, State.putQueue, Queue.past]))
theorem rack_passes (other : r.kind ≠ 5 ∨ u.tadv = false) :
    exec (.rack q) s = .next (s.putQueue s.myCore q.toNat (u.past n)).advance := by
  rw [rack_frees leads found bound polled stands head]
  split
  · next close => rw [State.consumeClose_plain (u := u.past n) _ _ _ _ (other.resolve_left (not_not.2 close))]
  · rfl
theorem rack_raises (close : r.kind = 5) (advances : u.tadv = true) {x : BitVec 48} {l : List (BitVec 48)}
    (dones : (((s.putQueue s.myCore q.toNat ((u.past n).consumed r.ts)).core s.myCore).queues.filter
      (fun p => p.2.ctx == u.ctx && p.2.tadv)).map (fun p => p.2.done) = x :: l) : exec (.rack q) s = .next
        (((s.putQueue s.myCore q.toNat ((u.past n).consumed r.ts)).raiseTout s.myCore u.ctx (l.foldl tsMin x)).advance) := by
  rw [rack_frees leads found bound polled stands head, if_pos close, State.consumeClose_raises (u := u.past n) _ _ _ _ advances dones]
  rfl
end
end
section
variable (alone : s.paired = false)
include alone
theorem qstat_positions : exec (.qstat q 0 d) s = .next ((s.wg d (BitVec.ofNat 64 (u.head % 2 ^ u.size +
    (if u.ovfPending then 2 ^ 16 else 0) + u.tail % 2 ^ u.size * 2 ^ 32 + u.free * 2 ^ 48))).advance) := by
  show execQstat q 0 d s = _
  rw [execQstat, leads]
  exact (runM_bind_ok (myQueue_mine found bound rfl) _).trans (runM_ok (retOnce_alone _ _ _ alone))
theorem qstat_drops : exec (.qstat q 1 d) s =
    .next ((s.wg d (BitVec.ofNat 64 (u.drops.toNat + u.lateDrops.toNat * 2 ^ 32))).advance) := by
  show execQstat q 1 d s = _
  rw [execQstat, leads]
  exact (runM_bind_ok (myQueue_mine found bound rfl) _).trans (runM_ok (retOnce_alone _ _ _ alone))
theorem qstat_late : exec (.qstat q 2 d) s = .next ((s.wg d (u.lateCount.setWidth 64)).advance) := by
  show execQstat q 2 d s = _
  rw [execQstat, leads, ← BitVec.ofNat_toNat]
  exact (runM_bind_ok (myQueue_mine found bound rfl) _).trans (runM_ok (retOnce_alone _ _ _ alone))
variable (polled : u.poll = true)
include polled
section
variable (stands : u.tail ≠ u.head)
include stands
theorem rpeek_runs : exec (.rpeek q d) s = runM (readHead d (s.headWords u)) s := by
  have obtains : obtained (fun s => .ok (if u.tail = u.head then [] else s.headWords u, s)) s = .ok (s.headWords u, s) := by
    rw [obtained_alone _ _ alone, if_neg stands]
  show execRpeek q d s = _
  rw [execRpeek, leads]
  exact (runM_bind_ok (myQueue_mine found bound polled) _).trans (runM_bind_ok obtains _)
theorem recv_runs (slot : s.mySlot ≠ 4) : exec (.recv q d) s = runM (readHead d (s.headWords u)) s := by
  have obtains : obtained (fun s => if u.tail = u.head then .error (.wait .recv s) else .ok (s.headWords u, s)) s =
      .ok (s.headWords u, s) := by
    rw [obtained_alone _ _ alone, if_neg stands]
  show execRecv q d s = _
  rw [execRecv, leads]
  exact (runM_outside_service slot _).trans ((runM_bind_ok (myQueue_mine found bound polled) _).trans (runM_bind_ok obtains _))
end
section
variable (empty : u.tail = u.head)
include empty
theorem rpeek_empty : exec (.rpeek q d) s = .next ((s.wg d 0).advance) := by
  have obtains : obtained (fun s => .ok (if u.tail = u.head then [] else s.headWords u, s)) s = .ok ([], s) := by
    rw [obtained_alone _ _ alone, if_pos empty]
  show execRpeek q d s = _
  rw [execRpeek, leads]
  exact (runM_bind_ok (myQueue_mine found bound polled) _).trans (runM_bind_ok obtains _)
theorem recv_waits (slot : s.mySlot ≠ 4) : exec (.recv q d) s = .next (stall s .recv) := by
  have waits : obtained (fun s => if u.tail = u.head then .error (.wait .recv s) else .ok (s.headWords u, s)) s =
      .error (.wait .recv s) := by
    rw [obtained_alone _ _ alone, if_pos empty]
  show execRecv q d s = _
  rw [execRecv, leads]
  exact (runM_outside_service slot _).trans ((runM_bind_ok (myQueue_mine found bound polled) _).trans
    (runM_wait (M.bind_wait _ waits)))
end
end
end

/-- Settles O45: past its checks, each instruction comes to its one effect; the record at the head is read as R223 gives, and RACK
puts the queue past it, with a close consumed (`rack_passes`, `rack_raises`). -/
theorem queueInstructionResults : Obligations.QueueInstructionResults := by
  intro s b a d leads alone
  refine ⟨fun w target => ⟨emit_sends alone target, emitl_sends alone target⟩, tide_raises alone leads, tsread_value alone rfl,
    tsinh_raises, fun q u found bound => ⟨qstat_positions leads found bound alone, qstat_drops leads found bound alone,
      qstat_late leads found bound alone, fun names => ⟨?_, fun unfit => ?_⟩,
      fun names => ⟨fun windowed => ?_, fun unwindowed => ?_⟩, fun polled => ⟨fun small stands => ?_, fun empty => ?_, fun stands => ?_⟩⟩⟩
  · exact fun windowed listed subscribed => tsread_value alone (tsValue_tidemark found bound windowed names listed subscribed)
  · refine tsread_illegal ?_
    by_cases windowed : u.wlen = 0
    · exact tsValue_unwindowed found names (by decide) windowed
    · exact tsValue_unsubscribed found bound windowed names (unfit.resolve_left windowed)
  · exact ⟨tsread_value alone (tsValue_lastClosed found bound windowed names),
      tsread_value alone (tsValue_open found bound windowed names)⟩
  · exact ⟨tsread_illegal (tsValue_unwindowed found names (by decide) unwindowed),
      tsread_illegal (tsValue_unwindowed found names (by decide) unwindowed)⟩
  · obtain ⟨t, reads, outcome⟩ := readHead_takes (s := s) (d := d) small
    exact ⟨⟨t, (rpeek_runs leads found bound alone polled stands).trans (runM_ok reads), outcome⟩,
      fun slot => ⟨t, (recv_runs leads found bound alone polled stands slot).trans (runM_ok reads), outcome⟩⟩
  · exact ⟨rpeek_empty leads found bound alone polled empty, rack_empty leads found bound polled empty,
      recv_waits leads found bound alone polled empty⟩
  · exact ⟨rack_passes leads found bound polled stands Prod.mk.eta.symm,
      fun close advances x l => rack_raises leads found bound polled stands Prod.mk.eta.symm close advances⟩

end Sys2Proof.Machine
end

section
/-! Tile streams' and tiles' instructions of a task that is no gang's follower and not paired (R242, R245 to R248). -/

namespace Sys2Proof.Machine

/-! ### What a local range that is made present leaves (R345, R346) -/

/-- The issuing slot, every cove and every context stand as they were. -/
structure State.SameIssuer (s t : State) : Prop where
  cur : t.cur = s.cur
  me : t.me = s.me
  coves : t.coves = s.coves
  ctxs : t.ctxs = s.ctxs
theorem State.SameIssuer.refl (s : State) : s.SameIssuer s := ⟨rfl, rfl, rfl, rfl⟩
theorem State.SameIssuer.trans {s t u : State} (h : s.SameIssuer t) (g : t.SameIssuer u) : s.SameIssuer u :=
  ⟨g.cur.trans h.cur, g.me.trans h.me, g.coves.trans h.coves, g.ctxs.trans h.ctxs⟩
section
variable {s t : State} (same : s.SameIssuer t)
include same
theorem State.SameIssuer.myCore : t.myCore = s.myCore := congrArg (·.core.val) same.cur
theorem State.SameIssuer.mySlot : t.mySlot = s.mySlot := congrArg (·.slot.val) same.cur
theorem State.SameIssuer.cove (v : Nat) : t.cove v = s.cove v := 
  congrArg (fun l : FMap Cove => l.getD v {}) same.coves
theorem State.SameIssuer.paired : t.paired = s.paired := by
  rw [State.paired, State.myCtx, State.ctx, same.ctxs, same.me]
  rfl
theorem State.SameIssuer.tgetStatus (h : Nat) : tgetStatus t h = tgetStatus s h := by
  simp only [Machine.tgetStatus, same.cove, same.me, same.myCore, same.mySlot]
end

theorem localAddr_sameIssuer {ta : Word} {la n a : Nat} {store : Bool} {s t : State} (runs : localAddr ta la n store s = .ok (a, t)) :
    s.SameIssuer t := by
  simp only [localAddr] at runs
  split at runs
  · cases runs
  · split at runs
    case h_4 =>
      split at runs <;> cases runs
      exact ⟨rfl, State.me_modCore ((Core.sameData_touch _ _ _).trans (Core.sameData_entered _ _ _ _)).slots, rfl, rfl⟩
    all_goals cases runs
theorem forM_localAddr_sameIssuer {ta : Word} {la : Nat → Nat} {n : Nat} {store : Bool} (pages : List Nat) {s t : State}
    (runs : (pages.forM (fun i => do let _ ← localAddr ta (la i) n store; pure ()) : M Unit) s = .ok ((), t)) : s.SameIssuer t := by
  induction pages generalizing s with
  | nil =>
    cases runs
    exact .refl _
  | cons i pages ih =>
    rw [List.forM, M.bind_run, M.bind_run] at runs
    cases page : localAddr ta (la i) n store s with
    | error stop => simp [page] at runs
    | ok p =>
      rw [page] at runs
      exact (localAddr_sameIssuer page).trans (ih runs)
theorem localRange_sameIssuer {ta : Word} {la n : Nat} {store : Bool} {s t : State} (runs : localRange ta la n store s = .ok ((), t)) :
    s.SameIssuer t := by
  simp only [localRange] at runs
  split at runs
  · cases runs
  · exact forM_localAddr_sameIssuer _ runs

/-! ### The checks before an instruction's effect (R232, R245) -/

theorem runM_leads {s : State} {d : BitVec 5} (leads : s.follower = false) (x : M Unit) : runM (leaderOnly d x) s = runM x s :=
  congrArg (finish s) (leaderOnly_leads d x s leads)
section
variable {s : State} {a : BitVec 5}
theorem handleArg_names (names : (s.rg a).toNat < 2 ^ 16) : handleArg a s = .ok ((s.rg a).toNat, s) := if_neg names.not_ge
theorem handleArg_illegal (wide : 2 ^ 16 ≤ (s.rg a).toNat) : handleArg a s = .error (.trap (illegalTrap s)) := if_pos wide
theorem myStream_mine {n : BitVec 3} {k : TileStream} (found : (s.cove (coveOf s.myCore)).bw.streams.find n.toNat = some k)
    (bound : k.ctx = s.me.ctx.toNat) : myStream n s = .ok (k, s) := by
  simp only [myStream, found, bound, if_true]
end

/-! ### What the instructions send, begin and read (R242, R246 to R248) -/

/-- `TFLUSH` has left, and the slot waits for the count of the tiles that it sealed (R246). -/
def State.flushed (s : State) (n : BitVec 3) (d : BitVec 5) : State :=
  (s.post (Agent.slot s.myCore s.mySlot) (Agent.tileStream (coveOf s.myCore) n.toNat)
    (.flush (coveOf s.myCore) n.toNat s.myCore s.mySlot s.me.ctx.toNat s.me.taskid)).advance.modMe
      (fun t => { t with reply := some (d, s.msgSeq), life := .stalled .reply })
@[simp] theorem State.me_flushed (s : State) (n : BitVec 3) (d : BitVec 5) : (s.flushed n d).me =
    { s.me.settle with pc := s.nextPc, reply := some (d, s.msgSeq), life := .stalled .reply } := by
  simp [State.flushed]
@[simp] theorem State.net_flushed (s : State) (n : BitVec 3) (d : BitVec 5) : (s.flushed n d).net = s.net ++ [⟨s.msgSeq,
    Agent.slot s.myCore s.mySlot, Agent.tileStream (coveOf s.myCore) n.toNat,
    .flush (coveOf s.myCore) n.toNat s.myCore s.mySlot s.me.ctx.toNat s.me.taskid⟩] := rfl
/-- A copy of a tile to local memory has begun, and the slot waits for its end (R246). -/
def State.startCopy (s : State) (d : BitVec 5) (p : Nat × Nat × Word) : State :=
  s.advance.modMe (fun t => { t with reply := some (d, s.msgSeq), life := .stalled .reply, copying := some p })
@[simp] theorem State.me_startCopy (s : State) (d : BitVec 5) (p : Nat × Nat × Word) : (s.startCopy d p).me =
    { s.me.settle with pc := s.nextPc, reply := some (d, s.msgSeq), life := .stalled .reply, copying := some p } := by
  simp [State.startCopy]
/-- Bytes of a tile's data are few (Table 11.3). -/
theorem TileStream.dataBytes_le (t : TileStream) : t.dataBytes ≤ 2 * 2 * 70 ^ 2 := by
  have field (w lo n : Nat) : t.f w lo n < 2 ^ n := Nat.mod_lt _ (by positivity)
  have channels : t.channels ≤ 2 := by have := field 0 43 1; unfold TileStream.channels; omega
  have edge : t.edge ≤ 70 := by
    have halo := field 0 44 2
    have side : 2 ^ t.f 0 46 2 ≤ 2 ^ 3 := Nat.pow_le_pow_right (by decide) (Nat.le_of_lt_succ (field 0 46 2))
    unfold TileStream.edge TileStream.side TileStream.halo
    omega
  have plane : t.channels * t.edge ^ 2 ≤ 2 * 70 ^ 2 := Nat.mul_le_mul channels (Nat.pow_le_pow_left edge 2)
  unfold TileStream.dataBytes
  split
  · rw [Nat.mul_assoc]
    omega
  · decide
  · omega
/-- What `TSTAT` reads of a stream `k` by its selector (R248). -/
def State.streamStat (s : State) (n : BitVec 3) (k : TileStream) (sl : BitVec 5) : Nat :=
  let b := (s.cove (coveOf s.myCore)).bw
  let count (p : TileState → Bool) : Nat := (b.tiles.filter (fun o => o.stream == n.toNat && p o.state)).length
  match sl.toNat with
  | 0 => count (fun x => x != .collecting && x != .freeing) + count (· == .collecting) * 2 ^ 16 + b.heldBy n.toNat * 2 ^ 32 +
      b.freeBlocks * 2 ^ 48
  | 1 => k.late.toNat + k.outside.toNat * 2 ^ 32
  | _ => k.fifo.toNat + k.pressure.toNat * 2 ^ 32
/-- A tile's state as `TSTAT` writes it (Table 11.5). -/
def TileState.code : TileState → Nat
  | .collecting => 1
  | .sealed => 2
  | .dispatched => 3
  | .claimed => 4
  | .inJob => 5
  | .freeing => 0

section
variable {s : State} {a b d : BitVec 5} {n : BitVec 3} (leads : s.follower = false)
include leads
section
variable {k : TileStream} (found : (s.cove (coveOf s.myCore)).bw.streams.find n.toNat = some k) (bound : k.ctx = s.me.ctx.toNat)
  (alone : s.paired = false)
include found bound alone
theorem tflush_asks (slot : s.mySlot ≠ 4) : exec (.tflush n d) s = .next (s.flushed n d) := by
  show execTflush n d s = _
  rw [execTflush, runM_leads leads, runM_outside_service slot]
  exact (runM_bind_ok (myStream_mine found bound) _).trans ((runM_bind_ok (outbound_alone _ _ _ s alone) _).trans (runM_ok rfl))
theorem tstat_reads (sl : BitVec 5) :
    exec (.tstat n sl d) s = .next ((s.wg d (BitVec.ofNat 64 (s.streamStat n k sl))).advance) := by
  show execTstat n sl d s = _
  rw [execTstat, runM_leads leads]
  exact (runM_bind_ok (myStream_mine found bound) _).trans (runM_ok (retOnce_alone d _ s alone))
end

section
variable (names : (s.rg a).toNat < 2 ^ 16)
include names
section
variable (alone : s.paired = false)
include alone
section
variable (aligned : (s.rg b).toNat % 64 = 0)
include aligned
theorem tget_status {st : Nat} (status : tgetStatus s (s.rg a).toNat = (st, none)) :
    exec (.tget b a d) s = .next ((s.wg d (BitVec.ofNat 64 st)).advance) := by
  show execTget b a d s = _
  rw [execTget, runM_leads leads]
  refine runM_ok ?_
  simp [M.bind_run, handleArg_names names, aligned, outbound_alone _ _ _ _ alone, obtained_alone _ _ alone, status]
theorem tget_claims {k : Tile} {s1 s2 : State} {size : Nat} (status : tgetStatus s (s.rg a).toNat = (0, some k)) (small : k.num < 2 ^ 64)
    (bytes : 32 + ((s.cove (coveOf s.myCore)).bw.stream k.stream).dataBytes = size)
    (present : localRange (s.rg b) (s.rg b).toNat size true s = .ok ((), s1))
    (stays : localRange (s.rg b) (s.rg b).toNat size true (s1.claimTile k) = .ok ((), s2)) :
    exec (.tget b a d) s = .next (s2.startCopy d (k.num, (s.rg b).toNat, BitVec.ofNat 64 size <<< 16)) := by
  have same := localRange_sameIssuer present
  have still : s1.paired = false := same.paired.trans alone
  have few : size < 2 ^ 64 := by have := ((s.cove (coveOf s.myCore)).bw.stream k.stream).dataBytes_le; omega
  have answered : (BitVec.ofNat 64 size).toNat = size ∧ (BitVec.ofNat 64 k.num).toNat = k.num :=
    ⟨(BitVec.toNat_ofNat _ _).trans (Nat.mod_eq_of_lt few), (BitVec.toNat_ofNat _ _).trans (Nat.mod_eq_of_lt small)⟩
  show execTget b a d s = _
  rw [execTget, runM_leads leads]
  refine runM_ok ?_
  simp [-BitVec.toNat_ofNat, M.bind_run, M.map_run, handleArg_names names, aligned, outbound_alone _ _ _ _ alone, status, bytes, present,
    obtained_alone _ _ still, same.tgetStatus, same.cove, same.myCore, answered, stays, State.startCopy, State.modMe_modMe]
end
theorem trel_status {st : Nat} (status : trelStatus s (s.rg a).toNat = (st, none)) :
    exec (.trel a d) s = .next ((s.wg d (BitVec.ofNat 64 st)).advance) := by
  show execTrel a d s = _
  rw [execTrel, runM_leads leads]
  refine runM_ok ?_
  simp [M.bind_run, handleArg_names names, outbound_alone _ _ _ _ alone, obtained_alone _ _ alone, status]
theorem trel_frees {k : Tile} (status : trelStatus s (s.rg a).toNat = (0, some k)) :
    exec (.trel a d) s = .next (((s.modCove (coveOf s.myCore)
      (fun v => { v with bw := v.bw.release (fun o => o.num == k.num) })).wg d 0).advance) := by
  show execTrel a d s = _
  rw [execTrel, runM_leads leads]
  refine runM_ok ?_
  simp [M.bind_run, M.map_run, handleArg_names names, outbound_alone _ _ _ _ alone, obtained_alone _ _ alone, status]
theorem tstatHandle_none (stale : (s.cove (coveOf s.myCore)).bw.named (s.rg a).toNat = none) :
    exec (.tstatHandle a d) s = .next ((s.wg d 0).advance) := by
  show execTstatHandle a d s = _
  rw [execTstatHandle, runM_leads leads]
  refine (runM_bind_ok (handleArg_names names) _).trans (runM_ok ((retOnce_alone d _ s alone).trans ?_))
  simp only [stale]
  rfl
theorem tstatHandle_tile {k : Tile} (named : (s.cove (coveOf s.myCore)).bw.named (s.rg a).toNat = some k) : exec (.tstatHandle a d) s =
    .next ((s.wg d (BitVec.ofNat 64 (k.state.code + k.cause * 2 ^ 4 + (if k.early then 2 ^ 8 else 0) + k.home * 2 ^ 16))).advance) := by
  show execTstatHandle a d s = _
  rw [execTstatHandle, runM_leads leads]
  refine (runM_bind_ok (handleArg_names names) _).trans (runM_ok ((retOnce_alone d _ s alone).trans ?_))
  simp only [named]
  rfl
end
end
section
variable (wide : 2 ^ 16 ≤ (s.rg a).toNat)
include wide
theorem tget_illegal : exec (.tget b a d) s = .next (takeTrap s (illegalTrap s)) :=
  (runM_leads leads _).trans (runM_bind_trap (handleArg_illegal wide) _)
theorem trel_illegal : exec (.trel a d) s = .next (takeTrap s (illegalTrap s)) :=
  (runM_leads leads _).trans (runM_bind_trap (handleArg_illegal wide) _)
theorem tstatHandle_illegal : exec (.tstatHandle a d) s = .next (takeTrap s (illegalTrap s)) :=
  (runM_leads leads _).trans (runM_bind_trap (handleArg_illegal wide) _)
end
end

/-- Settles O46: past its checks each instruction comes to its one effect; the range that TGET makes present leaves the tile's
status as it was (`localRange_sameIssuer`). -/
theorem tileInstructionResults : Obligations.TileInstructionResults := by
  intro s n b a d leads alone bw h
  refine ⟨fun k found bound => ⟨fun slot => ⟨s.flushed n d, tflush_asks leads found bound alone slot, ?_⟩,
      tstat_reads leads found bound alone 1, tstat_reads leads found bound alone 2, tstat_reads leads found bound alone 0⟩,
    fun names aligned => ⟨fun st status _ => tget_status leads names alone aligned status,
      fun k s1 s2 status => ?_⟩,
    fun names => ⟨fun st => trel_status leads names alone, fun k => trel_frees leads names alone⟩,
    fun names => ⟨tstatHandle_none leads names alone, fun k named => ⟨k.state.code, tstatHandle_tile leads names alone named, ?_⟩⟩,
    fun wide => ⟨tget_illegal leads wide, trel_illegal leads wide, tstatHandle_illegal leads wide⟩⟩
  · simp [State.rg, Slot.rg, Slot.settle]
  · intro size small present stays
    exact ⟨_, tget_claims leads names alone aligned status small rfl present stays, by simp [size, bw]⟩
  · exact ⟨congrArg TileState.code, congrArg TileState.code, congrArg TileState.code, congrArg TileState.code, congrArg TileState.code⟩

end Sys2Proof.Machine
end

section
/-! The steps of a cove's Breakwater where they are enabled: what enters its FIFO, the FIFO's steps, seals, windows, and the
tiles that leave (R235 to R237, R239, R240, R242 to R244). -/

namespace Sys2Proof.Machine

/-! ### What the FIFO's first item leaves as it is taken (R235) -/

section
variable (s : State) (v : Nat)
@[simp] theorem State.streams_bwPop : ((s.bwPop v).cove v).bw.streams = (s.cove v).bw.streams := by simp [State.bwPop]
@[simp] theorem State.tiles_bwPop : ((s.bwPop v).cove v).bw.tiles = (s.cove v).bw.tiles := by simp [State.bwPop]
@[simp] theorem State.ctx_bwPop (x : Nat) : (s.bwPop v).ctx x = s.ctx x := rfl
end

/-! ### What enters the FIFO (R235, R242, R246) -/

section
variable {s u : State} {id : Nat} {m : Msg} (taken : s.take id = some (m, u))
include taken
section
variable {r : Rec} {x v n : Nat} {w : Sender} {o : Bool} (body : m.body = .record r x (.stream v n) w o)
include body
theorem bwRecordArrive_rejects (unbound : (u.cove v).bw.streams.find n = none ∨ (u.ctx x).stopped = true) :
    exec (.bwRecordArrive id) s = .next (u.tell m w 2) := by
  refine onMessage_taken taken ?_
  rcases unbound with missing | stopped
  · simp [body, missing]
  · cases found : (u.cove v).bw.streams.find n <;> simp [body, found, stopped]
variable {t : TileStream} (found : (u.cove v).bw.streams.find n = some t) (bound : t.ctx = x) (live : (u.ctx x).stopped = false)
include found bound live
theorem bwRecordArrive_enters (room : (u.cove v).bw.fifo.length < 256) : exec (.bwRecordArrive id) s =
    .next ((u.modCove v (fun k => { k with bw := { k.bw with fifo := k.bw.fifo ++ [.record n r] } })).tell m w 0) :=
  onMessage_taken taken (by simp [body, found, bound, live, room])
theorem bwRecordArrive_drops (full : 256 ≤ (u.cove v).bw.fifo.length) (sensor : r.cls = 0) :
    exec (.bwRecordArrive id) s = .next (u.modStream v n (fun t => { t with fifo := bump t.fifo })) :=
  onMessage_taken taken (by simp [body, found, bound, live, full.not_gt, sensor])
end
theorem bwRecordArrive_flush {v n c j x : Nat} {task : BitVec 32} (body : m.body = .flush v n c j x task)
    (room : (u.cove v).bw.fifo.length < 256)
    (first : u.net.any (fun o => o.dst == m.dst && decide (o.id < m.id) && o.src / 8 == c) = false) : exec (.bwRecordArrive id) s =
    .next (u.modCove v (fun k => { k with bw := { k.bw with fifo := k.bw.fifo ++ [.flush n c j x task m.id] } })) :=
  onMessage_taken taken (by simp only [body, first, room.not_ge]; rfl)
end

/-! ### The FIFO's steps (R236, R237, R242, R246) -/

section
variable {s : State} {v : Nat}
section
variable {n : Nat} {t : TileStream} (found : (s.cove v).bw.streams.find n = some t)
include found
/-- A record lands; a sensor record at a stream with windows then advances its source's tidemark. -/
theorem bwRecordStep_lands {r : Rec} {l : List FifoItem} (head : (s.cove v).bw.fifo = .record n r :: l)
    (live : (s.ctx t.ctx).stopped = false) : exec (.bwRecordStep v) s = .next ((let u := (s.bwPop v).bwRecord v n t r
    if r.cls = 0 ∧ t.wlen ≠ 0 then (u.modStream v n (fun t => t.tide (u.ctx t.ctx) r.src r.ts)).closeStream v n
    else u).sendBwTide v t.ctx) := by
  show execBwRecordStep v s = _
  simp only [execBwRecordStep, head, State.streams_bwPop, found, State.ctx_bwPop, live, Bool.false_eq_true, if_false]
theorem bwTidemarkStep_advances {src : BitVec 16} {a : BitVec 48} {l : List FifoItem}
    (head : (s.cove v).bw.fifo = .tidemark n src a :: l) : exec (.bwTidemarkStep v) s =
    .next ((((s.bwPop v).modStream v n (fun t => t.tide (s.ctx t.ctx) src a)).closeStream v n).sendBwTide v t.ctx) := by
  show execBwTidemarkStep v s = _
  simp only [execBwTidemarkStep, head, State.streams_bwPop, found, State.ctx_bwPop]
end
theorem bwFlushStep_answers {n c j x ask : Nat} {task : BitVec 32} {l : List FifoItem} {u : State}
    (head : (s.cove v).bw.fifo = .flush n c j x task ask :: l)
    (answered : (((s.bwPop v).sealAll v (fun t => t.stream == n && t.ctx == x) 4).sendBwTide v x).giveReply c j task ask
      (BitVec.ofNat 64 ((s.cove v).bw.tiles.filter (fun t => decide (t.state = .collecting) && (t.stream == n && t.ctx == x) &&
        decide (t.home ≥ 1))).length) = some u) : exec (.bwFlushStep v) s = .next u := by
  show execBwFlushStep v s = _
  simp only [execBwFlushStep, head, State.tiles_bwPop, answered, Option.getD_some]
section
variable {num : Nat} {l : List FifoItem} (head : (s.cove v).bw.fifo = .release num :: l) (uncopied : s.copied v num = false)
include head uncopied
theorem bwReleaseStep_returns (unread : (s.cove v).jobHolds num = false) : exec (.bwReleaseStep v) s =
    .next ((s.bwPop v).modCove v (fun k => { k with bw := { k.bw with tiles := k.bw.tiles.filter (fun t => t.num != num) } })) := by
  show execBwReleaseStep v s = _
  simp only [execBwReleaseStep, head, uncopied, unread, Bool.false_eq_true, if_false]
theorem bwReleaseStep_keeps (read : (s.cove v).jobHolds num = true) : exec (.bwReleaseStep v) s = .next (s.bwPop v) := by
  show execBwReleaseStep v s = _
  simp only [execBwReleaseStep, head, uncopied, read, Bool.false_eq_true, if_false, if_true]
end

/-! ### Seals and windows (R236, R239, R240) -/

theorem bwAgeSeal_seals {num : Nat} {o : Tile} (found : (s.cove v).bw.tile num = some o) (collecting : o.state = .collecting)
    (home : 1 ≤ o.home) (aged : o.tfirst + ((s.cove v).bw.stream o.stream).tage < s.dtime.toNat ∨
      (o.tfirst + ((s.cove v).bw.stream o.stream).tage = s.dtime.toNat ∧ (s.cove v).bw.fifo = [])) :
    exec (.bwAgeSeal v num) s = .next (s.seal v o 1 false) := by
  show execBwAgeSeal v num s = _
  simp only [execBwAgeSeal, found]
  refine if_pos ⟨collecting, home, aged.imp_right fun ⟨due, empty⟩ => ⟨due.symm, ?_⟩⟩
  rw [empty]
  rfl
section
variable {n : Nat} {t : TileStream} (found : (s.cove v).bw.streams.find n = some t) (windowed : t.wlen ≠ 0)
include found windowed
theorem bwWindowTimeout_closes (timed : t.stale ≠ 0)
    (lags : laggards (s.ctx t.ctx) t.subs t.tm (windowEnd t.wlen t.wphase t.window) ≠ [])
    (due : windowEndTime t.wlen t.wphase t.window + t.stale ≤ (s.dtime.toNat : Int)) :
    exec (.bwWindowTimeout v n) s = .next (((s.closeTiles v n (timeoutCount (s.ctx t.ctx) t.subs t.tm t.wlen t.wphase t.stale
      s.dtime.toNat t.window) 3).closeStream v n).sendBwTide v t.ctx) := by
  show execBwWindowTimeout v n s = _
  simp only [execBwWindowTimeout, found]
  exact if_neg (by simp [windowed, timed, lags, due])
theorem bwWindowEndClose_closes (unsubscribed : (s.ctx t.ctx).liveSubs t.subs = []) : exec (.bwWindowEndClose v n) s =
    .next ((s.closeTiles v n (endedCount s.dtime.toNat t.wlen t.wphase t.window) 2).sendBwTide v t.ctx) := by
  show execBwWindowEndClose v n s = _
  simp only [execBwWindowEndClose, found]
  exact if_neg (by simp [windowed, unsubscribed])
end
end

/-! ### Sealed tiles leave (R243, R244, R261) -/

/-- A read that stamps the frames of its pages leaves every virtual time (R344). -/
theorem Core.tout_touch (k : Core) (f : Nat) (store : Bool) : (k.touch f store).tout = k.tout := by
  unfold Core.touch
  split <;> rfl
theorem State.toutOf_touchPage (s : State) (c x p : Nat) (store : Bool) (e y : Nat) :
    (s.touchPage c x p store).toutOf e y = s.toutOf e y := by
  refine congrArg (fun m : FMap (BitVec 48) => m.getD y 0) ?_
  by_cases same : e = c
  · subst same
    rw [State.touchPage, State.core_modCore_self]
    split
    · exact Core.tout_touch _ _ _
    · rfl
  · rw [State.touchPage, State.core_modCore_ne _ _ _ _ same]
theorem State.toutOf_touchRead (s : State) (c x la n e y : Nat) : (s.touchRead c x la n).toutOf e y = s.toutOf e y :=
  foldl_inv (fun t : State => t.toutOf e y = s.toutOf e y) _ _ s rfl fun t _ _ h => (t.toutOf_touchPage c x _ false e y).trans h
section
variable {s : State} {v n : Nat} {o : Tile} (next : (s.cove v).bw.nextTile n = some o)
include next
theorem bwTileDispatch_sends (toQueue : ((s.cove v).bw.stream n).toJob = false) :
    let t := (s.cove v).bw.stream n
    let a : Nat := ((t.d[6]?).getD 0).toNat
    let g := Target.queue (bits a 4 9) (bits a 0 4)
    exec (.bwTileDispatch v n) s = .next ((s.putTileState v { o with sent := true }).post (Agent.engine v 1) g.agent
      (.record (s.tileRec v o) t.ctx g (.tile v o.num) false)) := by
  intro t a g
  show execBwTileDispatch v n s = _
  simp only [execBwTileDispatch, next, toQueue, Bool.false_eq_true, if_false, t, a, g]
/-- The job that a stream's template on core `c` makes of a tile (R244, R261). -/
def State.tileJob (s : State) (c la x : Nat) (o : Tile) : Job :=
  let bs := s.localBytes c x la 128
  let d := (List.range 16).map (fun i => BitVec.ofNat 64 (leNat ((bs.drop (8 * i)).take 8)))
  { id := 0, d := d, ctx := x, stamp := o.ts, late := tsBefore o.ts (s.toutOf c x)
    prio := bits ((d[14]?).getD 0).toNat 0 6, task := 0, core := c, tile := some o.num }
theorem bwJobSubmit_submits {x c la w : Nat} (toJob : ((s.cove v).bw.stream n).toJob = true) (ctx : ((s.cove v).bw.stream n).ctx = x)
    (template : ownerOf (((((s.cove v).bw.stream n).d)[6]?).getD 0) = (c, la)) (who : 2 ^ 40 + 2 ^ 10 * v + n = w)
    (servable : s.unservable c x la 128 w = false) (present : s.missing c x la 128 w = none) {r : Word × State}
    (submitted : (s.touchRead c x la 128).submit v (s.tileJob c la x o) = r) (taken : r.1 ≠ 0) :
    exec (.bwJobSubmit v n) s = .next (((r.2.leave c w).putTileState v { o with state := .inJob }).sendBwTide v x) := by
  obtain ⟨id, u⟩ := r
  simp only [State.tileJob] at submitted
  show execBwJobSubmit v n s = _
  simp only [execBwJobSubmit, next, toJob, ctx, template, who, servable, present, State.toutOf_touchRead, submitted,
    Bool.not_true, Bool.false_eq_true, if_false, Option.isSome_none]
  exact if_neg taken
end

/-- Settles O55: each event, where its guard is met, is its meaning's one branch; the frames that the read of a job's template
stamps leave the virtual time by which the job is late (`State.toutOf_touchRead`). -/
theorem breakwaterEventsComplete : Obligations.BreakwaterEventsComplete := by
  refine ⟨fun s u id m taken => ⟨fun r x v n w o body => ⟨fun t found bound live =>
        ⟨bwRecordArrive_enters taken body found bound live, bwRecordArrive_drops taken body found bound live⟩,
        bwRecordArrive_rejects taken body⟩,
      fun v n c j x task => bwRecordArrive_flush taken⟩,
    fun s v => ⟨fun n r l t head found live => ⟨fun quiet => ?_, fun sensor windowed => ?_⟩,
      fun n src a l t head found => bwTidemarkStep_advances found head,
      fun n c j x task ask l u head => bwFlushStep_answers head,
      fun num l head uncopied => ⟨bwReleaseStep_returns head uncopied, bwReleaseStep_keeps head uncopied⟩,
      fun num o => bwAgeSeal_seals,
      fun n t found windowed => ⟨bwWindowTimeout_closes found windowed, bwWindowEndClose_closes found windowed⟩,
      fun n o next => ⟨bwTileDispatch_sends next, ?_⟩⟩⟩
  · exact (bwRecordStep_lands found head live).trans (by rw [if_neg quiet])
  · exact (bwRecordStep_lands found head live).trans (by rw [if_pos ⟨sensor, windowed⟩])
  · intro toJob c la w servable present bs d r taken
    exact bwJobSubmit_submits next toJob rfl rfl rfl servable present rfl taken

end Sys2Proof.Machine
end

section
/-! The instructions on trapped tasks, in a task that is no gang's follower and not paired (R380 to R384). -/

namespace Sys2Proof.Machine

variable {s s1 : State} {x b a d : BitVec 5}

/-! ### The target word (R380) -/

theorem trapTarget_reserved {w : Word} (bad : 2 ^ 57 ≤ w.toNat ∨ w.toNat / 2 ^ 35 % 2 ^ 13 ≠ 0 ∨ 4 < w.toNat / 2 ^ 32 % 8) :
    trapTarget w s = .error (.trap (illegalTrap s)) := if_pos bad
theorem trapTarget_foreign {w : Word} (low : w.toNat < 2 ^ 57) (clear : w.toNat / 2 ^ 35 % 2 ^ 13 = 0)
    (slot : w.toNat / 2 ^ 32 % 8 ≤ 4) (foreign : s.myCtx.has (w.toNat / 2 ^ 48 % 2 ^ 9) = false) :
    trapTarget w s = .error (.trap ⟨Cause.localBounds, 2, w.setWidth 48⟩) := by
  have legal : ¬ (2 ^ 57 ≤ w.toNat ∨ w.toNat / 2 ^ 35 % 2 ^ 13 ≠ 0 ∨ 4 < w.toNat / 2 ^ 32 % 8) := by omega
  exact (if_neg legal).trans (if_pos (congrArg (!·) foreign))

/-! ### The effect, at once on the issuing core, else by a request (R384) -/

/-- A part that runs under a condition, and what follows it in either case. -/
theorem M.join_ok {β : Type} {p : Prop} [Decidable p] {m : M Unit} {u : State} {k : M β}
    (runs : (if p then m else pure ()) s = .ok ((), u)) : (if p then m >>= fun _ => k else k) s = k u := by
  by_cases holds : p
  · rw [if_pos holds] at runs ⊢
    exact M.bind_ok _ runs
  · rw [if_neg holds] at runs ⊢
    cases runs
    rfl
/-- Outside a paired context a comparison under a condition changes nothing. -/
theorem M.join_outbound {β : Type} {p : Prop} [Decidable p] {k : M β} {y : Word} {l : List Word} (alone : s.paired = false) :
    (if p then outbound y l >>= fun _ => k else k) s = k s := by
  split
  · exact M.bind_ok _ (outbound_alone _ _ _ _ alone)
  · rfl

/-- How an instruction whose checks leave `u` ends at slot `j` of core `c`: it acts there at once where the core is the issuing
one, and else sends its request once and writes the answer. -/
def Reaches (s u : State) (c j op : Nat) (r : BitVec 5) (w arg data : Word) (out : Out) : Prop :=
  let e := u.trapOpAt op u.me.ctx.toNat c j (w.setWidth 32) arg data
  (c = s.myCore → out = .next ((e.1.wg r e.2).advance)) ∧
  (c ≠ s.myCore → (∀ v, u.me.got = some v → out = .next ((u.wg r v).advance)) ∧
    (u.me.got = none → u.me.ask = none → out = .next (stall ((u.post (Agent.slot u.myCore u.mySlot) (Agent.owner c)
      (.trapOp op w arg data u.me.ctx.toNat u.myCore u.mySlot u.me.taskid)).modMe
      (fun t => { t with ask := some u.msgSeq })) .reply)))

theorem reachTarget_reaches {u : State} {c j op : Nat} {w arg data : Word} (target : trapTarget w s = .ok ((c, j), s))
    (alone : s.paired = false) (freed : (if op = 2 then release 3 else pure ()) s = .ok ((), u)) (still : u.paired = false) :
    Reaches s u c j op d w arg data (runM (reachTarget op w arg data d) s) := by
  simp only [runM, reachTarget, M.bind_ok _ target, M.bind_ok _ (M.get_run s), M.join_outbound alone, M.join_ok freed]
  refine ⟨fun own => ?_, fun away => ⟨fun v got => ?_, fun ungot unasked => ?_⟩⟩
  · simp [own, M.bind_run, M.map_run, obtained_alone _ _ still]
  · simp [away, alone, M.bind_run, askFor_answered _ _ got]
  · simp [away, alone, M.bind_run, askFor_asks _ _ ungot unasked]

/-! ### The instructions -/

section
variable (leads : s.follower = false)
include leads
theorem tinsp_checked : exec (.tinsp b a d) s = runM (trapTarget (s.rg a) >>= fun _ =>
    if frameOffset (s.rg b).toNat ∨ (s.rg b).toNat = 0xFF8 then reachTarget 0 (s.rg a) (s.rg b) 0 d else illegal) s :=
  calc exec (.tinsp b a d) s
    _ = _ := runM_leads leads _
    _ = _ := runM_bind_ok (getG_run a s) _
    _ = _ := runM_bind_ok (getG_run b s) _
theorem tinspW_checked : exec (.tinspW b a x) s = runM (trapTarget (s.rg a) >>= fun _ =>
    if frameOffset (s.rg b).toNat ∧ frameValueOk (s.rg b).toNat (s.rg x) then reachTarget 1 (s.rg a) (s.rg b) (s.rg x) 0 else illegal) s :=
  calc exec (.tinspW b a x) s
    _ = _ := if_neg (Bool.eq_false_iff.mp leads)
    _ = _ := runM_bind_ok (getG_run a s) _
    _ = _ := runM_bind_ok (getG_run b s) _
    _ = _ := runM_bind_ok (getG_run x s) _
theorem tresume_checked : exec (.tresume b a d) s = runM (trapTarget (s.rg a) >>= fun _ =>
    if (s.rg b).toNat ≥ 2 ^ 24 then illegal else reachTarget 2 (s.rg a) (s.rg b) 0 d) s :=
  calc exec (.tresume b a d) s
    _ = _ := runM_leads leads _
    _ = _ := runM_bind_ok (getG_run a s) _
    _ = _ := runM_bind_ok (getG_run b s) _
theorem tkill_checked : exec (.tkill a d) s = runM (reachTarget 3 (s.rg a) 0 0 d) s :=
  (runM_leads leads _).trans (runM_bind_ok (getG_run a s) _)

theorem target_traps {t : Trap} (bad : trapTarget (s.rg a) s = .error (.trap t)) :
    ∀ i ∈ [Instr.tinsp b a d, Instr.tinspW b a x, Instr.tresume b a d, Instr.tkill a d], exec i s = .next (takeTrap s t) := by
  simp only [List.forall_mem_cons]
  exact ⟨(tinsp_checked leads).trans (runM_bind_trap bad _), (tinspW_checked leads).trans (runM_bind_trap bad _),
    (tresume_checked leads).trans (runM_bind_trap bad _), (tkill_checked leads).trans (runM_bind_trap bad _), List.forall_mem_nil _⟩

section
variable {c j : Nat} (target : trapTarget (s.rg a) s = .ok ((c, j), s))
include target
theorem tinsp_legal (legal : frameOffset (s.rg b).toNat = true ∨ (s.rg b).toNat = 0xFF8) :
    exec (.tinsp b a d) s = runM (reachTarget 0 (s.rg a) (s.rg b) 0 d) s :=
  (tinsp_checked leads).trans ((runM_bind_ok target _).trans (congrArg (runM · s) (if_pos legal)))
theorem tinsp_illegal (other : frameOffset (s.rg b).toNat = false) (probes : (s.rg b).toNat ≠ 0xFF8) :
    exec (.tinsp b a d) s = .next (takeTrap s (illegalTrap s)) :=
  (tinsp_checked leads).trans ((runM_bind_ok target _).trans (congrArg (runM · s) (if_neg (by simp [other, probes]))))
theorem tinspW_legal (offset : frameOffset (s.rg b).toNat = true) (value : frameValueOk (s.rg b).toNat (s.rg x) = true) :
    exec (.tinspW b a x) s = runM (reachTarget 1 (s.rg a) (s.rg b) (s.rg x) 0) s :=
  (tinspW_checked leads).trans ((runM_bind_ok target _).trans (congrArg (runM · s) (if_pos ⟨offset, value⟩)))
theorem tinspW_illegal (bad : frameOffset (s.rg b).toNat = false ∨ frameValueOk (s.rg b).toNat (s.rg x) = false) :
    exec (.tinspW b a x) s = .next (takeTrap s (illegalTrap s)) :=
  (tinspW_checked leads).trans ((runM_bind_ok target _).trans (congrArg (runM · s) (if_neg (by rcases bad with h | h <;> simp [h]))))
theorem tresume_legal (few : (s.rg b).toNat < 2 ^ 24) : exec (.tresume b a d) s = runM (reachTarget 2 (s.rg a) (s.rg b) 0 d) s :=
  (tresume_checked leads).trans ((runM_bind_ok target _).trans (congrArg (runM · s) (if_neg few.not_ge)))
theorem tresume_illegal (many : 2 ^ 24 ≤ (s.rg b).toNat) : exec (.tresume b a d) s = .next (takeTrap s (illegalTrap s)) :=
  (tresume_checked leads).trans ((runM_bind_ok target _).trans (congrArg (runM · s) (if_pos many)))
end
end

/-- Settles O51: past its operands' checks each instruction reaches its target, whose word is checked first. -/
theorem trapInstructionResults : Obligations.TrapInstructionResults := by
  refine fun s s1 x b a d => ⟨rfl, fun leads alone => ⟨fun c j target => ?_, fun i listed => ⟨fun bad => ?_, fun low clear slot foreign => ?_⟩⟩⟩
  · refine ⟨fun legal => ?_, fun offset value => ?_, fun few freed still _ => ?_, ?_,
      tinsp_illegal leads target, tinspW_illegal leads target, tresume_illegal leads target⟩
    · rw [tinsp_legal leads target legal]
      exact reachTarget_reaches target alone rfl alone
    · rw [tinspW_legal leads target offset value]
      exact reachTarget_reaches target alone rfl alone
    · rw [tresume_legal leads target few]
      exact reachTarget_reaches target alone freed still
    · rw [tkill_checked leads]
      exact reachTarget_reaches target alone rfl alone
  · exact target_traps leads (trapTarget_reserved bad) i listed
  · exact target_traps leads (trapTarget_foreign low clear slot foreign) i listed

end Sys2Proof.Machine
end

section
/-! Jobs' instructions outside a paired context (R260, R268 to R271, R351, R353, R354). -/

namespace Sys2Proof.Machine

variable {s s1 : State} {a d : BitVec 5}

/-! ### What a release leaves as it was (R141) -/

theorem State.sameIssuer_foldl {α : Type} {f : State → α → State} (l : List α) (s : State) (keeps : ∀ s a, State.SameIssuer s (f s a)) :
    s.SameIssuer (l.foldl f s) :=
  foldl_inv (s.SameIssuer ·) f l s (.refl s) fun t a _ same => same.trans (keeps t a)
theorem State.sameIssuer_writeBack (s : State) (c n : Nat) (tag : Option (Nat × Nat × Nat)) (drop : Bool) :
    s.SameIssuer (s.writeBack c n tag drop) := by
  unfold State.writeBack
  split
  · exact .refl s
  · exact ⟨rfl, State.me_modCore rfl, rfl, rfl⟩
theorem State.paired_modMe (s : State) {f : Slot → Slot} (keeps : (f s.me).ctx = s.me.ctx) : (s.modMe f).paired = s.paired := by
  simp [State.paired, State.myCtx, keeps, State.ctx]
theorem State.paired_beginRelease (s : State) (n : Nat) : (s.beginRelease n).paired = s.paired := by
  unfold State.beginRelease
  split
  · rfl
  · exact (State.paired_modMe _ rfl).trans (State.sameIssuer_foldl _ s fun s k => s.sameIssuer_writeBack _ k _ _).paired
theorem release_paired {n : Nat} (freed : release n s = .ok ((), s1)) : s1.paired = s.paired := by
  unfold release at freed
  split at freed
  · cases freed
    rfl
  · dsimp only at freed
    split at freed <;> cases freed
    exact (State.paired_modMe _ rfl).trans (s.paired_beginRelease n)

/-! ### Descriptors (R269, R353) -/

theorem M.of_bind_ok {α β : Type} {m : M α} {f : α → M β} {r : β} (h : (m >>= f) s = .ok (r, s1)) :
    ∃ v u, m s = .ok (v, u) ∧ f v u = .ok (r, s1) := by
  rw [M.bind_run] at h
  cases first : m s with
  | error stop => simp [first] at h
  | ok p =>
    rw [first] at h
    exact ⟨p.1, p.2, rfl, h⟩
theorem outbound_stays {x : Word} {l k : List Word} {go : Bool} (passes : outbound x l k s = .ok (go, s1)) : s1 = s := by
  unfold outbound at passes
  split at passes
  · cases passes
    rfl
  · split at passes <;> cases passes
    rfl
theorem descriptor_paired {x : Word} {n : Nat} {r : List Word × Bool} (reads : descriptor x n s = .ok (r, s1)) : s1.paired = s.paired := by
  unfold descriptor at reads
  split at reads
  · cases reads
  · obtain ⟨_, t, page, reads⟩ := M.of_bind_ok reads
    obtain ⟨_, u, freed, reads⟩ := M.of_bind_ok reads
    rw [M.bind_ok _ (M.get_run u)] at reads
    split at reads
    · cases reads
    · obtain ⟨_, v, passes, reads⟩ := M.of_bind_ok reads
      cases reads
      rw [outbound_stays passes, release_paired freed, (localAddr_sameIssuer page).paired]

/-- A request has left for the cove's matrix engine, whose reply the slot awaits (R260). -/
def State.sentToMxe (s : State) (d : BitVec 5) (m : Body) : State :=
  (s.post (Agent.slot s.myCore s.mySlot) (Agent.mxe (coveOf s.myCore)) m).advance.modMe
    (fun t => { t with reply := some (d, s.msgSeq), life := .stalled .reply })
theorem mxq_sends {w : List Word} (reads : descriptor (s.rg a) 128 s = .ok ((w, true), s1)) : exec (.mxq a d) s =
    .next (s1.sentToMxe d (.mxq w s1.me.ctx.toNat s1.me.tsinh s1.lateNow s1.me.prio.toNat s1.me.taskid s1.myCore s1.mySlot)) :=
  calc exec (.mxq a d) s
    _ = _ := runM_bind_ok (getG_run a s) _
    _ = _ := congrArg (finish s) (M.bind_ok _ reads)

section
variable (alone : s.paired = false)
include alone
section
variable {w : List Word} (reads : descriptor (s.rg a) 64 s = .ok ((w, true), s1))
include reads
theorem ebq_full (full : 32 ≤ ((s1.cove (coveOf s1.myCore)).ebb.jobs.filter (fun j => j.class4 && !j.finished)).length ∨
    s1.myCtx.state = .draining) : exec (.ebq a d) s = .next ((s1.wg d 0).advance) :=
  calc exec (.ebq a d) s
    _ = _ := runM_bind_ok (getG_run a s) _
    _ = _ := congrArg (finish s) (M.bind_ok _ reads)
    _ = _ := congrArg (finish s) (M.bind_ok _
      ((obtained_alone _ _ ((descriptor_paired reads).trans alone)).trans (if_pos full)))
theorem ebq_enters (room : ¬(32 ≤ ((s1.cove (coveOf s1.myCore)).ebb.jobs.filter (fun j => j.class4 && !j.finished)).length ∨
    s1.myCtx.state = .draining)) : let e := s1.enqueueEbb (coveOf s1.myCore) (s1.newEbb w)
    exec (.ebq a d) s = .next ((e.2.wg d e.1).advance) :=
  calc exec (.ebq a d) s
    _ = _ := runM_bind_ok (getG_run a s) _
    _ = _ := congrArg (finish s) (M.bind_ok _ reads)
    _ = _ := congrArg (finish s) (M.bind_ok _
      ((obtained_alone _ _ ((descriptor_paired reads).trans alone)).trans (if_neg room)))
end
end

/-! ### Identifiers and statuses (R268, R270, R354) -/

theorem jobArg_names (low : (s.rg a).toNat < 2 ^ 32) : jobArg a s = .ok ((s.rg a).setWidth 32, s) := if_neg low.not_ge
theorem jobArg_illegal (wide : 2 ^ 32 ≤ (s.rg a).toNat) : jobArg a s = .error (.trap (illegalTrap s)) := if_pos wide
theorem JobState.code_lt (st : JobState) : st.code < 8 := by cases st <;> decide
theorem jobStatus_low (j : Job) : (jobStatus (some j)).toNat % 8 = j.state.code := by
  have := j.state.code_lt
  simp only [jobStatus, BitVec.toNat_ofNat]
  split <;> omega

theorem ebbStatus_done {j : EbbJob} (done : j.state = .done) : (ebbStatus (some j)).toNat % 8 = 4 := by
  simp only [ebbStatus, done, BitVec.toNat_ofNat]
  split <;> omega
theorem ebbStatus_faulted {j : EbbJob} (faulted : j.state = .faulted) : (ebbStatus (some j)).toNat % 8 = 5 := by
  simp only [ebbStatus, faulted, BitVec.toNat_ofNat]
  split <;> omega
theorem Job.cscope_lt (j : Job) : j.cscope < 2 ^ 64 := Nat.lt_trans (Nat.mod_lt _ (Nat.two_pow_pos 3)) (by decide)
theorem EbbJob.cscope_lt (j : EbbJob) : j.cscope < 2 ^ 64 := by
  unfold EbbJob.cscope
  split
  · decide
  · exact Nat.lt_trans (Nat.mod_lt _ (Nat.two_pow_pos 3)) (by decide)

/-! ### Waits for a job (R271, R354) -/

/-- What a wait for a job looks up: its status, scope and address once it is final, and 7 where there is none. -/
def lookUp (w : Wait) (o : Option (Bool × Word × Nat × Nat)) : M (List Word) := fun s => match o with
  | some (final, st, scope, addr) => if final then .ok ([st, BitVec.ofNat 64 scope, BitVec.ofNat 64 addr], s) else .error (.wait w s)
  | none => .ok ([7, 0, 0], s)
/-- What a wait for a job does with the status, the scope and the address that it has looked up. -/
def endWait (d : BitVec 5) (r : List Word) : M Unit := do
  let st := r.headD 0
  if st.toNat % 8 = 5 then stopTrap ⟨Cause.jobFault, st, ((r[2]?).getD 0).setWidth 48⟩
  else
    if st.toNat % 8 = 4 then acquire ((r[1]?).getD 0).toNat else pure ()
    retG d st

/-- Instruction `i` waits for the job that `o` describes. -/
def WaitsFor (s : State) (i : Instr) (d : BitVec 5) (w : Wait) (o : Option (Bool × Word × Nat × Nat)) : Prop :=
  exec i s = runM (lookUp w o >>= endWait d) s

section
variable {i : Instr} {w : Wait} {st : Word} {scope addr : Nat}
theorem WaitsFor.done (waits : WaitsFor s i d w (some (true, st, scope, addr))) (done : st.toNat % 8 = 4) (small : scope < 2 ^ 64) :
    exec i s = .next (((s.acquireAt s.myCore scope).wg d st).advance) := by
  have same : (BitVec.ofNat 64 scope).toNat = scope := (BitVec.toNat_ofNat _ _).trans (Nat.mod_eq_of_lt small)
  refine waits.trans (runM_ok ?_)
  simp [-BitVec.toNat_ofNat, lookUp, endWait, done, same, M.bind_run, acquire]
theorem WaitsFor.faulted (waits : WaitsFor s i d w (some (true, st, scope, addr))) (faulted : st.toNat % 8 = 5) :
    exec i s = .next (takeTrap s ⟨Cause.jobFault, st, BitVec.ofNat 48 addr⟩) := by
  refine waits.trans (runM_trap ?_)
  simp [lookUp, endWait, faulted, M.bind_run]
/-- How a wait ends, for jobs of either engine. -/
theorem WaitsFor.ends {α : Type} {o : Option α} {state : α → JobState} {status : α → Word} {scope addr : α → Nat}
    (waits : WaitsFor s i d w (o.map (fun j => ((state j).final, status j, scope j, addr j))))
    (done : ∀ j, state j = .done → (status j).toNat % 8 = 4) (faulted : ∀ j, state j = .faulted → (status j).toNat % 8 = 5)
    (small : ∀ j, scope j < 2 ^ 64) :
    (o = none → exec i s = .next ((s.wg d 7).advance)) ∧ ∀ j, o = some j →
      (state j = .done → exec i s = .next (((s.acquireAt s.myCore (scope j)).wg d (status j)).advance)) ∧
      (state j = .faulted → exec i s = .next (takeTrap s ⟨Cause.jobFault, status j, BitVec.ofNat 48 (addr j)⟩)) ∧
      ((state j).final = false → exec i s = .next (stall s w)) := by
  refine ⟨fun unknown => ?_, fun j found => ⟨fun is => ?_, fun is => ?_, fun pending => ?_⟩⟩
  · rw [unknown] at waits
    exact waits
  · rw [found, Option.map_some, is] at waits
    exact waits.done (done j is) (small j)
  · rw [found, Option.map_some, is] at waits
    exact waits.faulted (faulted j is)
  · rw [found, Option.map_some, pending] at waits
    exact waits
end

/-! ### The instructions -/

section
variable (low : (s.rg a).toNat < 2 ^ 32)
include low
section
variable (alone : s.paired = false)
include alone
theorem mxcan_sends : exec (.mxcan a d) s =
    .next (s.sentToMxe d (.mxcan ((s.rg a).setWidth 32) s.me.ctx.toNat s.myCore s.mySlot s.me.taskid)) :=
  calc exec (.mxcan a d) s
    _ = _ := runM_bind_ok (jobArg_names low) _
    _ = _ := runM_bind_ok (outbound_alone _ _ _ _ alone) _
theorem mxpoll_reads : exec (.mxpoll a d) s = .next ((s.wg d (jobStatus (s.myJob ((s.rg a).setWidth 32)))).advance) :=
  calc exec (.mxpoll a d) s
    _ = _ := runM_bind_ok (jobArg_names low) _
    _ = _ := runM_bind_ok (obtained_alone _ _ alone) _
theorem ebwaitNw_reads : exec (.ebwaitNw a d) s = .next ((s.wg d (ebbStatus (s.myEbb ((s.rg a).setWidth 32)))).advance) :=
  calc exec (.ebwaitNw a d) s
    _ = _ := runM_bind_ok (jobArg_names low) _
    _ = _ := runM_bind_ok (obtained_alone _ _ alone) _
section
variable (slot : s.mySlot ≠ 4)
include slot
theorem mxwait_waits : WaitsFor s (.mxwait a d) d .job
    ((s.myJob ((s.rg a).setWidth 32)).map (fun j => (j.state.final, jobStatus (some j), j.cscope, j.addr))) := by
  refine (runM_bind_ok (jobArg_names low) _).trans ((runM_outside_service slot _).trans (congrArg (finish s) ?_))
  rw [M.bind_run, M.bind_run, obtained_alone _ _ alone]
  cases s.myJob ((s.rg a).setWidth 32) <;> rfl
theorem ebwait_waits : WaitsFor s (.ebwait a d) d .ebb
    ((s.myEbb ((s.rg a).setWidth 32)).map (fun j => (j.state.final, ebbStatus (some j), j.cscope, j.addr))) := by
  refine (runM_bind_ok (jobArg_names low) _).trans ((runM_outside_service slot _).trans (congrArg (finish s) ?_))
  rw [M.bind_run, M.bind_run, obtained_alone _ _ alone]
  cases s.myEbb ((s.rg a).setWidth 32) <;> rfl
end
end
end

theorem jobs_illegal (wide : 2 ^ 32 ≤ (s.rg a).toNat) : ∀ i ∈ [Instr.mxcan a d, Instr.mxpoll a d, Instr.mxwait a d, Instr.ebwait a d,
    Instr.ebwaitNw a d], exec i s = .next (takeTrap s (illegalTrap s)) := by
  have bad := jobArg_illegal wide
  simp only [List.forall_mem_cons]
  exact ⟨runM_bind_trap bad _, runM_bind_trap bad _, runM_bind_trap bad _, runM_bind_trap bad _, runM_bind_trap bad _,
    List.forall_mem_nil _⟩

/-- Settles O47: past their checks the instructions send, look up or enter; a wait ends by the low bits of the status that it
looks up, which are the job's state. -/
theorem jobInstructionResults : Obligations.JobInstructionResults := by
  refine fun s s1 a d w alone => ⟨mxq_sends, fun reads => ⟨ebq_full alone reads, ebq_enters alone reads⟩, fun low =>
    ⟨mxcan_sends low alone, mxpoll_reads low alone, ebwaitNw_reads low alone, fun slot => ?_⟩, jobs_illegal⟩
  obtain ⟨noJob, job⟩ := (mxwait_waits (d := d) low alone slot).ends (fun j is => (jobStatus_low j).trans (congrArg JobState.code is))
    (fun j is => (jobStatus_low j).trans (congrArg JobState.code is)) Job.cscope_lt
  obtain ⟨noEbb, ebb⟩ := (ebwait_waits (d := d) low alone slot).ends (fun _ => ebbStatus_done) (fun _ => ebbStatus_faulted) EbbJob.cscope_lt
  exact ⟨noJob, job, noEbb, ebb⟩

end Sys2Proof.Machine
end

section
/-! Barriers and wait queues outside a paired context (R323, R327 to R334). -/

namespace Sys2Proof.Machine

variable {s s1 : State} {o ch : BitVec 2} {ns : BitVec 1} {b a d : BitVec 5}

/-! ### Arrivals and waits (R327 to R329, R331) -/

/-- The issue of a BARW, from which its timeout counts (R329). -/
def State.timed (s : State) : State :=
  s.modMe (fun t => { t with started := if t.started = 0 then s.dtime.toNat + 1 else t.started })
/-- The arm of a channel and domain is dropped. -/
def State.unarm (s : State) (key : Nat) : State := s.modMe (fun t => { t with arms := t.arms.del key })

/-- What follows the arrival of a BARW, `a` its episode: it waits while that is in force, and else acquires and drops its arm. -/
def barwEnd (o ch : BitVec 2) (ns : BitVec 1) (d : BitVec 5) (k : Nat) (a : BitVec 32) : M Unit := do
  let s ← get
  if a = (s.barrier k).episode ∨ s.me.awaiting.contains k then
    modify (fun s : State => s.modMe (fun t => { t with awaiting := if t.awaiting.contains k then t.awaiting else k :: t.awaiting }))
    waitFor .barrier
  else
    let drained := (s.barrier k).drained == some a
    if ns = 0 ∧ !drained then acquire (domainScope o) else pure ()
    modify (fun s : State => s.unarm (armKey ch.toNat o.toNat))
    retG d (if drained then 1 else 0)
theorem barwEnd_waits {k : Nat} {e : BitVec 32} (now : e = (s.barrier k).episode) : ∃ t, barwEnd o ch ns d k e s = .error (.wait .barrier t) ∧
    k ∈ t.me.awaiting ∧ t.me.pc = s.me.pc := by
  refine ⟨_, (M.bind_ok _ (M.get_run s)).trans (congrFun (if_pos (.inl now)) s), ?_, ?_⟩
  · rw [State.me_modMe]
    by_cases listed : k ∈ s.me.awaiting <;> simp [listed]
  · rw [State.me_modMe]
theorem barwEnd_passes {k : Nat} {e : BitVec 32} (past : e ≠ (s.barrier k).episode) (released : s.me.awaiting.contains k = false) :
    let drained := (s.barrier k).drained == some e
    let v := if ns = 0 ∧ drained = false then s.acquireAt s.myCore (domainScope o) else s
    barwEnd o ch ns d k e s = .ok ((), ((v.unarm (armKey ch.toNat o.toNat)).wg d (if drained then 1 else 0)).advance) := by
  intro drained v
  have goes : ¬(e = (s.barrier k).episode ∨ s.me.awaiting.contains k) := by
    rw [released]
    rintro (now | waiting)
    · exact past now
    · cases waiting
  have acquires : (if ns = 0 ∧ !drained then acquire (domainScope o) else pure () : M Unit) s = .ok ((), v) := by
    have same : (ns = 0 ∧ (!drained) = true) = (ns = 0 ∧ drained = false) := by simp
    simp only [same, v]
    split <;> rfl
  exact (M.bind_ok _ (M.get_run s)).trans ((congrFun (if_neg goes) s).trans (M.join_ok acquires))

section
variable (slot : s.mySlot ≠ 4)
include slot
theorem bara_arrives {e : BitVec 32} (arrives : arriveNow o ch ns s = .ok (e, s1))
    (fresh : s.me.arms.find (armKey ch.toNat o.toNat) ≠ some (s.barrier (s.myBarrier o ch)).episode) :
    exec (.bara o ch ns d) s = .next ((s1.wg d (e.setWidth 64)).advance) :=
  calc exec (.bara o ch ns d) s
    _ = _ := runM_outside_service slot _
    _ = _ := congrArg (runM · s) (if_neg fresh)
    _ = _ := congrArg (finish s) (M.bind_ok _ arrives)
theorem bara_waits (again : s.me.arms.find (armKey ch.toNat o.toNat) = some (s.barrier (s.myBarrier o ch)).episode) :
    exec (.bara o ch ns d) s = .next (stall s .episode) :=
  calc exec (.bara o ch ns d) s
    _ = _ := runM_outside_service slot _
    _ = _ := congrArg (runM · s) (if_pos again)

section
variable (alone : s.paired = false)
include alone
/-- A BARW comes to its arm, past its start and its comparison. -/
theorem barw_checked : exec (.barw o ch ns d) s = finish s ((match s.me.arms.find (armKey ch.toNat o.toNat) with
    | some a => if armHolds a (s.barrier (s.myBarrier o ch)).episode then barwEnd o ch ns d (s.myBarrier o ch) a
        else arriveNow o ch ns >>= barwEnd o ch ns d (s.myBarrier o ch)
    | none => arriveNow o ch ns >>= barwEnd o ch ns d (s.myBarrier o ch)) s.timed) := by
  have compared := outbound_alone (BitVec.ofNat 64 (armKey ch.toNat o.toNat)) [] [] s.timed ((State.paired_modMe s rfl).trans alone)
  calc exec (.barw o ch ns d) s
    _ = _ := runM_outside_service slot _
    _ = _ := congrArg (finish s) (M.bind_ok _ (M.modify_run _ s))
    _ = _ := congrArg (finish s) (M.bind_ok _ compared)
    _ = _ := by
      cases s.me.arms.find (armKey ch.toNat o.toNat) <;> rfl
theorem barw_arrives {e : BitVec 32} (unarmed : s.me.arms.find (armKey ch.toNat o.toNat) = none)
    (arrives : arriveNow o ch ns s.timed = .ok (e, s1)) :
    exec (.barw o ch ns d) s = finish s (barwEnd o ch ns d (s.myBarrier o ch) e s1) := by
  rw [barw_checked slot alone, unarmed]
  exact congrArg (finish s) (M.bind_ok _ arrives)
theorem barw_resumes {e : BitVec 32} (armed : s.me.arms.find (armKey ch.toNat o.toNat) = some e)
    (holds : armHolds e (s.barrier (s.myBarrier o ch)).episode = true) :
    exec (.barw o ch ns d) s = finish s (barwEnd o ch ns d (s.myBarrier o ch) e s.timed) := by
  rw [barw_checked slot alone, armed]
  exact congrArg (finish s) (congrFun (if_pos holds) _)
end
end

/-! ### The link of a WAITQ (R332) -/

/-- The slot records what a link of a WAITQ completes. -/
def State.queued (s : State) (d : BitVec 5) : State := s.modMe (fun t => { t with wq := some (d, s.nextPc) })
/-- The link of a WAITQ leaves for the cell's owner. -/
def State.askLink (s : State) (c la : Nat) (y : Word) : State :=
  s.post (Agent.slot s.myCore s.mySlot) (Agent.owner c) (.waitq s.me.ctx.toNat la s.myCore s.mySlot s.me.taskid y)
theorem State.askLink_queued (c la : Nat) (y : Word) : (s.queued d).askLink c la y = (s.queued d).post (Agent.slot s.myCore s.mySlot)
    (Agent.owner c) (.waitq s.me.ctx.toNat la s.myCore s.mySlot s.me.taskid y) := by
  rw [State.askLink, State.queued, State.me_modMe]
  rfl

/-! ### Barriers' state (R330) -/

theorem missingWord_getLsbD (l : List Nat) (n i : Nat) (low : i < 64) : (missingWord l n).getLsbD i = l.contains (64 * n + i) := by
  have at_ := pack_lane 1 ((List.range 64).map (fun b => if l.contains (64 * n + b) then 1 else 0)) i (by simpa using low)
  rw [missingWord, BitVec.getLsbD_ofNat, Nat.testBit_eq_decide_div_mod_eq]
  simp only [one_mul, pow_one, List.getElem_map, List.getElem_range] at at_
  rw [at_]
  cases l.contains (64 * n + i) <;> simp [low]

theorem bart_illegal (above : 8 < (s.rg a).toNat) : exec (.bart o ch a d) s = .next (takeTrap s (illegalTrap s)) :=
  calc exec (.bart o ch a d) s
    _ = _ := runM_bind_ok (getG_run a s) _
    _ = _ := runM_get _
    _ = _ := congrArg (runM · s) (if_pos above)

section
variable (alone : s.paired = false)
include alone
theorem bart_state (zero : s.rg a = 0) : exec (.bart o ch a d) s = .next ((s.wg d (BitVec.ofNat 64
    ((s.barrier (s.myBarrier o ch)).episode.toNat * 2 ^ 32 + (if (s.barrier (s.myBarrier o ch)).missing.isSome then 2 else 0) +
      (if s.me.arms.find (armKey ch.toNat o.toNat) = some (s.barrier (s.myBarrier o ch)).episode then 0 else 1)))).advance) := by
  have low : ¬8 < (s.rg a).toNat := by rw [zero]; decide
  calc exec (.bart o ch a d) s
    _ = _ := runM_bind_ok (getG_run a s) _
    _ = _ := runM_get _
    _ = _ := congrArg (runM · s) (if_neg low)
    _ = _ := congrArg (runM · s) (if_pos zero)
    _ = _ := congrArg (finish s) (retOnce_alone d _ s alone)
    _ = _ := by
      cases armed : s.me.arms.find (armKey ch.toNat o.toNat) <;> simp [bne]
theorem bart_missing (some_ : 1 ≤ (s.rg a).toNat) (low : (s.rg a).toNat ≤ 8) : exec (.bart o ch a d) s =
    .next ((s.wg d (missingWord ((s.barrier (s.myBarrier o ch)).missing.getD []) ((s.rg a).toNat - 1))).advance) := by
  have nonzero : s.rg a ≠ 0 := fun zero => by simp [zero] at some_
  calc exec (.bart o ch a d) s
    _ = _ := runM_bind_ok (getG_run a s) _
    _ = _ := runM_get _
    _ = _ := congrArg (runM · s) (if_neg low.not_gt)
    _ = _ := congrArg (runM · s) (if_neg nonzero)
    _ = _ := congrArg (finish s) (retOnce_alone d _ s alone)

/-! ### Wait queues (R332, R333) -/

section
variable {c la : Nat} (arg : cellArg (s.rg a) s = .ok ((c, la), s))
include arg

theorem waitq_checked (slot : s.mySlot ≠ 4) : exec (.waitq b a d) s = finish s ((do
    let v ← askFor .linked (fun u => u.askLink c la (s.rg b))
    if v ≠ 0 then acquire 3 else pure ()
    retG d v : M Unit) (s.queued d)) := by
  have compared := outbound_alone (s.rg a) [s.rg b] [] (s.queued d) ((State.paired_modMe s rfl).trans alone)
  calc exec (.waitq b a d) s
    _ = _ := runM_bind_ok (getG_run a s) _
    _ = _ := runM_bind_ok (getG_run b s) _
    _ = _ := runM_outside_service slot _
    _ = _ := congrArg (finish s) (M.bind_ok _ arg)
    _ = _ := congrArg (finish s) (M.bind_ok _ (M.modify_run _ s))
    _ = _ := congrArg (finish s) (M.bind_ok _ compared)
    _ = _ := rfl

theorem waitq_answered (slot : s.mySlot ≠ 4) {x : Word} (got : s.me.got = some x) : exec (.waitq b a d) s =
    .next (((if x = 0 then s.queued d else (s.queued d).acquireAt (s.queued d).myCore 3).wg d x).advance) := by
  have answered : askFor .linked (fun u => u.askLink c la (s.rg b)) (s.queued d) = .ok (x, s.queued d) :=
    askFor_answered _ _ (by rwa [State.queued, State.me_modMe])
  rw [waitq_checked alone arg slot, M.bind_ok _ answered]
  by_cases none : x = 0
  · rw [none]
    rfl
  · rw [if_neg none]
    simp only [ne_eq, none, not_false_eq_true, if_true]
    rfl
theorem waitq_asks (slot : s.mySlot ≠ 4) (ungot : s.me.got = none) (unasked : s.me.ask = none) : exec (.waitq b a d) s =
    .next (stall (((s.queued d).post (Agent.slot s.myCore s.mySlot) (Agent.owner c)
      (.waitq s.me.ctx.toNat la s.myCore s.mySlot s.me.taskid (s.rg b))).modMe (fun t => { t with ask := some s.msgSeq })) .linked) := by
  have asks := askFor_asks (s := s.queued d) .linked (fun u => u.askLink c la (s.rg b)) (by rwa [State.queued, State.me_modMe])
    (by rwa [State.queued, State.me_modMe])
  rw [waitq_checked alone arg slot, M.bind_wait _ asks, State.askLink_queued]
  rfl

section
variable (freed : release 3 s = .ok ((), s1))
include freed
/-- A WAKE leaves for the cell's owner, and the bundle completes. -/
def State.sentWake (s : State) (c la : Nat) (y : Word) : State :=
  (s.post (Agent.slot s.myCore s.mySlot) (Agent.owner c) (.wake s.me.ctx.toNat la s.myCore s.mySlot s.me.taskid y)).advance
theorem wake_checked : exec (.wake b a d) s = finish s ((do
    if d = 0 then postRoom
    let s1 ← get
    set (s1.post (Agent.slot s1.myCore s1.mySlot) (Agent.owner c) (.wake s1.me.ctx.toNat la s1.myCore s1.mySlot s1.me.taskid (s.rg b)))
    if d = 0 then done else replyLater d s1.msgSeq : M Unit) s1) :=
  calc exec (.wake b a d) s
    _ = _ := runM_bind_ok (getG_run a s) _
    _ = _ := runM_bind_ok (getG_run b s) _
    _ = _ := runM_bind_ok arg _
    _ = _ := runM_bind_ok (outbound_alone _ _ _ _ alone) _
    _ = _ := congrArg (finish s) (M.bind_ok _ freed)
theorem wake_posts (posted : d = 0) (room : s1.postedBy s1.myCore s1.mySlot < 16) :
    exec (.wake b a d) s = .next (s1.sentWake c la (s.rg b)) := by
  subst posted
  exact (wake_checked alone arg freed).trans (congrArg (finish s) (M.bind_ok _ (postRoom_run room)))
theorem wake_asks (asks : d ≠ 0) : exec (.wake b a d) s = .next ((s1.sentWake c la (s.rg b)).modMe
    (fun t => { t with reply := some (d, s1.msgSeq), life := .stalled .reply })) := by
  rw [wake_checked alone arg freed]
  simp only [asks, if_false]
  rfl
end
end
end

/-- Settles O50: each instruction by what it does past its checks; a BARW that arrives or resumes ends in `barwEnd`. -/
theorem barrierInstructionResults : Obligations.BarrierInstructionResults := by
  intro s s1 o ch ns b a d alone key k now u
  refine ⟨fun slot => ⟨fun e => bara_arrives slot, ?_, bara_waits slot, ?_⟩, bart_state alone,
    fun one low => ⟨missingWord ((s.barrier k).missing.getD []) ((s.rg a).toNat - 1), bart_missing alone one low,
      missingWord_getLsbD ((s.barrier k).missing.getD []) ((s.rg a).toNat - 1)⟩, bart_illegal, fun c la arg =>
      ⟨fun slot => ⟨fun x => waitq_answered alone arg slot, waitq_asks alone arg slot⟩, fun freed =>
        ⟨wake_posts alone arg freed, wake_asks alone arg freed⟩⟩⟩
  · intro e arrives unarmed now
    obtain ⟨t, waits, listed, pc⟩ := barwEnd_waits (o := o) (ch := ch) (ns := ns) (d := d) now
    refine ⟨stall t .barrier, (barw_arrives slot alone unarmed arrives).trans (congrArg (finish s) waits), ?_, ?_, ?_⟩
    · rw [stall, State.me_modMe]
    · rw [stall, State.me_modMe]
      exact listed
    · rw [stall, State.me_modMe]
      exact pc
  · intro e armed holds past released
    have released' : s.timed.me.awaiting.contains (s.myBarrier o ch) = false := by rwa [State.timed, State.me_modMe]
    exact (barw_resumes slot alone armed holds).trans (congrArg (finish s) (barwEnd_passes (s := s.timed) past released'))

end Sys2Proof.Machine
end

section
/-! A predicate of a follower whose leader's budget is spent is abandoned (R302), and completes no more. -/

namespace Sys2Proof.Machine

/-- A predicate whose stage C has found a shared key. -/
def tiedPredicate : Predicate := { word := 0, d := 0, masks := [], na := 0, nb := 0, nc := 1, nt := 0, tie := some 0, nfs := false }
/-- Slot 0 of core 0 holds the datapath for such a predicate, as a follower of a slot that has no budget left. -/
def spentLeader : State :=
  (State.reset.modCore 0 fun k => { k with datapath := some 0 }).modSlot 0 0 fun t =>
    { t with predicate := some tiedPredicate, life := .stalled .predicate, gang := true, leader := some (0, 1) }
/-- Who holds core 0's datapath in the next state, where there is one. -/
def nextDatapath : Out → Option (Option Nat)
  | .next t => some (t.core 0).datapath
  | _ => none
/-- Refutes O52: its clause of PREDICATE_COMPLETE leaves out that the slot abandons the predicate (`State.abandons`), as a
follower does whose leader's budget is spent: here the event leaves the datapath with the slot, and no trap is taken. -/
theorem not_geometryInstructionResults : ¬ Obligations.GeometryInstructionResults := by
  unfold Obligations.GeometryInstructionResults
  rintro ⟨-, completes, -⟩
  obtain ⟨traps, -⟩ := completes spentLeader 0 0 tiedPredicate (by decide +kernel) (by decide +kernel) (by decide +kernel)
    (by decide +kernel) (by decide +kernel)
  exact absurd (congrArg nextDatapath (traps 0 rfl)) (by decide +kernel)

end Sys2Proof.Machine
end

section
/-! Freezes, releases, errors, inspection, the harts, boot and the fetch traps (R336, R378 to R401). -/

namespace Sys2Proof.Machine

variable {s : State}

/-! ### Freezes and releases (R378, R379, R392) -/

/-- The contexts that `HFRZ` or `HREL` names. -/
theorem namedContexts_getLsbD (all : Bool) (c : BitVec 4) {k : Nat} (low : k < 16) :
    (if all then BitVec.allOnes 16 else 1#16 <<< c.toNat).getLsbD k = (all || k == c.toNat) := by
  cases all with
  | true => simp [-BitVec.reduceAllOnes, low]
  | false =>
    rw [if_neg Bool.false_ne_true, BitVec.getLsbD_shiftLeft, BitVec.getLsbD_one, Bool.eq_iff_iff]
    simp
    omega
theorem hrelGo_marks (high : s.headland.pinhold = false) : ∃ t, exec .hrelGo s = .next t ∧ ∀ k, k < 16 → t.headland.relPending.getLsbD k =
    (s.headland.relPending.getLsbD k || ((s.headland.relAll || k == s.headland.relCtx.toNat) && s.frozenMask.getLsbD k)) := by
  refine ⟨_, congrArg Host.Outcome.next (if_neg (by simp [high])), fun k low => ?_⟩
  simp only [BitVec.getLsbD_or, BitVec.getLsbD_and, namedContexts_getLsbD _ _ low]
theorem hrelGo_held (held : s.headland.pinhold = true) : exec .hrelGo s = .next s := congrArg Host.Outcome.next (if_pos held)
theorem freezeRelease_releases (pending : s.headland.relPending ≠ 0) (high : s.headland.pinhold = false) (stopped : s.stopped = true) :
    exec .freezeRelease s = .next (((List.range 16).filter (fun c => s.headland.relPending.getLsbD c)).foldl
      (fun s c => s.releaseFreeze c) { s with headland := { s.headland with relPending := 0 } }) :=
  if_neg (by
    rw [high, stopped]
    rintro (none | held | going)
    · exact pending none
    · cases held
    · cases going)

/-! ### Errors and inspection (R387 to R394) -/

theorem errorReport_reaches {u : State} {m : Msg} {id src c x : Nat} (taken : s.take id = some (m, u)) (error : m.body = .error src c x) :
    exec (.errorReport id) s = .next (u.errorAt src c x) := onMessage_taken taken (by rw [error])
theorem hicmd_fails {st : Nat} (fails : s.inspected = .error st) : ∀ i ∈ [Instr.hicmdRead, Instr.hicmdWrite],
    exec i s = .next { s with headland := { s.headland with icst := BitVec.ofNat 2 st } } := by
  simp only [List.forall_mem_cons]
  refine ⟨congrArg Host.Outcome.next ?_, congrArg Host.Outcome.next ?_, List.forall_mem_nil _⟩
  · rw [State.hicmdRead, fails]
  · rw [State.hicmdWrite, fails]
section
variable {c j o : Nat} (found : s.inspected = .ok (c, j, o))
include found
theorem hicmdRead_reads : let x : Word := if o = 0xFF8 then (if (s.slot c j).frozen then 2 else 1) else s.frameEntry c j o
    exec .hicmdRead s = .next { s with headland := { s.headland with idl := x.setWidth 32, idh := (x >>> 32).setWidth 32, icst := 0 } } := by
  refine congrArg Host.Outcome.next ?_
  rw [State.hicmdRead, found]
variable (entry : o ≠ 0xFF8)
include entry
theorem hicmdWrite_writes (frozen : (s.slot c j).frozen = true) (fits : frameValueOk o (s.headland.idh ++ s.headland.idl) = true) :
    exec .hicmdWrite s = .next { s.modSlot c j (fun t => t.putEntry o (s.headland.idh ++ s.headland.idl)) with
      headland := { s.headland with icst := 0 } } := by
  refine congrArg Host.Outcome.next ?_
  rw [State.hicmdWrite, found]
  exact (if_neg entry).trans (if_neg (by simp [frozen, fits]))
theorem hicmdWrite_refused (going : (s.slot c j).frozen = false) :
    exec .hicmdWrite s = .next { s with headland := { s.headland with icst := 3 } } := by
  refine congrArg Host.Outcome.next ?_
  rw [State.hicmdWrite, found]
  exact (if_neg entry).trans (if_pos (by simp [going]))
end
theorem helogPop_empty (empty : s.headland.log = []) : exec .helogPop s = .next { s with headland := { s.headland with popped := 0 } } := by
  refine congrArg Host.Outcome.next ?_
  unfold State.helogPop
  split
  · rfl
  · next log => cases empty.symm.trans log
theorem helogPop_takes {e : LogEntry} {l : List LogEntry} (log : s.headland.log = e :: l) :
    exec .helogPop s = .next { s with headland := { s.headland with popped := e.word, log := l } } := by
  refine congrArg Host.Outcome.next ?_
  unfold State.helogPop
  split
  · next empty => cases empty.symm.trans log
  · next log' =>
    cases log.symm.trans log'
    rfl
theorem hfwmbPost_enters {r : BitVec 32} {w : Word} {l : List Word} (words : Config.mailboxWords r = w :: l) (named : w ≠ 0) (small : w.toNat ≤ 9) :
    exec (.hfwmbPost r) s = .next { s with headland := { s.headland with posts := s.headland.posts + 1, mail := s.headland.mail ++ [r] } } := by
  refine congrArg Host.Outcome.next ?_
  rw [State.mailPost, words]
  exact if_neg fun bad => bad.elim named small.not_gt

/-! ### The harts (R385, R386) -/

/-- The main hart's instruction, with what the machine answers. -/
def State.hartGiven (s : State) : HartIn :=
  let f := s.hartFetch s.headland.main.pc
  ⟨s.headland.irq, f.1, f.2, (s.hartServe (s.headland.main.request s.headland.irq f.1)).1⟩
/-- What the main hart's instruction leaves of the rest of the machine. -/
def State.hartServed (s : State) : State :=
  (s.hartServe (s.headland.main.request s.headland.irq (s.hartFetch s.headland.main.pc).1)).2
section
variable (runs : s.phase = .running)
include runs
theorem hartStep_runs : s.hartStep = s.hartRun (s.hartFetch s.headland.main.pc).1 (s.hartFetch s.headland.main.pc).2 := if_pos runs
theorem hartStep_early (early : s.headland.behind.length < 2) : s.hartStep.headland.main = s.headland.main.next s.hartGiven := by
  rw [hartStep_runs runs]
  match behind : s.headland.behind, early with
  | [], _ =>
    simp only [State.hartRun, behind]
    rfl
  | [o], _ =>
    simp only [State.hartRun, behind]
    rfl
section
variable {o a : HartOut} (behind : s.headland.behind = [o, a])
include behind
theorem hartStep_agrees (agrees : s.hartServed.headland.checker.pc = o.fetch ∧
    s.hartServed.headland.checker.request o.given.irq o.given.word = o.req) :
    s.hartStep.headland.main = s.headland.main.next s.hartGiven ∧
      s.hartStep.headland.checker = s.hartServed.headland.checker.next o.given := by
  rw [hartStep_runs runs]
  unfold State.hartServed at agrees
  simp only [State.hartRun, behind, List.cons_append, List.nil_append]
  rw [if_pos agrees]
  exact ⟨rfl, rfl⟩
theorem hartStep_differs (differs : s.hartServed.headland.checker.pc ≠ o.fetch ∨
    s.hartServed.headland.checker.request o.given.irq o.given.word ≠ o.req) : ∃ z : State, s.hartStep = z.hartFault 11 := by
  rw [hartStep_runs runs]
  unfold State.hartServed at differs
  simp only [State.hartRun, behind, List.cons_append, List.nil_append]
  rw [if_neg (not_and_or.mpr differs)]
  exact ⟨_, rfl⟩
end
end

section
variable {k : Hart} {g : HartIn}
theorem Hart.next_interrupt (raised : g.irq = true) (on : k.mie = true) (external : k.meie = true) : k.next g = k.trap true 11 0 :=
  if_pos (by simp [Hart.interrupted, raised, on, external])
section
variable (goes : (g.irq && k.mie && k.meie) = false)
include goes
theorem Hart.next_fetchFault (faults : g.word = none) : k.next g = k.trap false 1 g.badAt := by
  rw [Hart.next, Hart.interrupted, goes, faults]
  rfl
theorem Hart.next_illegal {w : BitVec 32} (fetched : g.word = some w) (illegal : rvDecode (if rvIsWide w then w else w &&& 0xFFFF) = none) :
    k.next g = k.trap false 2 (if rvIsWide w then w else w &&& 0xFFFF) := by
  rw [Hart.next, Hart.interrupted, goes, fetched]
  dsimp only
  rw [illegal]
  rfl
end
end

/-! ### Recovery (R397, R398, R401) -/

theorem recoveryStageWrite_stages (serves : s.recovering 2 = true) (some_ : s.cmdLen ≠ 0) (fits : s.cmdAddr + s.cmdLen ≤ imageMax) :
    exec .recoveryStageWrite s = .next ((s.putBytes (stagingAt s.cmdAddr) (s.bytes (windowAt 32) s.cmdLen)).endCommand 0) :=
  (if_neg (by simp [serves, some_])).trans (if_neg fits.not_gt)
section
variable (serves : s.recovering 2 = true) (none_ : s.cmdLen = 0)
include serves none_
theorem recoveryCommit_refused {k : Nat} (fails : s.bootStep (stagingAt 0) = some k) : exec .recoveryCommit s = .next (s.endCommand 5) :=
  (if_neg (by simp [serves, none_])).trans (by rw [fails])
theorem recoveryCommit_boots (verified : s.bootStep (stagingAt 0) = none) : exec .recoveryCommit s = .next (({ s with
    mem := Mem.copy s.mem (stagingAt 0) (norAt 0) (s.sigAt (stagingAt 0) + 132)
    fuse := max s.fuse (s.imageSvn (stagingAt 0)) }.kept true).boot) :=
  (if_neg (by simp [serves, none_])).trans (by rw [verified])
end
theorem recoveryQuery_answers {k : Nat} (serves : s.recovering 4 = true) (failed : s.phase = .recovery (k + 1)) :
    exec .recoveryQuery s = .next (s.endReply (wordBytes [1, k + 1])) :=
  (if_neg (by simp [serves])).trans (by rw [failed]; rfl)

/-! ### The page trap of a fetch (R336) -/

section
variable {va : Word} {st : BitVec 6}
theorem fetchPageTrap_ecc (ecc : st.toNat % 16 = 7) :
    exec (.fetchPageTrap va st) s = .next (takeTrap s ⟨Cause.eccUncorrectable, 0, va.setWidth 48⟩) :=
  congrArg (fun x => Host.Outcome.next (takeTrap s x)) (if_pos (beq_iff_eq.mpr ecc))
theorem fetchPageTrap_page (plain : st.toNat % 16 ≠ 7) : exec (.fetchPageTrap va st) s =
    .next (takeTrap s ⟨if st.toNat % 16 = 6 then Cause.layoutAlias else Cause.fetchPage, st.setWidth 64, va.setWidth 48⟩) :=
  congrArg (fun x => Host.Outcome.next (takeTrap s x)) (if_neg fun ecc => plain (beq_iff_eq.mp ecc))
end

/-- Settles O59: each event by what its meaning gives past its conditions. -/
theorem headlandAndBootEventsComplete : Obligations.HeadlandAndBootEventsComplete := by
  intro s h
  refine ⟨rfl, hrelGo_marks, hrelGo_held, freezeRelease_releases, fun id m u src c x => errorReport_reaches, fun x due => if_neg (by simp [due]),
    fun out => if_pos out, rfl, rfl, rfl, rfl, fun st => hicmd_fails, fun c j o found => ⟨hicmdRead_reads found, hicmdWrite_writes found,
      hicmdWrite_refused found⟩, helogPop_empty, fun e l => helogPop_takes, fun v => rfl, rfl, fun r w l => hfwmbPost_enters, fun r none_ => ?_,
    fun l acts => ?_, fun runs => ⟨hartStep_early runs, fun o a behind => ⟨hartStep_agrees runs behind, hartStep_differs runs behind⟩⟩,
    fun k g => ⟨fun raised on external => ?_, fun goes => ⟨fun faults => ?_, fun w fetched illegal => ?_⟩⟩, rfl, rfl,
    recoveryStageWrite_stages, fun serves none_ => ⟨fun k => recoveryCommit_refused serves none_, recoveryCommit_boots serves none_⟩,
    fun serves k => recoveryQuery_answers serves, fun w tail => rfl, fun va st => ⟨fetchPageTrap_ecc, fun plain =>
      ⟨_, fetchPageTrap_page plain, fun six => if_pos six, fun other => if_neg other⟩⟩⟩
  · exact congrArg Host.Outcome.next (by rw [State.mailPost, none_])
  · rw [step, State.doStep, acts]
    rfl
  · rw [Hart.next_interrupt raised on external]
    exact ⟨rfl, rfl, rfl, on⟩
  · rw [Hart.next_fetchFault goes faults]
    exact ⟨rfl, rfl, rfl⟩
  · rw [Hart.next_illegal goes fetched illegal]
    exact ⟨rfl, rfl, rfl⟩

end Sys2Proof.Machine
end

section
/-! The host's registers, commands and queries (R363 to R366, R399). -/

namespace Sys2Proof.Machine

variable {s : State}

/-! ### Register writes (R363, R388) -/

section
variable {n : Nat} {v : Word} (own : n < 0x12000)
include own
/-- A number below the host's registers is Headland's. -/
theorem registerWrite_headland : exec (.registerWrite n v) s = match s.hput n (v.setWidth 32) with
    | none => .next (if hartCustom n && s.phase == .running then s.hartRun (some 0) 0 else s)
    | some t => .next t := by
  have below : ¬2 ^ 20 ≤ n := by omega
  exact (if_neg own.ne).trans ((if_neg (by omega)).trans ((if_neg below).trans rfl))
theorem registerWrite_puts {t : State} (puts : s.hput n (v.setWidth 32) = some t) : exec (.registerWrite n v) s = .next t := by
  rw [registerWrite_headland own, puts]
theorem registerWrite_unlisted (unlisted : s.hput n (v.setWidth 32) = none) (custom : hartCustom n = true) (runs : s.phase = .running) :
    exec (.registerWrite n v) s = .next (s.hartRun (some 0) 0) := by
  rw [registerWrite_headland own, unlisted]
  exact congrArg Host.Outcome.next (if_pos (by rw [custom, runs]; rfl))
end
/-- The numbers of Table 20.1 that a write reaches. -/
theorem registerWrite_listed (v : Word) : ∀ n ∈ [0x7C0, 0x7C1, 0x7C4, 0x7C5, 0x7C6, 0x7C7, 0x7C8, 0x7C9, 0x7D0, 0x7D1, 0x7D2, 0x7D8, 0x7DA, 0x7DC],
    ∃ t, s.hput n (v.setWidth 32) = some t ∧ exec (.registerWrite n v) s = .next t := by
  have listed : ∀ n, n < 0x12000 → (s.hput n (v.setWidth 32)).isSome →
      ∃ t, s.hput n (v.setWidth 32) = some t ∧ exec (.registerWrite n v) s = .next t := fun n own puts => by
    obtain ⟨t, puts⟩ := Option.isSome_iff_exists.mp puts
    exact ⟨t, puts, registerWrite_puts own puts⟩
  simp only [List.forall_mem_cons]
  refine ⟨?_, ?_, ?_, ?_, ?_, ?_, ?_, ?_, ?_, ?_, ?_, ?_, ?_, ?_, List.forall_mem_nil _⟩
  all_goals exact listed _ (by decide) rfl
theorem registerWrite_readOnly (v : Word) (runs : s.phase = .running) : ∀ n ∈ [0x7C2, 0x7C3, 0x7D9, 0xFC0, 0xFC3, 0xFC5],
    exec (.registerWrite n v) s = .next (s.hartRun (some 0) 0) := by
  simp only [List.forall_mem_cons]
  refine ⟨?_, ?_, ?_, ?_, ?_, ?_, List.forall_mem_nil _⟩
  all_goals exact registerWrite_unlisted (by decide) rfl (by decide) runs

/-! ### Launches, reads and writes (R364) -/

section
variable {op : Nat} {c : Option Nat} (serves : s.serving op c = true)
include serves
/-- A command that is in progress is served. -/
theorem serving_serves {x y : Out} : (if !s.serving op c then x else y) = y := if_neg (by simp [serves])
end
theorem sdioLaunch_refused (serves : s.serving 1 none = true) {st : Nat} (refused : s.launchRefused = some st) :
    exec .sdioLaunch s = .next (s.endCommand st) := (serving_serves serves).trans (by rw [refused])
theorem sdioLaunch_launches (serves : s.serving 1 none = true) (taken : s.launchRefused = none) : exec .sdioLaunch s =
    .next ((s.launchAll s.cmdCtx s.cmdArg s.cmdAddr s.launchCores s.launchArgs).endCommand 0) :=
  (serving_serves serves).trans (by rw [taken])
section
variable (context : s.cmdCtx < 16) (present : (s.ctx s.cmdCtx).state.absent = false)
include context present
theorem sdioContext {x y : Out} : (if s.cmdCtx ≥ 16 ∨ (s.ctx s.cmdCtx).state.absent then x else y) = y := if_neg (by simp [context, present])
section
variable (serves : s.serving 2 none = true)
include serves
theorem sdioWrite_checked : exec .sdioWrite s = match s.vaddrs s.cmdCtx s.cmdAddr s.cmdLen .store with
    | none => .next (s.endCommand 4)
    | some l => if l.any (s.heldBack s.firstFw) then .next s else
      .next (({ s with mem := Mem.puts s.mem (l.zip (s.bytes (windowAt 32) s.cmdLen)) }.tagLines (linesOf l) 3 s.firstFw s.cmdCtx).endCommand 0) :=
  (if_neg (by simp [serves]; omega)).trans ((sdioContext context present).trans rfl)
theorem sdioWrite_writes {l : List Nat} (legal : s.vaddrs s.cmdCtx s.cmdAddr s.cmdLen .store = some l)
    (free : l.any (s.heldBack s.firstFw) = false) : exec .sdioWrite s = .next (({ s with
      mem := Mem.puts s.mem (l.zip (s.bytes (windowAt 32) s.cmdLen)) }.tagLines (linesOf l) 3 s.firstFw s.cmdCtx).endCommand 0) := by
  rw [sdioWrite_checked context present serves, legal]
  exact if_neg (ne_true_of_eq_false free)
theorem sdioWrite_illegal (illegal : s.vaddrs s.cmdCtx s.cmdAddr s.cmdLen .store = none) : exec .sdioWrite s = .next (s.endCommand 4) := by
  rw [sdioWrite_checked context present serves, illegal]
end
theorem sdioRead_reads (serves : s.serving 3 none = true) {l : List Nat} (legal : s.vaddrs s.cmdCtx s.cmdAddr s.cmdLen .load = some l)
    (free : l.any (s.heldBack s.firstFw) = false) (sound : ∀ a ∈ l, s.poisoned a 1 = false) :
    exec .sdioRead s = .next (s.endReply (l.map s.byte)) := by
  have clean : l.any (fun a => s.poisoned a 1) = false := by simpa using sound
  refine (if_neg (by simp [serves]; omega)).trans ((sdioContext context present).trans ?_)
  rw [legal]
  exact (if_neg (ne_true_of_eq_false free)).trans (if_neg (ne_true_of_eq_false clean))
end
theorem sdioTraceRead_reads (serves : s.serving 3 (some 0xFE) = true) (context : s.cmdAddr < 16) (whole : s.cmdLen % 8 = 0)
    (present : (s.ctx s.cmdAddr).state.absent = false) : exec .sdioTraceRead s =
      .next ((s.modCtx s.cmdAddr (fun x => { x with trace := x.trace.drop (s.cmdLen / 8) })).endReply
        (wordBytes (((s.ctx s.cmdAddr).trace.take (s.cmdLen / 8)).map (·.toNat)))) := by
  refine (serving_serves serves).trans ((if_neg (by simp [context, whole])).trans ?_)
  simp only [present]
  rfl
theorem sdioAttest_signs (serves : s.serving 5 none = true) (whole : s.cmdLen = 64) : exec .sdioAttest s =
    .next (s.endReply (s.reportBody ++ leBytes 132 (Config.sign (sha512 s.reportBody)).toNat)) :=
  (serving_serves serves).trans (if_neg (by simp [whole]))

/-! ### Queries (R366) -/

theorem CtxState.code_lt (x : CtxState) : x.code < 8 := by cases x <;> decide
/-- Of a list of pairs, every second element. -/
theorem getElem?_flatMap_pair {α β : Type} (f g : α → β) (l : List α) (i : Nat) :
    (l.flatMap (fun x => [f x, g x]))[2 * i + 1]? = l[i]?.map g := by
  induction l generalizing i with
  | nil => rfl
  | cons x l ih => cases i with
    | zero => rfl
    | succ i => exact ih i
section
variable {k : Nat} (asks : s.querying k = true)
include asks
theorem querying_answers {x y : Out} : (if !s.querying k then x else y) = y := if_neg (by simp [asks])
end
theorem queryDevice_answers (asks : s.querying 0 = true) : ∃ l : List Nat, l.length = 12 ∧ l[1]? = some s.svn ∧ l[2]? = some s.dtime.toNat ∧
    exec .queryDevice s = .next (s.endReply (wordBytes l)) := ⟨_, rfl, rfl, rfl, querying_answers asks⟩
theorem queryContexts_answers (asks : s.querying 1 = true) : ∃ l : List Nat, l.length = 32 ∧
    exec .queryContexts s = .next (s.endReply (wordBytes l)) ∧ ∀ c, c < 16 → (l[c]?).map (· % 2 ^ 8) = some (s.ctx c).state.code := by
  refine ⟨_, ?_, querying_answers asks, fun c low => ?_⟩
  · simp
  · have small := (s.ctx c).state.code_lt
    rw [List.getElem?_append_left (by simpa using low)]
    simp [low]
    omega
theorem queryLinks_answers (asks : s.querying 2 = true) : ∃ l : List Nat, l.length = 38 ∧
    exec .queryLinks s = .next (s.endReply (wordBytes l)) ∧ ∀ i, i < 19 → l[2 * i + 1]? = some (s.link i).dropped.toNat := by
  refine ⟨_, ?_, querying_answers asks, fun i low => ?_⟩
  · simp
  · exact (getElem?_flatMap_pair _ _ _ _).trans (by simp [low])
theorem queryStream_answers (asks : s.querying 3 = true) (named : bits s.cmdArg 16 7 ≤ 67) : ∃ l : List Nat, l.length = 8 ∧
    l.head? = some (s.stream (bits s.cmdArg 16 7)).sent.toNat ∧ exec .queryStream s = .next (s.endReply (wordBytes l)) :=
  ⟨_, rfl, rfl, (querying_answers asks).trans (if_neg named.not_gt)⟩
theorem queryCove_answers (asks : s.querying 4 = true) : ∃ l : List Nat, l.length = 10 ∧
    l.head? = some (s.cove (bits s.cmdArg 16 6)).mxe.rejected.toNat ∧ exec .queryCove s = .next (s.endReply (wordBytes l)) :=
  ⟨_, rfl, rfl, querying_answers asks⟩

end Sys2Proof.Machine
end

section
/-! Firmware requests (R365). -/

namespace Sys2Proof.Machine

variable {s : State}

section
variable {code : Nat} {bad refused : Bool} (act : State → State) (posted : s.requested code = true) (good : bad = false)
include posted good
/-- A request whose payload Table 18.4 allows acts and ends with 0, or is refused with 5. -/
theorem State.request_done (allowed : refused = false) : s.request code bad refused act = (act s).endRequest 0 := by
  simp [State.request, posted, good, allowed]
theorem State.request_refused (barred : refused = true) : s.request code bad refused act = s.endRequest 5 := by
  simp [State.request, posted, good, barred]
end

/-! ### Contexts -/

section
variable (posted : s.requested 1 = true) (words : 14 ≤ s.reqWords) (sources : s.pf 13 0 7 ≤ 64)
  (named : s.badWords (createMasks (s.pf 13 0 7)) = false) (ranged : s.created.outOfRange = false)
include posted words sources named ranged
theorem fwCreateContext_creates (allowed : s.createRefused s.reqCtx s.created = false) :
    exec .fwCreateContext s = .next ((s.createContext s.reqCtx s.created).endRequest 0) :=
  congrArg Host.Outcome.next (State.request_done _ posted (by simp [words, sources, named, ranged]) allowed)
theorem fwCreateContext_refused (barred : s.createRefused s.reqCtx s.created = true) :
    exec .fwCreateContext s = .next (s.endRequest 5) :=
  congrArg Host.Outcome.next (State.request_refused _ posted (by simp [words, sources, named, ranged]) barred)
end
section
variable (posted : s.requested 2 = true) (named : s.badWords [0xF] = false)
include posted named
theorem fwDrainContext_drains (going : (s.ctx s.reqCtx).state = .ready ∨ (s.ctx s.reqCtx).state = .quotaHeld ∨ (s.ctx s.reqCtx).state = .faulted) :
    exec .fwDrainContext s = .next ((s.enterDraining s.reqCtx).endRequest 0) := by
  refine congrArg Host.Outcome.next ((State.request_done _ posted named ?_).trans (congrArg (State.endRequest · 0) (if_neg ?_)))
  all_goals rcases going with is | is | is <;> simp [is]
theorem fwDrainContext_records (frozen : (s.ctx s.reqCtx).state = .frozen) : exec .fwDrainContext s =
    .next ((s.modCtx s.reqCtx (fun x => { x with drainRecorded := true })).endRequest 0) :=
  congrArg Host.Outcome.next ((State.request_done _ posted named (by simp [frozen])).trans (congrArg (State.endRequest · 0) (if_pos frozen)))
end
section
variable (posted : s.requested 3 = true) (named : s.badWords [0xF] = false)
include posted named
theorem fwResumeContext_resumes (faulted : (s.ctx s.reqCtx).state = .faulted) : exec .fwResumeContext s =
    .next (((s.modCtx s.reqCtx (fun x => { x with state := if x.spentOut then .quotaHeld else .ready })).scheduleAll s.reqCtx).endRequest 0) :=
  congrArg Host.Outcome.next (State.request_done _ posted named (by simp [faulted]))
theorem fwResumeContext_refused (other : (s.ctx s.reqCtx).state ≠ .faulted) : exec .fwResumeContext s = .next (s.endRequest 5) :=
  congrArg Host.Outcome.next (State.request_refused _ posted named (by simp [other]))
end

/-! ### Maps -/

section
variable (posted : s.requested 4 = true) (ranged : s.badRange = false) (present : (s.ctx s.reqCtx).state.absent = false) (some_ : s.reqWord 4 ≠ 0)
include posted ranged present some_
theorem fwMap_maps (maps : s.pf 1 8 1 = 1)
    (readable : ¬(s.pf 1 12 1 = 1 ∧ s.reqWord 3 < capFrame + 2 ^ 14 ∧ capFrame < s.reqWord 3 + s.reqWord 4))
    (allowed : s.mapRefused s.reqCtx (s.reqWord 2) (s.reqWord 3) (s.reqWord 4) (s.pf 1 16 2) = false) : exec .fwMap s =
      .next ((s.mapRange s.reqCtx (s.reqWord 2) (s.reqWord 3) (s.reqWord 4) (s.pf 1 11 3) (s.pf 1 16 2)).endRequest 0) := by
  have writable : (s.pf 1 12 1 == 1 && decide (s.reqWord 3 < capFrame + 2 ^ 14) && decide (capFrame < s.reqWord 3 + s.reqWord 4)) = false := by
    rw [Bool.eq_false_iff]
    simp only [ne_eq, Bool.and_eq_true, beq_iff_eq, decide_eq_true_eq, and_assoc]
    exact readable
  refine (if_neg (by omega)).trans (congrArg Host.Outcome.next (State.request_done _ posted ranged ?_))
  rw [State.reqAbsent, present, beq_eq_false_iff_ne.mpr some_, writable, allowed]
  rfl
theorem fwUnmap_unmaps (unmaps : s.pf 1 8 1 ≠ 1) (first : s.reqWait = false)
    (unspilt : (s.ctx s.reqCtx).touchesSpill (s.reqWord 2) (s.reqWord 4) = false) (uncapped : s.meetsCaps (s.reqWord 2) (s.reqWord 4) = false) :
    let u := s.unmapRange s.reqCtx (s.reqWord 2) (s.reqWord 4)
    exec .fwUnmap s = .next (if u.invals.any (fun i => i.ctx == s.reqCtx) then u.requestWaits else u.endRequest 0) :=
  (if_neg (by simp [posted, unmaps])).trans ((if_neg (by simp [first])).trans ((if_neg (by simp [ranged])).trans
    (if_neg (by simp [State.reqAbsent, present, some_, unspilt, uncapped]))))
end

/-! ### Cores and sources -/

section
variable (posted : s.requested 5 = true) (named : s.badWords [0x101FF] = false) (own : s.isFw (s.pf 1 0 9) = false)
include posted named own
theorem fwParkCore_parks (parks : s.pf 1 16 1 ≠ 0) : exec .fwParkCore s = .next (((s.fixParticipants (s.pf 1 0 9)).modCore (s.pf 1 0 9)
    (fun k => { k with parked := true })).endRequest 0) :=
  (if_neg parks).trans (congrArg Host.Outcome.next (State.request_done _ posted named own))
theorem fwUnparkCore_unparks (unparks : s.pf 1 16 1 ≠ 1) : exec .fwUnparkCore s =
    .next (([s.pf 1 0 9, primaryOf (s.pf 1 0 9)].dedup.foldl (fun s d => (s.schedule d).startService d)
      ((s.fixParticipants (s.pf 1 0 9)).modCore (s.pf 1 0 9) (fun k => { k with parked := false }))).endRequest 0) :=
  (if_neg unparks).trans (congrArg Host.Outcome.next (State.request_done _ posted named own))
end
section
variable (posted : s.requested 6 = true) (named : s.badSource = false) (allowed : s.sourceRefused = false)
include posted named allowed
theorem fwRetireSource_retires (retires : s.pf 1 16 1 ≠ 0) :
    exec .fwRetireSource s = .next ((s.setSource s.reqCtx (s.pf 1 8 6) false).endRequest 0) :=
  (if_neg retires).trans (congrArg Host.Outcome.next (State.request_done _ posted named allowed))
theorem fwReviveSource_revives (revives : s.pf 1 16 1 ≠ 1) :
    exec .fwReviveSource s = .next ((s.setSource s.reqCtx (s.pf 1 8 6) true).endRequest 0) :=
  (if_neg revives).trans (congrArg Host.Outcome.next (State.request_done _ posted named allowed))
end

/-! ### Streams, timers and kernels -/

theorem fwConfigureStream_configures (posted : s.requested 7 = true)
    (named : s.badWords [0x3F0F0FFFF3007F, 0x1FFFFFFFFFFFF, 0x1FFFFF001FFFFF, 0xFFFFF7F7F] = false) (stream : s.pf 1 0 7 ≤ 67)
    (ranged : s.configured.outOfRange = false) (present : (s.ctx s.configured.ctx).state.absent = false) (e : Source)
    (found : (s.ctx s.configured.ctx).sources[s.configured.entry]? = some e) (mine : e.id = s.srcId 0 (s.pf 1 0 7)) :
    exec .fwConfigureStream s = .next ((s.setStream (s.pf 1 0 7) s.configured).endRequest 0) :=
  congrArg Host.Outcome.next (State.request_done _ posted (by simp [named, stream, ranged]) (by simp [present, found, mine]))
theorem fwSetTimer_sets (posted : s.requested 8 = true) (named : s.badWords [0xFFFF0F, 0xF1FFFFFFFFFF] = false)
    (present : (s.ctx s.reqCtx).state.absent = false) (period : s.pf 2 0 32 ≠ 0) : exec .fwSetTimer s =
      .next ({ s with timers := s.timers.filter (fun (t : Timer) => !(t.ctx == s.reqCtx && t.num == s.pf 1 8 16)) ++
        ([⟨s.reqCtx, s.pf 1 8 16, s.pf 2 0 32, s.pf 2 32 9, s.pf 2 44 4, s.dtime.toNat + 1000 * s.pf 2 0 32, 0⟩] : List Timer) }.endRequest 0) := by
  refine congrArg Host.Outcome.next ((State.request_done _ posted named (by simp [State.reqAbsent, present, period])).trans ?_)
  simp only [period, if_false]
section
variable (posted : s.requested 9 = true) (named : s.badWords [0xF, 2 ^ 48 - 1] = false)
include posted named
theorem fwLoadKernel_begins (loading : (s.ctx s.reqCtx).state = .loading) (idle : (s.ctx s.reqCtx).pending = none) (settled : s.regionFrom = none) :
    exec .fwLoadKernel s = .next (s.beginKernel s.reqCtx (s.reqWord 2)) :=
  (if_neg (by simp [posted])).trans ((if_neg (ne_true_of_eq_false named)).trans ((if_neg (not_not_intro loading)).trans
    (if_neg (by simp [idle, settled]))))
theorem fwLoadKernel_refused (other : (s.ctx s.reqCtx).state ≠ .loading) : exec .fwLoadKernel s = .next (s.endRequest 5) :=
  (if_neg (by simp [posted])).trans ((if_neg (ne_true_of_eq_false named)).trans (if_pos other))
end

end Sys2Proof.Machine
end

section
/-! Links, records of other devices and sensors (R356 to R362, R367 to R372). -/

namespace Sys2Proof.Machine

variable {s u : State}

/-! ### Links (R356 to R360) -/

section
variable {i : Nat} (low : i < 19)
include low
theorem linkEnable_trains (down : (s.link i).state = .down) :
    exec (.linkEnable i) s = .next (s.linkTo i { s.link i with state := .training, since := s.dtime.toNat }) := if_neg (by simp [low, down])
theorem linkLaneLost_trains (up : (s.link i).state = .up) :
    exec (.linkLaneLost i) s = .next (s.linkTo i { s.link i with state := .training, since := s.dtime.toNat }) := if_neg (by simp [low, up])
theorem linkDisable_downs (up : (s.link i).state = .up) : exec (.linkDisable i) s = .next (s.linkTo i { s.link i with state := .down }) :=
  if_neg (by simp [low, up, LinkState.carries])
section
variable (training : (s.link i).state = .training)
include training
theorem linkTrainingDone_ups : exec (.linkTrainingDone i 0) s =
    .next ((if i = 4 ∨ i = 5 then s.aligned else s).linkTo i { s.link i with state := .up, lost := 0 }) :=
  (if_neg low.not_ge).trans (if_pos ⟨.inl training, rfl⟩)
theorem linkTrainingDone_degrades {k : Nat} (some_ : 0 < k) (few : k ≤ 4) (lanes : i < 6) : exec (.linkTrainingDone i k) s =
    .next ((if i = 4 ∨ i = 5 then s.aligned else s).linkTo i { s.link i with state := .degraded, lost := k }) :=
  (if_neg low.not_ge).trans ((if_neg fun all => some_.ne' all.2).trans (if_pos ⟨training, lanes, few⟩))
theorem linkTrainingTimeout_downs : exec (.linkTrainingTimeout i) s = .next (s.linkTo i { s.link i with
    state := .down, failures := BitVec.ofNat 16 (min 0xFFFF ((s.link i).failures.toNat + 1)) }) := if_neg (by simp [low, training])
end
end
section
variable {i : Nat}
theorem State.countReplay_carries (up : (s.link i).state = .up) : s.countReplay i = s.setLink i { s.link i with replays := bump (s.link i).replays } :=
  if_pos (by rw [up]; rfl)
section
variable (module : i < 4)
include module
theorem ucieReplay_counts (up : (s.link i).state = .up) :
    exec (.ucieReplay i) s = .next (s.setLink i { s.link i with replays := bump (s.link i).replays }) :=
  (if_pos module).trans (congrArg Host.Outcome.next (State.countReplay_carries up))
section
variable (still : s.rowTraffic i = false)
include still
theorem ucieReroute_own (up : (s.link i).state = .up) : exec (.ucieReroute i) s = .next (s.setLink i { s.link i with route := none }) := by
  refine (if_neg (by simp [module, still])).trans ?_
  dsimp only
  split
  · rfl
  · next training => cases up.symm.trans training
  · next other _ => exact absurd up other
theorem ucieReroute_nearest (lost : (s.link i).state = .down ∨ (s.link i).state = .degraded) {k : Nat} (near : s.nearestUp i = some k) :
    exec (.ucieReroute i) s = .next (s.setLink i { s.link i with route := some k }) := by
  refine (if_neg (by simp [module, still])).trans ?_
  dsimp only
  split
  · next up => rcases lost with is | is <;> cases up.symm.trans is
  · next training => rcases lost with is | is <;> cases training.symm.trans is
  · rw [near]
end
end
theorem rhoashFrameReplay_counts (rhoash : i = 4 ∨ i = 5) (up : (s.link i).state = .up) :
    exec (.rhoashFrameReplay i) s = .next (s.setLink i { s.link i with replays := bump (s.link i).replays }) :=
  (if_pos rhoash).trans (congrArg Host.Outcome.next (State.countReplay_carries up))
end

/-! ### Records of other devices (R361, R362) -/

section
variable {id : Nat} {m : Msg} (taken : s.take id = some (m, u)) {r : Rec} {x d : Nat} {word : BitVec 16} {w : Sender} {o : Bool}
include taken
section
variable (leaves : m.body = .record r x (.device d word) w o)
include leaves
theorem rhoashRecordArrive_unrouted (cut : u.route d = none) : exec (.rhoashRecordArrive id) s = .next (u.tell m w 2) :=
  onMessage_taken taken (by simp only [leaves, cut])
theorem rhoashRecordArrive_leaves {l : Nat} (route : u.route d = some l) (carries : (u.link l).state.carries = true) :
    exec (.rhoashRecordArrive id) s = .next ((u.tell m w 0).post (Agent.device u.dev.toNat) (Agent.device d) (.rhoash r d word l)) :=
  onMessage_taken taken (by simp only [leaves, route, carries, if_true])
end
theorem rhoashRecordArrive_delivers {l : Nat} (arrives : m.body = .rhoash r u.dev.toNat word l) :
    exec (.rhoashRecordArrive id) s = .next (u.deliverPeer r word) := onMessage_taken taken (by simp only [arrives, if_true])
end

/-! ### Sensors (R367 to R370) -/

section
variable {n : Nat} {t : Stream} (found : s.streams.find n = some t)
include found
theorem State.stream_found : s.stream n = t := by rw [State.stream, FMap.getD, found, Option.getD_some]
section
variable (camera : n < 64)
include camera
section
variable (port : s.portUp (8 * (n / 8)) = true) (ws : List Word)
include port
/-- A packet of a camera's stream, past the checks of its port. -/
theorem csi2Packet_checked : exec (.csi2Packet (n / 8) (n % 8) 0x30 ws) s =
    (let v := s.setStream n { t with discarded := bump t.discarded }
    if t.cut then .next v
    else if !t.en then .next (if t.base = none then v else s)
    else
      let s := if t.base = none then v else s
      let s := (ws.take (t.maxb / 4)).foldl (fun s v => s.cameraWord n 0x30 v) s
      .next (if ws.length * 4 ≤ t.maxb then s else s.lenviol n ((t.maxb / 4 + 1) * 4) false)) := by
  have name : 8 * (n / 8) + n % 8 = n := Nat.div_add_mod n 8
  have up : ¬(n / 8 ≥ 8 ∨ !s.portUp (8 * (n / 8))) := by simp [port]; omega
  refine (if_neg up).trans ((if_neg (by omega)).trans ((if_neg (by decide)).trans ?_))
  rw [name, State.stream_found found]
  rfl
theorem csi2Packet_cut (cut : t.cut = true) :
    exec (.csi2Packet (n / 8) (n % 8) 0x30 ws) s = .next (s.setStream n { t with discarded := bump t.discarded }) :=
  (csi2Packet_checked found camera port ws).trans (if_pos cut)
theorem csi2Packet_disabled (off : t.en = false) : exec (.csi2Packet (n / 8) (n % 8) 0x30 ws) s =
    .next (if t.cut = true ∨ t.base = none then s.setStream n { t with discarded := bump t.discarded } else s) := by
  rw [csi2Packet_checked found camera port ws]
  by_cases cut : t.cut = true <;> simp [cut, off]
theorem csi2Packet_senses (on : t.en = true) (uncut : t.cut = false) (based : t.base.isSome = true) (fits : ws.length * 4 ≤ t.maxb) :
    exec (.csi2Packet (n / 8) (n % 8) 0x30 ws) s = .next (ws.foldl (fun s v => s.cameraWord n 0x30 v) s) := by
  have whole : ws.take (t.maxb / 4) = ws := List.take_of_length_le (by omega)
  have set_ : t.base ≠ none := Option.isSome_iff_ne_none.mp based
  rw [csi2Packet_checked found camera port ws]
  simp only [uncut, on, whole, set_, fits, if_true, if_false, Bool.not_true, Bool.false_eq_true]
end
section
variable (on : t.en = true) (up : s.portUp n = true)
include on up
theorem csi2FrameStart_sets : exec (.csi2FrameStart n) s = .next (s.setStream n { t with base := some (s.dtime - BitVec.ofNat 64 t.offset) }) := by
  show execCsi2FrameStart n s = _
  rw [execCsi2FrameStart, found]
  exact if_neg (by simp [camera, on, up])
theorem decoderWatchdog_cuts (uncut : t.cut = false) (k : Nat) : exec (.decoderWatchdog n k) s = .next (s.lenviol n k true) := by
  show execDecoderWatchdog n k s = _
  rw [execDecoderWatchdog, found]
  exact if_neg (by simp [camera, on, up, uncut])
end
end
section
variable (on : t.en = true) (up : s.portUp n = true) (taxel : 64 ≤ n) (uncut : t.cut = false)
include on up taxel uncut
theorem taxelScan_scans (idle : t.scanning = false) (due : t.scanAt ≤ s.dtime.toNat) : exec (.taxelScan n) s = .next (s.setStream n { t with
    scanning := true, scanFrom := s.dtime.toNat, scanAt := t.scanAt + 1000 * t.period }) := by
  show execTaxelScan n s = _
  rw [execTaxelScan, found]
  exact if_neg (by simp [taxel, on, up, uncut, idle, due])
theorem taxelFrameDone_ends (scanning : t.scanning = true) (vs : List (BitVec 16)) (whole : vs.length = t.rows * t.cols)
    (early : s.dtime.toNat ≤ maxcEnd t.scanFrom t.maxc) : exec (.taxelFrameDone n vs) s =
      .next ((vs.mapIdx (fun i v => (i, v))).foldl (fun s p => s.taxel n p.1 p.2) (s.setStream n { t with scanning := false })) := by
  show execTaxelFrameDone n vs s = _
  rw [execTaxelFrameDone, found]
  exact if_neg (by simp [taxel, on, up, uncut, scanning, whole, early])
end
end

/-- Settles O60: each command, request and event by what its meaning gives past its checks. -/
theorem hostLinkAndSensorEventsComplete : Obligations.HostLinkAndSensorEventsComplete := by
  refine ⟨?_, ?_, ?_, ?_, ?_, ?_⟩
  · refine fun s => ⟨fun v rings => congrArg Host.Outcome.next (if_pos rings), fun v clears up => ?_, fun n v listed => registerWrite_listed v n listed,
      fun n v readOnly runs => registerWrite_readOnly v runs n readOnly, fun serves => ⟨fun st => sdioLaunch_refused serves, sdioLaunch_launches serves⟩,
      fun serves context present => ⟨fun l => sdioWrite_writes context present serves, sdioWrite_illegal context present serves⟩,
      fun serves context present l => sdioRead_reads context present serves, sdioTraceRead_reads, sdioAttest_signs, queryDevice_answers,
      queryContexts_answers, queryLinks_answers, queryStream_answers, queryCove_answers⟩
    refine congrArg Host.Outcome.next ((if_pos up).trans ?_)
    rw [clears, Bool.not_true, Bool.and_false]
  · intro s c x
    exact ⟨fun posted words sources named ranged =>
        ⟨fwCreateContext_creates posted words sources named ranged, fwCreateContext_refused posted words sources named ranged⟩,
      fun posted named => ⟨fwDrainContext_drains posted named, fwDrainContext_records posted named⟩,
      fun posted named => ⟨fwResumeContext_resumes posted named, fwResumeContext_refused posted named⟩,
      fun posted ranged present some_ => ⟨fwMap_maps posted ranged present some_, fwUnmap_unmaps posted ranged present some_⟩,
      fun posted named own => ⟨fwParkCore_parks posted named own, fwUnparkCore_unparks posted named own⟩,
      fun posted named allowed => ⟨fwRetireSource_retires posted named allowed, fwReviveSource_revives posted named allowed⟩,
      fwConfigureStream_configures, fwSetTimer_sets, fun posted named => ⟨fwLoadKernel_begins posted named, fwLoadKernel_refused posted named⟩⟩
  · intro s i low l
    exact ⟨linkEnable_trains low, fun training => ⟨linkTrainingDone_ups low training, linkTrainingTimeout_downs low training,
        fun k => linkTrainingDone_degrades low training⟩, fun up => ⟨linkLaneLost_trains low up, linkDisable_downs low up,
          fun module => ucieReplay_counts module up, fun rhoash => rhoashFrameReplay_counts rhoash up,
          fun module still => ucieReroute_own module still up⟩, fun module lost still k => ucieReroute_nearest module still lost⟩
  · exact fun s u id m taken => ⟨fun r x d word w o leaves => ⟨rhoashRecordArrive_unrouted taken leaves,
      fun l => rhoashRecordArrive_leaves taken leaves⟩, fun r word l => rhoashRecordArrive_delivers taken⟩
  · exact fun s n t found off camera port ws => csi2Packet_disabled found camera port ws off
  · exact fun s n t found on up => ⟨fun camera => ⟨csi2FrameStart_sets found camera on up,
        fun cut ws port => csi2Packet_cut found camera port ws cut, fun uncut based ws fits port =>
          csi2Packet_senses found camera port ws on uncut based fits, decoderWatchdog_cuts found camera on up⟩,
      fun taxel uncut => ⟨taxelScan_scans found on up taxel uncut, taxelFrameDone_ends found on up taxel uncut⟩⟩

end Sys2Proof.Machine
end

section
/-! The events of the matrix engine (R257 to R267, R271, R276). -/

namespace Sys2Proof.Machine

variable {s u t : State}

/-! ### Messages to the engine (R261, R271, R276) -/

section
variable {id : Nat} {m : Msg} (taken : s.take id = some (m, u))
include taken
theorem mxeAccept_submits {d : List Word} {x c j : Nat} {stamp : BitVec 48} {late : Bool} {prio : Nat} {task : BitVec 32}
    (arrives : m.body = .mxq d x stamp late prio task c j) :
    let r := u.submit (coveOf c) { id := 0, d := d, ctx := x, stamp := stamp, late := late, prio := prio, task := task, core := c }
    r.2.giveReply c j task id r.1 = some t → exec (.mxeAccept id) s = .next t := by
  intro r answered
  show execMxeAccept id s = _
  simp only [execMxeAccept, taken, arrives]
  exact congrArg (fun o : Option State => Host.Outcome.next (o.getD s)) answered
section
variable {v n o c b : Nat} {j : Job} (arrives : m.body = .sample v n o c b) (job : (u.cove v).mxe.job n = some j) (going : j.state ≠ .cancelled)
include arrives job going
theorem jobBankSample_samples {sd : Nat} (live : (u.sampleFor c b j.ctx).2 = some sd) : exec (.jobBankSample id) s =
    .next ((u.sampleFor c b j.ctx).1.setJob v { j with sampling := j.sampling - 1, sides := j.sides ++ [(o, c, b, sd)] }) := by
  show execJobBankSample id s = _
  simp only [execJobBankSample, taken, arrives, job, if_neg going, live]
theorem jobBankSample_noSide (none_ : (u.sampleFor c b j.ctx).2 = none) : exec (.jobBankSample id) s =
    .next ((u.sampleFor c b j.ctx).1.setJob v { j with sampling := j.sampling - 1, noSide := true }) := by
  show execJobBankSample id s = _
  simp only [execJobBankSample, taken, arrives, job, if_neg going, none_]
end
section
variable {n task : BitVec 32} {x c j : Nat} (arrives : m.body = .mxcan n x c j task) (first : s.submitAhead id c = false)
include arrives first
/-- What a cancel answers, and what it leaves of the engine, by the job that it names. -/
def State.cancelled (u : State) (v : Nat) (o : Option Job) : State × Word :=
  match o with
  | none => (u, 3)
  | some k => match k.state with
    | .draining => (u, 2)
    | .running => (u.setJob v { k with cancel := true }, 0)
    | .queued | .admitted => (u.endJob v k .cancelled 0 0 true, 0)
    | _ => (u, 1)
theorem mxeCancel_answers (answered : let r := u.cancelled (coveOf c) ((u.cove (coveOf c)).mxe.jobs.find? (fun j => j.id == n && j.ctx == x))
    r.1.giveReply c j task id r.2 = some t) : exec (.mxeCancel id) s = .next t := by
  show execMxeCancel id s = _
  simp only [execMxeCancel, taken, arrives, first, Bool.false_eq_true, if_false]
  cases named : (u.cove (coveOf c)).mxe.jobs.find? (fun j => j.id == n && j.ctx == x) with
  | none =>
    rw [named] at answered
    exact congrArg (fun o : Option State => Host.Outcome.next (o.getD s)) answered
  | some k =>
    rw [named] at answered
    cases state : k.state <;> simp only [State.cancelled, state] at answered <;> simp only [state, answered, Option.getD_some]
end
end

/-! ### Admission, operands and drains (R257 to R259, R262, R264, R266, R267) -/

section
variable {v n : Nat} {j : Job}
/-- A job that has been admitted takes the operands of its next slot, or of the one after it. -/
theorem not_operandsIdle (goes : j.state = .admitted ∨ j.state = .running) (early : j.arrived < min (s.totalSlots v j) (j.slots + 2)) :
    ¬((j.state ≠ .admitted ∧ j.state ≠ .running) ∨ j.arrived ≥ min (s.totalSlots v j) (j.slots + 2)) := by
  rintro (⟨other, other'⟩ | late)
  · exact goes.elim other other'
  · exact late.not_gt early
/-- A job with the flags of its drain, which is compared where its context is a pair (R266). -/
def State.drainedJob (s : State) (v : Nat) (j : Job) : Job :=
  { j with flags := j.flags ||| (s.drainBytes v j).2, checked := s.jobPaired j }
/-- Whether a second drain differs from the first (R266). -/
def State.drainDiffers (s : State) (v : Nat) (j : Job) : Bool :=
  (s.drainedJob v j).checked && (s.drainedJob v j).drain != (s.drainedJob v j).flags.setWidth 8 :: (s.drainBytes v j).1.map (·.2)
/-- A drain that has reached its pages leaves them and is metered. -/
def State.leaveDrain (s : State) (j : Job) : State := (s.leaveAll j.who).meter j.ctx (Config.mxeEnergy s.free)
variable (job : (s.cove v).mxe.job n = some j)
include job
section
variable (queued : j.state = .queued) (sampled : j.sampling = 0) (apart : s.overlapped v j = false)
  (first : ((s.cove v).mxe.jobs.takeWhile (fun o => o.id != j.id)).any (fun o => o.state == .queued && !s.overlapped v o) = false)
include queued sampled apart first
theorem mxeAdmit_checked : exec (.mxeAdmit v n) s = if !s.descOk v j then .next (s.faultJob v j 1 0)
    else if s.regionBad v j then .next (s.faultJob v j 6 0)
    else .next ((s.modCove v (fun c => { c with mxe := { c.mxe with
      owners := (s.chunks v j).foldl (fun o k => o.set k j.ctx) c.mxe.owners } })).setJob v { j with state := .admitted }) := by
  show execMxeAdmit v n s = _
  rw [execMxeAdmit, job]
  exact if_neg (by simp [queued, sampled, apart, first])
theorem mxeAdmit_desc (bad : s.descOk v j = false) : exec (.mxeAdmit v n) s = .next (s.faultJob v j 1 0) :=
  (mxeAdmit_checked job queued sampled apart first).trans (if_pos (by simp [bad]))
theorem mxeAdmit_region (good : s.descOk v j = true) (bad : s.regionBad v j = true) : exec (.mxeAdmit v n) s = .next (s.faultJob v j 6 0) :=
  (mxeAdmit_checked job queued sampled apart first).trans ((if_neg (by simp [good])).trans (if_pos bad))
theorem mxeAdmit_admits (good : s.descOk v j = true) (free : s.regionBad v j = false) : exec (.mxeAdmit v n) s =
    .next ((s.modCove v (fun c => { c with mxe := { c.mxe with
      owners := (s.chunks v j).foldl (fun o k => o.set k j.ctx) c.mxe.owners } })).setJob v { j with state := .admitted }) :=
  (mxeAdmit_checked job queued sampled apart first).trans ((if_neg (by simp [good])).trans (if_neg (ne_true_of_eq_false free)))
end
section
variable (goes : j.state = .admitted ∨ j.state = .running) (early : j.arrived < min (s.totalSlots v j) (j.slots + 2))
include goes early
theorem mxeOperandArrive_arrives {r : List (Nat × Nat) × Flags × List Word} {new : List TlbEntry}
    (reached : s.slotReached v j j.arrived = .ok (r, new)) : exec (.mxeOperandArrive v n) s = .next (s.withWalks v new (fun u =>
      (u.leaveAll j.who).setJob v { j with arrived := j.arrived + 1 })) := by
  show execMxeOperandArrive v n s = _
  rw [execMxeOperandArrive, job]
  exact (if_neg (not_operandsIdle goes early)).trans (by rw [reached])
theorem mxeOperandArrive_waits {c p : Nat} (absent : s.slotReached v j j.arrived = .error (.absent c p)) :
    exec (.mxeOperandArrive v n) s = .next (((s.keepPages j).1.setJob v (s.keepPages j).2).waitPage c j.ctx p j.who) := by
  show execMxeOperandArrive v n s = _
  rw [execMxeOperandArrive, job]
  exact (if_neg (not_operandsIdle goes early)).trans (by rw [absent])
end
section
variable (draining : j.state = .draining)
include draining
theorem mxeJobDone_ends (sent : j.sent = true) : exec (.mxeJobDone v n) s =
    .next ((s.tagLines j.lines j.cscope j.core j.ctx).endJob v { j with sent := false } .done 0 0 true) := by
  show execMxeJobDone v n s = _
  rw [execMxeJobDone, job]
  exact if_pos ⟨draining, sent⟩
variable (unsent : j.sent = false)
include unsent
theorem mxeDrainEnd_noDrain (nodr : j.nodr = true) : exec (.mxeDrainEnd v n) s = .next (s.setJob v { j with sent := true }) := by
  show execMxeDrainEnd v n s = _
  rw [execMxeDrainEnd, job]
  exact (if_neg (by simp [draining, unsent])).trans (if_pos nodr)
section
variable (drains : j.nodr = false) (sound : s.poisoned (accAt v (4096 * j.accoff)) (4 * (s.rowsOf v j * j.n)) = false)
  {places : List Nat} {new : List TlbEntry} (reached : s.reach v (fun u => ((s.drainBytes v j).1.drop j.written).mapM
    (fun p => u.jobByte j.who v j.ctx j.dloc j.dcore p.1 .engineWrite)) = .ok (places, new))
include drains sound reached
theorem mxeDrainEnd_reached : exec (.mxeDrainEnd v n) s = .next (s.withWalks v new (fun u => if s.drainDiffers v j then
    (u.leaveDrain j).faultJob v (s.drainedJob v j) 9 0 else
    ((u.leaveDrain j).drainWrite v j (((s.drainBytes v j).1.drop j.written).zip places)).setJob v
      { s.drainedJob v j with sent := true, lines := if j.dloc = 2 then (places.map (· / 256)).dedup else [] })) := by
  show execMxeDrainEnd v n s = _
  rw [execMxeDrainEnd, job]
  refine (if_neg (by simp [draining, unsent])).trans ((if_neg (ne_true_of_eq_false drains)).trans
    ((if_neg (ne_true_of_eq_false sound)).trans ?_))
  dsimp only
  rw [reached]
  rfl
theorem mxeDrainEnd_differs (checked : s.jobPaired j = true) (differs : j.drain ≠
    (j.flags ||| (s.drainBytes v j).2).setWidth 8 :: (s.drainBytes v j).1.map (·.2)) :
    exec (.mxeDrainEnd v n) s = .next (s.withWalks v new (fun u => (u.leaveDrain j).faultJob v (s.drainedJob v j) 9 0)) := by
  have mismatch : s.drainDiffers v j = true := by
    simp only [State.drainDiffers, State.drainedJob, checked, Bool.true_and, bne_iff_ne]
    exact differs
  simpa only [mismatch, if_true] using mxeDrainEnd_reached job draining unsent drains sound reached
theorem mxeDrainEnd_sends (agrees : s.jobPaired j = false ∨ j.drain =
    (j.flags ||| (s.drainBytes v j).2).setWidth 8 :: (s.drainBytes v j).1.map (·.2)) :
    exec (.mxeDrainEnd v n) s = .next (s.withWalks v new (fun u =>
      ((u.leaveDrain j).drainWrite v j (((s.drainBytes v j).1.drop j.written).zip places)).setJob v
        { s.drainedJob v j with sent := true, lines := if j.dloc = 2 then (places.map (· / 256)).dedup else [] })) := by
  have same : s.drainDiffers v j = false := by
    unfold State.drainDiffers State.drainedJob
    rcases agrees with unchecked | equal
    · simp [unchecked]
    · simp [equal]
  simpa only [same, Bool.false_eq_true, if_false] using mxeDrainEnd_reached job draining unsent drains sound reached
end
end
end

/-! ### Slot boundaries (R263 to R265) -/

theorem State.askLeft_modCove (l : List (Job × Nat × Nat)) (s : State) (v : Nat) (f : Cove → Cove) :
    (s.modCove v f).askLeft l = (s.askLeft l).modCove v f := by
  induction l generalizing s with
  | nil => rfl
  | cons p l ih => exact ih (s.waitPage p.2.1 p.1.ctx p.2.2 p.1.who)

section
variable {v : Nat} (uncancelled : (s.cove v).mxe.jobs.any (fun j => j.cancel && j.state == .running) = false)
  (free : (s.cove v).mxe.hold = 0)
include uncancelled free
/-- The engine enters its next slot, with the uses of its contexts counted anew at the first. -/
def State.nextSlot (s : State) (v : Nat) : State :=
  let m := (s.cove v).mxe
  (s.modCove v (fun c => { c with mxe := { c.mxe with slot := (m.slot + 1) % 64, used := if m.slot % 64 = 0 then [] else c.mxe.used } })).modCove
    v (fun c => { c with mxe := { c.mxe with hold := 0 } })
/-- The slot goes unused. -/
def State.idleSlot (s : State) (v : Nat) : State := s.modCove v (fun c => { c with mxe := { c.mxe with idle := c.mxe.idle + 1 } })
/-- The meter and the engine's counts take a slot that runs, and the job's slot is run. -/
def State.takeSlot (s : State) (v : Nat) (j : Job) : State :=
  ((s.modCove v (fun c => { c with mxe := { c.mxe with
    idle := 0, used := c.mxe.used.set j.ctx (c.mxe.used.getD j.ctx 0 + 1) } })).meter j.ctx (Config.mxeEnergy s.free)).runSlot v j
/-- A boundary with no cancel and no stagger in force comes to its grant. -/
theorem mxeSlotBoundary_grants : exec (.mxeSlotBoundary v) s = match ((s.nextSlot v).settleArrivals v).grant v (s.cove v).mxe.slot with
    | none => .next ((((s.nextSlot v).settleArrivals v).askLeft ((s.nextSlot v).leftPages v)).idleSlot v)
    | some j =>
      let k := ((s.nextSlot v).settleArrivals v).staggerSlots v j.ctx
      if (s.cove v).mxe.hold = 0 ∧ (s.cove v).mxe.idle ≥ (s.cove v).mxe.slot % 64 + 64 ∧ k > 0 then
        .next (((((s.nextSlot v).settleArrivals v).modCove v (fun c => { c with mxe := { c.mxe with hold := k } })).askLeft
          ((s.nextSlot v).leftPages v)).idleSlot v)
      else .next ((((s.nextSlot v).settleArrivals v).takeSlot v j).askLeft ((s.nextSlot v).leftPages v)) := by
  have cancels : (s.cove v).mxe.jobs.filter (fun j => j.cancel && j.state == .running) = [] :=
    List.filter_eq_nil_iff.mpr fun j member => List.any_eq_false.mp uncancelled j member
  show execMxeSlotBoundary v s = _
  simp only [execMxeSlotBoundary, cancels, List.foldl_nil]
  exact if_neg (by omega)
theorem mxeSlotBoundary_idles (none_ : ((s.nextSlot v).settleArrivals v).grant v (s.cove v).mxe.slot = none) :
    exec (.mxeSlotBoundary v) s = .next ((((s.nextSlot v).settleArrivals v).idleSlot v).askLeft ((s.nextSlot v).leftPages v)) := by
  rw [mxeSlotBoundary_grants uncancelled free, none_]
  exact congrArg Host.Outcome.next (State.askLeft_modCove _ _ _ _).symm
theorem mxeSlotBoundary_runs (started : (s.cove v).mxe.idle < (s.cove v).mxe.slot % 64 + 64) {j : Job}
    (granted : ((s.nextSlot v).settleArrivals v).grant v (s.cove v).mxe.slot = some j) :
    exec (.mxeSlotBoundary v) s = .next ((((s.nextSlot v).settleArrivals v).takeSlot v j).askLeft ((s.nextSlot v).leftPages v)) := by
  rw [mxeSlotBoundary_grants uncancelled free, granted]
  exact if_neg fun ⟨_, late, _⟩ => late.not_gt started
end

/-- Settles O56: each event by what it comes to past its conditions; a boundary asks for the pages that are left before or after it
counts an idle slot alike. -/
theorem matrixEngineEventsComplete : Obligations.MatrixEngineEventsComplete := by
  refine ⟨fun s u id m taken => ⟨fun d x stamp late prio task c j arrives => fun t => mxeAccept_submits taken arrives,
    fun v n o c b j arrives job going => ⟨fun sd => jobBankSample_samples taken arrives job going, jobBankSample_noSide taken arrives job going⟩,
    fun n x c j task arrives => ?_⟩, fun s v n j job => ⟨fun queued sampled apart first =>
      ⟨mxeAdmit_desc job queued sampled apart first, mxeAdmit_region job queued sampled apart first, mxeAdmit_admits job queued sampled apart first⟩,
    fun goes early => ⟨fun r new => mxeOperandArrive_arrives job goes early, fun c p => mxeOperandArrive_waits job goes early⟩,
    fun draining => mxeJobDone_ends job draining, fun draining unsent => ⟨mxeDrainEnd_noDrain job draining unsent, fun drains sound => ?_⟩⟩,
    fun s v => ?_⟩
  · intro v first named Ends
    have ends : ∀ w a, u.cancelled v named = (w, a) → Ends w a := fun w a is t answered => by
      refine mxeCancel_answers taken arrives first ?_
      change (u.cancelled v named).1.giveReply c j task id (u.cancelled v named).2 = some t
      rw [is]
      exact answered
    refine ⟨fun none_ => ends _ _ (by rw [none_]; rfl), fun k found => ⟨fun is => ends _ _ ?_, fun is => ?_, fun is => ends _ _ ?_, fun is => ?_⟩⟩
    · simp only [State.cancelled, found, is]
    · rcases is with is | is | is <;> exact ends _ _ (by simp only [State.cancelled, found, is])
    · simp only [State.cancelled, found, is]
    · rcases is with is | is <;> exact ends _ _ (by simp only [State.cancelled, found, is])
  · exact fun places new reached => ⟨mxeDrainEnd_differs job draining unsent drains sound reached,
      mxeDrainEnd_sends job draining unsent drains sound reached⟩
  · exact fun uncancelled free started => ⟨mxeSlotBoundary_idles uncancelled free, fun j =>
      mxeSlotBoundary_runs uncancelled free started⟩

end Sys2Proof.Machine
end
